-- ==== Sys2Proof/Word.lean ====
section
/-! DEFINITION. Word.lean: the word types of the model and the sparse map every indexed collection of the state uses. -/

namespace Sys2Proof

/-- A 64-bit word (R20). -/
abbrev Word := BitVec 64

/-- A byte. -/
abbrev Byte := BitVec 8

/-- A sparse map from indices to values: a list in rising order of index with no entry equal to what an unlisted
index reads as, so that equal maps are equal lists.  What an unlisted index reads as is an argument of each use. -/
abbrev SMap (α : Type) := List (Nat × α)

namespace SMap

/-- The value at index `k`; an unlisted index reads as `d k`. -/
def getD {α : Type} (d : Nat → α) : SMap α → Nat → α
  | [], k => d k
  | (i, v) :: m, k => if i = k then v else getD d m k

/-- The map with `v` at `k`, when `v` differs from what an unlisted `k` reads as. -/
def put {α : Type} : SMap α → Nat → α → SMap α
  | [], k, v => [(k, v)]
  | (i, w) :: m, k, v =>
    if i = k then (k, v) :: m else if k < i then (k, v) :: (i, w) :: m else (i, w) :: put m k v

/-- The map with no entry at `k`. -/
def del {α : Type} (m : SMap α) (k : Nat) : SMap α := m.filter fun e => decide (e.1 ≠ k)

/-- The map with `v` at `k`, in canonical form. -/
def setD {α : Type} [DecidableEq α] (d : Nat → α) (m : SMap α) (k : Nat) (v : α) : SMap α :=
  if v = d k then del m k else put m k v

/-- Reading with one value for every unlisted index. -/
def get {α : Type} (d : α) (m : SMap α) (k : Nat) : α := getD (fun _ => d) m k

/-- Writing with one value for every unlisted index. -/
def set {α : Type} [DecidableEq α] (d : α) (m : SMap α) (k : Nat) (v : α) : SMap α := setD (fun _ => d) m k v

/-- The canonical form from index `lo` up: indices strictly rising, no entry equal to what an unlisted one reads as. -/
def wfFrom {α : Type} [DecidableEq α] (d : Nat → α) : Nat → SMap α → Bool
  | _, [] => true
  | lo, (i, v) :: m => decide (lo ≤ i) && decide (v ≠ d i) && wfFrom d (i + 1) m

/-- The canonical form. -/
def wf {α : Type} [DecidableEq α] (d : Nat → α) (m : SMap α) : Bool := wfFrom d 0 m

end SMap

/-- The field of `width` bits whose lowest bit is `lo`, of a natural number. -/
def natField (lo width n : Nat) : Nat := n / 2 ^ lo % 2 ^ width

/-- The natural number `n` with `v` (its low `width` bits) in the field of `width` bits whose lowest bit is `lo`. -/
def setNatField (lo width n v : Nat) : Nat :=
  n / 2 ^ (lo + width) * 2 ^ (lo + width) + v % 2 ^ width * 2 ^ lo + n % 2 ^ lo

/-- The field of a word. -/
def wField (lo width : Nat) (w : Word) : Nat := natField lo width w.toNat

/-- The word with `v` in a field. -/
def setWField (lo width : Nat) (w : Word) (v : Nat) : Word := BitVec.ofNat 64 (setNatField lo width w.toNat v)

end Sys2Proof
end

