-- ==== Sys2Proof/Syntax.lean ====
section
/-! DEFINITION. Syntax.lean: the commands the block takes, one constructor of `Instr` per row of the command table, and
the types of their operands.  An operand says what the spec's text lets vary: an index, the word written, the packet
received, what was observed on a pin or a wire. -/

namespace Sys2Proof

/-- Port number p = 4 × octet + index (R174). -/
abbrev Port := Fin 128
/-- Octet number (R8). -/
abbrev Octet := Fin 32
/-- Tenant number (R158: 8,192 tenants). -/
abbrev TenantId := Fin 8192
/-- Function index: a VF 0–4,095 or a PF 4,096 + port (R543). -/
abbrev FnIdx := Fin 4224
/-- Global DMA channel number, 256 per engine. -/
abbrev DmaCh := Fin 4096

/-- A control core: its cluster and its logical number in it (R117). -/
structure CoreId where
  cluster : Fin 4
  core : Fin 6
  deriving DecidableEq, Repr

/-- Format A of R38, without the major opcode and the function field. -/
structure FmtA where
  dst : BitVec 5
  srcA : BitVec 5
  srcB : BitVec 5
  pred : BitVec 3
  deriving DecidableEq, Repr

/-- Format I of R38. -/
structure FmtI where
  dst : BitVec 5
  srcA : BitVec 5
  imm : BitVec 16
  deriving DecidableEq, Repr

/-- Format M of R38. -/
structure FmtM where
  data : BitVec 5
  base : BitVec 5
  size : BitVec 3
  offset : BitVec 13
  deriving DecidableEq, Repr

/-- Format B of R38. -/
structure FmtB where
  pred : BitVec 3
  negate : Bool
  offset : BitVec 22
  deriving DecidableEq, Repr

/-- Format L of R38; `desc` is the key descriptor of R54. -/
structure FmtL where
  dst : BitVec 5
  key : BitVec 5
  table : BitVec 6
  kind : BitVec 2
  desc : BitVec 8
  deriving DecidableEq, Repr

/-- Format F of R38; `width1` is the width minus 1. -/
structure FmtF where
  dst : BitVec 5
  src : BitVec 5
  pos : BitVec 6
  width1 : BitVec 6
  var : BitVec 4
  deriving DecidableEq, Repr

/-- The CMP conditions of R44. -/
inductive Cond where
  | eq | ne | lt | ge | ltu | geu | bs | bc
  deriving DecidableEq, Repr

/-- Who makes a register access: a control core, the manager function's BAR0, or the sideband (R722). -/
inductive Writer where
  | core (c : CoreId)
  | manager
  | sideband
  deriving DecidableEq, Repr

/-- Ordering types (R233, R430). -/
inductive Ord where
  | p | np | cpl | ctl
  deriving DecidableEq, Repr

/-- CXL message kinds with the codes of R236 (0x10–0x15, 0x18). -/
inductive CxlKind where
  | m2sReq | m2sRwD | s2mNdr | s2mDrs | biSnp | biRsp | cache
  deriving DecidableEq, Repr

/-- What a CXL message carries beside its bytes: the model keeps the fields the rules name. -/
structure CxlMsg where
  kind : CxlKind
  addr : Word
  tag : BitVec 16
  isWrite : Bool
  deriving DecidableEq, Repr

/-- A transaction-layer packet or CXL message as received at an edge: the first four header DWs in wire order (byte 0 in
the top bits; a 3-DW header leaves the last DW 0), OHC and prefix bytes in wire order, payload bytes. -/
structure Tlp where
  cxl : Option CxlMsg
  flit : Bool
  hdr : BitVec 128
  ext : List Byte
  data : List Byte
  ide : Bool
  deriving DecidableEq, Repr

/-- What the boot engine or the verifier finds of one flash image (R149–R151): whether it could be read, the bytes of its header and
section table, and the outcome of the checks that hash or verify: the vendor keys against the fused hash, the vendor signatures, the image
hash, and the owner's keys and signatures (the cryptography itself is outside the model, log entry 105). -/
structure ImageCheck where
  readError : Bool
  head : List Byte
  vendorKeyOk : Bool
  vendorSigOk : Bool
  hashOk : Bool
  ownerOk : Bool
  deriving DecidableEq, Repr

/-- The fields of HPL[n]_TVERD other than KIND (R258). -/
structure Verdict where
  slot : Fin 64
  mod : BitVec 3
  oper : BitVec 16
  mses : Fin 16
  polidx : BitVec 16
  polv : Bool
  deriving DecidableEq, Repr

/-- Where an uncorrectable cell error is found (R304). -/
inductive CellErrorPlace where
  | headCell
  | payloadCell
  deriving DecidableEq, Repr

/-- What a scrub or a write-back finds in error (R65). -/
inductive ScrubKind where
  | clusterMemory (cl : Fin 4)
  | tableMemory
  | ledger
  deriving DecidableEq, Repr

/-- The link header of R404, but for TYPE, which the command names. -/
structure FrameHdr where
  seq : BitVec 12
  ack : BitVec 12
  cvc : Fin 8
  ccnt : BitVec 12
  dvc : Fin 8
  len : Byte
  deriving DecidableEq, Repr

/-- The payload of a PARAM frame (R409). -/
structure LinkParams where
  node : BitVec 12
  version : Byte
  fabric : Bool
  x16 : Bool
  ctl : BitVec 16
  vc0 : BitVec 16
  vc1 : BitVec 16
  vc2 : BitVec 16
  vc3 : BitVec 16
  port : Byte
  deriving DecidableEq, Repr

/-- The payload of a TSYNC frame (R427). -/
structure TsyncBody where
  t1 : Word
  t2 : Word
  t3 : Word
  root : BitVec 12
  dist : Fin 64
  sync : Bool
  deriving DecidableEq, Repr

/-- An edge-transport message for this node: header session ID and FIDs (R433) and the body of R435 without TYPE. -/
structure EdgeMsg where
  dfid : BitVec 16
  sfid : BitVec 16
  ses : BitVec 14
  code : Byte
  sctx : BitVec 16
  seq : BitVec 18
  subj : BitVec 128
  arg : Word
  deriving DecidableEq, Repr

/-- The key of the session map (R439): source port, destination FID, session class. -/
structure OpenKey where
  port : Port
  dfid : BitVec 16
  cls : Fin 16
  deriving DecidableEq, Repr

/-- What a receiver learns of its partner in a training state whose exit condition is met (R379, R383, R384), and the tap requests that came
by lane in TXEQ, in order (R386). -/
structure TrainObs where
  wcap16 : Bool
  pre : Bool
  srole : Fin 16
  clockOnS : Bool
  treqs : List (Fin 8 × Byte)
  deriving DecidableEq, Repr

/-- What link training and flow-control initialisation settled at DL_Up (R466, R511, R333). -/
structure DlUp where
  rate : Fin 7
  width : Fin 17
  flit : Bool
  cxl : Bool
  rev : Bool
  tagBits : Nat
  mps : Nat
  pHdr : Nat
  pData : Nat
  npHdr : Nat
  npData : Nat
  cplHdr : Nat
  cplData : Nat
  deriving DecidableEq, Repr

/-- A CXL HDM decoder as the host sets it before a commit (R471). -/
structure HdmDecoder where
  idx : Fin 8
  base : Word
  size : Word
  deriving DecidableEq, Repr

/-- Severity of an error message (R482). -/
inductive ErrSev where
  | cor | nonFatal | fatal
  deriving DecidableEq, Repr

/-- What slot power channel `i` measures (R617, SPC[i]_MEAS). -/
structure SpcMeas where
  vin : BitVec 12
  vout : BitVec 12
  iout : BitVec 16
  tdio : Byte
  deriving DecidableEq, Repr

/-- What a ramp has reached when GRISE elapses (R628). -/
structure SpcRampObs where
  gateHigh : Bool
  voutHigh : Bool
  deriving DecidableEq, Repr

/-- One wear-gauge reading (R705). -/
structure GaugeReading where
  rosc : BitVec 16
  tmarg : Byte
  ce : BitVec 16
  eyeh : Byte
  eyew : Byte
  deriving DecidableEq, Repr

/-- An access that breaks R720 or R721: offset, size in bytes, and whether it writes. -/
structure BadAccess where
  off : Nat
  size : Nat
  write : Bool
  deriving DecidableEq, Repr

/-- What QTIME releases (R514, R515): a tag index, or a selective-IDE requester ID and tag. -/
inductive QuarKey where
  | index (i : Nat)
  | ide (rid tag : BitVec 16)
  deriving DecidableEq, Repr

/-- Flow-control credits returned by a PCIe/CXL link partner. -/
structure CreditReturn where
  ord : Ord
  hdr : Nat
  data : Nat
  deriving DecidableEq, Repr


/-- The commands, one per row of the command table. -/
inductive Instr where
  /-- R46: A control core executes ADD, SUB, AND, OR or XOR by its function code, writing a op b modulo 2^64. -/
  | add (c : CoreId) (f : FmtA)
  /-- R46: A control core subtracts b from a modulo 2^64. -/
  | sub (c : CoreId) (f : FmtA)
  /-- R46: A control core writes the bitwise AND of a and b. -/
  | and (c : CoreId) (f : FmtA)
  /-- R46: A control core writes the bitwise OR of a and b. -/
  | or (c : CoreId) (f : FmtA)
  /-- R46: A control core writes the bitwise XOR of a and b. -/
  | xor (c : CoreId) (f : FmtA)
  /-- R46: A control core shifts a left by b[5:0]. -/
  | shl (c : CoreId) (f : FmtA)
  /-- R46: A control core shifts a logically right by b[5:0]. -/
  | shr (c : CoreId) (f : FmtA)
  /-- R46: A control core shifts a arithmetically right by b[5:0]. -/
  | sar (c : CoreId) (f : FmtA)
  /-- R46: A control core writes the low 64 bits of a times b. -/
  | mul (c : CoreId) (f : FmtA)
  /-- R46: A control core writes the high 64 bits of the signed 128-bit product. -/
  | mulh (c : CoreId) (f : FmtA)
  /-- R46: A control core writes the high 64 bits of the unsigned 128-bit product. -/
  | mulhU (c : CoreId) (f : FmtA)
  /-- R46: A control core divides signed, with all ones on division by zero. -/
  | div (c : CoreId) (f : FmtA)
  /-- R46: A control core divides unsigned, with all ones on division by zero. -/
  | divU (c : CoreId) (f : FmtA)
  /-- R46: A control core writes the signed remainder, a on division by zero. -/
  | rem (c : CoreId) (f : FmtA)
  /-- R46: A control core writes the unsigned remainder, a on division by zero. -/
  | remU (c : CoreId) (f : FmtA)
  /-- R46: A control core writes the signed minimum of a and b. -/
  | min (c : CoreId) (f : FmtA)
  /-- R46: A control core writes the unsigned minimum of a and b. -/
  | minU (c : CoreId) (f : FmtA)
  /-- R46: A control core writes the signed maximum of a and b. -/
  | max (c : CoreId) (f : FmtA)
  /-- R46: A control core writes the unsigned maximum of a and b. -/
  | maxU (c : CoreId) (f : FmtA)
  /-- R46: A control core writes a or b as the selector predicate gives. -/
  | sel (c : CoreId) (f : FmtA)
  /-- R46: A control core counts the leading zero bits of a. -/
  | clz (c : CoreId) (f : FmtA)
  /-- R46: A control core counts the one bits of a. -/
  | pop (c : CoreId) (f : FmtA)
  /-- R747: A control core updates an unreflected CRC-8 running value over the 8 bytes of b. -/
  | crc8 (c : CoreId) (f : FmtA)
  /-- R747: A control core updates a reflected CRC-32C running value over the 8 bytes of b. -/
  | crc32c (c : CoreId) (f : FmtA)
  /-- R747: A control core updates an unreflected CRC-64 running value over the 8 bytes of b. -/
  | crc64 (c : CoreId) (f : FmtA)
  /-- R748: A control core computes SipHash-2-4 of a and b under HPL_HSEED. -/
  | hash (c : CoreId) (f : FmtA)
  /-- R46: A control core sets a predicate to the comparison of a and b under the condition code, if the guard holds. -/
  | cmp (c : CoreId) (f : FmtA) (cond : Cond)
  /-- R46: A control core adds the sign-extended immediate to a. -/
  | addi (c : CoreId) (f : FmtI)
  /-- R46: A control core ANDs a with the zero-extended immediate. -/
  | andi (c : CoreId) (f : FmtI)
  /-- R46: A control core ORs a with the zero-extended immediate. -/
  | ori (c : CoreId) (f : FmtI)
  /-- R46: A control core writes the immediate into 16-bit lane k of d. -/
  | lih (c : CoreId) (f : FmtI)
  /-- R46: A control core extracts a bit field of a, zero- or sign-extended. -/
  | ext (c : CoreId) (f : FmtF)
  /-- R46: A control core inserts the low bits of a into a bit field of d. -/
  | ins (c : CoreId) (f : FmtF)
  /-- R48: A control core loads 1, 2, 4 or 8 bytes from the memory type its address names. -/
  | ld (c : CoreId) (f : FmtM) (bad : Bool)
  /-- R48: A control core stores 1, 2, 4 or 8 bytes, through the store buffer unless the target is Device memory. -/
  | st (c : CoreId) (f : FmtM)
  /-- R48: A control core loads 16 bytes into an even register pair. -/
  | ldp (c : CoreId) (f : FmtM) (bad : Bool)
  /-- R48: A control core stores an even register pair as 16 bytes. -/
  | stp (c : CoreId) (f : FmtM)
  /-- R48: A control core loads and takes a reservation on the address's granule. -/
  | ldrv (c : CoreId) (f : FmtM)
  /-- R48: A control core stores only if its reservation is intact, sets the named predicate, and clears the reservation. -/
  | stcd (c : CoreId) (f : FmtM)
  /-- R108: A control core atomically adds b to a table-memory word and returns the old value. -/
  | amoadd (c : CoreId) (f : FmtA) (dbl : Bool)
  /-- R108: A control core atomically swaps b into a table-memory word and returns the old value. -/
  | amoswp (c : CoreId) (f : FmtA) (dbl : Bool)
  /-- R108: A control core atomically stores the unsigned maximum of the old value and b. -/
  | amomax (c : CoreId) (f : FmtA) (dbl : Bool)
  /-- R109: A control core atomically adds b to a 64-bit table-memory word, with no result. -/
  | cinc (c : CoreId) (f : FmtA)
  /-- R90: A control core begins a store fence that holds later accesses until earlier stores are performed. -/
  | fenceS (c : CoreId) (f : FmtA)
  /-- R90: A control core begins a load fence that holds later accesses until earlier loads are performed. -/
  | fenceL (c : CoreId) (f : FmtA)
  /-- R90: A control core begins a full fence over earlier loads and stores. -/
  | fenceF (c : CoreId) (f : FmtA)
  /-- R90: A control core begins a fence that also waits for every earlier Remote store to be acknowledged or resolved. -/
  | fenceX (c : CoreId) (f : FmtA)
  /-- R90: A pending FENCE.S, FENCE.L or FENCE.F completes once its conditions hold, releasing later accesses. -/
  | fenceComplete (c : CoreId)
  /-- R92: A pending FENCE.X completes and raises Remote-Store Fault if the pending remote-fault record is set. -/
  | fenceXComplete (c : CoreId)
  /-- R82: A buffered Normal, Table or Remote store is performed, in program order, and clears reservations on its granule. -/
  | storeBufferDrain (c : CoreId)
  /-- R53: A control core branches to the target when the predicate XOR negate is 1 (B is BP with p0). -/
  | bp (c : CoreId) (f : FmtB)
  /-- R53: A control core writes the return address to g31 and branches, predicated as BP. -/
  | call (c : CoreId) (f : FmtB)
  /-- R53: A control core branches to a register, raising Fetch Fault on an unaligned target. -/
  | ret (c : CoreId) (f : FmtA)
  /-- R56: A control core looks up a key in a table's active version and stalls until the result word returns. -/
  | lkp (c : CoreId) (f : FmtL)
  /-- R53: A control core looks up a key as LKP and sets the hit entry's use mark. -/
  | lkpu (c : CoreId) (f : FmtL)
  /-- R53: A control core posts a 64-bit payload to an event queue, or counts a refusal if the queue is full. -/
  | send (c : CoreId) (f : FmtA)
  /-- R53: A supervisor-mode core suspends until an event is dispatched to it or CYCLE reaches the operand. -/
  | wait (c : CoreId) (f : FmtA)
  /-- R53: A core suspended in WAIT resumes when CYCLE reaches its operand. -/
  | waitTimeout (c : CoreId)
  /-- R33: A control core reads a special register by number. -/
  | mfs (c : CoreId) (f : FmtI)
  /-- R33: A control core writes the writable fields of a special register, or raises Illegal Instruction or Privilege. -/
  | mts (c : CoreId) (f : FmtI)
  /-- R62: A control core raises the Trap exception with the immediate in TVAL. -/
  | trap (c : CoreId) (f : FmtI)
  /-- R60: A control core returns from an exception when EXL is 1, or ends its event handler when EXL is 0. -/
  | eret (c : CoreId) (f : FmtA)
  /-- R68: A control core sets PRIO.CUR, raising Privilege if a handler lowers it below DISP. -/
  | prio (c : CoreId) (f : FmtI)
  /-- R67: A control core opens a critical section with a 512-cycle budget. -/
  | crit (c : CoreId) (f : FmtA)
  /-- R67: A control core closes its open critical section. -/
  | endcrit (c : CoreId) (f : FmtA)
  /-- R53: A supervisor-mode core begins completing its earlier accesses before it stops fetching. -/
  | halt (c : CoreId) (f : FmtA)
  /-- R53: A halting core stops fetching once every earlier access has completed as FENCE.F requires. -/
  | haltStop (c : CoreId)
  /-- R53: A control core executes an instruction with no effect. -/
  | nop (c : CoreId)
  /-- R67: A critical section reaches 512 CK_CTL cycles, is closed, and raises Critical Section Overrun. -/
  | critBudgetExpiry (c : CoreId)
  /-- R107: The 64-cycle granule hold after four failed STCDs runs out and other cores' stores proceed. -/
  | reservationHoldExpiry (c : CoreId)
  /-- R127: An event held by a source enters its queue once room appears. -/
  | heldEventRelease (q : Fin 64)
  /-- R133: The dispatcher saves the chosen core's context and starts a handler for the head event of the best queue. -/
  | eventDispatch (cl : Fin 4)
  /-- R137: A handler's run time exceeds its queue's BUDGET, writing a kind-4 fault record and posting a core-fault event. -/
  | handlerBudgetExceeded (c : CoreId)
  /-- R125: A write to an event queue's configuration applies its fields, refusing EN beyond the 16,384-entry total. -/
  | evtQCfgWrite (w : Writer) (q : Fin 64) (v : Word)
  /-- R141: A timer whose CMP has been reached posts a timer event and is cleared or advanced by whole periods. -/
  | timerFire (n : Fin 64)
  /-- R143: The fabric manager rings a device mailbox doorbell, setting BUSY and posting a mailbox event. -/
  | evtMbxDb (w : Writer) (m : Fin 16) (v : Word)
  /-- R144: Resident firmware writes its reply length, clearing BUSY, setting DONE and raising the manager's mailbox interrupt. -/
  | evtMbxRsp (w : Writer) (m : Fin 16) (v : Word)
  /-- R119: A rising CEN bit starts the core in supervisor mode at cluster address 0. -/
  | coreEnable (c : CoreId)
  /-- R121: A cleared CEN bit holds the core in warm reset. -/
  | coreDisable (c : CoreId)
  /-- R146: A WRST write drains the core's stores, discards its contexts, clears ACTIVE of its queues and restarts it. -/
  | coreWarmReset (c : CoreId)
  /-- R115: At 256 cycles after a warm reset, stores not yet performed are dropped and logged as kind-2 records. -/
  | warmResetDrainExpiry (c : CoreId)
  /-- R147: A KICK write restarts the cluster watchdog period. -/
  | watchdogKick (w : Writer) (cl : Fin 4)
  /-- R147: An enabled cluster watchdog runs out, warm-resets every core of the cluster, logs, posts an event and triggers a seal. -/
  | watchdogExpiry (cl : Fin 4)
  /-- R153: RESET_N is released and boot begins: fuses sensed, Almanac ring cleared, clocks and domains started. -/
  | resetNRelease
  /-- R152: The boot engine finishes verifying both flash images and chooses one, or enters recovery. -/
  | bootImageChosen (a : ImageCheck) (b : ImageCheck)
  /-- R153: EARLY sections are copied, device configuration applied and CC0 core 0 enabled. -/
  | bootEarlyCopied (image : List Byte)
  /-- R153: The remaining sections are copied and SEC_BOOT_STS.DONE is set. -/
  | bootSectionsCopied (image : List Byte)
  /-- R157: The security block copies an image's cluster sections into cluster memory during handover. -/
  | clusterImageCopy (cl : Fin 4) (flashB : Bool) (header table contents : List Byte)
  /-- R213: A TBL_COMMIT write for a tenant starts a commit, or is discarded with LOST while BUSY. -/
  | tblCommit (w : Writer) (t : TenantId)
  /-- R218: A tenant commit with REVOKE starts a commit that will fail old-version items not yet transmitted. -/
  | tblCommitRevoke (w : Writer) (t : TenantId)
  /-- R213: A TBL_COMMIT write with ROUTE starts a routing commit, rejected at once if TENANT or REVOKE is nonzero. -/
  | tblCommitRoute (w : Writer) (t : TenantId) (revoke : Bool)
  /-- R213: A running commit finishes its checks and either flips the version bit and loads the drain, or is rejected. -/
  | tblCommitComplete
  /-- R220: A TBL_SYNC write for a tenant starts copying active copies into shadow copies, refused if the drain is not empty. -/
  | tblSync (w : Writer) (t : TenantId)
  /-- R220: A TBL_SYNC write with ROUTE starts copying the routing tables' active copies into their shadows. -/
  | tblSyncRoute (w : Writer) (t : TenantId)
  /-- R220: A running synchronisation finishes, clearing BUSY and setting DONE. -/
  | tblSyncComplete
  /-- R171: A write to TBL_HB_KICK counts as a heartbeat. -/
  | tblHbKick (w : Writer)
  /-- R171: No heartbeat arrives within PERIOD while EN is 1, and the fixed-equal-share fall-back is entered. -/
  | heartbeatMiss
  /-- R171: Writing ENTER enters the fixed-equal-share fall-back. -/
  | tblFbEnter (w : Writer)
  /-- R173: Writing EXIT ends the fall-back if a kick has arrived within PERIOD, else is ignored. -/
  | tblFbExit (w : Writer)
  /-- R185: Setting a virtual downstream port's VALID checks the binding and presents a hot-add, or refuses with RCODE 9. -/
  | vdpBind (w : Writer) (p : Port) (v : Fin 256) (b0 : Word)
  /-- R186: Clearing a virtual downstream port's VALID presents a surprise removal to the host. -/
  | vdpUnbind (w : Writer) (p : Port) (v : Fin 256)
  /-- R175: A write to a port's context applies while its link is down, loads LEN defaults, and releases reservations when ROLE becomes 0. -/
  | prtCtxWrite (w : Writer) (p : Port) (v : Word)
  /-- R502: A request header received at an edge draws a ledger entry and enters its octet's ingress queue, or waits with credits withheld. -/
  | tlpReceive (p : Port) (t : Tlp) (nullified : Bool)
  /-- R509: A header waiting for a ledger entry or queue space draws its entry and enters the ingress queue. -/
  | headerQueueAdmit (p : Port) (ord : Ord)
  /-- R227: A header taken from the ingress queue runs its 24-cycle pipeline pass and its terminal action is delivered. -/
  | headerPipelineRun (n : Octet)
  /-- R279: A packet waiting in its arrival or landing reservation is admitted once cells become available. -/
  | packetAdmissionRetry (p : Port)
  /-- R224: Setting a context's EN checks its program copy as a commit does and sets HALF, or refuses. -/
  | hplCtxEnable (w : Writer) (n : Octet) (c : Fin 32) (slot : Fin 16)
  /-- R262: A PCOMMIT write starts committing the named contexts' shadow programs, or is discarded with LOST while BUSY. -/
  | hplPcommit (w : Writer) (n : Octet) (mask : BitVec 32)
  /-- R262: A program commit finishes its checks and flips the contexts' PVER bits, or is rejected. -/
  | hplPcommitComplete (n : Octet)
  /-- R246: A write configuring a firmware table applies, or is discarded with INUSE if in use or out of bounds. -/
  | hplFtblWrite (w : Writer) (t : Fin 64) (v : Word)
  /-- R248: A write to HPL_HASHK starts computing HASH of the key and HPL_HASHK2. -/
  | hplHashk (w : Writer) (v : Word)
  /-- R248: The hash result becomes readable in HPL_HASHR 4 cycles after the HPL_HASHK write. -/
  | hplHashrReady
  /-- R259: A FWD verdict passes the trapped header through exit cycles to a queue context and frees the slot. -/
  | trapVerdictFwd (w : Writer) (n : Octet) (v : Verdict)
  /-- R259: A DROP verdict passes the trapped header through exit cycles as a drop and frees the slot. -/
  | trapVerdictDrop (w : Writer) (n : Octet) (v : Verdict)
  /-- R259: A SYNTH verdict synthesises a completion for the trapped header and frees the slot. -/
  | trapVerdictSynth (w : Writer) (n : Octet) (v : Verdict)
  /-- R330: When a port's packet has handed its last frame to the link layer, the scheduler selects, charges and starts the next packet. -/
  | schedulerSelect (p : Port)
  /-- R300: A cut-through packet's next cell does not arrive within UNDR, and the egress ends it with a chaff marker. -/
  | cutThroughUnderrun (p : Port)
  /-- R304: An uncorrectable cell error discards or fails the packet, sets ECCU and posts an error report. -/
  | cellUncorrectableError (pkt : Nat) (place : CellErrorPlace)
  /-- R65: Scrubbing or a buffered write-back finds an uncorrectable error, reported as an event. -/
  | memoryScrubError (k : ScrubKind) (addr : Word)
  /-- R314: The Gleaner writes a pending record into its ring, or counts it lost, writing a loss record after any loss. -/
  | gleanerRecordWrite
  /-- R312: A write to GLN_CFG applies; setting EN resets PROD and CONS. -/
  | glnCfgWrite (w : Writer) (v : Word)
  /-- R322: A queue-context configuration write applies, or is discarded with INUSE, and an EN beyond quota is refused. -/
  | schQCfgWrite (w : Writer) (q : BitVec 16) (v : Word)
  /-- R755: A write to a port's length accounting applies, or is discarded with LENREJ if a factor would be 0. -/
  | schLenWrite (w : Writer) (p : Port) (v : Word)
  /-- R343: Setting a port's calendar EN applies, or is refused with CALREJ. -/
  | schCalEnable (w : Writer) (p : Port) (v : Word)
  /-- R346: A shaper configuration write is held pending until the next tick. -/
  | shpCfgWrite (w : Writer) (i : Fin 16384) (v : Word)
  /-- R352: A policer rate or burst write is held until the next tick. -/
  | polCfgWrite (w : Writer) (i : Fin 16384) (burst : Bool) (v : Word)
  /-- R345: Every 128 ns each shaper and policer applies pending writes and refills its tokens. -/
  | refillTick
  /-- R335: A calendar period begins and pending slot and timing changes take effect. -/
  | calendarPeriodStart (p : Port)
  /-- R379: Setting TRAIN starts native training from DISABLED. -/
  | phyTrainSet (w : Writer) (n : Octet)
  /-- R423: Clearing TRAIN declares the link down and holds the physical layer in DISABLED. -/
  | phyTrainClear (w : Writer) (n : Octet)
  /-- R379: A training state's exit condition is met and the physical layer passes to its next state. -/
  | phyTrainAdvance (n : Octet) (obs : TrainObs)
  /-- R379: A training state's time limit expires and training falls back as the table gives. -/
  | phyTrainTimeout (n : Octet)
  /-- R380: The clock is lost or 4 groups in a row are not good, and the link enters RECOVER. -/
  | symbolLockLoss (n : Octet)
  /-- R424: Four good groups return the link from RECOVER to ACTIVE with link-layer state kept. -/
  | phyRecoverRelock (n : Octet)
  /-- R423: The physical layer stays in RECOVER for LDTIME and the link is declared down. -/
  | linkDownLdtime (n : Octet)
  /-- R396: Raising HALF announces a HALF order 16 groups ahead. -/
  | phyHalfSet (w : Writer) (n : Octet)
  /-- R397: Clearing HALF begins re-adapting the unused lanes before a FULL order. -/
  | phyHalfClear (w : Writer) (n : Octet)
  /-- R397: All lanes to be used have re-adapted and the transmitter announces FULL. -/
  | phyFullReadapted (n : Octet)
  /-- R397: The announced group arrives and the direction changes width without losing a frame. -/
  | widthChange (n : Octet) (tx : Bool)
  /-- R397: A HALF order in a good group tells the receiver to follow the new width from the announced group. -/
  | orderHalf (n : Octet) (group : Nat)
  /-- R397: A FULL order in a good group tells the receiver to return to full width from the announced group. -/
  | orderFull (n : Octet) (group : Nat)
  /-- R388: A GO to OCT_PHY_SUB powers lane S and starts duplicating the target, or is refused with STATE 4. -/
  | phySubGo (w : Writer) (n : Octet) (target : Fin 16)
  /-- R389: A DUP order makes the partner power lane S, duplicate the lane and answer DUP, resolving collisions by node ID. -/
  | orderDup (n : Octet) (lane : Fin 16)
  /-- R389: A receiver has adapted lane S, switches the logical lane to it at a group boundary and sends SWITCHED. -/
  | laneSConverged (n : Octet)
  /-- R389: A SWITCHED order stops and powers down the replaced lane, completing the substitution when both sides have switched. -/
  | orderSwitched (n : Octet) (lane : Fin 16)
  /-- R390: A receiver not converged within 1.5 ms sends ABANDON and the substitution ends. -/
  | subConvergeTimeout (n : Octet)
  /-- R390: An ABANDON order powers down lane S, keeps the lane in service and sets STATE 4. -/
  | orderAbandon (n : Octet) (lane : Fin 16)
  /-- R401: An INJGO write injects one error of the selected kind into the lane. -/
  | phyInjgo (w : Writer) (n : Octet) (lane : Fin 9)
  /-- R418: An IDLE frame is received, acknowledging frames up to ACK and returning credits. -/
  | idleFrame (n : Octet) (h : FrameHdr)
  /-- R410: A PARAM frame is received and accepted as sequence 0, and its parameters are checked. -/
  | paramFrame (n : Octet) (h : FrameHdr) (prm : LinkParams)
  /-- R417: A HEAD frame received in sequence consumes a landing cell and starts a packet. -/
  | headFrame (n : Octet) (h : FrameHdr) (pay : List Byte)
  /-- R417: A BODY frame received in sequence consumes a landing cell and continues a packet. -/
  | bodyFrame (n : Octet) (h : FrameHdr) (pay : List Byte)
  /-- R417: A TAIL frame received in sequence ends a multi-frame packet. -/
  | tailFrame (n : Octet) (h : FrameHdr) (pay : List Byte)
  /-- R417: A SOLE frame received in sequence carries a one-frame packet. -/
  | soleFrame (n : Octet) (h : FrameHdr) (pay : List Byte)
  /-- R303: A chaff marker ends the packet in progress, which is discarded and its cells released. -/
  | chaffFrame (n : Octet) (h : FrameHdr)
  /-- R428: A TSYNC frame is received, the time reference reselected and fabric time stepped or slewed. -/
  | tsyncFrame (n : Octet) (h : FrameHdr) (ts : TsyncBody)
  /-- R407: A frame whose CRC-64 fails, or that overlaps a bad block or has a reserved type, is discarded unused. -/
  | frameCrcFail (n : Octet)
  /-- R419: The replay timer expires and all unacknowledged frames are sent again, or the link is declared down after RPLMAX. -/
  | replayTimeout (n : Octet)
  /-- R427: Every 10 µs an ACTIVE side sends a TSYNC frame after the frame in progress. -/
  | tsyncSend (n : Octet)
  /-- R439: A destination edge receives OPEN and answers ACCEPT with a receive context or refuses. -/
  | openMsg (m : EdgeMsg)
  /-- R439: A source edge receives an accepting ACCEPT, binds the map entry to a send context and releases held packets. -/
  | accept (m : EdgeMsg)
  /-- R439: A source edge receives a refused ACCEPT and retries the OPEN every 10 µs. -/
  | acceptRefused (m : EdgeMsg)
  /-- R446: A source edge receives a delivery receipt, freeing held cells and retiring items up to SEQ. -/
  | receiptDelivery (m : EdgeMsg)
  /-- R436: A receipt answering a REVOKE stops its retransmission. -/
  | receiptRevokeDone (m : EdgeMsg)
  /-- R436: A receipt answering a SKIP stops its retransmission. -/
  | receiptSkipDone (m : EdgeMsg)
  /-- R450: A receipt answering ABORT retires items up to SEQ as delivered, fails the rest and frees the session. -/
  | receiptAbortDone (m : EdgeMsg)
  /-- R441: A receipt answering CLOSE frees the send context. -/
  | receiptCloseDone (m : EdgeMsg)
  /-- R447: A source edge receives an eviction notice and replays the packet, or fails it under revoke or the replay limit. -/
  | evict (m : EdgeMsg)
  /-- R520: A source edge receives a failure notice and resolves the item with its reason, from history if already retired. -/
  | fail (m : EdgeMsg)
  /-- R219: A destination edge receives a revoke notice, discards untransmitted covered packets as failed and answers. -/
  | revoke (m : EdgeMsg)
  /-- R452: A destination edge receives SKIP and counts the numbers as consumed, then answers. -/
  | skip (m : EdgeMsg)
  /-- R450: A destination edge receives ABORT, discards untransmitted packets of the session and answers. -/
  | abort (m : EdgeMsg)
  /-- R441: A destination edge receives CLOSE, frees the receive context and answers. -/
  | close (m : EdgeMsg)
  /-- R256: A fence message sets the named tenant's HPL_FENCE bit. -/
  | fenceSet (m : EdgeMsg)
  /-- R256: A fence message clears the named tenant's HPL_FENCE bit. -/
  | fenceClear (m : EdgeMsg)
  /-- R534: A home node receives a RECORD, logs its token once and answers RACK. -/
  | record (m : EdgeMsg)
  /-- R534: A producing node receives RACK and releases the acknowledged record. -/
  | rack (m : EdgeMsg)
  /-- R445: RTIM after the oldest uncovered coverable packet, the destination edge sends a delivery receipt. -/
  | receiptTimerExpiry (ctx : Fin 16384)
  /-- R448: A packet not covered within RTMO of its latest transmission is replayed. -/
  | receiptTimeout (ctx : Fin 16384)
  /-- R436: An unanswered REVOKE, SKIP, ABORT or CLOSE is sent again after RTMO. -/
  | noticeRetransmit (ctx : Fin 16384)
  /-- R439: An OPEN without accepting answer is sent again after 10 µs. -/
  | openRetry (key : OpenKey)
  /-- R441: A fully covered session idle for IDLE is closed by CLOSE and its map entries removed. -/
  | sessionIdle (ctx : Fin 16384)
  /-- R451: AGELIM plus RTMO pass after a resolved item's last copy without answer, and SKIP is sent. -/
  | skipAgeExpiry (ctx : Fin 16384)
  /-- R534: An unacknowledged RECORD is sent again after RTMO. -/
  | recordRetransmit (hfid : BitVec 16)
  /-- R18: A PCIe/CXL link partner acknowledges a write at link level, retiring its entry and making it coverable. -/
  | pcieLinkAck (p : Port) (n : Nat)
  /-- R512: A completion is matched by tag and GEN to its entry and passed on with RID and TAG restored, or discarded as late. -/
  | completionArrival (p : Port) (t : Tlp)
  /-- R521: An entry reaches its deadline and is resolved with reason 0x0B, or 0x0A if forced. -/
  | ledgerDeadline (e : Nat)
  /-- R563: A waiting record is written into its tenant's log ring once the log accepts records, and PROD advances. -/
  | logRecordWrite (fn : Nat)
  /-- R565: The deferred vector 0 message for written failure records is sent 2 µs after the previous one. -/
  | failureLogVector (fn : Nat)
  /-- R537: An LDG_IDX write copies a ledger entry and its outcome mask into LDG_EDATA and LDG_RUNOUT. -/
  | ldgIdxCopy (w : Writer) (i : BitVec 18)
  /-- R528: A GO to LDG_AERC starts searching the write-page history for the logged write. -/
  | ldgAercGo (w : Writer) (v : Word)
  /-- R529: The history search ends, setting MATCH or NOHIST and producing reason 0x06 records. -/
  | ldgAerSearchComplete
  /-- R466: A port reaches DL_Up, setting UP and posting a link state change event. -/
  | pcieDlUp (p : Port) (up : DlUp)
  /-- R518: A port reaches DL_Down, posting an event and resolving its held and awaited items with reason 0x01. -/
  | pcieDlDown (p : Port) (presenceLost : Bool)
  /-- R488: A PERST_N input asserts and resets each virtual switch whose port selects it, resolving items with 0x09. -/
  | perstAssert (i : Fin 32)
  /-- R488: A PERST_N input deasserts and the upstream port begins Detect. -/
  | perstDeassert (i : Fin 32)
  /-- R488: A hot reset received on an upstream link resets its virtual switch without holding the link. -/
  | pcieHotResetReceived (p : Port)
  /-- R476: A host Retrain Link write retrains a real link, or completes at once for a remote binding. -/
  | hostRetrainLink (p : Port) (v : Fin 256)
  /-- R476: A host Link Disable write disables a real link or proxy-resets the bound functions. -/
  | hostLinkDisable (p : Port) (v : Fin 256) (disable : Bool)
  /-- R476: A host Secondary Bus Reset hot-resets a real link or proxy-resets the bound functions. -/
  | hostSecondaryBusReset (p : Port) (v : Fin 256)
  /-- R489: The 100 ms wait ends and the device reads the function's Command register. -/
  | proxyResetWaitExpiry (p : Port) (v : Fin 256) (k : Nat)
  /-- R489: After an RRS answer, the device reads the Command register again 1 ms later. -/
  | proxyResetPoll (p : Port) (v : Fin 256) (k : Nat)
  /-- R489: No Successful completion within 1 s of the FLR sets GONE and posts an error report. -/
  | proxyResetTimeout (p : Port) (v : Fin 256) (k : Nat)
  /-- R480: A host Power Controller Control write requests the slot channel on or off and sets Command Completed. -/
  | hostPowerControllerControl (p : Port) (v : Fin 256) (off : Bool)
  /-- R477: A host change of bus numbers posts a hot-plug event; configuration requests below complete with RRS until committed. -/
  | hostBusNumberChange (p : Port) (v : Fin 256) (sec : Byte) (sub : Byte)
  /-- R483: A software DPC trigger contains the binding and resolves its items with reason 0x05. -/
  | hostDpcTrigger (p : Port) (v : Fin 256)
  /-- R484: The host clears DPC Trigger Status; a real link retrains or the binding is proxy-reset. -/
  | hostDpcStatusClear (p : Port) (v : Fin 256)
  /-- R471: A host commit of a CXL HDM decoder succeeds only within a valid HDM window of its tenant. -/
  | hostHdmDecoderCommit (p : Port) (v : Fin 256) (d : HdmDecoder)
  /-- R482: An error message from a function is delivered to the host of its binding or to tenant 0. -/
  | errMessage (p : Port) (rid : BitVec 16) (sev : ErrSev)
  /-- R493: A downstream port answers a PTM Request as PTM root with fabric time. -/
  | ptmRequest (p : Port)
  /-- R494: An LTR message is forwarded to the host or to tenant 0's upstream port. -/
  | ltrMessage (p : Port) (v : Word)
  /-- R496: An MCTP message for the device is delivered to firmware by mailbox event; others are routed by ID. -/
  | mctpMessage (p : Port) (t : Tlp)
  /-- R497: A Fabric Manager API Bind vPPB command sets a binding's VALID with its checks. -/
  | fmapiBind (p : Port) (v : Fin 256) (b0 : Word)
  /-- R497: A Fabric Manager API Unbind vPPB command clears a binding's VALID. -/
  | fmapiUnbind (p : Port) (v : Fin 256)
  /-- R484: The fabric manager hot-resets a shared device's link. -/
  | prtRstHotrst (w : Writer) (p : Port)
  /-- R484: The fabric manager disables or re-enables a shared device's link. -/
  | prtRstLdis (w : Writer) (p : Port) (disable : Bool)
  /-- R484: The fabric manager applies DPC to every binding of the port's functions. -/
  | prtRstDpctrig (w : Writer) (p : Port)
  /-- R484: The fabric manager releases DPC on the port. -/
  | prtRstDpcrel (w : Writer) (p : Port)
  /-- R481: GONE is set for a remote binding, dropping DLLLA and presence and raising the changed bits. -/
  | vdlGoneSet (w : Writer) (p : Port) (v : Fin 256)
  /-- R569: A host clears a fabric function's BME; its DMA stops and its open non-posted items resolve with 0x11. -/
  | hostBmeClear (f : FnIdx)
  /-- R571: A host initiates FLR of a fabric function, stopping it and resolving its items with reason 0x09. -/
  | hostFlr (f : FnIdx)
  /-- R571: An FLR finishes and clears RST, with configuration space back at defaults. -/
  | flrComplete (f : FnIdx)
  /-- R573: Clearing VF Enable resets every VF of the PF as by FLR. -/
  | hostVfEnableClear (p : Port)
  /-- R555: Setting FN_LOG_CFG.EN enables the failure log and zeroes PROD and CONS. -/
  | fnLogEnable (f : FnIdx) (v : Word)
  /-- R567: A function mailbox doorbell sets BUSY and posts a mailbox event, or sets OVW. -/
  | fnMbxDb (f : FnIdx) (v : Word)
  /-- R568: Firmware's RSP write clears BUSY, sets DONE and sends vector 1. -/
  | fnMbxRsp (w : Writer) (f : FnIdx) (v : Word)
  /-- R547: A write designating the manager function applies, or is refused with RCODE 7. -/
  | ffnCfgWrite (w : Writer) (v : Word)
  /-- R557: A PF configuration write is checked as a whole and applies or is refused with an RCODE. -/
  | ffnPfCfgWrite (w : Writer) (p : Port) (v : Word)
  /-- R557: A function's tenant and channel configuration write is checked as a whole and applies or is refused. -/
  | ffnFnCfgWrite (w : Writer) (f : FnIdx) (v : Word)
  /-- R574: Setting HOLD stops new DMA bursts of the function until QUIET can rise. -/
  | fnHoldSet (w : Writer) (f : FnIdx)
  /-- R610: Clearing HOLD returns waiting channels to running. -/
  | fnHoldClear (w : Writer) (f : FnIdx)
  /-- R575: Writing FORCE fails every item of the function with reason 0x09 and stops its channels. -/
  | fnForce (w : Writer) (f : FnIdx)
  /-- R578: Setting a dirty-log tracker's EN checks its range and zeroes PROD and CONS, or refuses. -/
  | dlEnable (k : Fin 256) (v : Word)
  /-- R580: A coalescing cache entry reaches 16 µs and is written out as a page record. -/
  | dlEntryAge
  /-- R583: A SYNC write marks the cycle and starts writing out the tracker's entries, or is discarded with SLOST. -/
  | dlSync (k : Fin 256) (token : BitVec 32)
  /-- R583: The entries present at the mark are written, the marker follows, LASTTOK is set and vector 2 sent. -/
  | dlSyncComplete (k : Fin 256)
  /-- R589: A GO write starts a DMA channel, or ends it at once, or is discarded with WERR. -/
  | dmaGo (w : Writer) (ch : DmaCh) (v : Word)
  /-- R608: An ABORT write requests an abort that is sampled at the channel's next arbitration slot. -/
  | dmaAbort (w : Writer) (ch : DmaCh)
  /-- R598: Every 16 cycles an engine evaluates its channels and issues the next burst of the chosen tenant's channel. -/
  | dmaArbitrationRound (e : Fin 17)
  /-- R592: A list descriptor fetch returns and the channel loads and runs it, or fails. -/
  | dmaDescriptorFetched (ch : DmaCh)
  /-- R611: A localisation re-read goes unanswered for LTMO and its channel fails with reason 0x12. -/
  | dmaLocalisationTimeout (e : Fin 17)
  /-- R624: Writing EN 1 moves a slot channel from DISABLED to EMPTY or WAIT. -/
  | spcEnable (w : Writer) (i : Fin 32)
  /-- R635: Writing EN 0 clears the trip latch and disables the channel, through OFFSEQ if on. -/
  | spcDisable (w : Writer) (i : Fin 32)
  /-- R628: Writing DCLR while disabled clears the damaged latch. -/
  | spcDclr (w : Writer) (i : Fin 32)
  /-- R630: Setting PERSTF asserts PERST_N. -/
  | spcPerstfSet (w : Writer) (i : Fin 32)
  /-- R630: Clearing PERSTF lets PERST_N be released under PERSTDLY. -/
  | spcPerstfClear (w : Writer) (i : Fin 32)
  /-- R620: PRSNT_N is sampled low after high, starting presence and the insertion time. -/
  | spcPresenceBegin (i : Fin 32)
  /-- R620: PRSNT_N is sampled high twice, losing presence and pulling the gate low. -/
  | spcPresenceLoss (i : Fin 32)
  /-- R621: VIN_S has lain within UV to OV for UVQ and VINOK is set. -/
  | spcVinQualified (i : Fin 32)
  /-- R621: VIN_S has lain outside the window for 10 µs and VINOK clears. -/
  | spcVinLoss (i : Fin 32)
  /-- R623: All conditions are met and a waiting channel enters RAMP. -/
  | spcRampStart (i : Fin 32)
  /-- R624: The gate and output voltage reach their levels and the channel enters ON. -/
  | spcRampComplete (i : Fin 32)
  /-- R628: GRISE elapses in RAMP and the channel enters DAMAGED or trips. -/
  | spcGriseExpiry (i : Fin 32) (obs : SpcRampObs)
  /-- R629: The power-good conditions hold for PGQ and PWRGD rises. -/
  | spcPwrgdQualified (i : Fin 32)
  /-- R629: VOUT_S stays below PGTH for 10 µs, PWRGD falls and PERST_N asserts. -/
  | spcPwrgdLoss (i : Fin 32)
  /-- R630: PERSTDLY after PWRGD rises, PERST_N is released. -/
  | spcPerstRelease (i : Fin 32)
  /-- R624: PERSTLEAD ends, the gate is pulled low and the channel enters DISABLED or WAIT. -/
  | spcOffseqEnd (i : Fin 32)
  /-- R631: The sense voltage reaches VLIM, the gate regulates and the fault timer runs. -/
  | spcCurrentLimit (i : Fin 32)
  /-- R631: The current stays below the limit for 100 µs and the fault timer returns to zero. -/
  | spcLimitRelease (i : Fin 32)
  /-- R631: The fault timer reaches FTMR and the channel trips with TKIND 1. -/
  | spcFaultTimerExpiry (i : Fin 32)
  /-- R632: The sense voltage reaches twice VLIM for 200 ns and the channel trips with TKIND 3. -/
  | spcFastBreaker (i : Fin 32)
  /-- R636: Every 10 µs the channel samples MEAS and updates its model temperature. -/
  | spcThermalUpdate (i : Fin 32) (meas : SpcMeas)
  /-- R634: COOL has elapsed and the temperature is below TARM, and COOLACT clears. -/
  | spcCooldownEnd (i : Fin 32)
  /-- R627: VOUT_S stays above VSHORT for DSTIME with the gate low and the channel enters DAMAGED. -/
  | spcDsShort (i : Fin 32)
  /-- R639: A channel held through Vigil resumes ON after 1 ms of fresh measurement. -/
  | spcHoldResume (i : Fin 32)
  /-- R644: A PWR_CTL write requests domains on or off, each bit accepted or refused separately. -/
  | pwrCtlWrite (w : Writer) (v : Word)
  /-- R644: A domain finishes switching; ONS changes and TRANS clears. -/
  | pwrDomainSwitched (d : Fin 25)
  /-- R648: The selected reference is judged lost and the PLLs switch to the other input, or enter holdover. -/
  | refclkLoss
  /-- R648: The preferred input has been valid for 10 ms and the PLLs return to it. -/
  | refclkRevert
  /-- R649: 100 µs without a valid reference enters sag stage 5 with source 6. -/
  | refclkHoldoverExpiry
  /-- R650: XTAL_AO fails and CK_AO runs from the internal oscillator. -/
  | xtalAoFail
  /-- R660: A sag condition has held for its filter time and the actions of every stage up to k start. -/
  | sagStageEntry (k : Fin 7) (src : Fin 16) (reading : BitVec 16)
  /-- R665: All conditions of a stage clear with hysteresis and its actions are undone in descending order. -/
  | sagStageExit (k : Fin 7)
  /-- R659: A write of SAG_CFG.FORCE holds at least the given stage, or leaves the field unchanged for 6 or 7. -/
  | sagForceWrite (w : Writer) (v : Word)
  /-- R668: Writing CLRMAX sets SAG_STS.MAX to the current stage. -/
  | sagClrmax (w : Writer)
  /-- R661: 200 µs after stage 5 entry, transit packets still held are discarded with EVICT of kind 3. -/
  | sagForcedDeadline
  /-- R662: The stage 6 condition holds and stage 5 has finished or lasted 600 µs, and the device enters Vigil. -/
  | vigilEntry (src : Fin 16)
  /-- R663: Rails, warning and reference have been good for 100 µs, and the restart from Vigil begins. -/
  | vigilExit
  /-- R671: RESET_N assertion resets every switched domain, brings slot channels off and triggers a seal. -/
  | resetNAssert
  /-- R734: VDD_AO falls below its minimum; switched domains are held in reset, gates pulled low and the Almanac ring lost. -/
  | vddAoLoss
  /-- R680: A PCN_SNAP write matching the epoch ends it at the next boundary, or is discarded with SLOST. -/
  | pcnSnap (w : Writer) (v : Word)
  /-- R684: A TRC_SEED write reloads every octet's sampling LFSR. -/
  | trcSeedWrite (w : Writer) (v : Word)
  /-- R696: Writing ALM_CMD.SEAL triggers a seal of code 5. -/
  | almSeal (w : Writer)
  /-- R701: After the POST records, 100 µs or a running seal's end, a seal begins and reads its register snapshot. -/
  | almSealBegin
  /-- R702: A seal finishes writing its slot and is read back, intercalating a spare slot if it fails or wears. -/
  | almSealComplete (readBackGood : Bool)
  /-- R695: A write to word 2 of ALM_FWREC appends a software record. -/
  | almFwrecAppend (w : Writer) (x : Fin 32) (v : Word)
  /-- R699: Setting a slot's LOCK keeps its seal, refused with LREJ if fewer than 4 slots would remain unlocked. -/
  | almSlotLock (w : Writer) (i : Fin 16)
  /-- R703: Writing REL releases a sealed, unlocked slot. -/
  | almSlotRelease (w : Writer) (i : Fin 16)
  /-- R705: Every PERIOD each gauge is measured, and a crossed threshold posts a wear alarm. -/
  | wearMeasure (kind : Byte) (idx : BitVec 16) (g : GaugeReading)
  /-- R707: A WEAR_IDX write copies an element's readings into WEAR_DATA. -/
  | wearIdxCopy (w : Writer) (v : Word)
  /-- R706: A WEAR_ACK write re-arms an element's wear alarm. -/
  | wearAck (w : Writer) (v : Word)
  /-- R709: Every STPER days each available spare is powered and self-tested. -/
  | falSelfTest (j : Fin 26)
  /-- R709: A spare's periodic self-test ends; a failure marks it FAILED and posts a wear alarm. -/
  | falSelfTestEnd (j : Fin 26) (pass : Bool)
  /-- R710: A GO to FAL_CMD starts an intercalation, or is refused with PHASE 6 and an RCODE. -/
  | falGo (w : Writer) (v : Word)
  /-- R711: An intercalation phase finishes and the next begins, or it is done or abandoned. -/
  | falPhaseComplete (pass : Bool)
  /-- R726: A GLB_MODE write is checked as a whole and applies, or is refused with MREJ. -/
  | glbModeWrite (w : Writer) (v : Word)
  /-- R729: A GO to SEC_VERIFY starts verifying the selected flash image. -/
  | secVerifyGo (w : Writer) (flashB : Bool)
  /-- R728: A verification ends and reports its result code. -/
  | secVerifyComplete (chk : ImageCheck)
  /-- R729: An SEC_FLCTL read operation starts reading 256 bytes into SEC_FLBUF. -/
  | secFlashRead (w : Writer) (v : Word)
  /-- R729: An SEC_FLCTL program operation starts, refused for the running image's flash outside recovery. -/
  | secFlashProgram (w : Writer) (v : Word)
  /-- R729: An SEC_FLCTL erase operation starts, refused for the running image's flash outside recovery. -/
  | secFlashErase (w : Writer) (v : Word)
  /-- R729: A flash operation ends, clearing BUSY or setting ERR. -/
  | secFlashOpComplete (ok : Bool) (data : List Byte)
  /-- R722: A write to a register that has no row of its own applies its fields under access codes and lock rules. -/
  | registerWrite (w : Writer) (off : Nat) (v : Word)
  /-- R720: A wrongly sized or unaligned access, or one to an undefined offset, reads 0 or is discarded and sets AERR. -/
  | registerBadAccess (w : Writer) (a : BadAccess)
  /-- R42: A control core executes a word with a reserved opcode or function, the all-zero word, or an EMIT, and raises Illegal Instruction. -/
  | reservedOpcode (c : CoreId) (word : BitVec 32)
  /-- R734: VDD_AO and VDD_AO_IO come up, the AO domain starts with its registers at reset, SAG_VT becomes readable over the sideband while RESET_N is low, and the next start reports CAUSE 1. -/
  | vddAoPowerOn
  /-- R649: A REFCLK_SYS input becomes valid again, setting its REFAOK or REFBOK bit and ending PLL holdover. -/
  | refclkInputValid (inputB : Bool)
  /-- R514: QTIME after a resolution without completion, a quarantined tag index or selective-IDE RID and TAG is released and PRT_TAGSTS.QUAR falls. -/
  | tagQuarantineExpiry (p : Port) (q : QuarKey)
  /-- R333: A PCIe/CXL link partner returns flow-control credits, making queued heads of that ordering type eligible. -/
  | pcieCreditReturn (p : Port) (c : CreditReturn)
  /-- R590: A DMA burst's read or write of cluster or table memory at a local address completes, without a ledger entry or completion TLP. -/
  | dmaLocalAccessComplete (ch : DmaCh)
  /-- R399: A lane's test-pattern checker synchronises to the received pattern and sets LOCKED. -/
  | checkerSynchronised (n : Octet) (lane : Fin 9)
  deriving DecidableEq, Repr

end Sys2Proof
end

