-- ==== Sys2Proof/Decode.lean ====
section
/-! DEFINITION. Decode.lean: the command that a word spells by the command table's bits.  The table gives no row any bits
(every row's list of fields is empty), so no word spells a command. -/

namespace Sys2Proof

/-- The command a word spells: none, since the command table gives no row any bits. -/
def decodeTableWord (_nbits _w : Nat) : Option Instr := none

end Sys2Proof
end

