-- ==== Sys2Proof/Config.lean ====
section
/-! DEFINITION. Config.lean: what a part fixes (fused values) and the values the spec leaves open.  An opaque constant has
no body, so no proof can see its value: whatever is proved holds for every value.  Each free value is applied to the
state's counter `fv`, which every use advances (log entry 2). -/

namespace Sys2Proof.Config

/-- GLB_DSN.UNIT (R756): fused, never 0. -/
opaque dsnUnit : BitVec 48
/-- SAG_VT.VT (R668): fused. -/
opaque sagVt : BitVec 10
/-- SEC_BOOT_STS.SVNF (R727): the fused anti-rollback value. -/
opaque svnFused : BitVec 6
/-- SEC_BOOT_STS.OWNREQ (R727): an owner key hash is fused. -/
opaque ownerFused : Bool
/-- FAL_SPARE[j].AVAIL at first power-up (R714): fused. -/
opaque spareAvail : Nat → Bool

/-- Which free identity (ledger entry, session context, tag index, trap slot, log slot) hardware picks. -/
opaque freeChoice : Nat → Nat
/-- Where hardware begins its search for a free buffer cell, by the counter and the cells in use (R270; log entry 95). -/
opaque freeCell : Nat → List Nat → Nat
/-- A free 64-bit value. -/
opaque freeWord : Nat → Word
/-- A free truth value. -/
opaque freeBool : Nat → Bool
/-- The Almanac record codes of 0x0100 and above that the chapters do not state (R694): by source and kind of record. -/
opaque almCode : Nat → Nat → Nat
/-- The bytes of a bridge's or function's configuration space that the model does not keep: by kind (0 upstream bridge, 1 virtual
downstream port, 2 function) and offset (log entry 33). -/
opaque cfgByte : Nat → Nat → Byte
/-- The VF Device ID that the SR-IOV capability of a bound function's parent gives (R187), by the function's FID. -/
opaque vfDevice : Nat → BitVec 32
/-- Whether a FID names a virtual function of a device, and whether a configuration offset of it lies in an SR-IOV or ARI capability (R187;
log entry 99). -/
opaque vfFid : Nat → Bool
opaque vfHidden : Nat → Nat → Bool
/-- The address, tag and direction of a CXL message that arrived over a native link, by its first 16 bytes. -/
opaque cxlAddr : BitVec 128 → Word
opaque cxlTag : BitVec 128 → BitVec 16
opaque cxlIsWrite : BitVec 128 → Bool
/-- The session class of a packet in transit, by session ID and first 16 bytes: nothing that the packet carries tells a transit node whether
it is a CXL message (log entry 65). -/
opaque cxlTransit : Nat → BitVec 128 → Option Nat
/-- What a DOE object that a host sends an upstream bridge does (R486; log entry 107): the words of the answer, and the key that an IDE_KM object
establishes for the port's link IDE stream, if it is one; by the object and the counter. -/
opaque doeReply : List (BitVec 32) → Nat → List (BitVec 32)
opaque ideKey : List (BitVec 32) → Nat → Option Word
/-- The keystream of a link IDE stream, by key, direction (received or sent), number of the TLP and place in its data. -/
opaque ideStream : Word → Bool → Nat → Nat → Byte
/-- The event queue that receives the events, by source block and event type, for which the spec names no register (log entry 93). -/
opaque reportQueue : Nat → Nat → Fin 64
/-- A free byte. -/
opaque freeByte : Nat → Byte

end Sys2Proof.Config
end

