-- ==== Sys2Proof/Machine/Regs.lean ====
section
/-! DEFINITION. Machine/Regs.lean: the register space of the spec, transcribed from its register tables.
For every register the address of each of its instances (offsets of the device register space, rule R724 of
19_register_map.md and the base and stride of the defining chapter) and for every field its place in the word.
A register index is an argument of its address; a register kept in two copies has the version as an argument.
The function pages (R551) and the dirty-log trackers (R577) are given addresses of the model above the 64 MiB
register space, since the spec reaches them through a BAR or the page aperture; the address is the model's own. -/

namespace Sys2Proof.Machine

/-- A field of a register: the register's offset, the lowest bit and the width. -/
structure Field where
  reg : Nat
  lo : Nat
  width : Nat
  deriving DecidableEq, Repr

end Sys2Proof.Machine

namespace Sys2Proof.Machine.R

/-- R121 (04_control_cores_and_events.md). -/
def CCL_CTL (i : Nat) : Nat := 0x300000 + 0x10000 * i
def CCL_CTL_CEN (i : Nat) : Field := ⟨(CCL_CTL i), 0, 6⟩
def CCL_CTL_WRST (i : Nat) : Field := ⟨(CCL_CTL i), 8, 6⟩
def CCL_CTL_FLTQ (i : Nat) : Field := ⟨(CCL_CTL i), 16, 6⟩
def CCL_CTL_FLTQV (i : Nat) : Field := ⟨(CCL_CTL i), 22, 1⟩
/-- R122 (04_control_cores_and_events.md). -/
def CCL_STS (i : Nat) : Nat := 0x300008 + 0x10000 * i
def CCL_STS_RUN (i : Nat) : Field := ⟨(CCL_STS i), 0, 6⟩
def CCL_STS_WAITING (i : Nat) : Field := ⟨(CCL_STS i), 8, 6⟩
def CCL_STS_FAULTED (i : Nat) : Field := ⟨(CCL_STS i), 16, 6⟩
def CCL_STS_FALLOW (i : Nat) : Field := ⟨(CCL_STS i), 24, 1⟩
/-- R120 (04_control_cores_and_events.md). -/
def CCL_FLTHD (i : Nat) : Nat := 0x300010 + 0x10000 * i
def CCL_FLTHD_IDX (i : Nat) : Field := ⟨(CCL_FLTHD i), 0, 6⟩
/-- R120 (04_control_cores_and_events.md). -/
def CCL_STK (i j : Nat) : Nat := 0x300040 + 0x10000 * i + 8 * j
def CCL_STK_BASE (i j : Nat) : Field := ⟨(CCL_STK i j), 0, 64⟩
/-- R147 (04_control_cores_and_events.md). -/
def CCL_WDT (i : Nat) : Nat := 0x300100 + 0x10000 * i
def CCL_WDT_PERIOD (i : Nat) : Field := ⟨(CCL_WDT i), 0, 32⟩
def CCL_WDT_EN (i : Nat) : Field := ⟨(CCL_WDT i), 32, 1⟩
def CCL_WDT_KICK (i : Nat) : Field := ⟨(CCL_WDT i), 33, 1⟩
/-- R148 (04_control_cores_and_events.md). -/
def CCL_FLT (i j : Nat) : Nat := 0x301000 + 0x10000 * i + 8 * j
def CCL_FLT_WORD (i j : Nat) : Field := ⟨(CCL_FLT i j), 0, 64⟩
/-- R123 (04_control_cores_and_events.md). -/
def EVT_Q_CFG (i : Nat) : Nat := 0x380000 + 0x40 * i
def EVT_Q_CFG_PRI (i : Nat) : Field := ⟨(EVT_Q_CFG i), 0, 3⟩
def EVT_Q_CFG_EN (i : Nat) : Field := ⟨(EVT_Q_CFG i), 3, 1⟩
def EVT_Q_CFG_CLUSTER (i : Nat) : Field := ⟨(EVT_Q_CFG i), 4, 2⟩
def EVT_Q_CFG_MASK (i : Nat) : Field := ⟨(EVT_Q_CFG i), 6, 6⟩
def EVT_Q_CFG_SERIAL (i : Nat) : Field := ⟨(EVT_Q_CFG i), 12, 1⟩
def EVT_Q_CFG_LOGDEPTH (i : Nat) : Field := ⟨(EVT_Q_CFG i), 16, 4⟩
def EVT_Q_CFG_BUDGET (i : Nat) : Field := ⟨(EVT_Q_CFG i), 32, 16⟩
/-- R120 (04_control_cores_and_events.md). -/
def EVT_Q_HND (i : Nat) : Nat := 0x380008 + 0x40 * i
def EVT_Q_HND_ADDR (i : Nat) : Field := ⟨(EVT_Q_HND i), 2, 62⟩
/-- R126 (04_control_cores_and_events.md). -/
def EVT_Q_STS (i : Nat) : Nat := 0x380010 + 0x40 * i
def EVT_Q_STS_COUNT (i : Nat) : Field := ⟨(EVT_Q_STS i), 0, 11⟩
def EVT_Q_STS_ACTIVE (i : Nat) : Field := ⟨(EVT_Q_STS i), 12, 1⟩
def EVT_Q_STS_CFGERR (i : Nat) : Field := ⟨(EVT_Q_STS i), 13, 1⟩
def EVT_Q_STS_HELD (i : Nat) : Field := ⟨(EVT_Q_STS i), 16, 16⟩
def EVT_Q_STS_REFUSED (i : Nat) : Field := ⟨(EVT_Q_STS i), 32, 16⟩
def EVT_Q_STS_COALESCED (i : Nat) : Field := ⟨(EVT_Q_STS i), 48, 16⟩
/-- R120 (04_control_cores_and_events.md). -/
def EVT_SELF_DET : Nat := 0x381000
def EVT_SELF_DET_DETAIL : Field := ⟨EVT_SELF_DET, 0, 64⟩
/-- R140 (04_control_cores_and_events.md). -/
def EVT_TMR_CMP (i : Nat) : Nat := 0x382000 + 0x20 * i
def EVT_TMR_CMP_TIME (i : Nat) : Field := ⟨(EVT_TMR_CMP i), 0, 64⟩
/-- R140 (04_control_cores_and_events.md). -/
def EVT_TMR_PER (i : Nat) : Nat := 0x382008 + 0x20 * i
def EVT_TMR_PER_PERIOD (i : Nat) : Field := ⟨(EVT_TMR_PER i), 0, 64⟩
/-- R140 (04_control_cores_and_events.md). -/
def EVT_TMR_CTL (i : Nat) : Nat := 0x382010 + 0x20 * i
def EVT_TMR_CTL_EN (i : Nat) : Field := ⟨(EVT_TMR_CTL i), 0, 1⟩
def EVT_TMR_CTL_Q (i : Nat) : Field := ⟨(EVT_TMR_CTL i), 8, 6⟩
def EVT_TMR_CTL_FIRED (i : Nat) : Field := ⟨(EVT_TMR_CTL i), 16, 16⟩
/-- R143 (04_control_cores_and_events.md). -/
def EVT_MBX_IN (i j : Nat) : Nat := 0x384000 + 0x400 * i + 8 * j
def EVT_MBX_IN_WORD (i j : Nat) : Field := ⟨(EVT_MBX_IN i j), 0, 64⟩
/-- R143 (04_control_cores_and_events.md). -/
def EVT_MBX_OUT (i j : Nat) : Nat := 0x384100 + 0x400 * i + 8 * j
def EVT_MBX_OUT_WORD (i j : Nat) : Field := ⟨(EVT_MBX_OUT i j), 0, 64⟩
/-- R143 (04_control_cores_and_events.md). -/
def EVT_MBX_DB (i : Nat) : Nat := 0x384200 + 0x400 * i
def EVT_MBX_DB_LEN (i : Nat) : Field := ⟨(EVT_MBX_DB i), 0, 6⟩
def EVT_MBX_DB_Q (i : Nat) : Field := ⟨(EVT_MBX_DB i), 8, 6⟩
/-- R144 (04_control_cores_and_events.md). -/
def EVT_MBX_RSP (i : Nat) : Nat := 0x384208 + 0x400 * i
def EVT_MBX_RSP_LEN (i : Nat) : Field := ⟨(EVT_MBX_RSP i), 0, 6⟩
/-- R144 (04_control_cores_and_events.md). -/
def EVT_MBX_STS (i : Nat) : Nat := 0x384210 + 0x400 * i
def EVT_MBX_STS_BUSY (i : Nat) : Field := ⟨(EVT_MBX_STS i), 0, 1⟩
def EVT_MBX_STS_DONE (i : Nat) : Field := ⟨(EVT_MBX_STS i), 1, 1⟩
def EVT_MBX_STS_OVW (i : Nat) : Field := ⟨(EVT_MBX_STS i), 2, 1⟩
/-- R164 (05_tenants_windows_and_routing.md). -/
def TNT_CFG (i j : Nat) : Nat := 0x800000 + 0x200 * i + 0x100 * j
def TNT_CFG_VALID (i j : Nat) : Field := ⟨(TNT_CFG i j), 0, 1⟩
def TNT_CFG_STRICT (i j : Nat) : Field := ⟨(TNT_CFG i j), 1, 1⟩
def TNT_CFG_NOMIRROR (i j : Nat) : Field := ⟨(TNT_CFG i j), 2, 1⟩
def TNT_CFG_FAILRD (i j : Nat) : Field := ⟨(TNT_CFG i j), 3, 2⟩
def TNT_CFG_PGRP (i j : Nat) : Field := ⟨(TNT_CFG i j), 8, 6⟩
/-- R164 (05_tenants_windows_and_routing.md). -/
def TNT_LDGTMO (i j : Nat) : Nat := 0x800008 + 0x200 * i + 0x100 * j
def TNT_LDGTMO_TMO (i j : Nat) : Field := ⟨(TNT_LDGTMO i j), 0, 32⟩
/-- R164 (05_tenants_windows_and_routing.md). -/
def TNT_QBUF (i j : Nat) : Nat := 0x800010 + 0x200 * i + 0x100 * j
def TNT_QBUF_CELLS (i j : Nat) : Field := ⟨(TNT_QBUF i j), 0, 20⟩
def TNT_QBUF_RSV (i j : Nat) : Field := ⟨(TNT_QBUF i j), 32, 20⟩
/-- R164 (05_tenants_windows_and_routing.md). -/
def TNT_QLDG (i j : Nat) : Nat := 0x800018 + 0x200 * i + 0x100 * j
def TNT_QLDG_ENTRIES (i j : Nat) : Field := ⟨(TNT_QLDG i j), 0, 19⟩
def TNT_QLDG_QCTX (i j : Nat) : Field := ⟨(TNT_QLDG i j), 32, 17⟩
/-- R164 (05_tenants_windows_and_routing.md). -/
def TNT_QRES (i j : Nat) : Nat := 0x800020 + 0x200 * i + 0x100 * j
def TNT_QRES_SES (i j : Nat) : Field := ⟨(TNT_QRES i j), 0, 15⟩
def TNT_QRES_DMACH (i j : Nat) : Field := ⟨(TNT_QRES i j), 32, 13⟩
def TNT_QRES_VF (i j : Nat) : Field := ⟨(TNT_QRES i j), 48, 13⟩
/-- R164 (05_tenants_windows_and_routing.md). -/
def TNT_WGT (i j : Nat) : Nat := 0x800028 + 0x200 * i + 0x100 * j
def TNT_WGT_SCHW (i j : Nat) : Field := ⟨(TNT_WGT i j), 0, 16⟩
def TNT_WGT_DMAW (i j : Nat) : Field := ⟨(TNT_WGT i j), 16, 16⟩
/-- R164 (05_tenants_windows_and_routing.md). -/
def TNT_IDM (i j k : Nat) : Nat := 0x800040 + 0x200 * i + 0x100 * j + 8 * k
def TNT_IDM_LRID (i j k : Nat) : Field := ⟨(TNT_IDM i j k), 0, 16⟩
def TNT_IDM_CNT (i j k : Nat) : Field := ⟨(TNT_IDM i j k), 16, 16⟩
def TNT_IDM_FID (i j k : Nat) : Field := ⟨(TNT_IDM i j k), 32, 16⟩
def TNT_IDM_V (i j k : Nat) : Field := ⟨(TNT_IDM i j k), 48, 1⟩
/-- R189 (05_tenants_windows_and_routing.md). -/
def WIN_OWN (i : Nat) : Nat := 0xC00000 + 0x100 * i
def WIN_OWN_TENANT (i : Nat) : Field := ⟨(WIN_OWN i), 0, 13⟩
/-- R189 (05_tenants_windows_and_routing.md). -/
def WIN_CTL (i j : Nat) : Nat := 0xC00040 + 0x100 * i + 0x40 * j
def WIN_CTL_VALID (i j : Nat) : Field := ⟨(WIN_CTL i j), 0, 1⟩
def WIN_CTL_RD (i j : Nat) : Field := ⟨(WIN_CTL i j), 1, 1⟩
def WIN_CTL_WR (i j : Nat) : Field := ⟨(WIN_CTL i j), 2, 1⟩
def WIN_CTL_PEER (i j : Nat) : Field := ⟨(WIN_CTL i j), 3, 1⟩
def WIN_CTL_DMA (i j : Nat) : Field := ⟨(WIN_CTL i j), 4, 1⟩
def WIN_CTL_PREF (i j : Nat) : Field := ⟨(WIN_CTL i j), 5, 1⟩
def WIN_CTL_HDM (i j : Nat) : Field := ⟨(WIN_CTL i j), 6, 1⟩
def WIN_CTL_GRANTV (i j : Nat) : Field := ⟨(WIN_CTL i j), 7, 1⟩
def WIN_CTL_GRANT (i j : Nat) : Field := ⟨(WIN_CTL i j), 8, 13⟩
def WIN_CTL_TFID (i j : Nat) : Field := ⟨(WIN_CTL i j), 48, 16⟩
/-- R189 (05_tenants_windows_and_routing.md). -/
def WIN_BASE (i j : Nat) : Nat := 0xC00048 + 0x100 * i + 0x40 * j
def WIN_BASE_BASE (i j : Nat) : Field := ⟨(WIN_BASE i j), 12, 52⟩
/-- R189 (05_tenants_windows_and_routing.md). -/
def WIN_LIMIT (i j : Nat) : Nat := 0xC00050 + 0x100 * i + 0x40 * j
def WIN_LIMIT_LIMIT (i j : Nat) : Field := ⟨(WIN_LIMIT i j), 12, 52⟩
/-- R189 (05_tenants_windows_and_routing.md). -/
def WIN_XOFF (i j : Nat) : Nat := 0xC00058 + 0x100 * i + 0x40 * j
def WIN_XOFF_XOFF (i j : Nat) : Field := ⟨(WIN_XOFF i j), 12, 52⟩
/-- R189 (05_tenants_windows_and_routing.md). -/
def WIN_HDM (i j : Nat) : Nat := 0xC00060 + 0x100 * i + 0x40 * j
def WIN_HDM_IW (i j : Nat) : Field := ⟨(WIN_HDM i j), 0, 3⟩
def WIN_HDM_IG (i j : Nat) : Field := ⟨(WIN_HDM i j), 4, 3⟩
def WIN_HDM_BI (i j : Nat) : Field := ⟨(WIN_HDM i j), 7, 1⟩
/-- R197 (05_tenants_windows_and_routing.md). -/
def FIDT_CTL (i j : Nat) : Nat := 0x1000000 + 0x40 * i + 0x20 * j
def FIDT_CTL_VALID (i j : Nat) : Field := ⟨(FIDT_CTL i j), 0, 1⟩
def FIDT_CTL_LOCAL (i j : Nat) : Field := ⟨(FIDT_CTL i j), 1, 1⟩
def FIDT_CTL_HOST (i j : Nat) : Field := ⟨(FIDT_CTL i j), 2, 1⟩
def FIDT_CTL_SPRAY (i j : Nat) : Field := ⟨(FIDT_CTL i j), 3, 1⟩
def FIDT_CTL_NHOP (i j : Nat) : Field := ⟨(FIDT_CTL i j), 4, 3⟩
def FIDT_CTL_VC (i j : Nat) : Field := ⟨(FIDT_CTL i j), 8, 2⟩
def FIDT_CTL_VCKEEP (i j : Nat) : Field := ⟨(FIDT_CTL i j), 10, 1⟩
def FIDT_CTL_HOPLIM (i j : Nat) : Field := ⟨(FIDT_CTL i j), 16, 6⟩
def FIDT_CTL_OWNER (i j : Nat) : Field := ⟨(FIDT_CTL i j), 32, 13⟩
/-- R197 (05_tenants_windows_and_routing.md). -/
def FIDT_HOPS (i j : Nat) : Nat := 0x1000008 + 0x40 * i + 0x20 * j
def FIDT_HOPS_HOP (i j n : Nat) : Field := ⟨(FIDT_HOPS i j), 8 * n, 7⟩
/-- R197 (05_tenants_windows_and_routing.md). -/
def FIDT_PFX_CTL (i j : Nat) : Nat := 0x7E0000 + 0x40 * i + 0x20 * j
def FIDT_PFX_CTL_VALID (i j : Nat) : Field := ⟨(FIDT_PFX_CTL i j), 0, 1⟩
def FIDT_PFX_CTL_LOCAL (i j : Nat) : Field := ⟨(FIDT_PFX_CTL i j), 1, 1⟩
def FIDT_PFX_CTL_HOST (i j : Nat) : Field := ⟨(FIDT_PFX_CTL i j), 2, 1⟩
def FIDT_PFX_CTL_SPRAY (i j : Nat) : Field := ⟨(FIDT_PFX_CTL i j), 3, 1⟩
def FIDT_PFX_CTL_NHOP (i j : Nat) : Field := ⟨(FIDT_PFX_CTL i j), 4, 3⟩
def FIDT_PFX_CTL_VC (i j : Nat) : Field := ⟨(FIDT_PFX_CTL i j), 8, 2⟩
def FIDT_PFX_CTL_VCKEEP (i j : Nat) : Field := ⟨(FIDT_PFX_CTL i j), 10, 1⟩
def FIDT_PFX_CTL_HOPLIM (i j : Nat) : Field := ⟨(FIDT_PFX_CTL i j), 16, 6⟩
def FIDT_PFX_CTL_OWNER (i j : Nat) : Field := ⟨(FIDT_PFX_CTL i j), 32, 13⟩
/-- R197 (05_tenants_windows_and_routing.md). -/
def FIDT_PFX_HOPS (i j : Nat) : Nat := 0x7E0008 + 0x40 * i + 0x20 * j
def FIDT_PFX_HOPS_HOP (i j n : Nat) : Field := ⟨(FIDT_PFX_HOPS i j), 8 * n, 7⟩
/-- R197 (05_tenants_windows_and_routing.md). -/
def FIDT_DEST (i j : Nat) : Nat := 0x1000010 + 0x40 * i + 0x20 * j
def FIDT_DEST_LPORT (i j : Nat) : Field := ⟨(FIDT_DEST i j), 0, 7⟩
def FIDT_DEST_LRID (i j : Nat) : Field := ⟨(FIDT_DEST i j), 16, 16⟩
/-- R197 (05_tenants_windows_and_routing.md). -/
def FIDT_PFX_MATCH (i j : Nat) : Nat := 0x7E0010 + 0x40 * i + 0x20 * j
def FIDT_PFX_MATCH_VALUE (i j : Nat) : Field := ⟨(FIDT_PFX_MATCH i j), 0, 16⟩
def FIDT_PFX_MATCH_LEN (i j : Nat) : Field := ⟨(FIDT_PFX_MATCH i j), 16, 5⟩
/-- R168 (05_tenants_windows_and_routing.md). -/
def TBL_PG_CFG (i : Nat) : Nat := 0x7F1000 + 0x20 * i
def TBL_PG_CFG_SLOTS (i : Nat) : Field := ⟨(TBL_PG_CFG i), 0, 8⟩
def TBL_PG_CFG_STRICT (i : Nat) : Field := ⟨(TBL_PG_CFG i), 8, 1⟩
/-- R168 (05_tenants_windows_and_routing.md). -/
def TBL_PG_CAP0 (i : Nat) : Nat := 0x7F1008 + 0x20 * i
def TBL_PG_CAP0_CELLS (i : Nat) : Field := ⟨(TBL_PG_CAP0 i), 0, 20⟩
def TBL_PG_CAP0_LDG (i : Nat) : Field := ⟨(TBL_PG_CAP0 i), 32, 19⟩
/-- R168 (05_tenants_windows_and_routing.md). -/
def TBL_PG_CAP1 (i : Nat) : Nat := 0x7F1010 + 0x20 * i
def TBL_PG_CAP1_QCTX (i : Nat) : Field := ⟨(TBL_PG_CAP1 i), 0, 17⟩
def TBL_PG_CAP1_SES (i : Nat) : Field := ⟨(TBL_PG_CAP1 i), 32, 15⟩
def TBL_PG_CAP1_DMACH (i : Nat) : Field := ⟨(TBL_PG_CAP1 i), 48, 13⟩
/-- R210 (05_tenants_windows_and_routing.md). -/
def TBL_COMMIT : Nat := 0x7F0000
def TBL_COMMIT_TENANT : Field := ⟨TBL_COMMIT, 0, 13⟩
def TBL_COMMIT_REVOKE : Field := ⟨TBL_COMMIT, 13, 1⟩
def TBL_COMMIT_ROUTE : Field := ⟨TBL_COMMIT, 14, 1⟩
/-- R210 (05_tenants_windows_and_routing.md). -/
def TBL_STS : Nat := 0x7F0008
def TBL_STS_BUSY : Field := ⟨TBL_STS, 0, 1⟩
def TBL_STS_DONE : Field := ⟨TBL_STS, 1, 1⟩
def TBL_STS_REJ : Field := ⟨TBL_STS, 2, 1⟩
def TBL_STS_LOST : Field := ⟨TBL_STS, 3, 1⟩
def TBL_STS_INUSE : Field := ⟨TBL_STS, 4, 1⟩
def TBL_STS_DRAINED : Field := ⟨TBL_STS, 5, 1⟩
def TBL_STS_RCODE : Field := ⟨TBL_STS, 8, 4⟩
def TBL_STS_TENANT : Field := ⟨TBL_STS, 16, 13⟩
def TBL_STS_ROUTE : Field := ⟨TBL_STS, 29, 1⟩
def TBL_STS_ENTRY : Field := ⟨TBL_STS, 32, 16⟩
def TBL_STS_OTHER : Field := ⟨TBL_STS, 48, 16⟩
/-- R210 (05_tenants_windows_and_routing.md). -/
def TBL_DRAIN : Nat := 0x7F0010
def TBL_DRAIN_TENANT : Field := ⟨TBL_DRAIN, 0, 13⟩
def TBL_DRAIN_ROUTE : Field := ⟨TBL_DRAIN, 13, 1⟩
def TBL_DRAIN_EMPTY : Field := ⟨TBL_DRAIN, 14, 1⟩
def TBL_DRAIN_COUNT : Field := ⟨TBL_DRAIN, 32, 19⟩
/-- R210 (05_tenants_windows_and_routing.md). -/
def TBL_SYNC : Nat := 0x7F0018
def TBL_SYNC_TENANT : Field := ⟨TBL_SYNC, 0, 13⟩
def TBL_SYNC_ROUTE : Field := ⟨TBL_SYNC, 13, 1⟩
/-- R210 (05_tenants_windows_and_routing.md). -/
def TBL_CFG : Nat := 0x7F0020
def TBL_CFG_DIE : Field := ⟨TBL_CFG, 0, 1⟩
/-- R210 (05_tenants_windows_and_routing.md). -/
def TBL_RVER : Nat := 0x7F0038
def TBL_RVER_VER : Field := ⟨TBL_RVER, 0, 1⟩
/-- R173 (05_tenants_windows_and_routing.md). -/
def TBL_HB : Nat := 0x7F0028
def TBL_HB_PERIOD : Field := ⟨TBL_HB, 0, 32⟩
def TBL_HB_EN : Field := ⟨TBL_HB, 32, 1⟩
/-- R173 (05_tenants_windows_and_routing.md). -/
def TBL_FB : Nat := 0x7F0030
def TBL_FB_ACTIVE : Field := ⟨TBL_FB, 0, 1⟩
def TBL_FB_ENTER : Field := ⟨TBL_FB, 1, 1⟩
def TBL_FB_EXIT : Field := ⟨TBL_FB, 2, 1⟩
def TBL_FB_CAUSE : Field := ⟨TBL_FB, 3, 1⟩
/-- R173 (05_tenants_windows_and_routing.md). -/
def TBL_HB_KICK : Nat := 0x7F0040
def TBL_HB_KICK_KICK : Field := ⟨TBL_HB_KICK, 0, 64⟩
/-- R210 (05_tenants_windows_and_routing.md). -/
def TBL_ACTV (i : Nat) : Nat := 0x7F0100 + 8 * i
def TBL_ACTV_VERS (i : Nat) : Field := ⟨(TBL_ACTV i), 0, 64⟩
/-- R465 (11_pcie_and_cxl_ports.md). -/
def PRT_LCTL (i : Nat) : Nat := 0x400000 + 0x4000 * i
def PRT_LCTL_MAXRATE (i : Nat) : Field := ⟨(PRT_LCTL i), 0, 3⟩
def PRT_LCTL_TRAIN (i : Nat) : Field := ⟨(PRT_LCTL i), 3, 1⟩
def PRT_LCTL_CXL (i : Nat) : Field := ⟨(PRT_LCTL i), 4, 1⟩
def PRT_LCTL_FLITLO (i : Nat) : Field := ⟨(PRT_LCTL i), 5, 1⟩
def PRT_LCTL_SRIS (i : Nat) : Field := ⟨(PRT_LCTL i), 6, 1⟩
def PRT_LCTL_L0PEN (i : Nat) : Field := ⟨(PRT_LCTL i), 7, 1⟩
def PRT_LCTL_L1EN (i : Nat) : Field := ⟨(PRT_LCTL i), 8, 1⟩
def PRT_LCTL_PERSTEN (i : Nat) : Field := ⟨(PRT_LCTL i), 9, 1⟩
def PRT_LCTL_PERSTSEL (i : Nat) : Field := ⟨(PRT_LCTL i), 10, 5⟩
/-- R466 (11_pcie_and_cxl_ports.md). -/
def PRT_LSTS (i : Nat) : Nat := 0x400008 + 0x4000 * i
def PRT_LSTS_UP (i : Nat) : Field := ⟨(PRT_LSTS i), 0, 1⟩
def PRT_LSTS_RATE (i : Nat) : Field := ⟨(PRT_LSTS i), 1, 3⟩
def PRT_LSTS_WIDTH (i : Nat) : Field := ⟨(PRT_LSTS i), 4, 5⟩
def PRT_LSTS_FLIT (i : Nat) : Field := ⟨(PRT_LSTS i), 9, 1⟩
def PRT_LSTS_CXL (i : Nat) : Field := ⟨(PRT_LSTS i), 10, 1⟩
def PRT_LSTS_REV (i : Nat) : Field := ⟨(PRT_LSTS i), 11, 1⟩
def PRT_LSTS_L0P (i : Nat) : Field := ⟨(PRT_LSTS i), 12, 1⟩
def PRT_LSTS_LTSSM (i : Nat) : Field := ⟨(PRT_LSTS i), 16, 4⟩
def PRT_LSTS_CONT (i : Nat) : Field := ⟨(PRT_LSTS i), 20, 1⟩
def PRT_LSTS_WERR (i : Nat) : Field := ⟨(PRT_LSTS i), 21, 1⟩
def PRT_LSTS_DOWNS (i : Nat) : Field := ⟨(PRT_LSTS i), 32, 16⟩
/-- R467 (11_pcie_and_cxl_ports.md). -/
def PRT_EQ (i : Nat) : Nat := 0x400010 + 0x4000 * i
def PRT_EQ_DTX (i n : Nat) : Field := ⟨(PRT_EQ i), 4 * n, 4⟩
def PRT_EQ_UTX (i n : Nat) : Field := ⟨(PRT_EQ i), 32 + 4 * n, 4⟩
def PRT_EQ_BYPASS (i : Nat) : Field := ⟨(PRT_EQ i), 56, 1⟩
def PRT_EQ_NOEQ (i : Nat) : Field := ⟨(PRT_EQ i), 57, 1⟩
def PRT_EQ_PH3 (i : Nat) : Field := ⟨(PRT_EQ i), 58, 1⟩
/-- R484 (11_pcie_and_cxl_ports.md). -/
def PRT_RST (i : Nat) : Nat := 0x400018 + 0x4000 * i
def PRT_RST_HOTRST (i : Nat) : Field := ⟨(PRT_RST i), 0, 1⟩
def PRT_RST_LDIS (i : Nat) : Field := ⟨(PRT_RST i), 1, 1⟩
def PRT_RST_DPCTRIG (i : Nat) : Field := ⟨(PRT_RST i), 2, 1⟩
def PRT_RST_DPCREL (i : Nat) : Field := ⟨(PRT_RST i), 3, 1⟩
/-- R175 (05_tenants_windows_and_routing.md). -/
def PRT_CTX (i : Nat) : Nat := 0x400080 + 0x4000 * i
def PRT_CTX_ROLE (i : Nat) : Field := ⟨(PRT_CTX i), 0, 2⟩
def PRT_CTX_MGMT (i : Nat) : Field := ⟨(PRT_CTX i), 2, 1⟩
def PRT_CTX_VS (i : Nat) : Field := ⟨(PRT_CTX i), 8, 7⟩
def PRT_CTX_TENANT (i : Nat) : Field := ⟨(PRT_CTX i), 16, 13⟩
def PRT_CTX_OWNRID (i : Nat) : Field := ⟨(PRT_CTX i), 32, 16⟩
def PRT_CTX_PFID (i : Nat) : Field := ⟨(PRT_CTX i), 48, 16⟩
/-- R177 (05_tenants_windows_and_routing.md). -/
def PRT_FIDMAP (i : Nat) : Nat := 0x400088 + 0x4000 * i
def PRT_FIDMAP_RIDBASE (i : Nat) : Field := ⟨(PRT_FIDMAP i), 0, 16⟩
def PRT_FIDMAP_COUNTM1 (i : Nat) : Field := ⟨(PRT_FIDMAP i), 16, 12⟩
def PRT_FIDMAP_FIDBASE (i : Nat) : Field := ⟨(PRT_FIDMAP i), 32, 16⟩
/-- R205 (05_tenants_windows_and_routing.md). -/
def PRT_BRG_TOF (i : Nat) : Nat := 0x400090 + 0x4000 * i
def PRT_BRG_TOF_CELLS (i n : Nat) : Field := ⟨(PRT_BRG_TOF i), 16 * n, 16⟩
/-- R205 (05_tenants_windows_and_routing.md). -/
def PRT_BRG_FRF (i : Nat) : Nat := 0x400098 + 0x4000 * i
def PRT_BRG_FRF_CELLS (i n : Nat) : Field := ⟨(PRT_BRG_FRF i), 16 * n, 16⟩
/-- R283 (07_shared_buffer.md). -/
def PRT_BUFDT (i : Nat) : Nat := 0x4000A0 + 0x4000 * i
def PRT_BUFDT_ALPHA (i n : Nat) : Field := ⟨(PRT_BUFDT i), 4 * n, 4⟩
/-- R283 (07_shared_buffer.md). -/
def PRT_NRSV (i : Nat) : Nat := 0x4000A8 + 0x4000 * i
def PRT_NRSV_VC (i n : Nat) : Field := ⟨(PRT_NRSV i), 12 * n, 12⟩
def PRT_NRSV_C (i : Nat) : Field := ⟨(PRT_NRSV i), 48, 8⟩
/-- R470 (11_pcie_and_cxl_ports.md). -/
def PRT_LDMAP (i : Nat) : Nat := 0x4000B0 + 0x4000 * i
def PRT_LDMAP_LDFID (i : Nat) : Field := ⟨(PRT_LDMAP i), 0, 16⟩
def PRT_LDMAP_LDCNTM1 (i : Nat) : Field := ⟨(PRT_LDMAP i), 16, 4⟩
def PRT_LDMAP_V (i : Nat) : Field := ⟨(PRT_LDMAP i), 20, 1⟩
/-- R538 (12_transaction_ledger_and_containment.md). -/
def PRT_LDGRSV (i : Nat) : Nat := 0x4000B8 + 0x4000 * i
def PRT_LDGRSV_P (i : Nat) : Field := ⟨(PRT_LDGRSV i), 0, 16⟩
def PRT_LDGRSV_NP (i : Nat) : Field := ⟨(PRT_LDGRSV i), 16, 16⟩
/-- R538 (12_transaction_ledger_and_containment.md). -/
def PRT_TAGSTS (i : Nat) : Nat := 0x4000C0 + 0x4000 * i
def PRT_TAGSTS_OPEN (i : Nat) : Field := ⟨(PRT_TAGSTS i), 0, 16⟩
def PRT_TAGSTS_QUAR (i : Nat) : Field := ⟨(PRT_TAGSTS i), 16, 16⟩
/-- R184 (05_tenants_windows_and_routing.md). -/
def PRT_VDP_B0 (i j : Nat) : Nat := 0x402000 + 0x4000 * i + 0x10 * j
def PRT_VDP_B0_VALID (i j : Nat) : Field := ⟨(PRT_VDP_B0 i j), 0, 1⟩
def PRT_VDP_B0_KIND (i j : Nat) : Field := ⟨(PRT_VDP_B0 i j), 1, 2⟩
def PRT_VDP_B0_LPORT (i j : Nat) : Field := ⟨(PRT_VDP_B0 i j), 8, 7⟩
def PRT_VDP_B0_FID (i j : Nat) : Field := ⟨(PRT_VDP_B0 i j), 16, 16⟩
def PRT_VDP_B0_FNCNT (i j : Nat) : Field := ⟨(PRT_VDP_B0 i j), 32, 8⟩
/-- R184 (05_tenants_windows_and_routing.md). -/
def PRT_VDP_B1 (i j : Nat) : Nat := 0x402008 + 0x4000 * i + 0x10 * j
def PRT_VDP_B1_SPC (i j : Nat) : Field := ⟨(PRT_VDP_B1 i j), 0, 5⟩
def PRT_VDP_B1_SPCV (i j : Nat) : Field := ⟨(PRT_VDP_B1 i j), 5, 1⟩
/-- R475 (11_pcie_and_cxl_ports.md). -/
def PRT_VDL (i j : Nat) : Nat := 0x403000 + 0x4000 * i + 8 * j
def PRT_VDL_SPEED (i j : Nat) : Field := ⟨(PRT_VDL i j), 0, 4⟩
def PRT_VDL_WIDTH (i j : Nat) : Field := ⟨(PRT_VDL i j), 4, 6⟩
def PRT_VDL_GONE (i j : Nat) : Field := ⟨(PRT_VDL i j), 16, 1⟩
/-- R223 (06_header_pipelines.md). -/
def HPL_CTXSEL (i j : Nat) : Nat := 0x600000 + 0x4000 * i + 8 * j
def HPL_CTXSEL_SLOT (i j : Nat) : Field := ⟨(HPL_CTXSEL i j), 0, 4⟩
def HPL_CTXSEL_PVER (i j : Nat) : Field := ⟨(HPL_CTXSEL i j), 8, 1⟩
def HPL_CTXSEL_EN (i j : Nat) : Field := ⟨(HPL_CTXSEL i j), 9, 1⟩
def HPL_CTXSEL_HALF (i j : Nat) : Field := ⟨(HPL_CTXSEL i j), 10, 1⟩
/-- R223 (06_header_pipelines.md). -/
def HPL_CTXCNT (i j : Nat) : Nat := 0x600100 + 0x4000 * i + 8 * j
def HPL_CTXCNT_BASE (i j : Nat) : Field := ⟨(HPL_CTXCNT i j), 0, 22⟩
def HPL_CTXCNT_LEN (i j : Nat) : Field := ⟨(HPL_CTXCNT i j), 32, 16⟩
/-- R262 (06_header_pipelines.md). -/
def HPL_PCOMMIT (i : Nat) : Nat := 0x601000 + 0x4000 * i
def HPL_PCOMMIT_MASK (i : Nat) : Field := ⟨(HPL_PCOMMIT i), 0, 32⟩
/-- R263 (06_header_pipelines.md). -/
def HPL_PSTS (i : Nat) : Nat := 0x601008 + 0x4000 * i
def HPL_PSTS_BUSY (i : Nat) : Field := ⟨(HPL_PSTS i), 0, 1⟩
def HPL_PSTS_DONE (i : Nat) : Field := ⟨(HPL_PSTS i), 1, 1⟩
def HPL_PSTS_REJ (i : Nat) : Field := ⟨(HPL_PSTS i), 2, 1⟩
def HPL_PSTS_LOST (i : Nat) : Field := ⟨(HPL_PSTS i), 3, 1⟩
def HPL_PSTS_INUSE (i : Nat) : Field := ⟨(HPL_PSTS i), 4, 1⟩
def HPL_PSTS_DRAINED (i : Nat) : Field := ⟨(HPL_PSTS i), 5, 1⟩
def HPL_PSTS_RCODE (i : Nat) : Field := ⟨(HPL_PSTS i), 8, 4⟩
def HPL_PSTS_STAGE (i : Nat) : Field := ⟨(HPL_PSTS i), 12, 4⟩
def HPL_PSTS_BSLOT (i : Nat) : Field := ⟨(HPL_PSTS i), 16, 2⟩
def HPL_PSTS_CTX (i : Nat) : Field := ⟨(HPL_PSTS i), 18, 5⟩
def HPL_PSTS_DRAIN (i : Nat) : Field := ⟨(HPL_PSTS i), 32, 16⟩
/-- R258 (06_header_pipelines.md). -/
def HPL_TVERD (i : Nat) : Nat := 0x601018 + 0x4000 * i
def HPL_TVERD_SLOT (i : Nat) : Field := ⟨(HPL_TVERD i), 0, 6⟩
def HPL_TVERD_KIND (i : Nat) : Field := ⟨(HPL_TVERD i), 6, 2⟩
def HPL_TVERD_MOD (i : Nat) : Field := ⟨(HPL_TVERD i), 8, 3⟩
def HPL_TVERD_OPER (i : Nat) : Field := ⟨(HPL_TVERD i), 16, 16⟩
def HPL_TVERD_MSES (i : Nat) : Field := ⟨(HPL_TVERD i), 32, 4⟩
def HPL_TVERD_POLIDX (i : Nat) : Field := ⟨(HPL_TVERD i), 36, 16⟩
def HPL_TVERD_POLV (i : Nat) : Field := ⟨(HPL_TVERD i), 52, 1⟩
/-- R259 (06_header_pipelines.md). -/
def HPL_TSTS (i : Nat) : Nat := 0x601020 + 0x4000 * i
def HPL_TSTS_OCC (i : Nat) : Field := ⟨(HPL_TSTS i), 0, 32⟩
def HPL_TSTS_BADV (i : Nat) : Field := ⟨(HPL_TSTS i), 63, 1⟩
/-- R259 (06_header_pipelines.md). -/
def HPL_TSTS2 (i : Nat) : Nat := 0x601028 + 0x4000 * i
def HPL_TSTS2_OCC (i : Nat) : Field := ⟨(HPL_TSTS2 i), 0, 32⟩
/-- R226 (06_header_pipelines.md). -/
def HPL_ERRCNT (i : Nat) : Nat := 0x601030 + 0x4000 * i
def HPL_ERRCNT_CINCOOR (i : Nat) : Field := ⟨(HPL_ERRCNT i), 0, 16⟩
def HPL_ERRCNT_NOEMIT (i : Nat) : Field := ⟨(HPL_ERRCNT i), 16, 16⟩
def HPL_ERRCNT_QCTX0 (i : Nat) : Field := ⟨(HPL_ERRCNT i), 32, 16⟩
/-- R257 (06_header_pipelines.md). -/
def HPL_TMETA (i j k : Nat) : Nat := 0x601800 + 0x4000 * i + 0x20 * j + 8 * k
def HPL_TMETA_WORD (i j k : Nat) : Field := ⟨(HPL_TMETA i j k), 0, 64⟩
/-- R261 (06_header_pipelines.md). -/
def HPL_PROG (i j k : Nat) : Nat := 0x602000 + 0x4000 * i + 0x200 * j + 8 * k
def HPL_PROG_PAIR (i j k : Nat) : Field := ⟨(HPL_PROG i j k), 0, 64⟩
/-- R248 (06_header_pipelines.md). -/
def HPL_KMASK : Nat := 0x6C0000
def HPL_KMASK_MASK : Field := ⟨HPL_KMASK, 0, 64⟩
/-- R248 (06_header_pipelines.md). -/
def HPL_HASHK : Nat := 0x6C0008
def HPL_HASHK_KEY : Field := ⟨HPL_HASHK, 0, 64⟩
/-- R248 (06_header_pipelines.md). -/
def HPL_HASHR : Nat := 0x6C0010
def HPL_HASHR_RESULT : Field := ⟨HPL_HASHR, 0, 64⟩
/-- R248 (06_header_pipelines.md). -/
def HPL_TAPR : Nat := 0x6C0018
def HPL_TAPR_BASE : Field := ⟨HPL_TAPR, 16, 9⟩
/-- R248 (06_header_pipelines.md). -/
def HPL_HSEED : Nat := 0x6C0020
def HPL_HSEED_SEED : Field := ⟨HPL_HSEED, 0, 64⟩
/-- R248 (06_header_pipelines.md). -/
def HPL_HASHK2 : Nat := 0x6C0028
def HPL_HASHK2_KEY : Field := ⟨HPL_HASHK2, 0, 64⟩
/-- R243 (06_header_pipelines.md). -/
def HPL_FTBL (i : Nat) : Nat := 0x6C0100 + 8 * i
def HPL_FTBL_KIND (i : Nat) : Field := ⟨(HPL_FTBL i), 0, 3⟩
def HPL_FTBL_KLENM1 (i : Nat) : Field := ⟨(HPL_FTBL i), 4, 4⟩
def HPL_FTBL_LOGSZ (i : Nat) : Field := ⟨(HPL_FTBL i), 12, 4⟩
def HPL_FTBL_BASE (i : Nat) : Field := ⟨(HPL_FTBL i), 16, 19⟩
/-- R248 (06_header_pipelines.md). -/
def HPL_FENCE (i : Nat) : Nat := 0x6C1000 + 8 * i
def HPL_FENCE_FENCE (i : Nat) : Field := ⟨(HPL_FENCE i), 0, 64⟩
/-- R247 (06_header_pipelines.md). -/
def HPL_UMSEL : Nat := 0x6C2000
def HPL_UMSEL_TABLE : Field := ⟨HPL_UMSEL, 0, 6⟩
def HPL_UMSEL_GROUP : Field := ⟨HPL_UMSEL, 16, 16⟩
/-- R248 (06_header_pipelines.md). -/
def HPL_UMDATA : Nat := 0x6C2008
def HPL_UMDATA_MARKS : Field := ⟨HPL_UMDATA, 0, 64⟩
/-- R284 (07_shared_buffer.md). -/
def BUF_CFG : Nat := 0x17F0000
def BUF_CFG_AGELIM : Field := ⟨BUF_CFG, 0, 15⟩
def BUF_CFG_AGEEN : Field := ⟨BUF_CFG, 15, 1⟩
def BUF_CFG_UNDR : Field := ⟨BUF_CFG, 16, 12⟩
def BUF_CFG_RPTQ : Field := ⟨BUF_CFG, 32, 6⟩
def BUF_CFG_RPTQV : Field := ⟨BUF_CFG, 38, 1⟩
/-- R284 (07_shared_buffer.md). -/
def BUF_CRANK : Nat := 0x17F0008
def BUF_CRANK_RANK (n : Nat) : Field := ⟨BUF_CRANK, 3 * n, 3⟩
/-- R284 (07_shared_buffer.md). -/
def BUF_STS : Nat := 0x17F0010
def BUF_STS_FREE : Field := ⟨BUF_STS, 0, 20⟩
def BUF_STS_SHARED : Field := ⟨BUF_STS, 20, 20⟩
def BUF_STS_RSVFAIL : Field := ⟨BUF_STS, 40, 1⟩
def BUF_STS_RSVPORT : Field := ⟨BUF_STS, 41, 7⟩
def BUF_STS_ECCU : Field := ⟨BUF_STS, 48, 1⟩
/-- R284 (07_shared_buffer.md). -/
def BUF_RSV : Nat := 0x17F0018
def BUF_RSV_PORTRSV : Field := ⟨BUF_RSV, 0, 20⟩
def BUF_RSV_TNTRSV : Field := ⟨BUF_RSV, 20, 20⟩
/-- R305 (07_shared_buffer.md). -/
def MIR_SES_CTL (i : Nat) : Nat := 0x1E00000 + 0x40 * i
def MIR_SES_CTL_EN (i : Nat) : Field := ⟨(MIR_SES_CTL i), 0, 1⟩
def MIR_SES_CTL_DEST (i : Nat) : Field := ⟨(MIR_SES_CTL i), 1, 1⟩
def MIR_SES_CTL_PORT (i : Nat) : Field := ⟨(MIR_SES_CTL i), 4, 7⟩
def MIR_SES_CTL_TRUNC (i : Nat) : Field := ⟨(MIR_SES_CTL i), 16, 8⟩
def MIR_SES_CTL_CLASS (i : Nat) : Field := ⟨(MIR_SES_CTL i), 24, 4⟩
def MIR_SES_CTL_VC (i : Nat) : Field := ⟨(MIR_SES_CTL i), 28, 2⟩
def MIR_SES_CTL_DFID (i : Nat) : Field := ⟨(MIR_SES_CTL i), 32, 16⟩
def MIR_SES_CTL_SFID (i : Nat) : Field := ⟨(MIR_SES_CTL i), 48, 16⟩
/-- R305 (07_shared_buffer.md). -/
def MIR_SES_LIM (i : Nat) : Nat := 0x1E00008 + 0x40 * i
def MIR_SES_LIM_MAXC (i : Nat) : Field := ⟨(MIR_SES_LIM i), 0, 20⟩
/-- R305 (07_shared_buffer.md). -/
def MIR_SES_CNT (i : Nat) : Nat := 0x1E00010 + 0x40 * i
def MIR_SES_CNT_COPIES (i : Nat) : Field := ⟨(MIR_SES_CNT i), 0, 32⟩
def MIR_SES_CNT_LOST (i : Nat) : Field := ⟨(MIR_SES_CNT i), 32, 32⟩
/-- R305 (07_shared_buffer.md). -/
def MIR_SES_SKIP (i : Nat) : Nat := 0x1E00018 + 0x40 * i
def MIR_SES_SKIP_NOMIR (i : Nat) : Field := ⟨(MIR_SES_SKIP i), 0, 32⟩
/-- R305 (07_shared_buffer.md). -/
def MIR_PSRC (i : Nat) : Nat := 0x1E01000 + 8 * i
def MIR_PSRC_ISES (i : Nat) : Field := ⟨(MIR_PSRC i), 0, 4⟩
def MIR_PSRC_IEN (i : Nat) : Field := ⟨(MIR_PSRC i), 4, 1⟩
def MIR_PSRC_ESES (i : Nat) : Field := ⟨(MIR_PSRC i), 8, 4⟩
def MIR_PSRC_EEN (i : Nat) : Field := ⟨(MIR_PSRC i), 12, 1⟩
/-- R311 (07_shared_buffer.md). -/
def GLN_CFG : Nat := 0x1E10000
def GLN_CFG_EN : Field := ⟨GLN_CFG, 0, 1⟩
def GLN_CFG_HOST : Field := ⟨GLN_CFG, 1, 1⟩
def GLN_CFG_STOPFULL : Field := ⟨GLN_CFG, 2, 1⟩
def GLN_CFG_LOGREC : Field := ⟨GLN_CFG, 8, 5⟩
def GLN_CFG_APR : Field := ⟨GLN_CFG, 16, 4⟩
/-- R311 (07_shared_buffer.md). -/
def GLN_HBASE : Nat := 0x1E10008
def GLN_HBASE_BASE : Field := ⟨GLN_HBASE, 12, 52⟩
/-- R311 (07_shared_buffer.md). -/
def GLN_PROD : Nat := 0x1E10010
def GLN_PROD_PROD : Field := ⟨GLN_PROD, 0, 32⟩
/-- R311 (07_shared_buffer.md). -/
def GLN_CONS : Nat := 0x1E10018
def GLN_CONS_CONS : Field := ⟨GLN_CONS, 0, 32⟩
/-- R311 (07_shared_buffer.md). -/
def GLN_LOST : Nat := 0x1E10020
def GLN_LOST_LOST : Field := ⟨GLN_LOST, 0, 32⟩
/-- R320 (08_egress_scheduling.md). -/
def SCH_Q_CFG (i : Nat) : Nat := 0x1400000 + 0x20 * i
def SCH_Q_CFG_EN (i : Nat) : Field := ⟨(SCH_Q_CFG i), 0, 1⟩
def SCH_Q_CFG_PORT (i : Nat) : Field := ⟨(SCH_Q_CFG i), 1, 7⟩
def SCH_Q_CFG_CLASS (i : Nat) : Field := ⟨(SCH_Q_CFG i), 8, 4⟩
def SCH_Q_CFG_TENANT (i : Nat) : Field := ⟨(SCH_Q_CFG i), 12, 13⟩
def SCH_Q_CFG_WEIGHT (i : Nat) : Field := ⟨(SCH_Q_CFG i), 32, 16⟩
/-- R320 (08_egress_scheduling.md). -/
def SCH_Q_SHP (i : Nat) : Nat := 0x1400008 + 0x20 * i
def SCH_Q_SHP_SHP (i : Nat) : Field := ⟨(SCH_Q_SHP i), 0, 14⟩
def SCH_Q_SHP_SHPV (i : Nat) : Field := ⟨(SCH_Q_SHP i), 16, 1⟩
/-- R320 (08_egress_scheduling.md). -/
def SCH_Q_STS (i : Nat) : Nat := 0x1400010 + 0x20 * i
def SCH_Q_STS_CELLS (i : Nat) : Field := ⟨(SCH_Q_STS i), 0, 20⟩
def SCH_Q_STS_PKTS (i : Nat) : Field := ⟨(SCH_Q_STS i), 20, 16⟩
def SCH_Q_STS_ACTIVE (i : Nat) : Field := ⟨(SCH_Q_STS i), 36, 1⟩
def SCH_Q_STS_BLOCKED (i : Nat) : Field := ⟨(SCH_Q_STS i), 37, 1⟩
def SCH_Q_STS_BCAUSE (i : Nat) : Field := ⟨(SCH_Q_STS i), 38, 2⟩
/-- R324 (08_egress_scheduling.md). -/
def SCH_STS : Nat := 0x17E0000
def SCH_STS_QREJ : Field := ⟨SCH_STS, 0, 1⟩
def SCH_STS_INUSE : Field := ⟨SCH_STS, 1, 1⟩
def SCH_STS_CALREJ : Field := ⟨SCH_STS, 2, 1⟩
def SCH_STS_LENREJ : Field := ⟨SCH_STS, 3, 1⟩
def SCH_STS_QREJQ : Field := ⟨SCH_STS, 16, 16⟩
def SCH_STS_CALPORT : Field := ⟨SCH_STS, 32, 7⟩
def SCH_STS_LENPORT : Field := ⟨SCH_STS, 40, 7⟩
/-- R325 (08_egress_scheduling.md). -/
def SCH_PRT_LEN (i : Nat) : Nat := 0x1700000 + 0x100 * i
def SCH_PRT_LEN_MODE (i : Nat) : Field := ⟨(SCH_PRT_LEN i), 0, 1⟩
def SCH_PRT_LEN_ADD (i : Nat) : Field := ⟨(SCH_PRT_LEN i), 8, 8⟩
def SCH_PRT_LEN_SCALE (i : Nat) : Field := ⟨(SCH_PRT_LEN i), 16, 16⟩
def SCH_PRT_LEN_UNIT (i : Nat) : Field := ⟨(SCH_PRT_LEN i), 32, 8⟩
def SCH_PRT_LEN_UNITW (i : Nat) : Field := ⟨(SCH_PRT_LEN i), 40, 10⟩
/-- R325 (08_egress_scheduling.md). -/
def SCH_PRT_LVL (i : Nat) : Nat := 0x1700008 + 0x100 * i
def SCH_PRT_LVL_LEVEL (i n : Nat) : Field := ⟨(SCH_PRT_LVL i), 2 * n, 2⟩
/-- R325 (08_egress_scheduling.md). -/
def SCH_PRT_CW0 (i : Nat) : Nat := 0x1700010 + 0x100 * i
def SCH_PRT_CW0_WEIGHT (i n : Nat) : Field := ⟨(SCH_PRT_CW0 i), 16 * n, 16⟩
/-- R325 (08_egress_scheduling.md). -/
def SCH_PRT_CW1 (i : Nat) : Nat := 0x1700018 + 0x100 * i
def SCH_PRT_CW1_WEIGHT (i n : Nat) : Field := ⟨(SCH_PRT_CW1 i), 16 * n, 16⟩
/-- R325 (08_egress_scheduling.md). -/
def SCH_PRT_CAL (i : Nat) : Nat := 0x1700020 + 0x100 * i
def SCH_PRT_CAL_EN (i : Nat) : Field := ⟨(SCH_PRT_CAL i), 0, 1⟩
def SCH_PRT_CAL_GROUP (i : Nat) : Field := ⟨(SCH_PRT_CAL i), 1, 6⟩
def SCH_PRT_CAL_SLOTW (i : Nat) : Field := ⟨(SCH_PRT_CAL i), 8, 12⟩
def SCH_PRT_CAL_PERIOD (i : Nat) : Field := ⟨(SCH_PRT_CAL i), 32, 32⟩
/-- R325 (08_egress_scheduling.md). -/
def SCH_PRT_CSTS (i : Nat) : Nat := 0x1700028 + 0x100 * i
def SCH_PRT_CSTS_CQ (i : Nat) : Field := ⟨(SCH_PRT_CSTS i), 0, 16⟩
/-- R335 (08_egress_scheduling.md). -/
def SCH_SLOT (i j : Nat) : Nat := 0x1710000 + 0x800 * i + 8 * j
def SCH_SLOT_TENANT (i j : Nat) : Field := ⟨(SCH_SLOT i j), 0, 13⟩
def SCH_SLOT_V (i j : Nat) : Field := ⟨(SCH_SLOT i j), 15, 1⟩
/-- R344 (08_egress_scheduling.md). -/
def SHP_CFG (i : Nat) : Nat := 0x1600000 + 0x20 * i
def SHP_CFG_RATE (i : Nat) : Field := ⟨(SHP_CFG i), 0, 24⟩
def SHP_CFG_EN (i : Nat) : Field := ⟨(SHP_CFG i), 24, 1⟩
def SHP_CFG_BURST (i : Nat) : Field := ⟨(SHP_CFG i), 32, 32⟩
/-- R344 (08_egress_scheduling.md). -/
def SHP_TOK (i : Nat) : Nat := 0x1600008 + 0x20 * i
def SHP_TOK_TOKENS (i : Nat) : Field := ⟨(SHP_TOK i), 0, 64⟩
/-- R344 (08_egress_scheduling.md). -/
def SHP_STS (i : Nat) : Nat := 0x1600010 + 0x20 * i
def SHP_STS_PEND (i : Nat) : Field := ⟨(SHP_STS i), 0, 1⟩
/-- R350 (08_egress_scheduling.md). -/
def POL_RATE (i : Nat) : Nat := 0x1680000 + 0x20 * i
def POL_RATE_CIR (i : Nat) : Field := ⟨(POL_RATE i), 0, 24⟩
def POL_RATE_EN (i : Nat) : Field := ⟨(POL_RATE i), 24, 1⟩
def POL_RATE_PIR (i : Nat) : Field := ⟨(POL_RATE i), 32, 24⟩
/-- R350 (08_egress_scheduling.md). -/
def POL_BURST (i : Nat) : Nat := 0x1680008 + 0x20 * i
def POL_BURST_CBS (i : Nat) : Field := ⟨(POL_BURST i), 0, 32⟩
def POL_BURST_PBS (i : Nat) : Field := ⟨(POL_BURST i), 32, 32⟩
/-- R350 (08_egress_scheduling.md). -/
def POL_ACT (i : Nat) : Nat := 0x1680010 + 0x20 * i
def POL_ACT_YACT (i : Nat) : Field := ⟨(POL_ACT i), 0, 2⟩
def POL_ACT_RACT (i : Nat) : Field := ⟨(POL_ACT i), 2, 2⟩
def POL_ACT_RSN (i : Nat) : Field := ⟨(POL_ACT i), 8, 8⟩
/-- R350 (08_egress_scheduling.md). -/
def POL_CNT (i : Nat) : Nat := 0x1680018 + 0x20 * i
def POL_CNT_YEL (i : Nat) : Field := ⟨(POL_CNT i), 0, 32⟩
def POL_CNT_RED (i : Nat) : Field := ⟨(POL_CNT i), 32, 32⟩
/-- R402 (09_fabric_link_phy.md). -/
def PHY_CTL (i : Nat) : Nat := 0x100000 + 0x10000 * i
def PHY_CTL_MODE (i : Nat) : Field := ⟨(PHY_CTL i), 0, 2⟩
def PHY_CTL_PRECODE (i : Nat) : Field := ⟨(PHY_CTL i), 2, 1⟩
def PHY_CTL_TRAIN (i : Nat) : Field := ⟨(PHY_CTL i), 3, 1⟩
def PHY_CTL_HALF (i : Nat) : Field := ⟨(PHY_CTL i), 4, 1⟩
/-- R402 (09_fabric_link_phy.md). -/
def PHY_STS (i : Nat) : Nat := 0x100008 + 0x10000 * i
def PHY_STS_STATE (i : Nat) : Field := ⟨(PHY_STS i), 0, 3⟩
def PHY_STS_WIDTH (i : Nat) : Field := ⟨(PHY_STS i), 4, 2⟩
def PHY_STS_PRECODE (i : Nat) : Field := ⟨(PHY_STS i), 6, 1⟩
def PHY_STS_LOCK (i : Nat) : Field := ⟨(PHY_STS i), 7, 1⟩
def PHY_STS_SROLE (i : Nat) : Field := ⟨(PHY_STS i), 8, 4⟩
def PHY_STS_PNODE (i : Nat) : Field := ⟨(PHY_STS i), 12, 12⟩
def PHY_STS_COMPAT (i : Nat) : Field := ⟨(PHY_STS i), 24, 1⟩
def PHY_STS_SRMIS (i : Nat) : Field := ⟨(PHY_STS i), 25, 1⟩
def PHY_STS_LOCKLOSS (i : Nat) : Field := ⟨(PHY_STS i), 32, 16⟩
/-- R402 (09_fabric_link_phy.md). -/
def PHY_SUB (i : Nat) : Nat := 0x100010 + 0x10000 * i
def PHY_SUB_TARGET (i : Nat) : Field := ⟨(PHY_SUB i), 0, 4⟩
def PHY_SUB_GO (i : Nat) : Field := ⟨(PHY_SUB i), 4, 1⟩
def PHY_SUB_STATE (i : Nat) : Field := ⟨(PHY_SUB i), 5, 3⟩
def PHY_SUB_BUSY (i : Nat) : Field := ⟨(PHY_SUB i), 8, 1⟩
/-- R402 (09_fabric_link_phy.md). -/
def PHY_TXEQ (i : Nat) : Nat := 0x100018 + 0x10000 * i
def PHY_TXEQ_PRE (i : Nat) : Field := ⟨(PHY_TXEQ i), 0, 5⟩
def PHY_TXEQ_POST (i : Nat) : Field := ⟨(PHY_TXEQ i), 8, 5⟩
/-- R402 (09_fabric_link_phy.md). -/
def FEC_CW (i : Nat) : Nat := 0x100020 + 0x10000 * i
def FEC_CW_CORR (i : Nat) : Field := ⟨(FEC_CW i), 0, 32⟩
def FEC_CW_UNCORR (i : Nat) : Field := ⟨(FEC_CW i), 32, 32⟩
/-- R463 (11_pcie_and_cxl_ports.md). -/
def OCT_BIF (i : Nat) : Nat := 0x100030 + 0x10000 * i
def OCT_BIF_CODE (i : Nat) : Field := ⟨(OCT_BIF i), 0, 3⟩
/-- R402 (09_fabric_link_phy.md). -/
def FEC_SYM (i j : Nat) : Nat := 0x100040 + 0x10000 * i + 8 * j
def FEC_SYM_SYM (i j : Nat) : Field := ⟨(FEC_SYM i j), 0, 32⟩
/-- R402 (09_fabric_link_phy.md). -/
def LN_EQ (i j : Nat) : Nat := 0x100100 + 0x10000 * i + 0x20 * j
def LN_EQ_PKSET (i j : Nat) : Field := ⟨(LN_EQ i j), 0, 6⟩
def LN_EQ_PKFIX (i j : Nat) : Field := ⟨(LN_EQ i j), 6, 1⟩
def LN_EQ_TXINV (i j : Nat) : Field := ⟨(LN_EQ i j), 7, 1⟩
def LN_EQ_PEAK (i j : Nat) : Field := ⟨(LN_EQ i j), 8, 6⟩
def LN_EQ_RXINV (i j : Nat) : Field := ⟨(LN_EQ i j), 14, 1⟩
def LN_EQ_DFE (i j : Nat) : Field := ⟨(LN_EQ i j), 16, 8⟩
def LN_EQ_LID (i j : Nat) : Field := ⟨(LN_EQ i j), 24, 4⟩
def LN_EQ_PHASE (i j : Nat) : Field := ⟨(LN_EQ i j), 32, 11⟩
def LN_EQ_EYEH (i j : Nat) : Field := ⟨(LN_EQ i j), 48, 8⟩
def LN_EQ_EYEW (i j : Nat) : Field := ⟨(LN_EQ i j), 56, 8⟩
/-- R402 (09_fabric_link_phy.md). -/
def LN_TST (i j : Nat) : Nat := 0x100108 + 0x10000 * i + 0x20 * j
def LN_TST_GEN (i j : Nat) : Field := ⟨(LN_TST i j), 0, 3⟩
def LN_TST_CHK (i j : Nat) : Field := ⟨(LN_TST i j), 4, 3⟩
def LN_TST_LOCKED (i j : Nat) : Field := ⟨(LN_TST i j), 7, 1⟩
def LN_TST_INJ (i j : Nat) : Field := ⟨(LN_TST i j), 8, 2⟩
def LN_TST_INJGO (i j : Nat) : Field := ⟨(LN_TST i j), 10, 1⟩
def LN_TST_BLEN (i j : Nat) : Field := ⟨(LN_TST i j), 12, 4⟩
def LN_TST_LOOP (i j : Nat) : Field := ⟨(LN_TST i j), 16, 2⟩
def LN_TST_ERRS (i j : Nat) : Field := ⟨(LN_TST i j), 32, 32⟩
/-- R426 (10_fabric_link_and_edge_transport.md). -/
def LNK_CTL (i : Nat) : Nat := 0x102000 + 0x10000 * i
def LNK_CTL_RPLTMO (i : Nat) : Field := ⟨(LNK_CTL i), 0, 13⟩
def LNK_CTL_LDTIME (i : Nat) : Field := ⟨(LNK_CTL i), 16, 13⟩
def LNK_CTL_RPLMAX (i : Nat) : Field := ⟨(LNK_CTL i), 32, 8⟩
/-- R426 (10_fabric_link_and_edge_transport.md). -/
def LNK_STS (i : Nat) : Nat := 0x102008 + 0x10000 * i
def LNK_STS_UP (i : Nat) : Field := ⟨(LNK_STS i), 0, 1⟩
def LNK_STS_DCAUSE (i : Nat) : Field := ⟨(LNK_STS i), 1, 3⟩
def LNK_STS_UNACK (i : Nat) : Field := ⟨(LNK_STS i), 16, 12⟩
def LNK_STS_SPILL (i : Nat) : Field := ⟨(LNK_STS i), 32, 13⟩
/-- R426 (10_fabric_link_and_edge_transport.md). -/
def LNK_CNT (i : Nat) : Nat := 0x102010 + 0x10000 * i
def LNK_CNT_REPLAYS (i : Nat) : Field := ⟨(LNK_CNT i), 0, 32⟩
def LNK_CNT_BADFR (i : Nat) : Field := ⟨(LNK_CNT i), 32, 32⟩
/-- R460 (10_fabric_link_and_edge_transport.md). -/
def SES_CFG : Nat := 0x7C0000
def SES_CFG_RCNT : Field := ⟨SES_CFG, 0, 6⟩
def SES_CFG_RTIM : Field := ⟨SES_CFG, 8, 8⟩
def SES_CFG_RTMO : Field := ⟨SES_CFG, 16, 16⟩
def SES_CFG_RLIM : Field := ⟨SES_CFG, 32, 4⟩
def SES_CFG_IDLE : Field := ⟨SES_CFG, 48, 16⟩
/-- R460 (10_fabric_link_and_edge_transport.md). -/
def SES_ACTIVE : Nat := 0x7C0008
def SES_ACTIVE_COUNT : Field := ⟨SES_ACTIVE, 0, 15⟩
/-- R460 (10_fabric_link_and_edge_transport.md). -/
def SES_CNT : Nat := 0x7C0010
def SES_CNT_FAILED : Field := ⟨SES_CNT, 0, 16⟩
def SES_CNT_REFUSED : Field := ⟨SES_CNT, 16, 16⟩
def SES_CNT_DECLINED : Field := ⟨SES_CNT, 32, 32⟩
/-- R537 (12_transaction_ledger_and_containment.md). -/
def LDG_CFG : Nat := 0x700000
def LDG_CFG_XRSV : Field := ⟨LDG_CFG, 0, 18⟩
def LDG_CFG_OVT : Field := ⟨LDG_CFG, 20, 12⟩
def LDG_CFG_QTIME : Field := ⟨LDG_CFG, 32, 14⟩
def LDG_CFG_RPTQ : Field := ⟨LDG_CFG, 48, 6⟩
def LDG_CFG_RPTQV : Field := ⟨LDG_CFG, 54, 1⟩
/-- R537 (12_transaction_ledger_and_containment.md). -/
def LDG_STS : Nat := 0x700008
def LDG_STS_FREE : Field := ⟨LDG_STS, 0, 19⟩
def LDG_STS_RESOLV : Field := ⟨LDG_STS, 20, 19⟩
def LDG_STS_OVFULL : Field := ⟨LDG_STS, 39, 1⟩
def LDG_STS_RSVFAIL : Field := ⟨LDG_STS, 40, 1⟩
def LDG_STS_RSVPORT : Field := ⟨LDG_STS, 41, 7⟩
def LDG_STS_OVCNT : Field := ⟨LDG_STS, 48, 13⟩
/-- R537 (12_transaction_ledger_and_containment.md). -/
def LDG_CNT : Nat := 0x700010
def LDG_CNT_FAILED : Field := ⟨LDG_CNT, 0, 32⟩
def LDG_CNT_LATE : Field := ⟨LDG_CNT, 32, 32⟩
/-- R537 (12_transaction_ledger_and_containment.md). -/
def LDG_IDX : Nat := 0x700018
def LDG_IDX_INDEX : Field := ⟨LDG_IDX, 0, 18⟩
/-- R537 (12_transaction_ledger_and_containment.md). -/
def LDG_AERA : Nat := 0x700040
def LDG_AERA_ADDR : Field := ⟨LDG_AERA, 0, 64⟩
/-- R537 (12_transaction_ledger_and_containment.md). -/
def LDG_AERC : Nat := 0x700048
def LDG_AERC_PORT : Field := ⟨LDG_AERC, 0, 7⟩
def LDG_AERC_LENDW : Field := ⟨LDG_AERC, 8, 10⟩
def LDG_AERC_GO : Field := ⟨LDG_AERC, 24, 1⟩
/-- R537 (12_transaction_ledger_and_containment.md). -/
def LDG_AERS : Nat := 0x700050
def LDG_AERS_BUSY : Field := ⟨LDG_AERS, 0, 1⟩
def LDG_AERS_MATCH : Field := ⟨LDG_AERS, 1, 8⟩
def LDG_AERS_NOHIST : Field := ⟨LDG_AERS, 9, 1⟩
/-- R537 (12_transaction_ledger_and_containment.md). -/
def LDG_RUNOUT : Nat := 0x700058
def LDG_RUNOUT_MASK : Field := ⟨LDG_RUNOUT, 0, 64⟩
/-- R537 (12_transaction_ledger_and_containment.md). -/
def LDG_EDATA (i : Nat) : Nat := 0x700020 + 8 * i
def LDG_EDATA_WORD (i : Nat) : Field := ⟨(LDG_EDATA i), 0, 64⟩
/-- R537 (12_transaction_ledger_and_containment.md). -/
def LDG_TLOG (i : Nat) : Nat := 0x710000 + 8 * i
def LDG_TLOG_V (i : Nat) : Field := ⟨(LDG_TLOG i), 0, 1⟩
def LDG_TLOG_LOCAL (i : Nat) : Field := ⟨(LDG_TLOG i), 1, 1⟩
def LDG_TLOG_HFID (i : Nat) : Field := ⟨(LDG_TLOG i), 16, 16⟩
/-- R555 (13_fabric_function.md). -/
def FN_ID (i : Nat) : Nat := 0x10000000 + 0x10000 * i
def FN_ID_FN (i : Nat) : Field := ⟨(FN_ID i), 0, 13⟩
def FN_ID_TENANT (i : Nat) : Field := ⟨(FN_ID i), 16, 13⟩
def FN_ID_CHBASE (i : Nat) : Field := ⟨(FN_ID i), 32, 12⟩
def FN_ID_CHCNT (i : Nat) : Field := ⟨(FN_ID i), 48, 9⟩
def FN_ID_PF (i : Nat) : Field := ⟨(FN_ID i), 57, 1⟩
def FN_ID_MGR (i : Nat) : Field := ⟨(FN_ID i), 58, 1⟩
/-- R555 (13_fabric_function.md). -/
def FN_STS (i : Nat) : Nat := 0x10000008 + 0x10000 * i
def FN_STS_LDG (i : Nat) : Field := ⟨(FN_STS i), 0, 18⟩
def FN_STS_DMA (i : Nat) : Field := ⟨(FN_STS i), 18, 9⟩
def FN_STS_HOLD (i : Nat) : Field := ⟨(FN_STS i), 27, 1⟩
def FN_STS_RST (i : Nat) : Field := ⟨(FN_STS i), 28, 1⟩
/-- R555 (13_fabric_function.md). -/
def FN_LOG_BASE (i : Nat) : Nat := 0x10000010 + 0x10000 * i
def FN_LOG_BASE_BASE (i : Nat) : Field := ⟨(FN_LOG_BASE i), 12, 52⟩
/-- R555 (13_fabric_function.md). -/
def FN_LOG_CFG (i : Nat) : Nat := 0x10000018 + 0x10000 * i
def FN_LOG_CFG_EN (i : Nat) : Field := ⟨(FN_LOG_CFG i), 0, 1⟩
def FN_LOG_CFG_LOGSZ (i : Nat) : Field := ⟨(FN_LOG_CFG i), 8, 5⟩
/-- R555 (13_fabric_function.md). -/
def FN_LOG_PROD (i : Nat) : Nat := 0x10000020 + 0x10000 * i
def FN_LOG_PROD_PROD (i : Nat) : Field := ⟨(FN_LOG_PROD i), 0, 32⟩
/-- R555 (13_fabric_function.md). -/
def FN_LOG_CONS (i : Nat) : Nat := 0x10000028 + 0x10000 * i
def FN_LOG_CONS_CONS (i : Nat) : Field := ⟨(FN_LOG_CONS i), 0, 32⟩
/-- R566 (13_fabric_function.md). -/
def FN_MBX_IN (i j : Nat) : Nat := 0x10000100 + 0x10000 * i + 8 * j
def FN_MBX_IN_WORD (i j : Nat) : Field := ⟨(FN_MBX_IN i j), 0, 64⟩
/-- R566 (13_fabric_function.md). -/
def FN_MBX_OUT (i j : Nat) : Nat := 0x10000200 + 0x10000 * i + 8 * j
def FN_MBX_OUT_WORD (i j : Nat) : Field := ⟨(FN_MBX_OUT i j), 0, 64⟩
/-- R566 (13_fabric_function.md). -/
def FN_MBX_DB (i : Nat) : Nat := 0x10000300 + 0x10000 * i
def FN_MBX_DB_LEN (i : Nat) : Field := ⟨(FN_MBX_DB i), 0, 6⟩
/-- R566 (13_fabric_function.md). -/
def FN_MBX_RSP (i : Nat) : Nat := 0x10000308 + 0x10000 * i
def FN_MBX_RSP_LEN (i : Nat) : Field := ⟨(FN_MBX_RSP i), 0, 6⟩
/-- R566 (13_fabric_function.md). -/
def FN_MBX_STS (i : Nat) : Nat := 0x10000310 + 0x10000 * i
def FN_MBX_STS_BUSY (i : Nat) : Field := ⟨(FN_MBX_STS i), 0, 1⟩
def FN_MBX_STS_DONE (i : Nat) : Field := ⟨(FN_MBX_STS i), 1, 1⟩
def FN_MBX_STS_OVW (i : Nat) : Field := ⟨(FN_MBX_STS i), 2, 1⟩
/-- R551 (13_fabric_function.md). -/
def FN_MSIX (i j : Nat) : Nat := 0x1000E000 + 0x10000 * i + 8 * j
def FN_MSIX_WORD (i j : Nat) : Field := ⟨(FN_MSIX i j), 0, 64⟩
/-- R551 (13_fabric_function.md). -/
def FN_PBA (i : Nat) : Nat := 0x1000F000 + 0x10000 * i
def FN_PBA_PENDING (i : Nat) : Field := ⟨(FN_PBA i), 0, 64⟩
/-- R556 (13_fabric_function.md). -/
def FFN_CFG : Nat := 0x340000
def FFN_CFG_MGRPORT : Field := ⟨FFN_CFG, 0, 7⟩
def FFN_CFG_MGRV : Field := ⟨FFN_CFG, 7, 1⟩
def FFN_CFG_MBXQ : Field := ⟨FFN_CFG, 8, 6⟩
def FFN_CFG_MBXQV : Field := ⟨FFN_CFG, 14, 1⟩
/-- R556 (13_fabric_function.md). -/
def FFN_STS : Nat := 0x340008
def FFN_STS_REJ : Field := ⟨FFN_STS, 0, 1⟩
def FFN_STS_INUSE : Field := ⟨FFN_STS, 1, 1⟩
def FFN_STS_RCODE : Field := ⟨FFN_STS, 4, 4⟩
def FFN_STS_FN : Field := ⟨FFN_STS, 16, 13⟩
/-- R556 (13_fabric_function.md). -/
def FFN_ROM : Nat := 0x340010
def FFN_ROM_OFFSET : Field := ⟨FFN_ROM, 0, 32⟩
def FFN_ROM_LEN : Field := ⟨FFN_ROM, 32, 21⟩
/-- R556 (13_fabric_function.md). -/
def FFN_APR : Nat := 0x340018
def FFN_APR_FN : Field := ⟨FFN_APR, 0, 13⟩
/-- R556 (13_fabric_function.md). -/
def FFN_PF_CFG (i : Nat) : Nat := 0x341000 + 0x40 * i
def FFN_PF_CFG_EN (i : Nat) : Field := ⟨(FFN_PF_CFG i), 0, 1⟩
def FFN_PF_CFG_ROMEN (i : Nat) : Field := ⟨(FFN_PF_CFG i), 1, 1⟩
def FFN_PF_CFG_VFBASE (i : Nat) : Field := ⟨(FFN_PF_CFG i), 16, 12⟩
def FFN_PF_CFG_TOTALVF (i : Nat) : Field := ⟨(FFN_PF_CFG i), 32, 13⟩
def FFN_PF_CFG_DLBASE (i : Nat) : Field := ⟨(FFN_PF_CFG i), 48, 8⟩
def FFN_PF_CFG_DLCNT (i : Nat) : Field := ⟨(FFN_PF_CFG i), 56, 5⟩
/-- R556 (13_fabric_function.md). -/
def FFN_TLF (i : Nat) : Nat := 0x344000 + 8 * i
def FFN_TLF_FN (i : Nat) : Field := ⟨(FFN_TLF i), 0, 13⟩
def FFN_TLF_V (i : Nat) : Field := ⟨(FFN_TLF i), 16, 1⟩
/-- R556 (13_fabric_function.md). -/
def FFN_FN_CFG (i : Nat) : Nat := 0x354000 + 0x20 * i
def FFN_FN_CFG_TENANT (i : Nat) : Field := ⟨(FFN_FN_CFG i), 0, 13⟩
def FFN_FN_CFG_HOLD (i : Nat) : Field := ⟨(FFN_FN_CFG i), 16, 1⟩
def FFN_FN_CFG_FORCE (i : Nat) : Field := ⟨(FFN_FN_CFG i), 17, 1⟩
def FFN_FN_CFG_CHBASE (i : Nat) : Field := ⟨(FFN_FN_CFG i), 32, 12⟩
def FFN_FN_CFG_CHCNT (i : Nat) : Field := ⟨(FFN_FN_CFG i), 48, 9⟩
/-- R556 (13_fabric_function.md). -/
def FFN_FN_STS (i : Nat) : Nat := 0x354008 + 0x20 * i
def FFN_FN_STS_QUIET (i : Nat) : Field := ⟨(FFN_FN_STS i), 29, 1⟩
/-- R556 (13_fabric_function.md). -/
def FFN_FN_CNT (i : Nat) : Nat := 0x354010 + 0x20 * i
def FFN_FN_CNT_LATEBME (i : Nat) : Field := ⟨(FFN_FN_CNT i), 0, 32⟩
def FFN_FN_CNT_RECLOST (i : Nat) : Field := ⟨(FFN_FN_CNT i), 32, 32⟩
/-- R556 (13_fabric_function.md). -/
def FFN_FN_MAP (i : Nat) : Nat := 0x354018 + 0x20 * i
def FFN_FN_MAP_VALID (i : Nat) : Field := ⟨(FFN_FN_MAP i), 0, 1⟩
def FFN_FN_MAP_PORT (i : Nat) : Field := ⟨(FFN_FN_MAP i), 1, 7⟩
def FFN_FN_MAP_RID (i : Nat) : Field := ⟨(FFN_FN_MAP i), 16, 16⟩
/-- R577 (13_fabric_function.md). -/
def DL_CTL (i : Nat) : Nat := 0xC000000 + 0x40 * i
def DL_CTL_EN (i : Nat) : Field := ⟨(DL_CTL i), 0, 1⟩
def DL_CTL_FNV (i : Nat) : Field := ⟨(DL_CTL i), 1, 1⟩
def DL_CTL_SFID (i : Nat) : Field := ⟨(DL_CTL i), 16, 16⟩
def DL_CTL_SFCNT (i : Nat) : Field := ⟨(DL_CTL i), 32, 12⟩
def DL_CTL_FN (i : Nat) : Field := ⟨(DL_CTL i), 48, 13⟩
/-- R577 (13_fabric_function.md). -/
def DL_RBASE (i : Nat) : Nat := 0xC000008 + 0x40 * i
def DL_RBASE_BASE (i : Nat) : Field := ⟨(DL_RBASE i), 12, 52⟩
/-- R577 (13_fabric_function.md). -/
def DL_RCFG (i : Nat) : Nat := 0xC000010 + 0x40 * i
def DL_RCFG_LOGSZ (i : Nat) : Field := ⟨(DL_RCFG i), 0, 5⟩
/-- R577 (13_fabric_function.md). -/
def DL_PROD (i : Nat) : Nat := 0xC000018 + 0x40 * i
def DL_PROD_PROD (i : Nat) : Field := ⟨(DL_PROD i), 0, 32⟩
/-- R577 (13_fabric_function.md). -/
def DL_CONS (i : Nat) : Nat := 0xC000020 + 0x40 * i
def DL_CONS_CONS (i : Nat) : Field := ⟨(DL_CONS i), 0, 32⟩
/-- R577 (13_fabric_function.md). -/
def DL_SYNC (i : Nat) : Nat := 0xC000028 + 0x40 * i
def DL_SYNC_TOKEN (i : Nat) : Field := ⟨(DL_SYNC i), 0, 32⟩
/-- R577 (13_fabric_function.md). -/
def DL_STS (i : Nat) : Nat := 0xC000030 + 0x40 * i
def DL_STS_OVF (i : Nat) : Field := ⟨(DL_STS i), 0, 1⟩
def DL_STS_SYNCP (i : Nat) : Field := ⟨(DL_STS i), 1, 1⟩
def DL_STS_SLOST (i : Nat) : Field := ⟨(DL_STS i), 2, 1⟩
def DL_STS_REJ (i : Nat) : Field := ⟨(DL_STS i), 3, 1⟩
def DL_STS_LASTTOK (i : Nat) : Field := ⟨(DL_STS i), 32, 32⟩
/-- R588 (14_dma_engines.md). -/
def DMA_CH_SRC (i j : Nat) : Nat := 0x1800000 + 0x4000 * i + 0x40 * j
def DMA_CH_SRC_ADDR (i j : Nat) : Field := ⟨(DMA_CH_SRC i j), 0, 64⟩
/-- R588 (14_dma_engines.md). -/
def DMA_CH_DST (i j : Nat) : Nat := 0x1800008 + 0x4000 * i + 0x40 * j
def DMA_CH_DST_ADDR (i j : Nat) : Field := ⟨(DMA_CH_DST i j), 0, 64⟩
/-- R588 (14_dma_engines.md). -/
def DMA_CH_CNT (i j : Nat) : Nat := 0x1800010 + 0x4000 * i + 0x40 * j
def DMA_CH_CNT_BYTES (i j : Nat) : Field := ⟨(DMA_CH_CNT i j), 0, 32⟩
/-- R588 (14_dma_engines.md). -/
def DMA_CH_CTL (i j : Nat) : Nat := 0x1800018 + 0x4000 * i + 0x40 * j
def DMA_CH_CTL_GO (i j : Nat) : Field := ⟨(DMA_CH_CTL i j), 0, 1⟩
def DMA_CH_CTL_ABORT (i j : Nat) : Field := ⟨(DMA_CH_CTL i j), 1, 1⟩
def DMA_CH_CTL_PRIO (i j : Nat) : Field := ⟨(DMA_CH_CTL i j), 2, 3⟩
def DMA_CH_CTL_LIST (i j : Nat) : Field := ⟨(DMA_CH_CTL i j), 5, 1⟩
def DMA_CH_CTL_NS (i j : Nat) : Field := ⟨(DMA_CH_CTL i j), 6, 1⟩
def DMA_CH_CTL_RLX (i j : Nat) : Field := ⟨(DMA_CH_CTL i j), 7, 1⟩
def DMA_CH_CTL_FLUSH (i j : Nat) : Field := ⟨(DMA_CH_CTL i j), 8, 1⟩
def DMA_CH_CTL_IE (i j : Nat) : Field := ⟨(DMA_CH_CTL i j), 9, 1⟩
def DMA_CH_CTL_SLOC (i j : Nat) : Field := ⟨(DMA_CH_CTL i j), 10, 1⟩
def DMA_CH_CTL_DLOC (i j : Nat) : Field := ⟨(DMA_CH_CTL i j), 11, 1⟩
def DMA_CH_CTL_LLOC (i j : Nat) : Field := ⟨(DMA_CH_CTL i j), 12, 1⟩
def DMA_CH_CTL_BSZ (i j : Nat) : Field := ⟨(DMA_CH_CTL i j), 13, 3⟩
def DMA_CH_CTL_VEC (i j : Nat) : Field := ⟨(DMA_CH_CTL i j), 16, 6⟩
/-- R588 (14_dma_engines.md). -/
def DMA_CH_STS (i j : Nat) : Nat := 0x1800020 + 0x4000 * i + 0x40 * j
def DMA_CH_STS_STATE (i j : Nat) : Field := ⟨(DMA_CH_STS i j), 0, 3⟩
def DMA_CH_STS_REASON (i j : Nat) : Field := ⟨(DMA_CH_STS i j), 4, 8⟩
def DMA_CH_STS_WERR (i j : Nat) : Field := ⟨(DMA_CH_STS i j), 12, 1⟩
def DMA_CH_STS_LFAIL (i j : Nat) : Field := ⟨(DMA_CH_STS i j), 13, 1⟩
def DMA_CH_STS_LOST (i j : Nat) : Field := ⟨(DMA_CH_STS i j), 14, 1⟩
def DMA_CH_STS_IREASON (i j : Nat) : Field := ⟨(DMA_CH_STS i j), 16, 8⟩
def DMA_CH_STS_LREASON (i j : Nat) : Field := ⟨(DMA_CH_STS i j), 24, 8⟩
def DMA_CH_STS_DCNT (i j : Nat) : Field := ⟨(DMA_CH_STS i j), 32, 16⟩
/-- R588 (14_dma_engines.md). -/
def DMA_CH_DONE (i j : Nat) : Nat := 0x1800028 + 0x4000 * i + 0x40 * j
def DMA_CH_DONE_BYTES (i j : Nat) : Field := ⟨(DMA_CH_DONE i j), 0, 32⟩
/-- R588 (14_dma_engines.md). -/
def DMA_CH_LIST (i j : Nat) : Nat := 0x1800030 + 0x4000 * i + 0x40 * j
def DMA_CH_LIST_ADDR (i j : Nat) : Field := ⟨(DMA_CH_LIST i j), 5, 59⟩
/-- R588 (14_dma_engines.md). -/
def DMA_CH_FADDR (i j : Nat) : Nat := 0x1800038 + 0x4000 * i + 0x40 * j
def DMA_CH_FADDR_ADDR (i j : Nat) : Field := ⟨(DMA_CH_FADDR i j), 0, 64⟩
/-- R614 (14_dma_engines.md). -/
def DMA_ENG_CTL (i : Nat) : Nat := 0x1B00000 + 0x100 * i
def DMA_ENG_CTL_DEC (i : Nat) : Field := ⟨(DMA_ENG_CTL i), 0, 1⟩
def DMA_ENG_CTL_SGRP (i : Nat) : Field := ⟨(DMA_ENG_CTL i), 1, 6⟩
def DMA_ENG_CTL_SGV (i : Nat) : Field := ⟨(DMA_ENG_CTL i), 7, 1⟩
/-- R614 (14_dma_engines.md). -/
def DMA_ENG_STS (i : Nat) : Nat := 0x1B00008 + 0x100 * i
def DMA_ENG_STS_MODE (i : Nat) : Field := ⟨(DMA_ENG_STS i), 0, 2⟩
def DMA_ENG_STS_LASTF (i : Nat) : Field := ⟨(DMA_ENG_STS i), 8, 8⟩
def DMA_ENG_STS_STOPS (i : Nat) : Field := ⟨(DMA_ENG_STS i), 16, 16⟩
def DMA_ENG_STS_NOFLT (i : Nat) : Field := ⟨(DMA_ENG_STS i), 32, 16⟩
/-- R614 (14_dma_engines.md). -/
def DMA_CFG : Nat := 0x1BF0000
def DMA_CFG_LTMO : Field := ⟨DMA_CFG, 0, 7⟩
def DMA_CFG_RPTQ : Field := ⟨DMA_CFG, 8, 6⟩
def DMA_CFG_RPTQV : Field := ⟨DMA_CFG, 14, 1⟩
/-- R617 (15_slot_power.md). -/
def SPC_CTL (i : Nat) : Nat := 0x1F00000 + 0x100 * i
def SPC_CTL_EN (i : Nat) : Field := ⟨(SPC_CTL i), 0, 1⟩
def SPC_CTL_VPOL (i : Nat) : Field := ⟨(SPC_CTL i), 1, 1⟩
def SPC_CTL_DCLR (i : Nat) : Field := ⟨(SPC_CTL i), 2, 1⟩
def SPC_CTL_PERSTF (i : Nat) : Field := ⟨(SPC_CTL i), 3, 1⟩
def SPC_CTL_TMODE (i : Nat) : Field := ⟨(SPC_CTL i), 4, 2⟩
def SPC_CTL_EVQ (i : Nat) : Field := ⟨(SPC_CTL i), 6, 6⟩
def SPC_CTL_EVQV (i : Nat) : Field := ⟨(SPC_CTL i), 12, 1⟩
/-- R617 (15_slot_power.md). -/
def SPC_VTH (i : Nat) : Nat := 0x1F00008 + 0x100 * i
def SPC_VTH_UV (i : Nat) : Field := ⟨(SPC_VTH i), 0, 12⟩
def SPC_VTH_OV (i : Nat) : Field := ⟨(SPC_VTH i), 12, 12⟩
def SPC_VTH_PGTH (i : Nat) : Field := ⟨(SPC_VTH i), 24, 12⟩
def SPC_VTH_VSHORT (i : Nat) : Field := ⟨(SPC_VTH i), 36, 12⟩
/-- R617 (15_slot_power.md). -/
def SPC_TMR0 (i : Nat) : Nat := 0x1F00010 + 0x100 * i
def SPC_TMR0_INSDLY (i : Nat) : Field := ⟨(SPC_TMR0 i), 0, 14⟩
def SPC_TMR0_UVQ (i : Nat) : Field := ⟨(SPC_TMR0 i), 14, 8⟩
def SPC_TMR0_GRISE (i : Nat) : Field := ⟨(SPC_TMR0 i), 22, 6⟩
def SPC_TMR0_FTMR (i : Nat) : Field := ⟨(SPC_TMR0 i), 32, 16⟩
/-- R617 (15_slot_power.md). -/
def SPC_TMR1 (i : Nat) : Nat := 0x1F00018 + 0x100 * i
def SPC_TMR1_PGQ (i : Nat) : Field := ⟨(SPC_TMR1 i), 0, 16⟩
def SPC_TMR1_COOL (i : Nat) : Field := ⟨(SPC_TMR1 i), 16, 16⟩
def SPC_TMR1_PERSTDLY (i : Nat) : Field := ⟨(SPC_TMR1 i), 32, 10⟩
def SPC_TMR1_PERSTLEAD (i : Nat) : Field := ⟨(SPC_TMR1 i), 42, 8⟩
def SPC_TMR1_DSTIME (i : Nat) : Field := ⟨(SPC_TMR1 i), 50, 8⟩
/-- R617 (15_slot_power.md). -/
def SPC_ILIM (i : Nat) : Nat := 0x1F00020 + 0x100 * i
def SPC_ILIM_VLIM (i : Nat) : Field := ⟨(SPC_ILIM i), 0, 10⟩
def SPC_ILIM_RSENSE (i : Nat) : Field := ⟨(SPC_ILIM i), 16, 10⟩
def SPC_ILIM_SLEW (i : Nat) : Field := ⟨(SPC_ILIM i), 32, 8⟩
/-- R617 (15_slot_power.md). -/
def SPC_TM (i : Nat) : Nat := 0x1F00028 + 0x100 * i
def SPC_TM_RTH (i : Nat) : Field := ⟨(SPC_TM i), 0, 16⟩
def SPC_TM_TAU (i : Nat) : Field := ⟨(SPC_TM i), 16, 16⟩
def SPC_TM_TAMB (i : Nat) : Field := ⟨(SPC_TM i), 32, 8⟩
def SPC_TM_TTRIP (i : Nat) : Field := ⟨(SPC_TM i), 40, 8⟩
def SPC_TM_TARM (i : Nat) : Field := ⟨(SPC_TM i), 48, 8⟩
def SPC_TM_RDSON (i : Nat) : Field := ⟨(SPC_TM i), 56, 8⟩
/-- R617 (15_slot_power.md). -/
def SPC_STS (i : Nat) : Nat := 0x1F00030 + 0x100 * i
def SPC_STS_STATE (i : Nat) : Field := ⟨(SPC_STS i), 0, 3⟩
def SPC_STS_PRSNT (i : Nat) : Field := ⟨(SPC_STS i), 3, 1⟩
def SPC_STS_LATCH (i : Nat) : Field := ⟨(SPC_STS i), 4, 1⟩
def SPC_STS_DMG (i : Nat) : Field := ⟨(SPC_STS i), 5, 1⟩
def SPC_STS_DKIND (i : Nat) : Field := ⟨(SPC_STS i), 6, 2⟩
def SPC_STS_TKIND (i : Nat) : Field := ⟨(SPC_STS i), 8, 3⟩
def SPC_STS_COOLACT (i : Nat) : Field := ⟨(SPC_STS i), 11, 1⟩
def SPC_STS_INLIM (i : Nat) : Field := ⟨(SPC_STS i), 12, 1⟩
def SPC_STS_PWRGD (i : Nat) : Field := ⟨(SPC_STS i), 13, 1⟩
def SPC_STS_PERST (i : Nat) : Field := ⟨(SPC_STS i), 14, 1⟩
def SPC_STS_VINOK (i : Nat) : Field := ⟨(SPC_STS i), 15, 1⟩
def SPC_STS_WERR (i : Nat) : Field := ⟨(SPC_STS i), 16, 1⟩
/-- R617 (15_slot_power.md). -/
def SPC_MEAS (i : Nat) : Nat := 0x1F00038 + 0x100 * i
def SPC_MEAS_VIN (i : Nat) : Field := ⟨(SPC_MEAS i), 0, 12⟩
def SPC_MEAS_VOUT (i : Nat) : Field := ⟨(SPC_MEAS i), 12, 12⟩
def SPC_MEAS_IOUT (i : Nat) : Field := ⟨(SPC_MEAS i), 24, 16⟩
def SPC_MEAS_TEMP (i : Nat) : Field := ⟨(SPC_MEAS i), 40, 8⟩
def SPC_MEAS_TDIO (i : Nat) : Field := ⟨(SPC_MEAS i), 48, 8⟩
/-- R617 (15_slot_power.md). -/
def SPC_CNT (i : Nat) : Nat := 0x1F00040 + 0x100 * i
def SPC_CNT_ONCNT (i : Nat) : Field := ⟨(SPC_CNT i), 0, 32⟩
def SPC_CNT_TRIPS (i : Nat) : Field := ⟨(SPC_CNT i), 32, 16⟩
def SPC_CNT_PLOSS (i : Nat) : Field := ⟨(SPC_CNT i), 48, 16⟩
/-- R642 (16_power_clocks_and_sag.md). -/
def PWR_CTL : Nat := 0x8000
def PWR_CTL_ON : Field := ⟨PWR_CTL, 1, 24⟩
/-- R642 (16_power_clocks_and_sag.md). -/
def PWR_STS : Nat := 0x8008
def PWR_STS_ONS : Field := ⟨PWR_STS, 1, 24⟩
def PWR_STS_TRANS : Field := ⟨PWR_STS, 33, 24⟩
def PWR_STS_VIGIL : Field := ⟨PWR_STS, 57, 1⟩
def PWR_STS_RET : Field := ⟨PWR_STS, 58, 1⟩
/-- R642 (16_power_clocks_and_sag.md). -/
def PWR_REJ : Nat := 0x8018
def PWR_REJ_REJ : Field := ⟨PWR_REJ, 0, 1⟩
def PWR_REJ_DOM : Field := ⟨PWR_REJ, 8, 5⟩
def PWR_REJ_CAUSE : Field := ⟨PWR_REJ, 16, 4⟩
/-- R653 (16_power_clocks_and_sag.md). -/
def CLK_CTL : Nat := 0x4000
def CLK_CTL_PREF : Field := ⟨CLK_CTL, 0, 1⟩
def CLK_CTL_AUTO : Field := ⟨CLK_CTL, 1, 1⟩
def CLK_CTL_REVERT : Field := ⟨CLK_CTL, 2, 1⟩
/-- R653 (16_power_clocks_and_sag.md). -/
def CLK_STS : Nat := 0x4008
def CLK_STS_CORE : Field := ⟨CLK_STS, 0, 1⟩
def CLK_STS_CTL : Field := ⟨CLK_STS, 1, 1⟩
def CLK_STS_AOXT : Field := ⟨CLK_STS, 2, 1⟩
def CLK_STS_REFAOK : Field := ⟨CLK_STS, 3, 1⟩
def CLK_STS_REFBOK : Field := ⟨CLK_STS, 4, 1⟩
def CLK_STS_REFSEL : Field := ⟨CLK_STS, 5, 1⟩
def CLK_STS_HOLD : Field := ⟨CLK_STS, 6, 1⟩
def CLK_STS_FCLK : Field := ⟨CLK_STS, 7, 1⟩
def CLK_STS_LCK : Field := ⟨CLK_STS, 32, 32⟩
/-- R653 (16_power_clocks_and_sag.md). -/
def CLK_TWIN : Nat := 0x4010
def CLK_TWIN_CORE : Field := ⟨CLK_TWIN, 0, 1⟩
def CLK_TWIN_CTL : Field := ⟨CLK_TWIN, 1, 1⟩
def CLK_TWIN_FCLK : Field := ⟨CLK_TWIN, 2, 1⟩
def CLK_TWIN_SQ : Field := ⟨CLK_TWIN, 3, 8⟩
/-- R653 (16_power_clocks_and_sag.md). -/
def CLK_SWCNT : Nat := 0x4018
def CLK_SWCNT_REFSW : Field := ⟨CLK_SWCNT, 0, 16⟩
/-- R668 (16_power_clocks_and_sag.md). -/
def SAG_CFG : Nat := 0xC000
def SAG_CFG_EN : Field := ⟨SAG_CFG, 0, 1⟩
def SAG_CFG_WARNEN : Field := ⟨SAG_CFG, 1, 1⟩
def SAG_CFG_FORCE : Field := ⟨SAG_CFG, 4, 3⟩
def SAG_CFG_EVQ : Field := ⟨SAG_CFG, 8, 6⟩
def SAG_CFG_EVQV : Field := ⟨SAG_CFG, 14, 1⟩
/-- R668 (16_power_clocks_and_sag.md). -/
def SAG_VT : Nat := 0xC008
def SAG_VT_VT : Field := ⟨SAG_VT, 0, 10⟩
/-- R668 (16_power_clocks_and_sag.md). -/
def SAG_STS : Nat := 0xC028
def SAG_STS_STAGE : Field := ⟨SAG_STS, 0, 3⟩
def SAG_STS_MAX : Field := ⟨SAG_STS, 3, 3⟩
def SAG_STS_CLRMAX : Field := ⟨SAG_STS, 6, 1⟩
def SAG_STS_S5DONE : Field := ⟨SAG_STS, 7, 1⟩
def SAG_STS_SRC : Field := ⟨SAG_STS, 8, 4⟩
def SAG_STS_WARN : Field := ⟨SAG_STS, 12, 1⟩
def SAG_STS_WERR : Field := ⟨SAG_STS, 13, 1⟩
/-- R668 (16_power_clocks_and_sag.md). -/
def SAG_MEAS : Nat := 0xC030
def SAG_MEAS_CORE : Field := ⟨SAG_MEAS, 0, 16⟩
def SAG_MEAS_SDA : Field := ⟨SAG_MEAS, 16, 16⟩
def SAG_MEAS_SDH : Field := ⟨SAG_MEAS, 32, 16⟩
def SAG_MEAS_AO : Field := ⟨SAG_MEAS, 48, 16⟩
/-- R668 (16_power_clocks_and_sag.md). -/
def SAG_CNT : Nat := 0xC038
def SAG_CNT_ENT1 : Field := ⟨SAG_CNT, 0, 16⟩
def SAG_CNT_ENT5 : Field := ⟨SAG_CNT, 16, 16⟩
def SAG_CNT_ENT6 : Field := ⟨SAG_CNT, 32, 16⟩
/-- R668 (16_power_clocks_and_sag.md). -/
def SAG_THR (i : Nat) : Nat := 0xC010 + 8 * i
def SAG_THR_T (i n : Nat) : Field := ⟨(SAG_THR i), 10 * n, 10⟩
/-- R683 (17_counters_and_tracing.md). -/
def PCN_SNAP : Nat := 0x1D20000
def PCN_SNAP_EXP : Field := ⟨PCN_SNAP, 0, 32⟩
/-- R683 (17_counters_and_tracing.md). -/
def PCN_EPOCH : Nat := 0x1D20008
def PCN_EPOCH_EPOCH : Field := ⟨PCN_EPOCH, 0, 32⟩
/-- R683 (17_counters_and_tracing.md). -/
def PCN_STIME : Nat := 0x1D20010
def PCN_STIME_TIME : Field := ⟨PCN_STIME, 0, 64⟩
/-- R683 (17_counters_and_tracing.md). -/
def PCN_STS : Nat := 0x1D20018
def PCN_STS_SLOST : Field := ⟨PCN_STS, 0, 1⟩
/-- R683 (17_counters_and_tracing.md). -/
def PCN_SAPR : Nat := 0x1D20020
def PCN_SAPR_PAGE : Field := ⟨PCN_SAPR, 0, 2⟩
/-- R690 (17_counters_and_tracing.md). -/
def TRC_CFG : Nat := 0x1E20000
def TRC_CFG_EN : Field := ⟨TRC_CFG, 0, 1⟩
def TRC_CFG_K : Field := ⟨TRC_CFG, 1, 5⟩
def TRC_CFG_PROP : Field := ⟨TRC_CFG, 6, 1⟩
def TRC_CFG_HONOR : Field := ⟨TRC_CFG, 7, 1⟩
def TRC_CFG_ITEN : Field := ⟨TRC_CFG, 8, 1⟩
def TRC_CFG_IK : Field := ⟨TRC_CFG, 9, 5⟩
def TRC_CFG_ICLM : Field := ⟨TRC_CFG, 14, 4⟩
/-- R690 (17_counters_and_tracing.md). -/
def TRC_SEED : Nat := 0x1E20008
def TRC_SEED_SEED : Field := ⟨TRC_SEED, 0, 31⟩
/-- R690 (17_counters_and_tracing.md). -/
def TRC_CNT : Nat := 0x1E20010
def TRC_CNT_TRACED : Field := ⟨TRC_CNT, 0, 32⟩
def TRC_CNT_ITRACED : Field := ⟨TRC_CNT, 32, 32⟩
/-- R703 (18_almanac_fallow_and_service.md). -/
def ALM_CFG : Nat := 0x1F80000
def ALM_CFG_POST : Field := ⟨ALM_CFG, 0, 14⟩
def ALM_CFG_TEN : Field := ⟨ALM_CFG, 16, 6⟩
/-- R703 (18_almanac_fallow_and_service.md). -/
def ALM_MATCH : Nat := 0x1F80008
def ALM_MATCH_SRC : Field := ⟨ALM_MATCH, 0, 8⟩
def ALM_MATCH_CODE : Field := ⟨ALM_MATCH, 8, 16⟩
def ALM_MATCH_CMASK : Field := ⟨ALM_MATCH, 24, 16⟩
def ALM_MATCH_EN : Field := ⟨ALM_MATCH, 40, 1⟩
/-- R703 (18_almanac_fallow_and_service.md). -/
def ALM_HEAD : Nat := 0x1F80010
def ALM_HEAD_SEQ : Field := ⟨ALM_HEAD, 0, 32⟩
/-- R703 (18_almanac_fallow_and_service.md). -/
def ALM_CMD : Nat := 0x1F80018
def ALM_CMD_SEAL : Field := ⟨ALM_CMD, 0, 1⟩
/-- R703 (18_almanac_fallow_and_service.md). -/
def ALM_STS : Nat := 0x1F80020
def ALM_STS_SEALING : Field := ⟨ALM_STS, 0, 1⟩
def ALM_STS_PEND : Field := ⟨ALM_STS, 1, 1⟩
def ALM_STS_LREJ : Field := ⟨ALM_STS, 2, 1⟩
def ALM_STS_LAST : Field := ⟨ALM_STS, 4, 4⟩
def ALM_STS_SUPPR : Field := ⟨ALM_STS, 16, 16⟩
def ALM_STS_SEALS : Field := ⟨ALM_STS, 32, 32⟩
/-- R703 (18_almanac_fallow_and_service.md). -/
def ALM_APR : Nat := 0x1F80028
def ALM_APR_SRC : Field := ⟨ALM_APR, 0, 1⟩
def ALM_APR_SLOT : Field := ⟨ALM_APR, 4, 4⟩
def ALM_APR_PAGE : Field := ⟨ALM_APR, 8, 4⟩
/-- R703 (18_almanac_fallow_and_service.md). -/
def ALM_SLOT (i : Nat) : Nat := 0x1F80100 + 8 * i
def ALM_SLOT_STATE (i : Nat) : Field := ⟨(ALM_SLOT i), 0, 2⟩
def ALM_SLOT_LOCK (i : Nat) : Field := ⟨(ALM_SLOT i), 2, 1⟩
def ALM_SLOT_REL (i : Nat) : Field := ⟨(ALM_SLOT i), 3, 1⟩
def ALM_SLOT_SSEQ (i : Nat) : Field := ⟨(ALM_SLOT i), 32, 32⟩
/-- R703 (18_almanac_fallow_and_service.md). -/
def ALM_FWREC (i j : Nat) : Nat := 0x1F80400 + 0x20 * i + 8 * j
def ALM_FWREC_WORD (i j : Nat) : Field := ⟨(ALM_FWREC i j), 0, 64⟩
/-- R707 (18_almanac_fallow_and_service.md). -/
def WEAR_CFG : Nat := 0x14000
def WEAR_CFG_EN : Field := ⟨WEAR_CFG, 0, 1⟩
def WEAR_CFG_PERIOD : Field := ⟨WEAR_CFG, 8, 8⟩
def WEAR_CFG_EVQ : Field := ⟨WEAR_CFG, 16, 6⟩
def WEAR_CFG_EVQV : Field := ⟨WEAR_CFG, 22, 1⟩
/-- R707 (18_almanac_fallow_and_service.md). -/
def WEAR_THR : Nat := 0x14008
def WEAR_THR_ROSC : Field := ⟨WEAR_THR, 0, 16⟩
def WEAR_THR_TMARG : Field := ⟨WEAR_THR, 16, 8⟩
def WEAR_THR_CE : Field := ⟨WEAR_THR, 24, 16⟩
def WEAR_THR_EYEH : Field := ⟨WEAR_THR, 40, 8⟩
def WEAR_THR_EYEW : Field := ⟨WEAR_THR, 48, 8⟩
/-- R707 (18_almanac_fallow_and_service.md). -/
def WEAR_DATA : Nat := 0x14018
def WEAR_DATA_ROSC : Field := ⟨WEAR_DATA, 0, 16⟩
def WEAR_DATA_TMARG : Field := ⟨WEAR_DATA, 16, 8⟩
def WEAR_DATA_CE : Field := ⟨WEAR_DATA, 24, 16⟩
def WEAR_DATA_ALARM : Field := ⟨WEAR_DATA, 40, 1⟩
/-- R707 (18_almanac_fallow_and_service.md). -/
def WEAR_IDX : Nat := 0x14010
def WEAR_IDX_KIND : Field := ⟨WEAR_IDX, 0, 8⟩
def WEAR_IDX_INDEX : Field := ⟨WEAR_IDX, 8, 16⟩
/-- R707 (18_almanac_fallow_and_service.md). -/
def WEAR_ACK : Nat := 0x14020
def WEAR_ACK_KIND : Field := ⟨WEAR_ACK, 0, 8⟩
def WEAR_ACK_INDEX : Field := ⟨WEAR_ACK, 8, 16⟩
/-- R714 (18_almanac_fallow_and_service.md). -/
def FAL_CMD : Nat := 0x10000
def FAL_CMD_KIND : Field := ⟨FAL_CMD, 0, 8⟩
def FAL_CMD_TARGET : Field := ⟨FAL_CMD, 8, 16⟩
def FAL_CMD_SPARE : Field := ⟨FAL_CMD, 24, 5⟩
def FAL_CMD_GO : Field := ⟨FAL_CMD, 32, 1⟩
/-- R714 (18_almanac_fallow_and_service.md). -/
def FAL_STS : Nat := 0x10008
def FAL_STS_BUSY : Field := ⟨FAL_STS, 0, 1⟩
def FAL_STS_PHASE : Field := ⟨FAL_STS, 1, 3⟩
def FAL_STS_RCODE : Field := ⟨FAL_STS, 4, 4⟩
def FAL_STS_LOST : Field := ⟨FAL_STS, 8, 1⟩
/-- R714 (18_almanac_fallow_and_service.md). -/
def FAL_CFG : Nat := 0x10010
def FAL_CFG_STPER : Field := ⟨FAL_CFG, 0, 16⟩
def FAL_CFG_EVQ : Field := ⟨FAL_CFG, 16, 6⟩
def FAL_CFG_EVQV : Field := ⟨FAL_CFG, 22, 1⟩
/-- R714 (18_almanac_fallow_and_service.md). -/
def FAL_SPARE (i : Nat) : Nat := 0x10100 + 8 * i
def FAL_SPARE_AVAIL (i : Nat) : Field := ⟨(FAL_SPARE i), 0, 1⟩
def FAL_SPARE_INUSE (i : Nat) : Field := ⟨(FAL_SPARE i), 1, 1⟩
def FAL_SPARE_FAILED (i : Nat) : Field := ⟨(FAL_SPARE i), 2, 1⟩
def FAL_SPARE_KIND (i : Nat) : Field := ⟨(FAL_SPARE i), 8, 8⟩
def FAL_SPARE_TARGET (i : Nat) : Field := ⟨(FAL_SPARE i), 16, 16⟩
/-- R725 (19_register_map.md). -/
def GLB_ID : Nat := 0
def GLB_ID_VENDOR : Field := ⟨GLB_ID, 0, 16⟩
def GLB_ID_DEVICE : Field := ⟨GLB_ID, 16, 16⟩
def GLB_ID_MINOR : Field := ⟨GLB_ID, 32, 4⟩
def GLB_ID_MAJOR : Field := ⟨GLB_ID, 36, 4⟩
def GLB_ID_LANES : Field := ⟨GLB_ID, 40, 6⟩
def GLB_ID_HPL : Field := ⟨GLB_ID, 46, 2⟩
def GLB_ID_BUFB : Field := ⟨GLB_ID, 48, 3⟩
def GLB_ID_TBLB : Field := ⟨GLB_ID, 51, 1⟩
def GLB_ID_LDGB : Field := ⟨GLB_ID, 52, 1⟩
def GLB_ID_CORES : Field := ⟨GLB_ID, 53, 3⟩
def GLB_ID_DMAE : Field := ⟨GLB_ID, 56, 1⟩
def GLB_ID_ALMS : Field := ⟨GLB_ID, 57, 2⟩
def GLB_ID_PLLT : Field := ⟨GLB_ID, 59, 4⟩
/-- R725 (19_register_map.md). -/
def GLB_MODE : Nat := 8
def GLB_MODE_FABRIC : Field := ⟨GLB_MODE, 0, 1⟩
def GLB_MODE_NODEV : Field := ⟨GLB_MODE, 1, 1⟩
def GLB_MODE_NODE : Field := ⟨GLB_MODE, 16, 12⟩
/-- R725 (19_register_map.md). -/
def GLB_RSTC : Nat := 0x10
def GLB_RSTC_CAUSE : Field := ⟨GLB_RSTC, 0, 3⟩
def GLB_RSTC_RECOV : Field := ⟨GLB_RSTC, 3, 1⟩
def GLB_RSTC_WDT : Field := ⟨GLB_RSTC, 4, 4⟩
/-- R725 (19_register_map.md). -/
def GLB_STS : Nat := 0x18
def GLB_STS_PHASE : Field := ⟨GLB_STS, 0, 2⟩
def GLB_STS_AERR : Field := ⟨GLB_STS, 2, 1⟩
def GLB_STS_MREJ : Field := ⟨GLB_STS, 3, 1⟩
def GLB_STS_AOFF : Field := ⟨GLB_STS, 32, 26⟩
/-- R725 (19_register_map.md). -/
def GLB_TIME : Nat := 0x20
def GLB_TIME_TIME : Field := ⟨GLB_TIME, 0, 64⟩
/-- R725 (19_register_map.md). -/
def GLB_DSN : Nat := 0x28
def GLB_DSN_UNIT : Field := ⟨GLB_DSN, 0, 48⟩
def GLB_DSN_DEVICE : Field := ⟨GLB_DSN, 48, 16⟩
/-- R725 (19_register_map.md). -/
def GLB_TSYNC : Nat := 0x30
def GLB_TSYNC_ROOT : Field := ⟨GLB_TSYNC, 0, 12⟩
def GLB_TSYNC_DIST : Field := ⟨GLB_TSYNC, 12, 6⟩
def GLB_TSYNC_PORT : Field := ⟨GLB_TSYNC, 18, 7⟩
def GLB_TSYNC_SYNC : Field := ⟨GLB_TSYNC, 25, 1⟩
def GLB_TSYNC_ISROOT : Field := ⟨GLB_TSYNC, 26, 1⟩
def GLB_TSYNC_OFFS : Field := ⟨GLB_TSYNC, 32, 32⟩
/-- R725 (19_register_map.md). -/
def GLB_NFID : Nat := 0x38
def GLB_NFID_NFID : Field := ⟨GLB_NFID, 0, 16⟩
/-- R727 (19_register_map.md). -/
def SEC_BOOT_STS : Nat := 0x1FC0000
def SEC_BOOT_STS_DONE : Field := ⟨SEC_BOOT_STS, 0, 1⟩
def SEC_BOOT_STS_FLASH : Field := ⟨SEC_BOOT_STS, 1, 1⟩
def SEC_BOOT_STS_RECOV : Field := ⟨SEC_BOOT_STS, 2, 1⟩
def SEC_BOOT_STS_OWNREQ : Field := ⟨SEC_BOOT_STS, 3, 1⟩
def SEC_BOOT_STS_RESA : Field := ⟨SEC_BOOT_STS, 4, 4⟩
def SEC_BOOT_STS_RESB : Field := ⟨SEC_BOOT_STS, 8, 4⟩
def SEC_BOOT_STS_RUN : Field := ⟨SEC_BOOT_STS, 12, 1⟩
def SEC_BOOT_STS_SVNF : Field := ⟨SEC_BOOT_STS, 16, 6⟩
/-- R727 (19_register_map.md). -/
def SEC_RUNSEQ : Nat := 0x1FC0008
def SEC_RUNSEQ_SEQ : Field := ⟨SEC_RUNSEQ, 0, 64⟩
/-- R727 (19_register_map.md). -/
def SEC_VERIFY : Nat := 0x1FC0010
def SEC_VERIFY_SEL : Field := ⟨SEC_VERIFY, 0, 1⟩
def SEC_VERIFY_GO : Field := ⟨SEC_VERIFY, 1, 1⟩
def SEC_VERIFY_BUSY : Field := ⟨SEC_VERIFY, 2, 1⟩
def SEC_VERIFY_DONE : Field := ⟨SEC_VERIFY, 3, 1⟩
def SEC_VERIFY_RES : Field := ⟨SEC_VERIFY, 4, 4⟩
/-- R727 (19_register_map.md). -/
def SEC_FLCTL : Nat := 0x1FC0018
def SEC_FLCTL_SEL : Field := ⟨SEC_FLCTL, 0, 1⟩
def SEC_FLCTL_OP : Field := ⟨SEC_FLCTL, 1, 2⟩
def SEC_FLCTL_GO : Field := ⟨SEC_FLCTL, 3, 1⟩
def SEC_FLCTL_BUSY : Field := ⟨SEC_FLCTL, 4, 1⟩
def SEC_FLCTL_ERR : Field := ⟨SEC_FLCTL, 5, 1⟩
def SEC_FLCTL_ADDR : Field := ⟨SEC_FLCTL, 8, 24⟩
/-- R727 (19_register_map.md). -/
def SEC_FLBUF (i : Nat) : Nat := 0x1FC0100 + 8 * i
def SEC_FLBUF_DATA (i : Nat) : Field := ⟨(SEC_FLBUF i), 0, 64⟩

end Sys2Proof.Machine.R
end

