-- ==== Sys2Proof/Machine/RegTable.lean ====
section
/-! DEFINITION. Machine/RegTable.lean: the access codes and reset values of every register, transcribed from the
register tables of the spec, and the search that finds the register an offset names.  `rw`, `w1c`, `w1s` and `rwl`
are the masks of the bits with each access code (R722); every other bit ignores writes. -/

namespace Sys2Proof.Machine

/-- The registers of the spec, one name per row of its register tables. -/
inductive RegClass where
  | CCL_CTL
  | CCL_STS
  | CCL_FLTHD
  | CCL_STK
  | CCL_WDT
  | CCL_FLT
  | EVT_Q_CFG
  | EVT_Q_HND
  | EVT_Q_STS
  | EVT_SELF_DET
  | EVT_TMR_CMP
  | EVT_TMR_PER
  | EVT_TMR_CTL
  | EVT_MBX_IN
  | EVT_MBX_OUT
  | EVT_MBX_DB
  | EVT_MBX_RSP
  | EVT_MBX_STS
  | TNT_CFG
  | TNT_LDGTMO
  | TNT_QBUF
  | TNT_QLDG
  | TNT_QRES
  | TNT_WGT
  | TNT_IDM
  | WIN_OWN
  | WIN_CTL
  | WIN_BASE
  | WIN_LIMIT
  | WIN_XOFF
  | WIN_HDM
  | FIDT_CTL
  | FIDT_HOPS
  | FIDT_PFX_CTL
  | FIDT_PFX_HOPS
  | FIDT_DEST
  | FIDT_PFX_MATCH
  | TBL_PG_CFG
  | TBL_PG_CAP0
  | TBL_PG_CAP1
  | TBL_COMMIT
  | TBL_STS
  | TBL_DRAIN
  | TBL_SYNC
  | TBL_CFG
  | TBL_RVER
  | TBL_HB
  | TBL_FB
  | TBL_HB_KICK
  | TBL_ACTV
  | PRT_LCTL
  | PRT_LSTS
  | PRT_EQ
  | PRT_RST
  | PRT_CTX
  | PRT_FIDMAP
  | PRT_BRG_TOF
  | PRT_BRG_FRF
  | PRT_BUFDT
  | PRT_NRSV
  | PRT_LDMAP
  | PRT_LDGRSV
  | PRT_TAGSTS
  | PRT_VDP_B0
  | PRT_VDP_B1
  | PRT_VDL
  | HPL_CTXSEL
  | HPL_CTXCNT
  | HPL_PCOMMIT
  | HPL_PSTS
  | HPL_TVERD
  | HPL_TSTS
  | HPL_TSTS2
  | HPL_ERRCNT
  | HPL_TMETA
  | HPL_PROG
  | HPL_KMASK
  | HPL_HASHK
  | HPL_HASHR
  | HPL_TAPR
  | HPL_HSEED
  | HPL_HASHK2
  | HPL_FTBL
  | HPL_FENCE
  | HPL_UMSEL
  | HPL_UMDATA
  | BUF_CFG
  | BUF_CRANK
  | BUF_STS
  | BUF_RSV
  | MIR_SES_CTL
  | MIR_SES_LIM
  | MIR_SES_CNT
  | MIR_SES_SKIP
  | MIR_PSRC
  | GLN_CFG
  | GLN_HBASE
  | GLN_PROD
  | GLN_CONS
  | GLN_LOST
  | SCH_Q_CFG
  | SCH_Q_SHP
  | SCH_Q_STS
  | SCH_STS
  | SCH_PRT_LEN
  | SCH_PRT_LVL
  | SCH_PRT_CW0
  | SCH_PRT_CW1
  | SCH_PRT_CAL
  | SCH_PRT_CSTS
  | SCH_SLOT
  | SHP_CFG
  | SHP_TOK
  | SHP_STS
  | POL_RATE
  | POL_BURST
  | POL_ACT
  | POL_CNT
  | PHY_CTL
  | PHY_STS
  | PHY_SUB
  | PHY_TXEQ
  | FEC_CW
  | OCT_BIF
  | FEC_SYM
  | LN_EQ
  | LN_TST
  | LNK_CTL
  | LNK_STS
  | LNK_CNT
  | SES_CFG
  | SES_ACTIVE
  | SES_CNT
  | LDG_CFG
  | LDG_STS
  | LDG_CNT
  | LDG_IDX
  | LDG_AERA
  | LDG_AERC
  | LDG_AERS
  | LDG_RUNOUT
  | LDG_EDATA
  | LDG_TLOG
  | FN_ID
  | FN_STS
  | FN_LOG_BASE
  | FN_LOG_CFG
  | FN_LOG_PROD
  | FN_LOG_CONS
  | FN_MBX_IN
  | FN_MBX_OUT
  | FN_MBX_DB
  | FN_MBX_RSP
  | FN_MBX_STS
  | FN_MSIX
  | FN_PBA
  | FFN_CFG
  | FFN_STS
  | FFN_ROM
  | FFN_APR
  | FFN_PF_CFG
  | FFN_TLF
  | FFN_FN_CFG
  | FFN_FN_STS
  | FFN_FN_CNT
  | FFN_FN_MAP
  | DL_CTL
  | DL_RBASE
  | DL_RCFG
  | DL_PROD
  | DL_CONS
  | DL_SYNC
  | DL_STS
  | DMA_CH_SRC
  | DMA_CH_DST
  | DMA_CH_CNT
  | DMA_CH_CTL
  | DMA_CH_STS
  | DMA_CH_DONE
  | DMA_CH_LIST
  | DMA_CH_FADDR
  | DMA_ENG_CTL
  | DMA_ENG_STS
  | DMA_CFG
  | SPC_CTL
  | SPC_VTH
  | SPC_TMR0
  | SPC_TMR1
  | SPC_ILIM
  | SPC_TM
  | SPC_STS
  | SPC_MEAS
  | SPC_CNT
  | PWR_CTL
  | PWR_STS
  | PWR_REJ
  | CLK_CTL
  | CLK_STS
  | CLK_TWIN
  | CLK_SWCNT
  | SAG_CFG
  | SAG_VT
  | SAG_STS
  | SAG_MEAS
  | SAG_CNT
  | SAG_THR
  | PCN_SNAP
  | PCN_EPOCH
  | PCN_STIME
  | PCN_STS
  | PCN_SAPR
  | TRC_CFG
  | TRC_SEED
  | TRC_CNT
  | ALM_CFG
  | ALM_MATCH
  | ALM_HEAD
  | ALM_CMD
  | ALM_STS
  | ALM_APR
  | ALM_SLOT
  | ALM_FWREC
  | WEAR_CFG
  | WEAR_THR
  | WEAR_DATA
  | WEAR_IDX
  | WEAR_ACK
  | FAL_CMD
  | FAL_STS
  | FAL_CFG
  | FAL_SPARE
  | GLB_ID
  | GLB_MODE
  | GLB_RSTC
  | GLB_STS
  | GLB_TIME
  | GLB_DSN
  | GLB_TSYNC
  | GLB_NFID
  | SEC_BOOT_STS
  | SEC_RUNSEQ
  | SEC_VERIFY
  | SEC_FLCTL
  | SEC_FLBUF
  deriving DecidableEq, Repr

/-- One register of the map: its first offset, its (stride, count) pairs, its access masks and its reset value. -/
structure RegRow where
  cls : RegClass
  base : Nat
  d1 : Nat × Nat
  d2 : Nat × Nat
  d3 : Nat × Nat
  rw : Nat
  w1c : Nat
  w1s : Nat
  rwl : Nat
  reset : Nat
  deriving DecidableEq, Repr

def regRows0 : List RegRow :=
  [⟨.CCL_CTL, 0x300000, (0x10000, 4), (0, 1), (0, 1), 0x7F003F, 0, 0, 0, 1⟩,
   ⟨.CCL_STS, 0x300008, (0x10000, 4), (0, 1), (0, 1), 0, 0, 0, 0, 0⟩,
   ⟨.CCL_FLTHD, 0x300010, (0x10000, 4), (0, 1), (0, 1), 0, 0, 0, 0, 0⟩,
   ⟨.CCL_STK, 0x300040, (0x10000, 4), (8, 8), (0, 1), 0xFFFFFFFFFFFFFFFF, 0, 0, 0, 0⟩,
   ⟨.CCL_WDT, 0x300100, (0x10000, 4), (0, 1), (0, 1), 0xFFFFFFFF, 0, 0, 0x100000000, 0x186A0⟩,
   ⟨.CCL_FLT, 0x301000, (0x10000, 4), (8, 256), (0, 1), 0, 0, 0, 0, 0⟩,
   ⟨.EVT_Q_CFG, 0x380000, (0x40, 64), (0, 1), (0, 1), 0xFFFF000F1FFF, 0, 0, 0, 0x41FC0⟩,
   ⟨.EVT_Q_HND, 0x380008, (0x40, 64), (0, 1), (0, 1), 0xFFFFFFFFFFFFFFFC, 0, 0, 0, 0⟩,
   ⟨.EVT_Q_STS, 0x380010, (0x40, 64), (0, 1), (0, 1), 0, 0x2000, 0, 0, 0⟩,
   ⟨.EVT_SELF_DET, 0x381000, (0, 1), (0, 1), (0, 1), 0, 0, 0, 0, 0⟩,
   ⟨.EVT_TMR_CMP, 0x382000, (0x20, 64), (0, 1), (0, 1), 0xFFFFFFFFFFFFFFFF, 0, 0, 0, 0⟩,
   ⟨.EVT_TMR_PER, 0x382008, (0x20, 64), (0, 1), (0, 1), 0xFFFFFFFFFFFFFFFF, 0, 0, 0, 0⟩,
   ⟨.EVT_TMR_CTL, 0x382010, (0x20, 64), (0, 1), (0, 1), 0x3F01, 0, 0, 0, 0⟩,
   ⟨.EVT_MBX_IN, 0x384000, (0x400, 16), (8, 32), (0, 1), 0xFFFFFFFFFFFFFFFF, 0, 0, 0, 0⟩,
   ⟨.EVT_MBX_OUT, 0x384100, (0x400, 16), (8, 32), (0, 1), 0xFFFFFFFFFFFFFFFF, 0, 0, 0, 0⟩,
   ⟨.EVT_MBX_DB, 0x384200, (0x400, 16), (0, 1), (0, 1), 0x3F3F, 0, 0, 0, 0⟩,
   ⟨.EVT_MBX_RSP, 0x384208, (0x400, 16), (0, 1), (0, 1), 0x3F, 0, 0, 0, 0⟩,
   ⟨.EVT_MBX_STS, 0x384210, (0x400, 16), (0, 1), (0, 1), 0, 6, 0, 0, 0⟩,
   ⟨.TNT_CFG, 0x800000, (0x200, 8192), (0x100, 2), (0, 1), 0x3F1F, 0, 0, 0, 0⟩,
   ⟨.TNT_LDGTMO, 0x800008, (0x200, 8192), (0x100, 2), (0, 1), 0xFFFFFFFF, 0, 0, 0, 0⟩,
   ⟨.TNT_QBUF, 0x800010, (0x200, 8192), (0x100, 2), (0, 1), 0xFFFFF000FFFFF, 0, 0, 0, 0⟩,
   ⟨.TNT_QLDG, 0x800018, (0x200, 8192), (0x100, 2), (0, 1), 0x1FFFF0007FFFF, 0, 0, 0, 0⟩,
   ⟨.TNT_QRES, 0x800020, (0x200, 8192), (0x100, 2), (0, 1), 0x1FFF1FFF00007FFF, 0, 0, 0, 0⟩,
   ⟨.TNT_WGT, 0x800028, (0x200, 8192), (0x100, 2), (0, 1), 0xFFFFFFFF, 0, 0, 0, 0⟩,
   ⟨.TNT_IDM, 0x800040, (0x200, 8192), (0x100, 2), (8, 24), 0x1FFFFFFFFFFFF, 0, 0, 0, 0⟩,
   ⟨.WIN_OWN, 0xC00000, (0x100, 16384), (0, 1), (0, 1), 0x1FFF, 0, 0, 0, 0⟩,
   ⟨.WIN_CTL, 0xC00040, (0x100, 16384), (0x40, 2), (0, 1), 0xFFFF0000001FFFFF, 0, 0, 0, 0⟩,
   ⟨.WIN_BASE, 0xC00048, (0x100, 16384), (0x40, 2), (0, 1), 0xFFFFFFFFFFFFF000, 0, 0, 0, 0⟩,
   ⟨.WIN_LIMIT, 0xC00050, (0x100, 16384), (0x40, 2), (0, 1), 0xFFFFFFFFFFFFF000, 0, 0, 0, 0⟩,
   ⟨.WIN_XOFF, 0xC00058, (0x100, 16384), (0x40, 2), (0, 1), 0xFFFFFFFFFFFFF000, 0, 0, 0, 0⟩,
   ⟨.WIN_HDM, 0xC00060, (0x100, 16384), (0x40, 2), (0, 1), 0xF7, 0, 0, 0, 0⟩,
   ⟨.FIDT_CTL, 0x1000000, (0x40, 65536), (0x20, 2), (0, 1), 0x1FFF003F077F, 0, 0, 0, 0⟩,
   ⟨.FIDT_HOPS, 0x1000008, (0x40, 65536), (0x20, 2), (0, 1), 0x7F7F7F7F7F7F7F7F, 0, 0, 0, 0⟩,
   ⟨.FIDT_PFX_CTL, 0x7E0000, (0x40, 1024), (0x20, 2), (0, 1), 0x1FFF003F077F, 0, 0, 0, 0⟩,
   ⟨.FIDT_PFX_HOPS, 0x7E0008, (0x40, 1024), (0x20, 2), (0, 1), 0x7F7F7F7F7F7F7F7F, 0, 0, 0, 0⟩,
   ⟨.FIDT_DEST, 0x1000010, (0x40, 65536), (0x20, 2), (0, 1), 0xFFFF007F, 0, 0, 0, 0⟩,
   ⟨.FIDT_PFX_MATCH, 0x7E0010, (0x40, 1024), (0x20, 2), (0, 1), 0x1FFFFF, 0, 0, 0, 0⟩,
   ⟨.TBL_PG_CFG, 0x7F1000, (0x20, 64), (0, 1), (0, 1), 0x1FF, 0, 0, 0, 0⟩,
   ⟨.TBL_PG_CAP0, 0x7F1008, (0x20, 64), (0, 1), (0, 1), 0x7FFFF000FFFFF, 0, 0, 0, 0⟩,
   ⟨.TBL_PG_CAP1, 0x7F1010, (0x20, 64), (0, 1), (0, 1), 0x1FFF7FFF0001FFFF, 0, 0, 0, 0⟩]

def regRows1 : List RegRow :=
  [⟨.TBL_COMMIT, 0x7F0000, (0, 1), (0, 1), (0, 1), 0, 0, 0, 0, 0⟩,
   ⟨.TBL_STS, 0x7F0008, (0, 1), (0, 1), (0, 1), 0, 0x3E, 0, 0, 0⟩,
   ⟨.TBL_DRAIN, 0x7F0010, (0, 1), (0, 1), (0, 1), 0x3FFF, 0, 0, 0, 0x4000⟩,
   ⟨.TBL_SYNC, 0x7F0018, (0, 1), (0, 1), (0, 1), 0, 0, 0, 0, 0⟩,
   ⟨.TBL_CFG, 0x7F0020, (0, 1), (0, 1), (0, 1), 1, 0, 0, 0, 0⟩,
   ⟨.TBL_RVER, 0x7F0038, (0, 1), (0, 1), (0, 1), 0, 0, 0, 0, 0⟩,
   ⟨.TBL_HB, 0x7F0028, (0, 1), (0, 1), (0, 1), 0x1FFFFFFFF, 0, 0, 0, 0x2710⟩,
   ⟨.TBL_FB, 0x7F0030, (0, 1), (0, 1), (0, 1), 0, 0, 0, 0, 0⟩,
   ⟨.TBL_HB_KICK, 0x7F0040, (0, 1), (0, 1), (0, 1), 0, 0, 0, 0, 0⟩,
   ⟨.TBL_ACTV, 0x7F0100, (8, 128), (0, 1), (0, 1), 0, 0, 0, 0, 0⟩,
   ⟨.PRT_LCTL, 0x400000, (0x4000, 128), (0, 1), (0, 1), 0x7FFF, 0, 0, 0, 0x2A6⟩,
   ⟨.PRT_LSTS, 0x400008, (0x4000, 128), (0, 1), (0, 1), 0, 0x200000, 0, 0, 0⟩,
   ⟨.PRT_EQ, 0x400010, (0x4000, 128), (0, 1), (0, 1), 0x70FFFFF000FFFFF, 0, 0, 0, 0x504444400044444⟩,
   ⟨.PRT_RST, 0x400018, (0x4000, 128), (0, 1), (0, 1), 2, 0, 0, 0, 0⟩,
   ⟨.PRT_CTX, 0x400080, (0x4000, 128), (0, 1), (0, 1), 0xFFFFFFFF1FFF7F07, 0, 0, 0, 0⟩,
   ⟨.PRT_FIDMAP, 0x400088, (0x4000, 128), (0, 1), (0, 1), 0xFFFF0FFFFFFF, 0, 0, 0, 0⟩,
   ⟨.PRT_BRG_TOF, 0x400090, (0x4000, 128), (0, 1), (0, 1), 0xFFFFFFFFFFFFFFFF, 0, 0, 0, 0x8004000200040⟩,
   ⟨.PRT_BRG_FRF, 0x400098, (0x4000, 128), (0, 1), (0, 1), 0xFFFFFFFFFFFFFFFF, 0, 0, 0, 0x8040000200040⟩,
   ⟨.PRT_BUFDT, 0x4000A0, (0x4000, 128), (0, 1), (0, 1), 0xFFFFFFFF, 0, 0, 0, 0x66666666⟩,
   ⟨.PRT_NRSV, 0x4000A8, (0x4000, 128), (0, 1), (0, 1), 0xFFFFFFFFFFFFFF, 0, 0, 0, 0x100C00C00C00C0⟩,
   ⟨.PRT_LDMAP, 0x4000B0, (0x4000, 128), (0, 1), (0, 1), 0x1FFFFF, 0, 0, 0, 0⟩,
   ⟨.PRT_LDGRSV, 0x4000B8, (0x4000, 128), (0, 1), (0, 1), 0xFFFFFFFF, 0, 0, 0, 0x400040⟩,
   ⟨.PRT_TAGSTS, 0x4000C0, (0x4000, 128), (0, 1), (0, 1), 0, 0, 0, 0, 0⟩,
   ⟨.PRT_VDP_B0, 0x402000, (0x4000, 128), (0x10, 256), (0, 1), 0xFFFFFF7F07, 0, 0, 0, 0⟩,
   ⟨.PRT_VDP_B1, 0x402008, (0x4000, 128), (0x10, 256), (0, 1), 0x3F, 0, 0, 0, 0⟩,
   ⟨.PRT_VDL, 0x403000, (0x4000, 128), (8, 256), (0, 1), 0x3FF, 0, 0x10000, 0, 0⟩,
   ⟨.HPL_CTXSEL, 0x600000, (0x4000, 32), (8, 32), (0, 1), 0x20F, 0, 0, 0, 0⟩,
   ⟨.HPL_CTXCNT, 0x600100, (0x4000, 32), (8, 32), (0, 1), 0xFFFF003FFFFF, 0, 0, 0, 0⟩,
   ⟨.HPL_PCOMMIT, 0x601000, (0x4000, 32), (0, 1), (0, 1), 0, 0, 0, 0, 0⟩,
   ⟨.HPL_PSTS, 0x601008, (0x4000, 32), (0, 1), (0, 1), 0, 0x3E, 0, 0, 0⟩,
   ⟨.HPL_TVERD, 0x601018, (0x4000, 32), (0, 1), (0, 1), 0, 0, 0, 0, 0⟩,
   ⟨.HPL_TSTS, 0x601020, (0x4000, 32), (0, 1), (0, 1), 0, 0x8000000000000000, 0, 0, 0⟩,
   ⟨.HPL_TSTS2, 0x601028, (0x4000, 32), (0, 1), (0, 1), 0, 0, 0, 0, 0⟩,
   ⟨.HPL_ERRCNT, 0x601030, (0x4000, 32), (0, 1), (0, 1), 0, 0, 0, 0, 0⟩,
   ⟨.HPL_TMETA, 0x601800, (0x4000, 32), (0x20, 64), (8, 4), 0, 0, 0, 0, 0⟩,
   ⟨.HPL_PROG, 0x602000, (0x4000, 32), (0x200, 16), (8, 64), 0xFFFFFFFFFFFFFFFF, 0, 0, 0, 0x400000304000003⟩,
   ⟨.HPL_KMASK, 0x6C0000, (0, 1), (0, 1), (0, 1), 0xFFFFFFFFFFFFFFFF, 0, 0, 0, 0xFFFFF3FF⟩,
   ⟨.HPL_HASHK, 0x6C0008, (0, 1), (0, 1), (0, 1), 0, 0, 0, 0, 0⟩,
   ⟨.HPL_HASHR, 0x6C0010, (0, 1), (0, 1), (0, 1), 0, 0, 0, 0, 0⟩,
   ⟨.HPL_TAPR, 0x6C0018, (0, 1), (0, 1), (0, 1), 0x1FF0000, 0, 0, 0, 0⟩]

def regRows2 : List RegRow :=
  [⟨.HPL_HSEED, 0x6C0020, (0, 1), (0, 1), (0, 1), 0, 0, 0, 0xFFFFFFFFFFFFFFFF, 0⟩,
   ⟨.HPL_HASHK2, 0x6C0028, (0, 1), (0, 1), (0, 1), 0xFFFFFFFFFFFFFFFF, 0, 0, 0, 0⟩,
   ⟨.HPL_FTBL, 0x6C0180, (8, 48), (0, 1), (0, 1), 0x7FFFFF0F7, 0, 0, 0, 0⟩,
   ⟨.HPL_FENCE, 0x6C1000, (8, 128), (0, 1), (0, 1), 0xFFFFFFFFFFFFFFFF, 0, 0, 0, 0⟩,
   ⟨.HPL_UMSEL, 0x6C2000, (0, 1), (0, 1), (0, 1), 0xFFFF003F, 0, 0, 0, 0⟩,
   ⟨.HPL_UMDATA, 0x6C2008, (0, 1), (0, 1), (0, 1), 0, 0xFFFFFFFFFFFFFFFF, 0, 0, 0⟩,
   ⟨.BUF_CFG, 0x17F0000, (0, 1), (0, 1), (0, 1), 0x7F0FFFFFFF, 0, 0, 0, 0xC88064⟩,
   ⟨.BUF_CRANK, 0x17F0008, (0, 1), (0, 1), (0, 1), 0xFFFFFF, 0, 0, 0, 0xFAC688⟩,
   ⟨.BUF_STS, 0x17F0010, (0, 1), (0, 1), (0, 1), 0, 0x1010000000000, 0, 0, 0⟩,
   ⟨.BUF_RSV, 0x17F0018, (0, 1), (0, 1), (0, 1), 0, 0, 0, 0, 0⟩,
   ⟨.MIR_SES_CTL, 0x1E00000, (0x40, 16), (0, 1), (0, 1), 0xFFFFFFFF3FFF07F3, 0, 0, 0, 0⟩,
   ⟨.MIR_SES_LIM, 0x1E00008, (0x40, 16), (0, 1), (0, 1), 0xFFFFF, 0, 0, 0, 0⟩,
   ⟨.MIR_SES_CNT, 0x1E00010, (0x40, 16), (0, 1), (0, 1), 0, 0, 0, 0, 0⟩,
   ⟨.MIR_SES_SKIP, 0x1E00018, (0x40, 16), (0, 1), (0, 1), 0, 0, 0, 0, 0⟩,
   ⟨.MIR_PSRC, 0x1E01000, (8, 128), (0, 1), (0, 1), 0x1F1F, 0, 0, 0, 0⟩,
   ⟨.GLN_CFG, 0x1E10000, (0, 1), (0, 1), (0, 1), 0xF1F07, 0, 0, 0, 0x1104⟩,
   ⟨.GLN_HBASE, 0x1E10008, (0, 1), (0, 1), (0, 1), 0xFFFFFFFFFFFFF000, 0, 0, 0, 0⟩,
   ⟨.GLN_PROD, 0x1E10010, (0, 1), (0, 1), (0, 1), 0, 0, 0, 0, 0⟩,
   ⟨.GLN_CONS, 0x1E10018, (0, 1), (0, 1), (0, 1), 0xFFFFFFFF, 0, 0, 0, 0⟩,
   ⟨.GLN_LOST, 0x1E10020, (0, 1), (0, 1), (0, 1), 0, 0, 0, 0, 0⟩,
   ⟨.SCH_Q_CFG, 0x1400000, (0x20, 65536), (0, 1), (0, 1), 0xFFFF01FFFFFF, 0, 0, 0, 0⟩,
   ⟨.SCH_Q_SHP, 0x1400008, (0x20, 65536), (0, 1), (0, 1), 0x13FFF, 0, 0, 0, 0⟩,
   ⟨.SCH_Q_STS, 0x1400010, (0x20, 65536), (0, 1), (0, 1), 0, 0, 0, 0, 0⟩,
   ⟨.SCH_STS, 0x17E0000, (0, 1), (0, 1), (0, 1), 0, 0xF, 0, 0, 0⟩,
   ⟨.SCH_PRT_LEN, 0x1700000, (0x100, 128), (0, 1), (0, 1), 0x3FFFFFFFFFF01, 0, 0, 0, 0x1000F800⟩,
   ⟨.SCH_PRT_LVL, 0x1700008, (0x100, 128), (0, 1), (0, 1), 0xFFFF, 0, 0, 0, 0⟩,
   ⟨.SCH_PRT_CW0, 0x1700010, (0x100, 128), (0, 1), (0, 1), 0xFFFFFFFFFFFFFFFF, 0, 0, 0, 0⟩,
   ⟨.SCH_PRT_CW1, 0x1700018, (0x100, 128), (0, 1), (0, 1), 0xFFFFFFFFFFFFFFFF, 0, 0, 0, 0⟩,
   ⟨.SCH_PRT_CAL, 0x1700020, (0x100, 128), (0, 1), (0, 1), 0xFFFFFFFF000FFF7F, 0, 0, 0, 0⟩,
   ⟨.SCH_PRT_CSTS, 0x1700028, (0x100, 128), (0, 1), (0, 1), 0, 0, 0, 0, 0⟩,
   ⟨.SCH_SLOT, 0x1710000, (0x800, 64), (8, 255), (0, 1), 0x9FFF, 0, 0, 0, 0⟩,
   ⟨.SHP_CFG, 0x1600000, (0x20, 16384), (0, 1), (0, 1), 0xFFFFFFFF01FFFFFF, 0, 0, 0, 0⟩,
   ⟨.SHP_TOK, 0x1600008, (0x20, 16384), (0, 1), (0, 1), 0, 0, 0, 0, 0⟩,
   ⟨.SHP_STS, 0x1600010, (0x20, 16384), (0, 1), (0, 1), 0, 0, 0, 0, 0⟩,
   ⟨.POL_RATE, 0x1680000, (0x20, 16384), (0, 1), (0, 1), 0xFFFFFF01FFFFFF, 0, 0, 0, 0⟩,
   ⟨.POL_BURST, 0x1680008, (0x20, 16384), (0, 1), (0, 1), 0xFFFFFFFFFFFFFFFF, 0, 0, 0, 0⟩,
   ⟨.POL_ACT, 0x1680010, (0x20, 16384), (0, 1), (0, 1), 0xFF0F, 0, 0, 0, 0x4008⟩,
   ⟨.POL_CNT, 0x1680018, (0x20, 16384), (0, 1), (0, 1), 0, 0, 0, 0, 0⟩,
   ⟨.PHY_CTL, 0x100000, (0x10000, 32), (0, 1), (0, 1), 0x1F, 0, 0, 0, 4⟩,
   ⟨.PHY_STS, 0x100008, (0x10000, 32), (0, 1), (0, 1), 0, 0x2000000, 0, 0, 0xF00⟩]

def regRows3 : List RegRow :=
  [⟨.PHY_SUB, 0x100010, (0x10000, 32), (0, 1), (0, 1), 0xF, 0, 0, 0, 0xF⟩,
   ⟨.PHY_TXEQ, 0x100018, (0x10000, 32), (0, 1), (0, 1), 0x1F1F, 0, 0, 0, 0x804⟩,
   ⟨.FEC_CW, 0x100020, (0x10000, 32), (0, 1), (0, 1), 0, 0, 0, 0, 0⟩,
   ⟨.OCT_BIF, 0x100030, (0x10000, 32), (0, 1), (0, 1), 7, 0, 0, 0, 0⟩,
   ⟨.FEC_SYM, 0x100040, (0x10000, 32), (8, 9), (0, 1), 0, 0, 0, 0, 0⟩,
   ⟨.LN_EQ, 0x100100, (0x10000, 32), (0x20, 9), (0, 1), 0xFF, 0, 0, 0, 0⟩,
   ⟨.LN_TST, 0x100108, (0x10000, 32), (0x20, 9), (0, 1), 0x3F377, 0, 0, 0, 0⟩,
   ⟨.LNK_CTL, 0x102000, (0x10000, 32), (0, 1), (0, 1), 0xFF1FFF1FFF, 0, 0, 0, 0x800C80050⟩,
   ⟨.LNK_STS, 0x102008, (0x10000, 32), (0, 1), (0, 1), 0, 0, 0, 0, 0⟩,
   ⟨.LNK_CNT, 0x102010, (0x10000, 32), (0, 1), (0, 1), 0, 0, 0, 0, 0⟩,
   ⟨.SES_CFG, 0x7C0000, (0, 1), (0, 1), (0, 1), 0xFFFF000FFFFFFF3F, 0, 0, 0, 0x3E8000800140A20⟩,
   ⟨.SES_ACTIVE, 0x7C0008, (0, 1), (0, 1), (0, 1), 0, 0, 0, 0, 0⟩,
   ⟨.SES_CNT, 0x7C0010, (0, 1), (0, 1), (0, 1), 0, 0, 0, 0, 0⟩,
   ⟨.LDG_CFG, 0x700000, (0, 1), (0, 1), (0, 1), 0x7F3FFFFFF3FFFF, 0, 0, 0, 0x6404010000⟩,
   ⟨.LDG_STS, 0x700008, (0, 1), (0, 1), (0, 1), 0, 0x10000000000, 0, 0, 0⟩,
   ⟨.LDG_CNT, 0x700010, (0, 1), (0, 1), (0, 1), 0, 0, 0, 0, 0⟩,
   ⟨.LDG_IDX, 0x700018, (0, 1), (0, 1), (0, 1), 0x3FFFF, 0, 0, 0, 0⟩,
   ⟨.LDG_AERA, 0x700040, (0, 1), (0, 1), (0, 1), 0xFFFFFFFFFFFFFFFF, 0, 0, 0, 0⟩,
   ⟨.LDG_AERC, 0x700048, (0, 1), (0, 1), (0, 1), 0x3FF7F, 0, 0, 0, 0⟩,
   ⟨.LDG_AERS, 0x700050, (0, 1), (0, 1), (0, 1), 0, 0, 0, 0, 0⟩,
   ⟨.LDG_RUNOUT, 0x700058, (0, 1), (0, 1), (0, 1), 0, 0, 0, 0, 0⟩,
   ⟨.LDG_EDATA, 0x700020, (8, 4), (0, 1), (0, 1), 0, 0, 0, 0, 0⟩,
   ⟨.LDG_TLOG, 0x710000, (8, 8192), (0, 1), (0, 1), 0xFFFF0003, 0, 0, 0, 0⟩,
   ⟨.FN_ID, 0x10000000, (0x10000, 4224), (0, 1), (0, 1), 0, 0, 0, 0, 0⟩,
   ⟨.FN_STS, 0x10000008, (0x10000, 4224), (0, 1), (0, 1), 0, 0, 0, 0, 0⟩,
   ⟨.FN_LOG_BASE, 0x10000010, (0x10000, 4224), (0, 1), (0, 1), 0xFFFFFFFFFFFFF000, 0, 0, 0, 0⟩,
   ⟨.FN_LOG_CFG, 0x10000018, (0x10000, 4224), (0, 1), (0, 1), 0x1F01, 0, 0, 0, 0xA00⟩,
   ⟨.FN_LOG_PROD, 0x10000020, (0x10000, 4224), (0, 1), (0, 1), 0, 0, 0, 0, 0⟩,
   ⟨.FN_LOG_CONS, 0x10000028, (0x10000, 4224), (0, 1), (0, 1), 0xFFFFFFFF, 0, 0, 0, 0⟩,
   ⟨.FN_MBX_IN, 0x10000100, (0x10000, 4224), (8, 32), (0, 1), 0xFFFFFFFFFFFFFFFF, 0, 0, 0, 0⟩,
   ⟨.FN_MBX_OUT, 0x10000200, (0x10000, 4224), (8, 32), (0, 1), 0, 0, 0, 0, 0⟩,
   ⟨.FN_MBX_DB, 0x10000300, (0x10000, 4224), (0, 1), (0, 1), 0, 0, 0, 0, 0⟩,
   ⟨.FN_MBX_RSP, 0x10000308, (0x10000, 4224), (0, 1), (0, 1), 0, 0, 0, 0, 0⟩,
   ⟨.FN_MBX_STS, 0x10000310, (0x10000, 4224), (0, 1), (0, 1), 0, 6, 0, 0, 0⟩,
   ⟨.FN_MSIX, 0x1000E000, (0x10000, 4224), (8, 128), (0, 1), 0xFFFFFFFFFFFFFFFF, 0, 0, 0, 0⟩,
   ⟨.FN_PBA, 0x1000F000, (0x10000, 4224), (0, 1), (0, 1), 0, 0, 0, 0, 0⟩,
   ⟨.FFN_CFG, 0x340000, (0, 1), (0, 1), (0, 1), 0x7FFF, 0, 0, 0, 0⟩,
   ⟨.FFN_STS, 0x340008, (0, 1), (0, 1), (0, 1), 0, 3, 0, 0, 0⟩,
   ⟨.FFN_ROM, 0x340010, (0, 1), (0, 1), (0, 1), 0x1FFFFFFFFFFFFF, 0, 0, 0, 0⟩,
   ⟨.FFN_APR, 0x340018, (0, 1), (0, 1), (0, 1), 0x1FFF, 0, 0, 0, 0⟩]

def regRows4 : List RegRow :=
  [⟨.FFN_PF_CFG, 0x341000, (0x40, 128), (0, 1), (0, 1), 0x1FFF1FFF0FFF0003, 0, 0, 0, 0⟩,
   ⟨.FFN_TLF, 0x344000, (8, 8192), (0, 1), (0, 1), 0x11FFF, 0, 0, 0, 0⟩,
   ⟨.FFN_FN_CFG, 0x354000, (0x20, 4224), (0, 1), (0, 1), 0x1FF0FFF00011FFF, 0, 0, 0, 0⟩,
   ⟨.FFN_FN_STS, 0x354008, (0x20, 4224), (0, 1), (0, 1), 0, 0, 0, 0, 0⟩,
   ⟨.FFN_FN_CNT, 0x354010, (0x20, 4224), (0, 1), (0, 1), 0, 0, 0, 0, 0⟩,
   ⟨.FFN_FN_MAP, 0x354018, (0x20, 4224), (0, 1), (0, 1), 0, 0, 0, 0, 0⟩,
   ⟨.DL_CTL, 0xC000000, (0x40, 256), (0, 1), (0, 1), 0x1FFF0FFFFFFF0003, 0, 0, 0, 0⟩,
   ⟨.DL_RBASE, 0xC000008, (0x40, 256), (0, 1), (0, 1), 0xFFFFFFFFFFFFF000, 0, 0, 0, 0⟩,
   ⟨.DL_RCFG, 0xC000010, (0x40, 256), (0, 1), (0, 1), 0x1F, 0, 0, 0, 0xC⟩,
   ⟨.DL_PROD, 0xC000018, (0x40, 256), (0, 1), (0, 1), 0, 0, 0, 0, 0⟩,
   ⟨.DL_CONS, 0xC000020, (0x40, 256), (0, 1), (0, 1), 0xFFFFFFFF, 0, 0, 0, 0⟩,
   ⟨.DL_SYNC, 0xC000028, (0x40, 256), (0, 1), (0, 1), 0, 0, 0, 0, 0⟩,
   ⟨.DL_STS, 0xC000030, (0x40, 256), (0, 1), (0, 1), 0, 0xD, 0, 0, 0⟩,
   ⟨.DMA_CH_SRC, 0x1800000, (0x4000, 17), (0x40, 256), (0, 1), 0xFFFFFFFFFFFFFFFF, 0, 0, 0, 0⟩,
   ⟨.DMA_CH_DST, 0x1800008, (0x4000, 17), (0x40, 256), (0, 1), 0xFFFFFFFFFFFFFFFF, 0, 0, 0, 0⟩,
   ⟨.DMA_CH_CNT, 0x1800010, (0x4000, 17), (0x40, 256), (0, 1), 0xFFFFFFFF, 0, 0, 0, 0⟩,
   ⟨.DMA_CH_CTL, 0x1800018, (0x4000, 17), (0x40, 256), (0, 1), 0x3FFFFC, 0, 0, 0, 0x38000⟩,
   ⟨.DMA_CH_STS, 0x1800020, (0x4000, 17), (0x40, 256), (0, 1), 0, 0x7000, 0, 0, 0⟩,
   ⟨.DMA_CH_DONE, 0x1800028, (0x4000, 17), (0x40, 256), (0, 1), 0, 0, 0, 0, 0⟩,
   ⟨.DMA_CH_LIST, 0x1800030, (0x4000, 17), (0x40, 256), (0, 1), 0xFFFFFFFFFFFFFFE0, 0, 0, 0, 0⟩,
   ⟨.DMA_CH_FADDR, 0x1800038, (0x4000, 17), (0x40, 256), (0, 1), 0, 0, 0, 0, 0⟩,
   ⟨.DMA_ENG_CTL, 0x1B00000, (0x100, 17), (0, 1), (0, 1), 0xFF, 0, 0, 0, 1⟩,
   ⟨.DMA_ENG_STS, 0x1B00008, (0x100, 17), (0, 1), (0, 1), 0, 0, 0, 0, 1⟩,
   ⟨.DMA_CFG, 0x1BF0000, (0, 1), (0, 1), (0, 1), 0x7F7F, 0, 0, 0, 5⟩,
   ⟨.SPC_CTL, 0x1F00000, (0x100, 32), (0, 1), (0, 1), 0x1FFB, 0, 0, 0, 0⟩,
   ⟨.SPC_VTH, 0x1F00008, (0x100, 32), (0, 1), (0, 1), 0xFFFFFFFFFFFF, 0, 0, 0, 0xC84385783FC⟩,
   ⟨.SPC_TMR0, 0x1F00010, (0x100, 32), (0, 1), (0, 1), 0xFFFF0FFFFFFF, 0, 0, 0, 0x7D001428064⟩,
   ⟨.SPC_TMR1, 0x1F00018, (0x100, 32), (0, 1), (0, 1), 0x3FFFFFFFFFFFFFF, 0, 0, 0, 0x190286403E803E8⟩,
   ⟨.SPC_ILIM, 0x1F00020, (0x100, 32), (0, 1), (0, 1), 0xFF03FF03FF, 0, 0, 0, 0x1E006400FA⟩,
   ⟨.SPC_TM, 0x1F00028, (0x100, 32), (0, 1), (0, 1), 0xFFFFFFFFFFFFFFFF, 0, 0, 0, 0xA5A963C006400C8⟩,
   ⟨.SPC_STS, 0x1F00030, (0x100, 32), (0, 1), (0, 1), 0, 0x10000, 0, 0, 0x4000⟩,
   ⟨.SPC_MEAS, 0x1F00038, (0x100, 32), (0, 1), (0, 1), 0, 0, 0, 0, 0⟩,
   ⟨.SPC_CNT, 0x1F00040, (0x100, 32), (0, 1), (0, 1), 0, 0, 0, 0, 0⟩,
   ⟨.PWR_CTL, 0x8000, (0, 1), (0, 1), (0, 1), 0x1FFFFFE, 0, 0, 0, 0⟩,
   ⟨.PWR_STS, 0x8008, (0, 1), (0, 1), (0, 1), 0, 0, 0, 0, 0⟩,
   ⟨.PWR_REJ, 0x8018, (0, 1), (0, 1), (0, 1), 0, 1, 0, 0, 0⟩,
   ⟨.CLK_CTL, 0x4000, (0, 1), (0, 1), (0, 1), 7, 0, 0, 0, 2⟩,
   ⟨.CLK_STS, 0x4008, (0, 1), (0, 1), (0, 1), 0, 0, 0, 0, 4⟩,
   ⟨.CLK_TWIN, 0x4010, (0, 1), (0, 1), (0, 1), 0, 0, 0, 0, 0⟩,
   ⟨.CLK_SWCNT, 0x4018, (0, 1), (0, 1), (0, 1), 0, 0, 0, 0, 0⟩]

def regRows5 : List RegRow :=
  [⟨.SAG_CFG, 0xC000, (0, 1), (0, 1), (0, 1), 0x7F73, 0, 0, 0, 3⟩,
   ⟨.SAG_VT, 0xC008, (0, 1), (0, 1), (0, 1), 0, 0, 0, 0, 0⟩,
   ⟨.SAG_STS, 0xC028, (0, 1), (0, 1), (0, 1), 0, 0x2000, 0, 0, 0⟩,
   ⟨.SAG_MEAS, 0xC030, (0, 1), (0, 1), (0, 1), 0, 0, 0, 0, 0⟩,
   ⟨.SAG_CNT, 0xC038, (0, 1), (0, 1), (0, 1), 0, 0, 0, 0, 0⟩,
   ⟨.SAG_THR, 0xC010, (8, 3), (0, 1), (0, 1), 0xFFFFFFFFFFFFFFF, 0, 0, 0, 0xE63ACEDBC0F2BD4⟩,
   ⟨.PCN_SNAP, 0x1D20000, (0, 1), (0, 1), (0, 1), 0, 0, 0, 0, 0⟩,
   ⟨.PCN_EPOCH, 0x1D20008, (0, 1), (0, 1), (0, 1), 0, 0, 0, 0, 0⟩,
   ⟨.PCN_STIME, 0x1D20010, (0, 1), (0, 1), (0, 1), 0, 0, 0, 0, 0⟩,
   ⟨.PCN_STS, 0x1D20018, (0, 1), (0, 1), (0, 1), 0, 1, 0, 0, 0⟩,
   ⟨.PCN_SAPR, 0x1D20020, (0, 1), (0, 1), (0, 1), 3, 0, 0, 0, 0⟩,
   ⟨.TRC_CFG, 0x1E20000, (0, 1), (0, 1), (0, 1), 0x3FFFF, 0, 0, 0, 0x2020⟩,
   ⟨.TRC_SEED, 0x1E20008, (0, 1), (0, 1), (0, 1), 0x7FFFFFFF, 0, 0, 0, 1⟩,
   ⟨.TRC_CNT, 0x1E20010, (0, 1), (0, 1), (0, 1), 0, 0, 0, 0, 0⟩,
   ⟨.ALM_CFG, 0x1F80000, (0, 1), (0, 1), (0, 1), 0x3F3FFF, 0, 0, 0, 0x3F0100⟩,
   ⟨.ALM_MATCH, 0x1F80008, (0, 1), (0, 1), (0, 1), 0x1FFFFFFFFFF, 0, 0, 0, 0xFFFF000000⟩,
   ⟨.ALM_HEAD, 0x1F80010, (0, 1), (0, 1), (0, 1), 0, 0, 0, 0, 0⟩,
   ⟨.ALM_CMD, 0x1F80018, (0, 1), (0, 1), (0, 1), 0, 0, 0, 0, 0⟩,
   ⟨.ALM_STS, 0x1F80020, (0, 1), (0, 1), (0, 1), 0, 4, 0, 0, 0⟩,
   ⟨.ALM_APR, 0x1F80028, (0, 1), (0, 1), (0, 1), 0xFF1, 0, 0, 0, 0⟩,
   ⟨.ALM_SLOT, 0x1F80100, (8, 16), (0, 1), (0, 1), 4, 0, 0, 0, 0⟩,
   ⟨.ALM_FWREC, 0x1F80400, (0x20, 32), (8, 3), (0, 1), 0, 0, 0, 0, 0⟩,
   ⟨.WEAR_CFG, 0x14000, (0, 1), (0, 1), (0, 1), 0x7FFF01, 0, 0, 0, 0x3C01⟩,
   ⟨.WEAR_THR, 0x14008, (0, 1), (0, 1), (0, 1), 0xFFFFFFFFFFFFFF, 0, 0, 0, 0xA0C00400C012C⟩,
   ⟨.WEAR_DATA, 0x14018, (0, 1), (0, 1), (0, 1), 0, 0, 0, 0, 0⟩,
   ⟨.WEAR_IDX, 0x14010, (0, 1), (0, 1), (0, 1), 0xFFFFFF, 0, 0, 0, 0⟩,
   ⟨.WEAR_ACK, 0x14020, (0, 1), (0, 1), (0, 1), 0, 0, 0, 0, 0⟩,
   ⟨.FAL_CMD, 0x10000, (0, 1), (0, 1), (0, 1), 0x1FFFFFFF, 0, 0, 0, 0⟩,
   ⟨.FAL_STS, 0x10008, (0, 1), (0, 1), (0, 1), 0, 0x100, 0, 0, 0⟩,
   ⟨.FAL_CFG, 0x10010, (0, 1), (0, 1), (0, 1), 0x7FFFFF, 0, 0, 0, 0x1E⟩,
   ⟨.FAL_SPARE, 0x10100, (8, 26), (0, 1), (0, 1), 0, 0, 0, 0, 0⟩,
   ⟨.GLB_ID, 0, (0, 1), (0, 1), (0, 1), 0, 0, 0, 0, 0x5D9CA00096001E8A⟩,
   ⟨.GLB_MODE, 8, (0, 1), (0, 1), (0, 1), 0xFFF0001, 0, 0, 0, 0⟩,
   ⟨.GLB_RSTC, 0x10, (0, 1), (0, 1), (0, 1), 0, 0xF0, 0, 0, 1⟩,
   ⟨.GLB_STS, 0x18, (0, 1), (0, 1), (0, 1), 0, 0xC, 0, 0, 0⟩,
   ⟨.GLB_TIME, 0x20, (0, 1), (0, 1), (0, 1), 0, 0, 0, 0, 0⟩,
   ⟨.GLB_DSN, 0x28, (0, 1), (0, 1), (0, 1), 0, 0, 0, 0, 0x9600000000000000⟩,
   ⟨.GLB_TSYNC, 0x30, (0, 1), (0, 1), (0, 1), 0, 0, 0, 0, 0⟩,
   ⟨.GLB_NFID, 0x38, (0, 1), (0, 1), (0, 1), 0xFFFF, 0, 0, 0, 0⟩,
   ⟨.SEC_BOOT_STS, 0x1FC0000, (0, 1), (0, 1), (0, 1), 0, 0, 0, 0, 0⟩]

def regRows6 : List RegRow :=
  [⟨.SEC_RUNSEQ, 0x1FC0008, (0, 1), (0, 1), (0, 1), 0, 0, 0, 0, 0⟩,
   ⟨.SEC_VERIFY, 0x1FC0010, (0, 1), (0, 1), (0, 1), 1, 8, 0, 0, 0⟩,
   ⟨.SEC_FLCTL, 0x1FC0018, (0, 1), (0, 1), (0, 1), 0xFFFFFF07, 0x20, 0, 0, 0⟩,
   ⟨.SEC_FLBUF, 0x1FC0100, (8, 32), (0, 1), (0, 1), 0xFFFFFFFFFFFFFFFF, 0, 0, 0, 0⟩]

/-- Every register of the spec. -/
def regRows : List RegRow :=
  regRows0 ++ regRows1 ++ regRows2 ++ regRows3 ++ regRows4 ++ regRows5 ++ regRows6

/-- The registers whose reset value is not zero. -/
def resetRows : List RegRow :=
  [⟨.CCL_CTL, 0x300000, (0x10000, 4), (0, 1), (0, 1), 0x7F003F, 0, 0, 0, 1⟩,
   ⟨.CCL_WDT, 0x300100, (0x10000, 4), (0, 1), (0, 1), 0xFFFFFFFF, 0, 0, 0x100000000, 0x186A0⟩,
   ⟨.EVT_Q_CFG, 0x380000, (0x40, 64), (0, 1), (0, 1), 0xFFFF000F1FFF, 0, 0, 0, 0x41FC0⟩,
   ⟨.TBL_DRAIN, 0x7F0010, (0, 1), (0, 1), (0, 1), 0x3FFF, 0, 0, 0, 0x4000⟩,
   ⟨.TBL_HB, 0x7F0028, (0, 1), (0, 1), (0, 1), 0x1FFFFFFFF, 0, 0, 0, 0x2710⟩,
   ⟨.PRT_LCTL, 0x400000, (0x4000, 128), (0, 1), (0, 1), 0x7FFF, 0, 0, 0, 0x2A6⟩,
   ⟨.PRT_EQ, 0x400010, (0x4000, 128), (0, 1), (0, 1), 0x70FFFFF000FFFFF, 0, 0, 0, 0x504444400044444⟩,
   ⟨.PRT_BRG_TOF, 0x400090, (0x4000, 128), (0, 1), (0, 1), 0xFFFFFFFFFFFFFFFF, 0, 0, 0, 0x8004000200040⟩,
   ⟨.PRT_BRG_FRF, 0x400098, (0x4000, 128), (0, 1), (0, 1), 0xFFFFFFFFFFFFFFFF, 0, 0, 0, 0x8040000200040⟩,
   ⟨.PRT_BUFDT, 0x4000A0, (0x4000, 128), (0, 1), (0, 1), 0xFFFFFFFF, 0, 0, 0, 0x66666666⟩,
   ⟨.PRT_NRSV, 0x4000A8, (0x4000, 128), (0, 1), (0, 1), 0xFFFFFFFFFFFFFF, 0, 0, 0, 0x100C00C00C00C0⟩,
   ⟨.PRT_LDGRSV, 0x4000B8, (0x4000, 128), (0, 1), (0, 1), 0xFFFFFFFF, 0, 0, 0, 0x400040⟩,
   ⟨.HPL_PROG, 0x602000, (0x4000, 32), (0x200, 16), (8, 64), 0xFFFFFFFFFFFFFFFF, 0, 0, 0, 0x400000304000003⟩,
   ⟨.HPL_KMASK, 0x6C0000, (0, 1), (0, 1), (0, 1), 0xFFFFFFFFFFFFFFFF, 0, 0, 0, 0xFFFFF3FF⟩,
   ⟨.BUF_CFG, 0x17F0000, (0, 1), (0, 1), (0, 1), 0x7F0FFFFFFF, 0, 0, 0, 0xC88064⟩,
   ⟨.BUF_CRANK, 0x17F0008, (0, 1), (0, 1), (0, 1), 0xFFFFFF, 0, 0, 0, 0xFAC688⟩,
   ⟨.GLN_CFG, 0x1E10000, (0, 1), (0, 1), (0, 1), 0xF1F07, 0, 0, 0, 0x1104⟩,
   ⟨.SCH_PRT_LEN, 0x1700000, (0x100, 128), (0, 1), (0, 1), 0x3FFFFFFFFFF01, 0, 0, 0, 0x1000F800⟩,
   ⟨.POL_ACT, 0x1680010, (0x20, 16384), (0, 1), (0, 1), 0xFF0F, 0, 0, 0, 0x4008⟩,
   ⟨.PHY_CTL, 0x100000, (0x10000, 32), (0, 1), (0, 1), 0x1F, 0, 0, 0, 4⟩,
   ⟨.PHY_STS, 0x100008, (0x10000, 32), (0, 1), (0, 1), 0, 0x2000000, 0, 0, 0xF00⟩,
   ⟨.PHY_SUB, 0x100010, (0x10000, 32), (0, 1), (0, 1), 0xF, 0, 0, 0, 0xF⟩,
   ⟨.PHY_TXEQ, 0x100018, (0x10000, 32), (0, 1), (0, 1), 0x1F1F, 0, 0, 0, 0x804⟩,
   ⟨.LNK_CTL, 0x102000, (0x10000, 32), (0, 1), (0, 1), 0xFF1FFF1FFF, 0, 0, 0, 0x800C80050⟩,
   ⟨.SES_CFG, 0x7C0000, (0, 1), (0, 1), (0, 1), 0xFFFF000FFFFFFF3F, 0, 0, 0, 0x3E8000800140A20⟩,
   ⟨.LDG_CFG, 0x700000, (0, 1), (0, 1), (0, 1), 0x7F3FFFFFF3FFFF, 0, 0, 0, 0x6404010000⟩,
   ⟨.FN_LOG_CFG, 0x10000018, (0x10000, 4224), (0, 1), (0, 1), 0x1F01, 0, 0, 0, 0xA00⟩,
   ⟨.DL_RCFG, 0xC000010, (0x40, 256), (0, 1), (0, 1), 0x1F, 0, 0, 0, 0xC⟩,
   ⟨.DMA_CH_CTL, 0x1800018, (0x4000, 17), (0x40, 256), (0, 1), 0x3FFFFC, 0, 0, 0, 0x38000⟩,
   ⟨.DMA_ENG_CTL, 0x1B00000, (0x100, 17), (0, 1), (0, 1), 0xFF, 0, 0, 0, 1⟩,
   ⟨.DMA_ENG_STS, 0x1B00008, (0x100, 17), (0, 1), (0, 1), 0, 0, 0, 0, 1⟩,
   ⟨.DMA_CFG, 0x1BF0000, (0, 1), (0, 1), (0, 1), 0x7F7F, 0, 0, 0, 5⟩,
   ⟨.SPC_VTH, 0x1F00008, (0x100, 32), (0, 1), (0, 1), 0xFFFFFFFFFFFF, 0, 0, 0, 0xC84385783FC⟩,
   ⟨.SPC_TMR0, 0x1F00010, (0x100, 32), (0, 1), (0, 1), 0xFFFF0FFFFFFF, 0, 0, 0, 0x7D001428064⟩,
   ⟨.SPC_TMR1, 0x1F00018, (0x100, 32), (0, 1), (0, 1), 0x3FFFFFFFFFFFFFF, 0, 0, 0, 0x190286403E803E8⟩,
   ⟨.SPC_ILIM, 0x1F00020, (0x100, 32), (0, 1), (0, 1), 0xFF03FF03FF, 0, 0, 0, 0x1E006400FA⟩,
   ⟨.SPC_TM, 0x1F00028, (0x100, 32), (0, 1), (0, 1), 0xFFFFFFFFFFFFFFFF, 0, 0, 0, 0xA5A963C006400C8⟩,
   ⟨.SPC_STS, 0x1F00030, (0x100, 32), (0, 1), (0, 1), 0, 0x10000, 0, 0, 0x4000⟩,
   ⟨.CLK_CTL, 0x4000, (0, 1), (0, 1), (0, 1), 7, 0, 0, 0, 2⟩,
   ⟨.CLK_STS, 0x4008, (0, 1), (0, 1), (0, 1), 0, 0, 0, 0, 4⟩,
   ⟨.SAG_CFG, 0xC000, (0, 1), (0, 1), (0, 1), 0x7F73, 0, 0, 0, 3⟩,
   ⟨.SAG_THR, 0xC010, (8, 3), (0, 1), (0, 1), 0xFFFFFFFFFFFFFFF, 0, 0, 0, 0xE63ACEDBC0F2BD4⟩,
   ⟨.TRC_CFG, 0x1E20000, (0, 1), (0, 1), (0, 1), 0x3FFFF, 0, 0, 0, 0x2020⟩,
   ⟨.TRC_SEED, 0x1E20008, (0, 1), (0, 1), (0, 1), 0x7FFFFFFF, 0, 0, 0, 1⟩,
   ⟨.ALM_CFG, 0x1F80000, (0, 1), (0, 1), (0, 1), 0x3F3FFF, 0, 0, 0, 0x3F0100⟩,
   ⟨.ALM_MATCH, 0x1F80008, (0, 1), (0, 1), (0, 1), 0x1FFFFFFFFFF, 0, 0, 0, 0xFFFF000000⟩,
   ⟨.WEAR_CFG, 0x14000, (0, 1), (0, 1), (0, 1), 0x7FFF01, 0, 0, 0, 0x3C01⟩,
   ⟨.WEAR_THR, 0x14008, (0, 1), (0, 1), (0, 1), 0xFFFFFFFFFFFFFF, 0, 0, 0, 0xA0C00400C012C⟩,
   ⟨.FAL_CFG, 0x10010, (0, 1), (0, 1), (0, 1), 0x7FFFFF, 0, 0, 0, 0x1E⟩,
   ⟨.GLB_ID, 0, (0, 1), (0, 1), (0, 1), 0, 0, 0, 0, 0x5D9CA00096001E8A⟩,
   ⟨.GLB_RSTC, 0x10, (0, 1), (0, 1), (0, 1), 0, 0xF0, 0, 0, 1⟩,
   ⟨.GLB_DSN, 0x28, (0, 1), (0, 1), (0, 1), 0, 0, 0, 0, 0x9600000000000000⟩]

/-- One index of a strided register: the index and the offset within it. -/
def splitIndex (d : Nat × Nat) (off : Nat) : Option (Nat × Nat) :=
  if d.1 = 0 then some (0, off)
  else if off / d.1 < d.2 then some (off / d.1, off % d.1) else none

/-- The indices of `row` that offset `off` names, if it names one of its instances. -/
def RegRow.indices? (row : RegRow) (off : Nat) : Option (Nat × Nat × Nat) :=
  if off < row.base then none else
  match splitIndex row.d1 (off - row.base) with
  | none => none
  | some (i, r1) =>
    match splitIndex row.d2 r1 with
    | none => none
    | some (j, r2) =>
      match splitIndex row.d3 r2 with
      | some (k, 0) => some (i, j, k)
      | _ => none

/-- A register found in the map: its row and its indices. -/
structure RegHit where
  row : RegRow
  i : Nat
  j : Nat
  k : Nat
  deriving DecidableEq, Repr

def findIn (rows : List RegRow) (off : Nat) : Option RegHit :=
  rows.findSome? fun row => (row.indices? off).map fun x => ⟨row, x.1, x.2.1, x.2.2⟩

/-- The register that an offset names (R721: none for an offset that no block defines). -/
def findReg (off : Nat) : Option RegHit := findIn regRows off

/-- The second word of an entry of a function's MSI-X table (R551), whose bit 32 is the vector's mask bit. -/
def msixControl (off : Nat) : Bool :=
  decide (0x1000E000 ≤ off) && decide (0xE000 ≤ off % 0x10000) && decide (off % 0x10000 < 0xE400) && off % 16 = 8

/-- The reset value of the register at an offset: the value of its table.  R121: CEN resets to core 0 of cluster 0;
R465: PERSTSEL resets to the port's octet.  A vector of an MSI-X table is masked, as PCI Express has it (PRESUMED, log entry 33). -/
def regReset (off : Nat) : Word :=
  if off = R.CCL_CTL 0 then 1 else if msixControl off then 0x100000000 else
  match findIn resetRows off with
  | none => 0
  | some h =>
    match h.row.cls with
    | .PRT_LCTL => BitVec.ofNat 64 (h.row.reset + (h.i / 4) * 1024)
    | _ => BitVec.ofNat 64 h.row.reset

end Sys2Proof.Machine
end

