-- ==== Sys2Proof/Machine/State.lean ====
section
/-! DEFINITION. Machine/State.lean: the state of the NX9600 as plain data, and the state after reset.
Registers that software reads are kept in `regs` under their offset in the register space (Machine/Regs.lean names them);
table memory and cluster memory are lists of cells; everything the spec gives the device besides (cores, events, packets,
sessions, the ledger, engines, channels) has its own fields.  Times are in picoseconds since power-on (`now`). -/

namespace Sys2Proof.Machine

/-! ### Control cores (R28–R37, R83, R91, R102, R133, R136) -/

/-- An event as queued (R128). -/
structure Event where
  typ : Nat
  arg : Nat
  detail : Word
  deriving DecidableEq, Repr

/-- A buffered store (R83): address and bytes, lowest address first; with `add` the bytes are the addend of a CINC, which is ordered as a
Table store (R109). -/
structure BufStore where
  addr : Nat
  bytes : List Byte
  add : Bool
  deriving DecidableEq, Repr

/-- A Remote store without an outcome (R90, R91): its ledger entry, its place in a run, its address. -/
structure RemoteStore where
  entry : Nat
  item : Nat
  addr : Nat
  deriving DecidableEq, Repr

/-- What a Remote load or a core's other load does with its data: destination register, bytes (1, 2, 4, 8 or 16),
sign extension. -/
structure LoadReq where
  dst : Nat
  bytes : Nat
  signed : Bool
  addr : Nat
  deriving DecidableEq, Repr

/-- How a Remote load ended (R97, R98). -/
inductive LoadResult where
  | data (bytes : List Byte)
  | fault (reason : Nat)
  deriving DecidableEq, Repr

/-- The remote-load slot of a context (R136): the request, its ledger entry, its result once there is one, and whether the
load was preempted, so that it takes its result when it executes again. -/
structure RemoteLoad where
  req : LoadReq
  entry : Nat
  result : Option LoadResult
  preempted : Bool
  deriving DecidableEq, Repr

/-- The fences of R90. -/
inductive FenceKind where
  | s | l | f | x
  deriving DecidableEq, Repr

/-- The handler a context runs (R133, R137): queue, event, the BUDGET in force since its dispatch (R124), run time used (ps), time of
the last start, and whether its budget was already reported. -/
structure Handler where
  queue : Nat
  event : Event
  budget : Nat
  usedPs : Nat
  startPs : Nat
  overBudget : Bool
  deriving DecidableEq, Repr

/-- One register context of a core (R133): g1–g31, p1–p7, PC, STATUS, PRIO, EPC, CAUSE, TVAL, EVQ, the handler being run,
the pending fence, the remote-load slot, the open critical section (time used, start time, address of the
CRIT, none for one that no CRIT opened) and the section that the exception being handled has suspended (R60). -/
structure Ctx where
  g : SMap Word
  p : BitVec 8
  pc : Word
  sup : Bool
  ie : Bool
  crit : Bool
  exl : Bool
  psup : Bool
  pie : Bool
  pcrit : Bool
  vbase : BitVec 11
  cur : BitVec 3
  disp : BitVec 3
  epc : Word
  causeCode : BitVec 8
  causeDetail : BitVec 8
  tval : Word
  evq : Word
  handler : Option Handler
  fence : Option FenceKind
  rload : Option RemoteLoad
  critUsedPs : Nat
  critStartPs : Nat
  critPc : Option Word
  pcritUsedPs : Nat
  pcritPc : Option Word
  deriving DecidableEq, Repr

/-- The register context after a warm reset (R119, and the reset columns of R34–R36). -/
def Ctx.reset : Ctx :=
  { g := [], p := 0, pc := 0, sup := true, ie := false, crit := false, exl := false, psup := false, pie := false,
    pcrit := false, vbase := 0, cur := 0, disp := 0, epc := 0, causeCode := 0, causeDetail := 0, tval := 0, evq := 0,
    handler := none, fence := none, rload := none, critUsedPs := 0, critStartPs := 0, critPc := none, pcritUsedPs := 0,
    pcritPc := none }

/-- A reservation (R102, R103): the granule's memory and number. -/
structure Resv where
  table : Bool
  granule : Nat
  deriving DecidableEq, Repr

/-- A tagged instruction in flight (R688, R689): its address and word, CYCLE at issue and its data address. -/
structure InstTag where
  pc : Word
  word : Nat
  cycle : Word
  daddr : Word
  deriving DecidableEq, Repr

/-- A control core. `holdNext` tells that its next LDRV holds its granule (R107); `outstanding` are its Remote stores without an
outcome. -/
structure Core where
  ctx : Ctx
  saved : List Ctx
  running : Bool
  waitUntil : Option Word
  halting : Bool
  faulted : Bool
  draining : Option Nat
  sbuf : List BufStore
  resv : Option Resv
  stcdFails : Nat
  holdNext : Bool
  hold : Option (Resv × Nat)
  rfault : Option (Nat × Nat)
  outstanding : List RemoteStore
  hung : Bool
  fallow : Bool
  itag : Option InstTag
  deriving DecidableEq, Repr

/-- A core held in reset: its registers at their reset values, not running (R121). -/
def Core.reset : Core :=
  { ctx := Ctx.reset, saved := [], running := false, waitUntil := none, halting := false, faulted := false,
    draining := none, sbuf := [], resv := none, stcdFails := 0, holdNext := false, hold := none, rfault := none, outstanding := [],
    hung := false, fallow := false, itag := none }

/-! ### Events (R123–R137) -/

/-- An event a hardware source holds because its queue had no room (R127). -/
structure HeldEvent where
  src : Nat
  queue : Nat
  event : Event
  deriving DecidableEq, Repr

/-- The event dispatcher: queues, held events, the last queue served per cluster and priority (R131), and the number of
fault-log records each cluster has written (R148); `wdtPs` is when each cluster watchdog's period began (R147). -/
structure EvtState where
  queues : SMap (List Event)
  held : List HeldEvent
  lastServed : SMap Nat
  fltSeq : SMap Nat
  wdtPs : SMap Nat
  deriving DecidableEq, Repr

/-! ### Packets (R230, R235, R269–R281) -/

/-- Where a packet came from. -/
inductive Origin where
  | port (p : Nat)
  | native (p : Nat)
  | dma (ch : Nat)
  | core (c : Nat)
  | node
  | mirror (ses : Nat)
  | proxy (b : Nat)
  deriving DecidableEq, Repr

/-- The pool a packet's cells are drawn from (R276). -/
inductive Pool where
  | none
  | tof (p k : Nat)
  | frf (p k : Nat)
  | landing (p vc : Nat)
  | tenant (t : Nat)
  | shared (port cls tnt : Nat)
  | cplRsv (p : Nat)
  | classC (p : Nat)
  deriving DecidableEq, Repr

/-- Where a packet is. Packets of one place stand in `pkts` in their order there. -/
inductive Loc where
  | credit (n : Nat)
  | ingress (n : Nat)
  | arrival (q : Nat)
  | openHold (key : OpenKey)
  | queue (q : Nat)
  | mirror (p : Nat)
  | classC (p : Nat)
  | trap (n slot : Nat)
  | reseq (rctx q : Nat)
  | held
  deriving DecidableEq, Repr

/-- What the trace record of a traced item needs (R687): the flags, and the times (ps since power-on) of the stages it
has reached. -/
structure Trace where
  inTime : Word
  inPs : Nat
  sampled : Bool
  tagged : Bool
  kind : Nat
  rid : Nat
  tag : Nat
  addr : Word
  exitPs : Option Nat
  enqPs : Option Nat
  selPs : Option Nat
  txPs : Option Nat
  outPort : Option Nat
  port : Nat
  tenant : Nat
  len : Nat
  ord : Nat
  replayed : Bool
  dfid : Nat
  sfid : Nat
  q : Nat
  ses : Nat
  eseq : Nat
  deriving DecidableEq, Repr

/-- A packet: its header window (h0–h15), metadata, payload, and what the buffer, the ledger and edge transport keep of
it.  `rcvd` counts the bytes of it stored so far; `txPort` is the port on which its transmission has begun, `txSent` the
frames handed over, `txDone` whether the last frame has been.  Of a source edge's copy: `sentPs` is when its latest
transmission began, `repl` the replays made, `ageK` whether the last notice was of the ageing kind, `copies` the
transmissions that no notice has accounted for, `dead` whether its item already has its outcome (R447–R451) and `delivered` whether that is delivery.
`ftag` is the tag of a non-flit TLP that its header has no room for (R511; log entry 38) and `enqPs` the time it entered its
queue.  `cellIx` are the logical cells it is stored in, in order (R270, R271), and `copyOf` is, of a mirror copy, the packet copied. -/
structure Pkt where
  id : Nat
  loc : Loc
  origin : Origin
  inPort : Nat
  m0 : Word
  m1 : Word
  m2 : Word
  m3 : Word
  win : List Word
  cxl : Option CxlMsg
  data : List Byte
  hdrLen : Nat
  len : Nat
  rcvd : Nat
  complete : Bool
  ide : Bool
  pool : Pool
  cells : Nat
  entry : Option Nat
  item : Nat
  sctx : Option Nat
  rctx : Option Nat
  qctx : Nat
  progVer : Nat
  arrivedPs : Nat
  txPort : Option Nat
  txSent : Nat
  txDone : Bool
  replay : Bool
  sentPs : Nat
  repl : Nat
  ageK : Bool
  copies : Nat
  dead : Bool
  delivered : Bool
  trace : Option Trace
  ftag : Option Nat
  enqPs : Nat
  cellIx : List Nat
  copyOf : Option Nat
  deriving DecidableEq, Repr

/-! ### The ledger (R500–R538) -/

/-- A ledger entry with the fields of R500, beside its outcome mask, its allocation time, its deadline and what a
resolution still has to hand on, and the traces of items whose packets are gone.  `pool` tells the reservation it was drawn from: 0 none, 1 port P, 2 port NP, 3 shared
pool under the tenant's quota, 4 XRSV, 5 shared pool without quota. -/
structure Entry where
  idx : Nat
  state : Nat
  role : Nat
  kind : Nat
  trap : Bool
  origin : Nat
  stamp : Nat
  tenant : Nat
  inPort : Nat
  outPort : Nat
  cls : Nat
  runCnt : Nat
  runAck : Nat
  gen : Nat
  repl : Nat
  ageK : Bool
  addr : Word
  rid : Nat
  tag : Nat
  xtag : Nat
  lendw : Nat
  cplc : Nat
  dfid : Nat
  sfid : Nat
  ses : Nat
  eseq : Nat
  runout : Word
  pool : Nat
  allocPs : Nat
  deadlinePs : Nat
  forced : Bool
  hdr2 : Word
  tkind : Nat
  gotBytes : Nat
  sctx : Option Nat
  reason : Nat
  pktId : Nat
  tagPort : Option Nat
  tagIdx : Nat
  ide : Bool
  traces : List (Nat × Trace)
  deriving DecidableEq, Repr

/-- A posted-failure or failed-read record (R531) without its sequence number, which its log assigns. -/
structure Rec where
  time : Word
  addr : Word
  rid : Nat
  lendw : Nat
  reason : Nat
  cls : Nat
  kind : Nat
  taddr : Bool
  remaining : Nat
  tenant : Nat
  deriving DecidableEq, Repr

/-- Where a record waits (R533): for a local function's log, or for the RACK of a home node. -/
inductive RecDest where
  | log (fn : Option Nat)
  | home (hfid token sentPs : Nat) (sent : Bool)
  deriving DecidableEq, Repr

/-- A record in the overflow store. -/
structure WaitRec where
  r : Rec
  dest : RecDest
  deriving DecidableEq, Repr

/-- One entry of the write-page history (R527), in order of refresh. -/
structure PageHist where
  port : Nat
  page : Nat
  tenant : Nat
  sfid : Nat
  deriving DecidableEq, Repr

/-- A ledger tag index out of use (R514, R515), and the DMA channel whose item a bus-master clear resolved (R570). -/
structure Quarantine where
  port : Nat
  key : QuarKey
  gen : Nat
  chan : Option Nat
  untilPs : Nat
  deriving DecidableEq, Repr

/-- The ledger beside its registers: entries, the overflow store, the write-page history, quarantined tags, present GEN of
each INDEX, RECORD tokens, the entry and item last put into a queue from a port (R503), the AER search, report times, and the records of no
entry that find no room in the overflow store yet (R533), each with whether it goes to tenant 0's log. -/
structure LdgState where
  entries : List Entry
  overflow : List WaitRec
  hist : List PageHist
  quar : List Quarantine
  gens : SMap Nat
  nextToken : SMap Nat
  seenTokens : SMap (List Nat)
  lastEnq : SMap (Option (Nat × Nat))
  aerPending : Option Word
  lastReport : SMap Nat
  recWait : List (Rec × Bool)
  deriving DecidableEq, Repr

/-! ### Edge transport (R433–R459) -/

/-- A notice awaiting its RECEIPT (R436). -/
structure Notice where
  typ : Nat
  code : Nat
  seq : Nat
  arg : Word
  sentPs : Nat
  deriving DecidableEq, Repr

/-- What a send context remembers of a covered number (R520). -/
structure Covered where
  seq : Nat
  dfid : Nat
  r : Rec
  deriving DecidableEq, Repr

/-- A send context (R438–R451). `carried` tells, by twice the tenant plus its version, the last number sent of the
tenant under that version (R218). -/
structure SendCtx where
  port : Nat
  dfid : Nat
  cls : Nat
  node : Nat
  dport : Nat
  rctx : Nat
  nextSeq : Nat
  base : Nat
  hist : List Covered
  notices : List Notice
  closing : Bool
  aborting : Option Nat
  carried : List (Nat × Nat)
  lastPs : Nat
  deriving DecidableEq, Repr

/-- A receive context (R441–R454): partner, next number to deliver, numbers consumed by SKIP or revoke, coverable
numbers not yet covered, last covered number, revoke boundaries. -/
structure RecvCtx where
  node : Nat
  sport : Nat
  cls : Nat
  replyFid : Nat
  sctx : Nat
  port : Nat
  next : Nat
  consumed : List Nat
  coverable : List Nat
  covered : Nat
  newCov : Nat
  oldestCovPs : Nat
  revokes : List (Nat × Nat)
  deriving DecidableEq, Repr

/-- An OPEN in progress (R439): its key, the send context it will be, if one is free. -/
structure Opening where
  key : OpenKey
  sctx : Option Nat
  sentPs : Nat
  refused : Bool
  deriving DecidableEq, Repr

/-- Sessions: contexts, the session map, OPENs in progress, receive contexts named by an ACCEPT and not used with the CLOSE sent
for each (R439: RCTX, send context number, FID, time sent), what an ended receive context still answers (R436: FID, send
context, SEQ), messages of this node to itself, and whether the notice store is above its mark (R458). -/
structure SesState where
  send : SMap (Option SendCtx)
  recv : SMap (Option RecvCtx)
  map : List (OpenKey × Nat)
  opening : List Opening
  stray : List (Nat × Nat × Nat × Nat)
  gone : SMap (Option (Nat × Nat × Nat))
  loop : List (Nat × EdgeMsg)
  storeHigh : Bool
  deriving DecidableEq, Repr

/-! ### Native links (R403–R428) and the physical layer (R379–R397) -/

/-- A sequenced frame sent and not acknowledged (R416, R421). -/
structure TxFrame where
  typ : Nat
  seq : Nat
  dvc : Nat
  len : Nat
  pay : List Byte
  pkt : Option Nat
  deriving DecidableEq, Repr

/-- The link layer of a native link. Credit pools are indexed 0–3 for VC0–VC3 and 4 for control; `taken` counts the landing cells
consumed since link-up and `ccnt` holds the counts received. -/
structure Link where
  unacked : List TxFrame
  nextSeq : Nat
  expect : Nat
  partner : Option LinkParams
  paramSent : Bool
  paramAcked : Bool
  tsyncSeen : Bool
  debited : SMap Nat
  ccnt : SMap Nat
  taken : SMap Nat
  turn : Nat
  rxPkt : Option Nat
  txPkt : Option Nat
  rtimePs : Nat
  expiries : Nat
  t1s : List Nat
  lastTsync : Option TsyncBody
  lastT4 : Nat
  tsyncDuePs : Nat
  deriving DecidableEq, Repr

def Link.reset : Link :=
  { unacked := [], nextSeq := 0, expect := 0, partner := none, paramSent := false, paramAcked := false,
    tsyncSeen := false, debited := [], ccnt := [], taken := [], turn := 0, rxPkt := none, txPkt := none, rtimePs := 0,
    expiries := 0, t1s := [], lastTsync := none, lastT4 := 0, tsyncDuePs := 0 }

/-- The physical layer of an octet beside its registers: time of entry to the training state, the substitution being
run, the width of each direction, the low bits of the group at which an announced width takes effect; the blocks that no group has taken yet
and the group counter (R366, R373); by lane the transmit taps negotiated in NX5400 compatibility (R386). -/
structure Phy where
  sincePs : Nat
  subOwn : Bool
  subOwnDone : Bool
  subPeerDone : Bool
  subStartPs : Nat
  txHalf : Bool
  rxHalf : Bool
  txNext : Option Bool
  rxNext : Option Bool
  readapting : Bool
  subLane : Nat
  x16 : Bool
  txAt : Nat
  txBlocks : List (List Byte)
  txCount : Nat
  taps : SMap (Nat × Nat)
  deriving DecidableEq, Repr

def Phy.reset : Phy :=
  { sincePs := 0, subOwn := false, subOwnDone := false, subPeerDone := false, subStartPs := 0, txHalf := false,
    rxHalf := false, txNext := none, rxNext := none, readapting := false, subLane := 15, x16 := false,
    txAt := 0, txBlocks := [], txCount := 0, taps := [] }

/-! ### PCIe/CXL ports and virtual switches (R465–R497) -/

/-- Credits a PCIe/CXL partner has granted, per ordering type. -/
structure Credits where
  pHdr : Nat
  pData : Nat
  npHdr : Nat
  npData : Nat
  cplHdr : Nat
  cplData : Nat
  deriving DecidableEq, Repr

/-- A PCIe/CXL port beside its registers: partner's tag width and Max_Payload_Size, credits, requests sent and not
acknowledged at link level (packet ids, oldest first), Link Disable of its link, reservations placed, whether its
presence was lost, the reason code that items for it have while its link is down (R518), the packet of a TLP whose reception ends
badly after its header has gone on (R301), PRT[p]_LCTL as the last training took it and whether a training has begun that no link loss has
ended (R465). -/
structure PciPort where
  tagBits : Nat
  mps : Nat
  credits : Credits
  awaitAck : List Nat
  disabled : Bool
  placed : Option (Nat × Nat × Nat × Nat)
  placedLdg : Option (Nat × Nat)
  removed : Bool
  downReason : Nat
  rxCut : Option Nat
  ideKey : Option Word
  ideRx : Nat
  lctl : Option Word
  training : Bool
  deriving DecidableEq, Repr

def PciPort.reset : PciPort :=
  { tagBits := 10, mps := 4096, credits := ⟨0, 0, 0, 0, 0, 0⟩, awaitAck := [], disabled := false,
    placed := none, placedLdg := none, removed := false, downReason := 0x01, rxCut := none, ideKey := none, ideRx := 0,
    lctl := none, training := false }

/-- A proxy reset of one bound function (R489): phase 0 waiting 100 ms, 1 awaiting the Command register, 2 between polls;
time of the FLR write and of the last action. -/
structure ProxyReset where
  fid : Nat
  phase : Nat
  startPs : Nat
  lastPs : Nat
  deriving DecidableEq, Repr

/-- A virtual downstream port as its host sees it (R473–R484), beside the binding registers: the Changed, Command Completed and
Power Fault Detected bits of its Slot Status, Power Controller Control, Link Disable, Secondary Bus Reset and DPC Trigger
Status, ACS Violation Status (R485), its bus numbers, whether requests below it answer RRS (R477), the other configuration bytes the host
has written, and the proxy resets of its bound functions. -/
structure VdpState where
  dllChanged : Bool
  presChanged : Bool
  cmdDone : Bool
  powerFault : Bool
  powerOff : Bool
  linkDisable : Bool
  sbr : Bool
  dpc : Bool
  acsViol : Bool
  rrs : Bool
  secBus : Nat
  subBus : Nat
  cfg : SMap Byte
  resets : List ProxyReset
  deriving DecidableEq, Repr

def VdpState.reset : VdpState :=
  { dllChanged := false, presChanged := false, cmdDone := false, powerFault := false, powerOff := false,
    linkDisable := false, sbr := false, dpc := false, acsViol := false, rrs := false, secBus := 0, subBus := 0, cfg := [], resets := [] }

/-- The upstream bridge of a virtual switch: its committed HDM decoders (R471: index, base, size, whether committed), the
configuration bytes the host has written, and the DOE object being written to it and the answer not yet read (R474, R486). -/
structure UpBridge where
  decoders : List (Nat × Word × Word × Bool)
  cfg : SMap Byte
  doeIn : List (BitVec 32)
  doeOut : List (BitVec 32)
  deriving DecidableEq, Repr

def UpBridge.reset : UpBridge := { decoders := [], cfg := [], doeIn := [], doeOut := [] }

/-! ### Tables, pipelines, scheduling -/

/-- What the commit engine is doing (R211–R220). -/
inductive TblJob where
  | commit (t : Nat) (revoke : Bool)
  | route (t : Nat) (revoke : Bool)
  | sync (t : Nat)
  | syncRoute (t : Nat)
  deriving DecidableEq, Repr

/-- The commit engine: its job, the heartbeat (time of the last kick, the cluster it came from, time EN was set), the queue-key mask in force, spray
counters by entry, the ternary entries loaded by address (key, mask and result words, R245), the items of each drain, and the
revoked versions with the time of their flip. -/
structure TblState where
  job : Option TblJob
  lastKickPs : Option Nat
  kickCluster : Option Nat
  periodPs : Nat
  kmask : Word
  rr : SMap Nat
  ternary : SMap (List Word)
  drain : SMap (List Nat)
  revoked : List (Nat × Nat)
  deriving DecidableEq, Repr

/-- The header pipelines beside their registers: a running program commit by octet (with whether a drain was under way), the hash in
progress, the use marks (R247), the sampling registers of octets and cores (R684, R688), whether HPL_HSEED is locked (R248), whether the
octet's link layer has stopped returning header credits (R267), the credit counts of a native link frozen then (plus 1, by 4 times
the octet plus VC), and the program copies of the two fallow pipelines, by spare (R711, R751). -/
structure HplState where
  commitMask : SMap Nat
  hashPending : Option Word
  marks : SMap Bool
  lfsr : SMap Nat
  ilfsr : SMap Nat
  seedLocked : Bool
  creditStop : SMap Bool
  creditHeld : SMap Nat
  fallow : SMap (List Word)
  deriving DecidableEq, Repr

/-- The program copies of a pipeline whose every bundle slot holds NOP (R751): 16 slots of 64 words. -/
def nopCopies : List Word := List.replicate 1024 0x0400000304000003

/-- Virtual-time state of the schedulers (R329), shapers and policers (R344–R354). `shpCycle` holds of a shaper the CK_CORE cycle of its
last charge (plus 1), its tokens as that cycle began and the ports that started a packet in it (R348). -/
structure SchState where
  vtime : SMap Nat
  tag : SMap Nat
  active : SMap Nat
  tokens : SMap Int
  shpCycle : SMap (Nat × Int × List Nat)
  shpPend : SMap (Option Word)
  shpCfg : SMap Word
  ctok : SMap Nat
  ptok : SMap Nat
  polCfg : SMap Word
  calNow : SMap Word
  slotNow : SMap Word
  lastTick : Nat
  deriving DecidableEq, Repr

/-- The Gleaner: records waiting to be written (R314), the loss run, the ring in SRAM; and of the buffer's error reports the
time (plus 1) of the last one of each port and code and the discards not reported since (R295). -/
structure GlnState where
  pendingRecs : List (List Byte)
  lostRun : Nat
  sram : SMap (List Byte)
  rptPs : SMap Nat
  rptMerged : SMap Nat
  deriving DecidableEq, Repr

/-! ### The fabric function and dirty logging (R543–R584) -/

/-- A function of the fabric function beside its page registers: bus master enable, reset in progress, deferred failure
log vector, and host configuration bytes. -/
structure FnState where
  bme : Bool
  mse : Bool
  vfEnable : Bool
  numVfs : Nat
  rst : Option Nat
  lastVecPs : Option Nat
  vecPending : Bool
  tenantSet : Bool
  cfg : SMap Byte
  deriving DecidableEq, Repr

def FnState.reset : FnState :=
  { bme := false, mse := false, vfEnable := false, numVfs := 0, rst := none, lastVecPs := none,
    vecPending := false, tenantSet := false, cfg := [] }

/-- A dirty-log cache entry (R580): tracker, page, time made. -/
structure DlEntry where
  k : Nat
  page : Nat
  madePs : Nat
  deriving DecidableEq, Repr

/-- A SYNC in progress (R583): tracker, token, the pages present at the mark. -/
structure DlSync where
  k : Nat
  token : Nat
  deriving DecidableEq, Repr

structure FfnState where
  fns : SMap FnState
  cache : List DlEntry
  syncs : List DlSync
  deriving DecidableEq, Repr

/-! ### DMA (R585–R614) -/

/-- A burst of a channel (R593): offset in its descriptor, length, the read's ledger entry, data fetched, whether the read
used an engine tag, whether its read is to be made again, and the reason of a failed repetition (R611). -/
structure Burst where
  off : Nat
  len : Nat
  entry : Option Nat
  data : Option (List Byte)
  engineTag : Bool
  again : Bool
  failed : Option Nat
  deriving DecidableEq, Repr

/-- A posted write of a channel without an outcome: its entry and item, its descriptor's number and its address. -/
structure ChWrite where
  entry : Nat
  item : Nat
  desc : Nat
  addr : Word
  deriving DecidableEq, Repr

/-- What a channel has in hand beside its registers. `phase`: 0 nothing, 1 a descriptor is to be fetched, 2 its fetch is
outstanding, 3 a descriptor runs, 4 the flush read is to be made or outstanding. `local_` is the local access under way: 0 the
read of the burst at an offset, 1 its write, 2 a descriptor fetch. `pendingIrq` holds the descriptors whose interrupt waits for
their writes (R597). -/
structure Chan where
  phase : Nat
  next : Nat
  bursts : List Burst
  descIe : Bool
  descEnd : Bool
  descFlush : Bool
  descNext : Word
  fetchEntry : Option Nat
  flushEntry : Option Nat
  fetched : Option (List Byte)
  local_ : Option (Nat × Nat)
  abort : Bool
  writes : List ChWrite
  descNo : Nat
  pendingIrq : List Nat
  deriving DecidableEq, Repr

def Chan.reset : Chan :=
  { phase := 0, next := 0, bursts := [], descIe := false, descEnd := false, descFlush := false, descNext := 0,
    fetchEntry := none, flushEntry := none, fetched := none, local_ := none, abort := false, writes := [],
    descNo := 0, pendingIrq := [] }

/-- An engine stopped for localisation (R611): the channel whose re-reads are out, since when, channels still to do,
channels failed. -/
structure Localise where
  cur : Option Nat
  sincePs : Nat
  todo : List Nat
  failed : Nat
  deriving DecidableEq, Repr

/-- What became of a channel's ledger item: its entry, its place in a run and its address, its data if it was delivered (none for a
write), else its reason. -/
structure DmaOutcome where
  ch : Nat
  entry : Nat
  item : Nat
  addr : Word
  data : Option (List Byte)
  reason : Nat
  deriving DecidableEq, Repr

structure DmaState where
  outcomes : List DmaOutcome
  chans : SMap Chan
  tags : SMap Nat
  vtimes : SMap Nat
  lastCh : SMap Nat
  nextRoundPs : SMap Nat
  stops : SMap (Option Localise)
  active : SMap (List Nat)
  deriving DecidableEq, Repr

/-! ### Slot power (R617–R640) -/

/-- A slot power channel beside its registers: insertion time, when each running timer started, and the model temperature
in units of 1/256 °C. -/
structure Spc where
  insertPs : Nat
  rampPs : Nat
  pgPs : Option Nat
  pwrgdPs : Nat
  offPs : Nat
  tripPs : Nat
  limPs : Option Nat
  temp : Int
  heldPs : Option Nat
  holdEnd : Nat
  measPs : Nat
  deriving DecidableEq, Repr

def Spc.reset : Spc :=
  { insertPs := 0, rampPs := 0, pgPs := none, pwrgdPs := 0, offPs := 0, tripPs := 0, limPs := none,
    temp := 60 * 256, heldPs := none, holdEnd := 0, measPs := 0 }

/-! ### Power, clocks, sag (R641–R671) -/

/-- Power and clocks beside their registers: when a cluster's clock last started, since when each reference input (0 A, 1 B) is
valid, when the last valid one was lost, whether its loss holds stage 5 (R649), when stage 5 began, the credit counts frozen
there (R660), how far boot is (0 not begun, 1 images being checked, 2 EARLY sections being copied, 3 the others, 4 done, 5
recovery), whether no start has followed the VDD_AO power-on, the flash and sequence number of the running image kept through
Vigil (none before SEC_BOOT_STS.DONE), whether RESET_N is low, and whether VDD_AO is in its limits. -/
structure PwrState where
  upPs : SMap Nat
  refSincePs : SMap Nat
  refLossPs : Nat
  refLoss : Bool
  s5Ps : Nat
  sagHeld : SMap Nat
  boot : Nat
  firstStart : Bool
  vigilBoot : Option (Bool × Word)
  resetN : Bool
  aoOn : Bool
  deriving DecidableEq, Repr

/-! ### Counters, tracing, Almanac, wear, fallow, security -/

structure PcnState where
  counters : SMap Word
  snapshot : SMap Word
  deriving DecidableEq, Repr

/-- An Almanac record (R692) but for its sequence number, which is its place. -/
structure AlmRec where
  time : Word
  src : Nat
  flags : Nat
  code : Nat
  seq : Nat
  p0 : Word
  p1 : Word
  deriving DecidableEq, Repr

/-- A seal trigger (R696): code, the sequence number of the trigger's own record, times. -/
structure Trigger where
  code : Nat
  recSeq : Nat
  timeNs : Word
  atPs : Nat
  deriving DecidableEq, Repr

/-- A sealed slot's contents (R700): trigger, times, records, the snapshot entries of valid list entries (index, offset, value if
captured), the running image, the writes made to the physical slot. -/
structure Seal where
  trig : Trigger
  sealSeq : Nat
  beganNs : Word
  recs : List AlmRec
  snap : List (Nat × Nat × Option Word)
  runSeq : Word
  written : Nat
  deriving DecidableEq, Repr

/-- A seal being written: its logical slot, whether it is the repetition of R702, and what is written. -/
structure Sealing where
  slot : Nat
  again : Bool
  body : Seal
  deriving DecidableEq, Repr

/-- The Almanac: ring and next sequence number, whether the ring is still to be cleared for a boot (R153), the running seal, the
pending trigger, times of past seals, the slots' contents by logical slot, the writes made to each physical slot (16 and 17 the
spares), the physical slot under each logical one (plus 1; 0 the slot's own), the seals of the part's life. -/
structure AlmState where
  ring : List AlmRec
  seqNext : Nat
  clearRing : Bool
  running : Option Sealing
  waiting : List Trigger
  lastBeganPs : Option Nat
  recent24 : List Nat
  slots : SMap (Option Seal)
  writes : SMap Nat
  phys : SMap Nat
  sealSeq : Nat
  deriving DecidableEq, Repr

/-- An intercalation in progress (R710, R711), with its phase as FAL_STS.PHASE codes it. -/
structure FalJob where
  kind : Nat
  target : Nat
  spare : Nat
  phase : Nat
  deriving DecidableEq, Repr

/-- Wear gauges and fallow elements: the last reading and its time by element, the elements whose alarm is not acknowledged, the
intercalation in progress, the spares being self-tested, the time of each one's last self-test, and the assignments kept in
nonvolatile memory (R712; the target plus 1, by spare). -/
structure SvcState where
  gauges : SMap (Option GaugeReading)
  alarms : SMap Bool
  measured : SMap Nat
  fal : Option FalJob
  testing : SMap Bool
  testPs : SMap Nat
  assigned : SMap Nat
  deriving DecidableEq, Repr

/-- The security block: the flash being verified, the flash operation running (code, flash, address), whether either waits for the other on
the same flash (R729), and by cluster the flash and sequence number of the image whose cluster sections it has copied there (R157). -/
structure SecState where
  verifyB : Option Bool
  verifyWaits : Bool
  flashOp : Option (Nat × Bool × Nat)
  flashWaits : Bool
  clusterImg : SMap (Option (Bool × Word))
  deriving DecidableEq, Repr

/-- What leaves the device, in order (the model's own field; log entry 5). -/
inductive Output where
  | packet (port : Nat) (hdr : List Word) (data : List Byte)
  | frame (octet typ : Nat) (h : FrameHdr) (pay : List Byte)
  | group (octet width word : Nat) (blocks : List (List Byte))
  | training (octet : Nat) (words : List Nat)
  | message (port : Nat) (typ : Nat) (m : EdgeMsg)
  | completion (port : Nat) (hdr : List Word) (data : List Byte)
  | hostWrite (port rid : Nat) (addr : Word) (data : List Byte)
  | msix (fn vec : Nat)
  | msi (port v : Nat)
  | tableIrq
  | pin (name : String) (i : Nat) (high : Bool)
  | flash (b : Bool) (op addr : Nat) (data : List Byte)
  | order (octet : Nat) (name : String) (arg : Nat)
  | mgmt (name : String) (a b : Nat)
  deriving DecidableEq, Repr

/-- A register access that waits for its block's domain (R645). -/
structure HungAccess where
  writer : Writer
  off : Nat
  value : Option Word
  deriving DecidableEq, Repr

/-- The state of the block. `past` keeps, of a register whose change a running timer does not follow (R426, R461), each earlier value
with the time of the write that ended it. -/
structure State where
  pending : List Instr
  now : Nat
  ftOff : Int
  slew : Option (Nat × Int × Nat)
  stepPs : Option Nat
  syncRoot : Option Nat
  fv : Nat
  out : List Output
  hung : List HungAccess
  regs : SMap Word
  past : SMap (List (Nat × Word))
  tmem : SMap Byte
  cmem : SMap Byte
  cores : SMap Core
  evt : EvtState
  pkts : List Pkt
  pktNext : Nat
  ldg : LdgState
  ses : SesState
  links : SMap Link
  phys : SMap Phy
  ports : SMap PciPort
  perstIn : BitVec 32
  vdps : SMap VdpState
  ups : SMap UpBridge
  tbl : TblState
  hpl : HplState
  sch : SchState
  gln : GlnState
  ffn : FfnState
  dma : DmaState
  spcs : SMap Spc
  pwr : PwrState
  pcn : PcnState
  alm : AlmState
  svc : SvcState
  sec : SecState
  deriving DecidableEq, Repr

/-- The reasons for a stop with a fault. No command of this block faults: the spec gives every command an effect, and an
access outside the register space, cluster memory or table memory has the effect of R721, R62 or R590. The one
constructor is raised by nothing; a model without it would need an empty type. -/
inductive Fault where
  /-- Raised by no meaning. Safe. -/
  | never
  deriving DecidableEq, Repr

/-- The reasons for a refusal. -/
inductive Refusal where
  /-- The command has no meaning yet. Raised by Dispatch alone. Safe. -/
  | notModelled (mnemonic : String)
  /-- The operand of a command is not one that the command's event can carry (WellFormed gives the condition): a packet
  whose header is not of a known type, a frame payload of the wrong size, a word that is no reserved opcode.  Raised by
  the meanings of the receiving commands. Safe: the model stops where the command never occurs. -/
  | malformed (what : String)
  deriving DecidableEq, Repr

/-- The machine right after reset: VDD_AO up, RESET_N asserted, every switched domain off, every register at its reset
value, table memory zero (R162), nothing in any queue.  The values the spec leaves open are those of log entry 3. -/
def State.reset : State :=
  { pending := [], now := 0, ftOff := 0, slew := none, stepPs := none, syncRoot := none, fv := 0, out := [], hung := [], regs := [], past := [],
    tmem := [], cmem := [], cores := [], evt := { queues := [], held := [], lastServed := [], fltSeq := [], wdtPs := [] }, pkts := [], pktNext := 0,
    ldg := { entries := [], overflow := [], hist := [], quar := [], gens := [], nextToken := [], seenTokens := [],
             lastEnq := [], aerPending := none, lastReport := [], recWait := [] },
    ses := { send := [], recv := [], map := [], opening := [], stray := [], gone := [], loop := [], storeHigh := false }, links := [], phys := [], ports := [], perstIn := 0,
    vdps := [], ups := [],
    tbl := { job := none, lastKickPs := none, kickCluster := none, periodPs := 0, kmask := 0x00000000FFFFF3FF, rr := [], ternary := [],
             drain := [], revoked := [] },
    hpl := { commitMask := [], hashPending := none, marks := [], lfsr := [], ilfsr := [], seedLocked := false, creditStop := [], creditHeld := [], fallow := [] },
    sch := { vtime := [], tag := [], active := [], tokens := [], shpCycle := [], shpPend := [], shpCfg := [], ctok := [], ptok := [],
             polCfg := [], calNow := [], slotNow := [], lastTick := 0 },
    gln := { pendingRecs := [], lostRun := 0, sram := [], rptPs := [], rptMerged := [] },
    ffn := { fns := [], cache := [], syncs := [] },
    dma := { outcomes := [], chans := [], tags := [], vtimes := [], lastCh := [], nextRoundPs := [], stops := [], active := [] },
    spcs := [],
    pwr := { upPs := [], refSincePs := [], refLossPs := 0, refLoss := false, s5Ps := 0, sagHeld := [], boot := 0,
             firstStart := true, vigilBoot := none, resetN := true, aoOn := true },
    pcn := { counters := [], snapshot := [] },
    alm := { ring := [], seqNext := 0, clearRing := false, running := none, waiting := [], lastBeganPs := none, recent24 := [],
             slots := [], writes := [], phys := [], sealSeq := 0 },
    svc := { gauges := [], alarms := [], measured := [], fal := none, testing := [], testPs := [], assigned := [] },
    sec := { verifyB := none, verifyWaits := false, flashOp := none, flashWaits := false, clusterImg := [] } }

end Sys2Proof.Machine
end

