-- ==== Sys2Proof/Machine/Ops.lean ====
section
/-! DEFINITION. Machine/Ops.lean: the named operations every meaning is built from: registers and fields, table and
cluster memory, time, power domains, free values, what leaves the device, Almanac records and event queues. -/

namespace Sys2Proof

/-- The number 8 × cluster + core that names a core in tables and entries (R500). -/
def CoreId.num (c : CoreId) : Nat := 8 * c.cluster.val + c.core.val

/-- The condition codes of R44. -/
def Cond.code : Cond → Nat
  | .eq => 0 | .ne => 1 | .lt => 2 | .ge => 3 | .ltu => 4 | .geu => 5 | .bs => 6 | .bc => 7

end Sys2Proof

namespace Sys2Proof.Machine

/-! ### Free values (log entry 2) -/

/-- The counter after one use of a free value. -/
def State.bumpFv (s : State) : State := { s with fv := s.fv + 1 }

/-- One of the numbers below `n` that are not in `used`, chosen by hardware: the first not used from a free start. -/
def pickFree (n : Nat) (used : List Nat) (fv : Nat) : Option Nat :=
  if n = 0 then none else
  ((List.range (used.length + 1)).map fun k => (Config.freeChoice fv + k) % n).find? fun x => !used.contains x

/-! ### Bytes and words -/

/-- The bytes of a natural number, least significant first. -/
def bytesLE : Nat → Nat → List Byte
  | 0, _ => []
  | n + 1, v => BitVec.ofNat 8 v :: bytesLE n (v / 256)

/-- The number whose bytes, least significant first, are given. -/
def ofBytesLE : List Byte → Nat
  | [] => 0
  | b :: bs => b.toNat + 256 * ofBytesLE bs

/-- The number whose bytes, most significant first, are given. -/
def ofBytesBE (bs : List Byte) : Nat := ofBytesLE bs.reverse

/-- The bytes of a natural number, most significant first. -/
def bytesBE (n v : Nat) : List Byte := (bytesLE n v).reverse

/-- Sign extension of the low `n` bits of `v` to a word. -/
def sextTo (n v : Nat) : Word :=
  BitVec.ofInt 64 (if v % 2 ^ n < 2 ^ (n - 1) then (v % 2 ^ n : Nat) else ((v % 2 ^ n : Nat) : Int) - 2 ^ n)

/-- The signed value of the low `n` bits of `v`. -/
def signedOf (n v : Nat) : Int :=
  if v % 2 ^ n < 2 ^ (n - 1) then (v % 2 ^ n : Nat) else ((v % 2 ^ n : Nat) : Int) - 2 ^ n

/-! ### Table memory and cluster memory -/

/-- The size of table memory (R79: 24 MiB). -/
def tmemSize : Nat := 0x1800000
/-- The size of one cluster's memory (R117: 8 MiB). -/
def cmemSize : Nat := 0x800000

/-- The byte of table memory at an offset; an unlisted byte is 0 (R162). -/
def State.tByte (s : State) (a : Nat) : Byte := s.tmem.get 0 a

def State.setTByte (s : State) (a : Nat) (b : Byte) : State := { s with tmem := s.tmem.set 0 a b }

/-- `n` bytes of table memory from `a`. -/
def State.tBytes (s : State) : Nat → Nat → List Byte
  | _, 0 => []
  | a, n + 1 => s.tByte a :: s.tBytes (a + 1) n

/-- Bytes written to table memory from `a` up. -/
def State.setTBytes (s : State) : Nat → List Byte → State
  | _, [] => s
  | a, b :: bs => (s.setTByte a b).setTBytes (a + 1) bs

/-- The little-endian word of table memory at `a`. -/
def State.tWord (s : State) (a : Nat) : Word := BitVec.ofNat 64 (ofBytesLE (s.tBytes a 8))

def State.setTWord (s : State) (a : Nat) (w : Word) : State := s.setTBytes a (bytesLE 8 w.toNat)

/-- The byte of cluster `c`'s memory at `a`; an unlisted byte is 0 (log entry 3). -/
def State.cByte (s : State) (c a : Nat) : Byte := s.cmem.get 0 (c * cmemSize + a)

def State.setCByte (s : State) (c a : Nat) (b : Byte) : State :=
  { s with cmem := s.cmem.set 0 (c * cmemSize + a) b }

def State.cBytes (s : State) (c : Nat) : Nat → Nat → List Byte
  | _, 0 => []
  | a, n + 1 => s.cByte c a :: s.cBytes c (a + 1) n

def State.setCBytes (s : State) (c : Nat) : Nat → List Byte → State
  | _, [] => s
  | a, b :: bs => (s.setCByte c a b).setCBytes c (a + 1) bs

/-! ### Registers -/

/-- The place in table memory that a table register is a view of (R158, R237), if it is one. -/
def tableView (a : Nat) : Option Nat :=
  if 0x800000 ≤ a ∧ a < 0x1400000 then some (a - 0x800000)
  else if 0x7E0000 ≤ a ∧ a < 0x7F0000 then some (a - 0x7E0000 + 0xC00000)
  else none

/-- The stored word of the register at an offset. -/
def State.rg (s : State) (a : Nat) : Word :=
  match tableView a with
  | some t => s.tWord t
  | none => s.regs.getD regReset a

/-- The state with the word of the register at an offset set. -/
def State.setRg (s : State) (a : Nat) (w : Word) : State :=
  match tableView a with
  | some t => s.setTWord t w
  | none => { s with regs := s.regs.setD regReset a w }

/-- A field's value. -/
def State.fd (s : State) (f : Field) : Nat := wField f.lo f.width (s.rg f.reg)

/-- Whether a field is not 0. -/
def State.fb (s : State) (f : Field) : Bool := decide (s.fd f ≠ 0)

/-- The state with a field set (modulo its width). -/
def State.setFd (s : State) (f : Field) (v : Nat) : State := s.setRg f.reg (setWField f.lo f.width (s.rg f.reg) v)

def State.setFb (s : State) (f : Field) (b : Bool) : State := s.setFd f (if b then 1 else 0)

/-- A wrapping counter field advanced by `n`. -/
def State.addFd (s : State) (f : Field) (n : Nat) : State := s.setFd f (s.fd f + n)

/-- A saturating counter field advanced by 1. -/
def State.satFd (s : State) (f : Field) : State := s.setFd f (min (s.fd f + 1) (2 ^ f.width - 1))

/-- The word of a register that its earlier values are kept of, as it stood at a time. -/
def State.rgAt (s : State) (a t : Nat) : Word := match (s.past.get [] a).find? fun e => decide (t < e.1) with
  | some e => e.2
  | none => s.rg a

/-- A field as it stood when a timer started (R426, R461). -/
def State.fdAt (s : State) (f : Field) (t : Nat) : Nat := wField f.lo f.width (s.rgAt f.reg t)

/-- The present value of a register is kept for the timers that run. -/
def State.keepPast (s : State) (a : Nat) : State := { s with past := s.past.set [] a (s.past.get [] a ++ [(s.now, s.rg a)]) }

/-! ### Time -/

/-- Time passes up to `t`, if `t` is still to come. -/
def State.waitUntil (s : State) (t : Nat) : State := { s with now := max s.now t }

/-- What a slew has taken off the fabric time by a time (R428): at its rate in ppm, no more than its difference. -/
def State.slewed (s : State) (t : Nat) : Int :=
  match s.slew with
  | none => 0
  | some (t0, theta, ppm) =>
    let d : Nat := min theta.natAbs ((t - t0) / 1000 * ppm / 1000000)
    if theta < 0 then -(d : Int) else (d : Int)

/-- Fabric time in ns as an integer at a time (R652). -/
def State.nsAt (s : State) (t : Nat) : Int := (t / 1000 : Nat) + s.ftOff - s.slewed t
def State.timeNs (s : State) : Int := s.nsAt s.now

/-- Fabric time in ns as a 64-bit value. -/
def State.time (s : State) : Word := BitVec.ofInt 64 s.timeNs

def usPs : Nat := 1000000
def nsPs : Nat := 1000
def msPs : Nat := 1000000000

/-! ### Power domains (R645, R724) -/

/-- Whether a power domain is live; domain 0 stands for the always-on domain. -/
def State.live (s : State) (d : Nat) : Bool :=
  if d = 0 then s.pwr.aoOn else natField d 1 (s.rg R.PWR_STS).toNat = 1

/-- The domain of the register at an offset (R724). -/
def domainOf (a : Nat) : Nat :=
  if a < 0x100000 then 0
  else if a < 0x300000 then 1 + (a - 0x100000) / 0x10000 / 4
  else if a < 0x600000 then 21
  else if a < 0x680000 then 9 + (a - 0x600000) / 0x4000 / 8
  else if a < 0x6C0000 then 9 + (a - 0x680000) / 0x2000 / 8
  else if a < 0x700000 then 9
  else if a < 0x7E0000 then 20
  else if a < 0x1400000 then 19
  else if 0x1700000 ≤ a ∧ a < 0x1708000 then 9 + (a - 0x1700000) / 0x100 / 32
  else if a < 0x1800000 then 9
  else if a < 0x1C00000 then 17
  else if a < 0x1F00000 then 18
  else if a < 0x1F80000 then (if (a - 0x1F00000) % 0x100 = 0x40 then 0 else 24)
  else if a < 0x1FC0000 then 0
  else if a < 0x2000000 then 22
  else if a < 0x4000000 then 13 + (a - 0x2000000) / 0x800000
  else 21

/-- The octet of a port (R174). -/
def octetOf (p : Nat) : Nat := p / 4

/-! ### Counters (R673–R679) -/

/-- A counter, numbered by its offset from 0x1C0_0000 in 8-byte words, advanced by `n` while PD18 is powered (R673, R674).
The counters of elapsed time and cycles are not advanced (log entry 7). -/
def State.cnt (s : State) (k n : Nat) : State :=
  if s.live 18 then
    { s with pcn := { s.pcn with counters := s.pcn.counters.set 0 k (s.pcn.counters.get 0 k + BitVec.ofNat 64 n) } }
  else s

/-- Device-wide counter `i` (R679). -/
def State.cntDev (s : State) (i n : Nat) : State := s.cnt i n
/-- Counter `k` of port `p` (R677); a port with ROLE 0 counts nothing. -/
def State.cntPort (s : State) (p k n : Nat) : State :=
  if s.fd (R.PRT_CTX_ROLE p) = 0 then s else s.cnt (0x800 + 0x60 * p + k) n
/-- Counter `k` of tenant `t` (R678). -/
def State.cntTnt (s : State) (t k n : Nat) : State := s.cnt (0x4000 + 16 * t + k) n
/-- Counter `k` of a control core (R679). -/
def State.cntCore (s : State) (c : CoreId) (k : Nat) : State :=
  s.cntDev (1280 + 8 * (6 * c.cluster.val + c.core.val) + k) 1

/-! ### What leaves the device -/

/-- Data bytes under a link IDE stream: enciphered, or deciphered, with the keystream of the TLP (R486). -/
def ideXor (key : Word) (sent : Bool) (n : Nat) (bs : List Byte) : List Byte :=
  bs.mapIdx fun i b => b ^^^ Config.ideStream key sent n i

/-- The link IDE key of a port, if its stream has one. -/
def State.ideKeyOf (s : State) (p : Nat) : Option Word := (s.ports.get PciPort.reset p).ideKey

/-- What leaves on a link whose IDE stream has a key leaves enciphered (R486). -/
def State.enciphered (s : State) (o : Output) : Output :=
  match o with
  | .packet p h d => .packet p h (match s.ideKeyOf p with | none => d | some k => ideXor k true s.out.length d)
  | .completion p h d => .completion p h (match s.ideKeyOf p with | none => d | some k => ideXor k true s.out.length d)
  | .hostWrite p r a d => .hostWrite p r a (match s.ideKeyOf p with | none => d | some k => ideXor k true s.out.length d)
  | _ => o

/-- The state after something left the device. -/
def State.emit (s : State) (o : Output) : State := { s with out := s.out ++ [s.enciphered o] }

/-! ### Cores -/


def State.core (s : State) (n : Nat) : Core := s.cores.get Core.reset n

def State.setCore (s : State) (n : Nat) (k : Core) : State := { s with cores := s.cores.set Core.reset n k }

/-- A record of the Gleaner ring is to be written (R314). -/
def State.glnPut (s : State) (r : List Byte) : State :=
  { s with gln := { s.gln with pendingRecs := s.gln.pendingRecs ++ [r] } }

/-! ### Almanac records (R691–R698) -/

/-- Source block codes of R693. -/
inductive Src where
  | glb | clk | pwr | sag | fal | wear | oct | prt | hpl | tbl | ldg | tnt | win | fidt | ses | buf | sch | shp | pol
  | dma | ffn | pcn | trc | mir | gln | spc | alm | sec | ccl | evt | software
  deriving DecidableEq, Repr

def Src.code : Src → Nat
  | .glb => 0x01 | .clk => 0x02 | .pwr => 0x03 | .sag => 0x04 | .fal => 0x05 | .wear => 0x06 | .oct => 0x07
  | .prt => 0x08 | .hpl => 0x09 | .tbl => 0x0A | .ldg => 0x0B | .tnt => 0x0C | .win => 0x0D | .fidt => 0x0E
  | .ses => 0x0F | .buf => 0x10 | .sch => 0x11 | .shp => 0x12 | .pol => 0x13 | .dma => 0x14 | .ffn => 0x15
  | .pcn => 0x16 | .trc => 0x17 | .mir => 0x18 | .gln => 0x19 | .spc => 0x1A | .alm => 0x1B | .sec => 0x1C
  | .ccl => 0x1D | .evt => 0x1E | .software => 0x80

/-- One record appended to the ring of 65,536 records (R691, R692). -/
def State.almAppend (s : State) (src flags code : Nat) (p0 p1 : Word) : State :=
  let r : AlmRec := { time := s.time, src := src, flags := flags, code := code, seq := s.alm.seqNext % 2 ^ 32, p0 := p0,
                      p1 := p1 }
  let ring := s.alm.ring ++ [r]
  ({ s with alm := { s.alm with ring := ring.drop (ring.length - 65536), seqNext := s.alm.seqNext + 1 } }).setFd
    R.ALM_HEAD_SEQ (s.alm.seqNext + 1)

/-- A trigger is suppressed: recorded with code 0x0003 and counted (R698). -/
def State.almSuppress (s : State) (t : Trigger) : State :=
  (s.almAppend Src.alm.code 0 0x0003 (BitVec.ofNat 64 t.code) 0).addFd R.ALM_STS_SUPPR 1

/-- Whether every logical slot is locked (R699). -/
def State.almAllLocked (s : State) : Bool := (List.range 16).all fun i => s.fb (R.ALM_SLOT_LOCK i)

/-- A seal trigger of the given code (R696, R698, R699): a disabled code does nothing; an enabled one writes its record
and is pending, or is suppressed. At most one trigger is pending (log entry 20). -/
def State.almTrigger (s : State) (code recSeq : Nat) : State :=
  if natField (code - 1) 1 (s.fd R.ALM_CFG_TEN) = 0 then s else
  let t : Trigger := { code := code, recSeq := s.alm.seqNext, timeNs := s.time, atPs := s.now }
  let s1 := s.almAppend Src.alm.code 0 (0x0010 + code) (BitVec.ofNat 64 recSeq) 0
  let isUrgent (k : Nat) : Bool := decide (k = 2) || decide (k = 4)
  let tooSoon : Bool := match s.alm.lastBeganPs with
    | none => false
    | some b => decide (s.now < b + 100 * msPs)
  let limited : Bool := decide (16 ≤ (s.alm.recent24.filter fun b => decide (s.now < b + 10000 * msPs)).length)
  let pend (u : State) : State := ({ u with alm := { u.alm with waiting := [t] } }).setFb R.ALM_STS_PEND true
  if s.almAllLocked then s1.almSuppress t
  else match s.alm.waiting with
    | [] => if (if isUrgent code then limited else tooSoon) then s1.almSuppress t else pend s1
    | w :: _ => if isUrgent code && !limited && !isUrgent w.code then pend (s1.almSuppress w) else s1.almSuppress t

/-- A record of a source, with the match trigger of R696 code 6. -/
def State.almRecord (s : State) (src flags code : Nat) (p0 p1 : Word) : State :=
  let s1 := s.almAppend src flags code p0 p1
  let mask := s.fd R.ALM_MATCH_CMASK
  if s.fb R.ALM_MATCH_EN ∧ src = s.fd R.ALM_MATCH_SRC ∧ Nat.land code mask = Nat.land (s.fd R.ALM_MATCH_CODE) mask
  then s1.almTrigger 6 (s.alm.seqNext % 2 ^ 32) else s1

/-- A record of a source with a code of its own (R694): the spec gives neither the code, which lies in 0x0100 to 0x10FF,
nor the payload, which are free values. -/
def State.almSource (s : State) (src : Src) (kind : Nat) : State :=
  (s.almRecord src.code 0 (0x100 + Config.almCode src.code kind % 0x1000) (Config.freeWord s.fv)
    (Config.freeWord (s.fv + 1))).bumpFv.bumpFv

/-! ### Wear alarms (R706) -/

/-- The key of an element. -/
def elemKey (kind idx : Nat) : Nat := kind * 65536 + idx

/-- The alarm of an element is re-armed: by WEAR_ACK, or as a spare takes its place. -/
def State.wearRearm (s : State) (kind idx : Nat) : State :=
  { s with svc := { s.svc with alarms := s.svc.alarms.set false (elemKey kind idx) false } }

/-! ### Events (R123–R128, R694) -/

/-- The events in queue `q`. -/
def State.evq (s : State) (q : Nat) : List Event := s.evt.queues.get [] q

def State.setEvq (s : State) (q : Nat) (l : List Event) : State :=
  { s with evt := { s.evt with queues := s.evt.queues.set [] q l } }

/-- The depth of queue `q` (R123: LOGDEPTH 4–10). -/
def State.evqDepth (s : State) (q : Nat) : Nat := 2 ^ min 10 (max 4 (s.fd (R.EVT_Q_CFG_LOGDEPTH q)))

/-- Whether queue `q` has room. A queue that is not enabled has none (log entry 6). -/
def State.evqRoom (s : State) (q : Nat) : Bool :=
  s.fb (R.EVT_Q_CFG_EN q) && decide ((s.evq q).length < s.evqDepth q)

/-- An event of a hardware source reaches its queue: it enters, is held, or is merged into a held one (R127). -/
def State.queueEvent (s : State) (src q : Nat) (e : Event) : State :=
  let mine := s.evt.held.filter fun h => h.src = src
  if mine = [] then
    if s.evqRoom q then s.setEvq q (s.evq q ++ [e])
    else { s with evt := { s.evt with held := s.evt.held ++ [⟨src, q, e⟩] } }
  else if mine.any fun h => h.queue = q && h.event.typ = e.typ && h.event.arg = e.arg then
    s.addFd (R.EVT_Q_STS_COALESCED q) 1
  else { s with evt := { s.evt with held := s.evt.held ++ [⟨src, q, e⟩] } }

/-- A hardware event (R128): its Almanac record (R694), and its queue when one is named. `src` is the source block and
`unit` the instance of the source that would hold it. -/
def State.postEvent (s : State) (src : Src) (unit : Nat) (q : Option Nat) (typ arg : Nat) (detail : Word) : State :=
  let s1 := s.almRecord src.code 1 (typ * 256) (BitVec.ofNat 64 arg) detail
  match q with
  | none => s1
  | some q => s1.queueEvent (src.code * 0x100000 + unit) q ⟨typ, arg, detail⟩

/-- The queue of an (enable, number) pair of fields. -/
def State.evTarget (s : State) (v q : Field) : Option Nat := if s.fb v then some (s.fd q) else none

/-- The queue of a source's events of a type for which the spec names no register: a free value (log entry 93). -/
def Src.freeQueue (x : Src) (typ : Nat) : Option Nat := some (Config.reportQueue x.code typ).val

/-- An error-report event (type 0x02): source block, merged count, error code. -/
def State.errorReport (s : State) (src : Src) (unit : Nat) (q : Option Nat) (merged code : Nat) (detail : Word) : State :=
  s.postEvent src unit q 0x02 (src.code * 2 ^ 24 + min merged 255 * 2 ^ 16 + code % 2 ^ 16) detail

/-! ### Register commands -/

/-- Whether an offset is one of a SEC, FAL or PWR register, which no handler may write (R66). -/
def guardedReg (a : Nat) : Bool :=
  (decide (0x8000 ≤ a) && decide (a < 0xC000)) || (decide (0x10000 ≤ a) && decide (a < 0x14000)) ||
  (decide (0x1FC0000 ≤ a) && decide (a < 0x2000000))

/-- Whether a writer is a core in handler mode. -/
def State.inHandler (s : State) (w : Writer) : Bool :=
  match w with
  | .core c => !(s.core c.num).ctx.sup
  | _ => false

/-! ### Recovery (R152) -/

/-- Whether the device is in recovery: neither image was valid at the boot. -/
def State.inRecovery (s : State) : Bool := s.pwr.boot = 5

/-- The mailboxes of the device and of its functions. -/
def mailboxReg (off : Nat) : Bool :=
  (decide (0x384000 ≤ off) && decide (off < 0x388000)) ||
  (decide (0x10000000 ≤ off) && decide (0x100 ≤ off % 0x10000) && decide (off % 0x10000 < 0x318))

/-- What recovery exposes to a write: the mailboxes and flash write access; and to a read SEC_BOOT_STS and the AO blocks too (log entry 106). -/
def recoveryWrites (off : Nat) : Bool :=
  mailboxReg off || off = R.SEC_FLCTL || (decide (R.SEC_FLBUF 0 ≤ off) && decide (off ≤ R.SEC_FLBUF 31))
def recoveryReads (off : Nat) : Bool := recoveryWrites off || off = R.SEC_BOOT_STS || domainOf off = 0

/-- An access that R720 or R721 turns away: it reads 0 and writes nothing, and GLB_STS tells its offset. -/
def State.badAccess (s : State) (off : Nat) : State := (s.setFb R.GLB_STS_AERR true).setFd R.GLB_STS_AOFF off

/-- A register access by command: in a live domain it has its effect; otherwise it waits for the domain (R645). A handler's store to a
guarded register is not performed (R66). -/
def State.regCommand (s : State) (w : Writer) (off : Nat) (v : Word) (effect : State → State) : State :=
  if guardedReg off && s.inHandler w then s
  else if s.inRecovery && !recoveryWrites off then s.badAccess off
  else if s.live (domainOf off) then effect s else { s with hung := s.hung ++ [⟨w, off, some v⟩] }

/-! ### Bindings (R184) -/

/-- The bindings in force: (upstream port, virtual downstream port) of every valid PRT[p]_VDP[v]_B0. -/
def State.bindings (s : State) : List (Nat × Nat) :=
  s.regs.filterMap fun kv =>
    if 0x400000 ≤ kv.1 ∧ kv.1 < 0x600000 then
      let o := (kv.1 - 0x400000) % 0x4000
      if 0x2000 ≤ o ∧ o < 0x3000 ∧ (o - 0x2000) % 16 = 0 ∧ natField 0 1 kv.2.toNat = 1 then
        some ((kv.1 - 0x400000) / 0x4000, (o - 0x2000) / 16)
      else none
    else none

def vdpKey (p v : Nat) : Nat := p * 256 + v
def State.vdp (s : State) (p v : Nat) : VdpState := s.vdps.get VdpState.reset (vdpKey p v)
def State.setVdp (s : State) (p v : Nat) (x : VdpState) : State :=
  { s with vdps := s.vdps.set VdpState.reset (vdpKey p v) x }

/-! ### Configuration bytes of the bridges (R473–R479; register places of PCI Express, log entry 33) -/

/-- The 16-bit word at an offset of the configuration bytes written. -/
def cfgWord (m : SMap Byte) (off : Nat) : Nat := (m.get 0 off).toNat + 256 * (m.get 0 (off + 1)).toNat

/-- Memory Space Enable and Bus Master Enable of a bridge's or function's Command register. -/
def cfgMse (m : SMap Byte) : Bool := natField 1 1 (cfgWord m 0x04) = 1
def cfgBme (m : SMap Byte) : Bool := natField 2 1 (cfgWord m 0x04) = 1

/-- Whether an address lies in the memory or the prefetchable window of a bridge. -/
def cfgWindowHit (m : SMap Byte) (a : Nat) : Bool :=
  let mb := cfgWord m 0x20 / 16 * 2 ^ 20
  let ml := cfgWord m 0x22 / 16 * 2 ^ 20 + (2 ^ 20 - 1)
  let pb := cfgWord m 0x24 / 16 * 2 ^ 20 + (cfgWord m 0x28 + 65536 * cfgWord m 0x2A) * 2 ^ 32
  let pl := cfgWord m 0x26 / 16 * 2 ^ 20 + (2 ^ 20 - 1) + (cfgWord m 0x2C + 65536 * cfgWord m 0x2E) * 2 ^ 32
  (decide (mb ≤ a) && decide (a ≤ ml)) || (decide (pb ≤ a) && decide (a ≤ pl))

/-- AtomicOp Egress Blocking (Device Control 2); ACS Translation Blocking, P2P Request Redirect, Upstream Forwarding. -/
def VdpState.atomicBlock (x : VdpState) : Bool := natField 7 1 (cfgWord x.cfg 0x88) = 1
def UpBridge.atomicBlock (x : UpBridge) : Bool := natField 7 1 (cfgWord x.cfg 0x88) = 1
def VdpState.transBlock (x : VdpState) : Bool := natField 1 1 (cfgWord x.cfg 0x156) = 1
def VdpState.redirect (x : VdpState) : Bool :=
  natField 2 1 (cfgWord x.cfg 0x156) = 1 || natField 4 1 (cfgWord x.cfg 0x156) = 1
def VdpState.directP2p (x : VdpState) : Bool := natField 6 1 (cfgWord x.cfg 0x156) = 1
/-- DPC Completion Control: Unsupported Request when set, else Completer Abort. -/
def VdpState.dpcUr (x : VdpState) : Bool := natField 2 1 (cfgWord x.cfg 0x166) = 1

/-- A slot register event of a virtual downstream port: its change, and its MSI when the host has enabled it (R479, R481); `en`
is the enable's bit in Slot Control. -/
def State.slotEvent (s : State) (p v en : Nat) (f : VdpState → VdpState) : State :=
  let x := f (s.vdp p v)
  let s1 := s.setVdp p v x
  let ctl := cfgWord x.cfg 0x78
  if natField 0 1 (cfgWord x.cfg 0x4A) = 1 ∧ natField 5 1 ctl = 1 ∧ natField en 1 ctl = 1 then s1.emit (.msi p v) else s1

/-- The slot events: DLL State Changed, Presence Detect Changed, Command Completed, Power Fault Detected. -/
def State.slotDll (s : State) (p v : Nat) : State := s.slotEvent p v 12 fun x => { x with dllChanged := true }
def State.slotPresence (s : State) (p v : Nat) : State := s.slotEvent p v 3 fun x => { x with presChanged := true }
def State.slotCommand (s : State) (p v : Nat) : State := s.slotEvent p v 4 fun x => { x with cmdDone := true }
def State.slotFault (s : State) (p v : Nat) : State := s.slotEvent p v 1 fun x => { x with powerFault := true }

end Sys2Proof.Machine
end

