-- ==== Sys2Proof/Machine/Operands.lean ====
section
/-! DEFINITION. Machine/Operands.lean: the register operands of a control core's instructions, their instruction words
(R38–R45) and the effective address. -/

namespace Sys2Proof.Machine

/-! ### Instruction words (R38) -/

def encA (maj fn : Nat) (f : FmtA) : Nat :=
  maj * 2 ^ 26 + f.dst.toNat * 2 ^ 21 + f.srcA.toNat * 2 ^ 16 + f.srcB.toNat * 2 ^ 11 + f.pred.toNat * 2 ^ 8 + fn

def encI (maj : Nat) (f : FmtI) : Nat :=
  maj * 2 ^ 26 + f.dst.toNat * 2 ^ 21 + f.srcA.toNat * 2 ^ 16 + f.imm.toNat

def encM (maj : Nat) (f : FmtM) : Nat :=
  maj * 2 ^ 26 + f.data.toNat * 2 ^ 21 + f.base.toNat * 2 ^ 16 + f.size.toNat * 2 ^ 13 + f.offset.toNat

def encB (maj : Nat) (f : FmtB) : Nat :=
  maj * 2 ^ 26 + f.pred.toNat * 2 ^ 23 + (if f.negate then 2 ^ 22 else 0) + f.offset.toNat

def encL (maj : Nat) (f : FmtL) : Nat :=
  maj * 2 ^ 26 + f.dst.toNat * 2 ^ 21 + f.key.toNat * 2 ^ 16 + f.table.toNat * 2 ^ 10 + f.kind.toNat * 2 ^ 8 +
    f.desc.toNat

def encF (maj : Nat) (f : FmtF) : Nat :=
  maj * 2 ^ 26 + f.dst.toNat * 2 ^ 21 + f.src.toNat * 2 ^ 16 + f.pos.toNat * 2 ^ 10 + f.width1.toNat * 2 ^ 4 +
    f.var.toNat

/-! ### Registers and predicates (R28, R29) -/

/-- General register `n` of a context; g0 reads as zero. -/
def Ctx.reg (x : Ctx) (n : Nat) : Word := if n = 0 then 0 else x.g.get 0 n

/-- General register `n` set; a write to g0 is discarded. -/
def Ctx.setReg (x : Ctx) (n : Nat) (v : Word) : Ctx := if n = 0 then x else { x with g := x.g.set 0 n v }

/-- Predicate `n` of a context; p0 reads as true. -/
def Ctx.pred (x : Ctx) (n : Nat) : Bool := n = 0 || x.p.getLsbD n

/-- Predicate `n` set; a write to p0 is discarded. -/
def Ctx.setPred (x : Ctx) (n : Nat) (b : Bool) : Ctx :=
  if n = 0 ∨ 8 ≤ n then x
  else { x with p := if b then x.p ||| (1#8 <<< n) else x.p &&& ~~~(1#8 <<< n) }

/-- The context of a core's current execution. -/
def State.ctx (s : State) (c : CoreId) : Ctx := (s.core c.num).ctx

def State.setCtx (s : State) (c : CoreId) (x : Ctx) : State := s.setCore c.num { s.core c.num with ctx := x }

/-- A general register of a core. -/
def State.greg (s : State) (c : CoreId) (n : Nat) : Word := (s.ctx c).reg n

def State.setGreg (s : State) (c : CoreId) (n : Nat) (v : Word) : State := s.setCtx c ((s.ctx c).setReg n v)

/-- The address base + sext(offset) of format M (R48). -/
def State.effAddr (s : State) (c : CoreId) (f : FmtM) : Word := s.greg c f.base.toNat + sextTo 13 f.offset.toNat

/-- CK_CTL cycles since the cluster was powered up (R33, R37): 1.8 GHz. -/
def State.cycle (s : State) (c : CoreId) : Word :=
  BitVec.ofNat 64 ((s.now - s.pwr.upPs.get 0 (13 + c.cluster.val)) * 9 / 5000)

/-- The time at which `n` CK_CTL cycles have passed, in ps, rounded up. -/
def ctlCyclesPs (n : Nat) : Nat := (n * 5000 + 8) / 9

end Sys2Proof.Machine
end

