-- ==== Sys2Proof/Machine/Flags.lean ====
section
/-! DEFINITION. Machine/Flags.lean: what the integer, compare, CRC, hash and field instructions compute (R44–R47, R747, R748);
the machine's flags are the predicates that CMP, STCD and LKP write. -/

namespace Sys2Proof.Machine

/-- The comparisons of R44. -/
def condHolds (k : Cond) (a b : Word) : Bool :=
  match k with
  | .eq => a == b
  | .ne => a != b
  | .lt => a.slt b
  | .ge => !a.slt b
  | .ltu => a.ult b
  | .geu => !a.ult b
  | .bs => (a &&& b) != 0
  | .bc => (a &&& b) == 0

/-- Division rounded toward zero; all ones on division by zero (R46). -/
def divS (a b : Word) : Word := if b = 0 then BitVec.allOnes 64 else BitVec.ofInt 64 (a.toInt.tdiv b.toInt)
def divU (a b : Word) : Word := if b = 0 then BitVec.allOnes 64 else a / b
/-- The remainder with the sign of a; a on division by zero (R46). -/
def remS (a b : Word) : Word := if b = 0 then a else BitVec.ofInt 64 (a.toInt.tmod b.toInt)
def remU (a b : Word) : Word := if b = 0 then a else a % b
/-- The high 64 bits of the 128-bit products (R46). -/
def mulHi (a b : Word) : Word := BitVec.ofInt 64 ((a.toInt * b.toInt).fdiv (2 ^ 64))
def mulHiU (a b : Word) : Word := BitVec.ofNat 64 (a.toNat * b.toNat / 2 ^ 64)

/-- The number of leading zero bits (R46). -/
def leadingZeros (a : Word) : Nat := if a = 0 then 64 else 63 - Nat.log2 a.toNat

/-- The number of one bits among the lowest `n` bits. -/
def onesBelow (a : Word) : Nat → Nat
  | 0 => 0
  | n + 1 => onesBelow a n + (if a.getLsbD n then 1 else 0)

/-! ### CRC (R747) -/

/-- `n` bits shifted out of the top of an unreflected running value of `w` bits. -/
def crcUp (w poly : Nat) : Nat → Nat → Nat
  | 0, v => v
  | n + 1, v => crcUp w poly n (if v.testBit (w - 1) then Nat.xor (2 * v % 2 ^ w) poly else 2 * v % 2 ^ w)

/-- An unreflected running value of `w` bits updated over bytes. -/
def crcUnreflected (w poly : Nat) (v : Nat) (bs : List Byte) : Nat :=
  bs.foldl (fun v b => crcUp w poly 8 (Nat.xor v (b.toNat * 2 ^ (w - 8)))) v

/-- `n` bits shifted out of the bottom of a reflected running value. -/
def crcDown (poly : Nat) : Nat → Nat → Nat
  | 0, v => v
  | n + 1, v => crcDown poly n (if v % 2 = 1 then Nat.xor (v / 2) poly else v / 2)

/-- A reflected running value updated over bytes. -/
def crcReflected (poly : Nat) (v : Nat) (bs : List Byte) : Nat :=
  bs.foldl (fun v b => crcDown poly 8 (Nat.xor v b.toNat)) v

/-- The 8 message bytes of `b`, the first at b[63:56]. -/
def msgBytes (b : Word) : List Byte := bytesBE 8 b.toNat

def crc8 (a b : Word) : Word := BitVec.ofNat 64 (crcUnreflected 8 0x07 (a.toNat % 256) (msgBytes b))
def crc32c (a b : Word) : Word := BitVec.ofNat 64 (crcReflected 0x82F63B78 (a.toNat % 2 ^ 32) (msgBytes b))
def crc64 (a b : Word) : Word := BitVec.ofNat 64 (crcUnreflected 64 0x42F0E1EBA9EA3693 a.toNat (msgBytes b))

/-! ### The device flow hash: SipHash-2-4 (R748) -/

/-- The four words of SipHash's state. -/
structure Sip where
  v0 : Word
  v1 : Word
  v2 : Word
  v3 : Word
  deriving DecidableEq, Repr

/-- One SipRound. -/
def sipRound (x : Sip) : Sip :=
  let v0 := x.v0 + x.v1
  let v1 := x.v1.rotateLeft 13 ^^^ v0
  let v0 := v0.rotateLeft 32
  let v2 := x.v2 + x.v3
  let v3 := x.v3.rotateLeft 16 ^^^ v2
  let v0 := v0 + v3
  let v3 := v3.rotateLeft 21 ^^^ v0
  let v2 := v2 + v1
  let v1 := v1.rotateLeft 17 ^^^ v2
  let v2 := v2.rotateLeft 32
  ⟨v0, v1, v2, v3⟩

/-- One message word taken in with two rounds. -/
def sipWord (x : Sip) (m : Word) : Sip :=
  let y := sipRound (sipRound { x with v3 := x.v3 ^^^ m })
  { y with v0 := y.v0 ^^^ m }

/-- HASH(a, b) under a seed: SipHash-2-4 of the 16 bytes of a and b, little-endian, with k0 the seed and k1 its
complement. -/
def flowHash (seed a b : Word) : Word :=
  let k1 := seed ^^^ BitVec.allOnes 64
  let x : Sip := ⟨seed ^^^ 0x736F6D6570736575#64, k1 ^^^ 0x646F72616E646F6D#64, seed ^^^ 0x6C7967656E657261#64,
    k1 ^^^ 0x7465646279746573#64⟩
  let y := sipWord (sipWord (sipWord x a) b) (BitVec.ofNat 64 (16 * 2 ^ 56))
  let z := sipRound (sipRound (sipRound (sipRound { y with v2 := y.v2 ^^^ 0xFF#64 })))
  z.v0 ^^^ z.v1 ^^^ z.v2 ^^^ z.v3

/-! ### Bit fields (R46, R47) -/

/-- Bits [pos+width−1:pos] of a, extended. -/
def extractField (a : Word) (pos width : Nat) (sgn : Bool) : Word :=
  let v := natField pos width a.toNat
  if sgn then sextTo width v else BitVec.ofNat 64 v

/-- The low `width` bits of a in bits [pos+width−1:pos] of d. -/
def insertField (d a : Word) (pos width : Nat) : Word := BitVec.ofNat 64 (setNatField pos width d.toNat a.toNat)

/-- The operations of major opcode 0x01 by function code (R43, R46), but for SEL, CLZ, POP and HASH, which the callers
compute. -/
def aluOp (fn : Nat) (a b : Word) : Word :=
  match fn with
  | 0x00 => a + b
  | 0x01 => a - b
  | 0x02 => a &&& b
  | 0x03 => a ||| b
  | 0x04 => a ^^^ b
  | 0x05 => a <<< (b.toNat % 64)
  | 0x06 => a >>> (b.toNat % 64)
  | 0x07 => a.sshiftRight (b.toNat % 64)
  | 0x08 => a * b
  | 0x09 => mulHi a b
  | 0x0A => mulHiU a b
  | 0x0B => divS a b
  | 0x0C => divU a b
  | 0x0D => remS a b
  | 0x0E => remU a b
  | 0x0F => if a.slt b then a else b
  | 0x10 => if a.ult b then a else b
  | 0x11 => if a.slt b then b else a
  | 0x12 => if a.ult b then b else a
  | 0x14 => BitVec.ofNat 64 (leadingZeros a)
  | 0x15 => BitVec.ofNat 64 (onesBelow a 64)
  | 0x16 => crc8 a b
  | 0x17 => crc32c a b
  | 0x18 => crc64 a b
  | _ => 0

/-! ### Sampling (R684, R688) -/

/-- The LFSR of octet or core `n` as a TRC_SEED write of `seed` loads it (R684, R688); from power-up the seed is 1. -/
def lfsrSeed (seed n : Nat) : Nat :=
  let x := if seed = 0 then 1 else seed
  x * 2 ^ (n % 31) % 2 ^ 31 + x * 2 ^ (n % 31) / 2 ^ 31

/-- One step of the 31-bit LFSR of x^31 + x^28 + 1. -/
def lfsrStep (x : Nat) : Nat := x * 2 % 2 ^ 31 + (natField 30 1 x + natField 27 1 x) % 2

end Sys2Proof.Machine
end

