-- ==== Sys2Proof/Machine/CoreOps.lean ====
section
/-! DEFINITION. Machine/CoreOps.lean: what happens to a control core around its instructions: readiness, exceptions and the
return from them (R58–R61), the core fault log (R148), stopping and starting (R119, R146), and event dispatch (R130–R137). -/

namespace Sys2Proof.Machine

/-! ### Readiness -/

/-- Whether core `c` can execute its next instruction: its domain live, fetching, not suspended, not stalled (R90, R96). -/
def State.coreReady (s : State) (c : CoreId) : Bool :=
  let k := s.core c.num
  s.live (13 + c.cluster.val) && k.running && k.waitUntil.isNone && !k.halting && !k.faulted && k.draining.isNone &&
  !k.hung && k.ctx.fence.isNone && (match k.ctx.rload with | none => true | some r => r.preempted)

/-- Whether CCL[c]_CTL.CEN enables the core (R121). -/
def State.coreEnabled (s : State) (c : CoreId) : Bool :=
  natField c.core.val 1 (s.fd (R.CCL_CTL_CEN c.cluster)) = 1

/-! ### The core fault log (R148) -/

/-- One record written to a cluster's fault log. A byte or word that the kind does not use is a free value. -/
def State.faultRecord (s : State) (cl kind core : Nat) (w1 w2 : Option Word) (code detail : Option Nat) : State :=
  let i := s.fd (R.CCL_FLTHD_IDX cl)
  let seq := s.evt.fltSeq.get 0 cl
  let w3 := kind + 256 * (code.getD (Config.freeByte (s.fv + 2)).toNat) +
    65536 * (detail.getD (Config.freeByte (s.fv + 3)).toNat) + 2 ^ 24 * core + 2 ^ 32 * (seq % 2 ^ 32)
  let s1 := (((s.setRg (R.CCL_FLT cl (4 * i)) s.time).setRg (R.CCL_FLT cl (4 * i + 1))
    (w1.getD (Config.freeWord s.fv))).setRg (R.CCL_FLT cl (4 * i + 2)) (w2.getD (Config.freeWord (s.fv + 1)))).setRg
    (R.CCL_FLT cl (4 * i + 3)) (BitVec.ofNat 64 w3)
  { s1.setFd (R.CCL_FLTHD_IDX cl) (i + 1) with
    evt := { s.evt with fltSeq := s.evt.fltSeq.set 0 cl (seq + 1) }, fv := s.fv + 4 }

/-- The core-fault event (type 0x10) of the record of index `i` (R128, R145). -/
def State.coreFaultEvent (s : State) (cl core kind i : Nat) : State :=
  s.postEvent .ccl cl (s.evTarget (R.CCL_CTL_FLTQV cl) (R.CCL_CTL_FLTQ cl)) 0x10 (cl + 4 * core + 256 * kind)
    (BitVec.ofNat 64 i)

/-! ### Instruction tracing (R688, R689) -/

/-- Whether core `c`'s instructions are sampled: ITEN, its cluster in ICLM, and no sag stage (R688, R660). -/
def State.itraced (s : State) (c : CoreId) : Bool :=
  s.live 18 && s.fb R.TRC_CFG_ITEN && decide (natField c.cluster.val 1 (s.fd R.TRC_CFG_ICLM) = 1) && decide (s.fd R.SAG_STS_STAGE = 0)

/-- An instruction is issued: the core's LFSR steps, and the instruction is tagged when its low IK bits are all zero and no tagged one is
in flight (R688). -/
def State.itagIssue (s : State) (c : CoreId) (word : Nat) : State :=
  if !s.itraced c then s
  else
    let i := 8 * c.cluster.val + c.core.val
    let x := lfsrStep (s.hpl.ilfsr.getD (lfsrSeed 1) i)
    let s1 := { s with hpl := { s.hpl with ilfsr := s.hpl.ilfsr.setD (lfsrSeed 1) i x } }
    let k := s.core c.num
    if x % 2 ^ s.fd R.TRC_CFG_IK = 0 ∧ k.itag = none then
      s1.setCore c.num { k with itag := some { pc := k.ctx.pc, word := word, cycle := s.cycle c, daddr := 0 } }
    else s1

/-- The data address of a memory instruction, for the record of a tagged one. -/
def State.itagAddr (s : State) (c : CoreId) (a : Word) : State :=
  let k := s.core c.num
  match k.itag with
  | none => s
  | some t => s.setCore c.num { k with itag := some { t with daddr := a } }

/-- A tagged instruction ends (R689): `how` is byte 41, `code` byte 42. Times and the stall cause are free values (log entry 7). -/
def State.itagEnd (s : State) (c : CoreId) (how code : Nat) : State :=
  let k := s.core c.num
  match k.itag with
  | none => s
  | some t =>
    let s1 := s.setCore c.num { k with itag := none }
    if !s.itraced c then s1
    else
      let x := k.ctx
      let r := bytesLE 8 s.time.toNat ++ bytesLE 1 0x03 ++ bytesLE 3 0 ++
        bytesLE 1 (c.cluster.val + 4 * c.core.val + (if x.sup then 32 else 0)) ++ bytesLE 1 x.cur.toNat ++ bytesLE 2 0 ++
        bytesLE 8 t.pc.toNat ++ bytesLE 4 t.word ++ bytesLE 4 (Config.freeWord s.fv).toNat ++ bytesLE 8 t.cycle.toNat ++
        bytesLE 1 ((Config.freeWord (s.fv + 1)).toNat % 10) ++ bytesLE 1 how ++ bytesLE 1 code ++ bytesLE 1 0 ++
        bytesLE 4 (Config.freeWord (s.fv + 2)).toNat ++ bytesLE 8 (if x.handler.isSome then x.evq.toNat else 0) ++
        bytesLE 8 t.daddr.toNat
      (({ s1 with fv := s1.fv + 3 }).glnPut r).addFd R.TRC_CNT_ITRACED 1

/-- An instruction retires (R679, R689). -/
def State.retire (s : State) (c : CoreId) : State := (s.itagEnd c 1 0).cntCore c 1

/-! ### Exceptions (R58–R61, R145) -/

/-- CK_CTL time of the open critical section used up to now is added to what the context has used. -/
def Ctx.critPause (x : Ctx) (now : Nat) : Ctx :=
  if x.crit then { x with critUsedPs := x.critUsedPs + (now - x.critStartPs) } else x

/-- Exception entry (R59): the context after it. A critical section is suspended with the time it has used. -/
def Ctx.enter (x : Ctx) (now code detail : Nat) (tval : Word) : Ctx :=
  { x with
    epc := x.pc &&& ~~~3#64, psup := x.sup, pie := x.ie, pcrit := x.crit, sup := true, ie := false, crit := false,
    exl := true, causeCode := BitVec.ofNat 8 code, causeDetail := BitVec.ofNat 8 detail, tval := tval,
    pc := BitVec.ofNat 64 (x.vbase.toNat * 4096), critUsedPs := 0, critPc := none,
    pcritUsedPs := if x.crit then (x.critPause now).critUsedPs else 0, pcritPc := if x.crit then x.critPc else none }

/-- ERET with EXL = 1 (R60): the context after it. A section that a PCRIT written by MTS opens has used nothing and has no CRIT
(DESIGN CHOICE, log entry 83). -/
def Ctx.leave (x : Ctx) (now : Nat) : Ctx :=
  { x with pc := x.epc, sup := x.psup, ie := x.pie, crit := x.pcrit, exl := false, critStartPs := now,
           critUsedPs := x.pcritUsedPs, critPc := x.pcritPc, pcritUsedPs := 0, pcritPc := none }

/-- An exception (R59, R51), or a double fault when EXL is 1 (R61, R145): the core stops, logs a kind-1 record and posts a
core-fault event. -/
def State.raise (s : State) (c : CoreId) (code detail : Nat) (tval : Word) : State :=
  let s := s.itagEnd c 2 code
  let k := s.core c.num
  if k.ctx.exl then
    let i := s.fd (R.CCL_FLTHD_IDX c.cluster)
    let s1 := s.setCore c.num { k with running := false, faulted := true, resv := none, hold := none }
    (s1.faultRecord c.cluster 1 c.core (some k.ctx.epc) (some tval) (some code) (some detail)).coreFaultEvent
      c.cluster c.core 1 i
  else (s.cntCore c 4).setCore c.num { k with ctx := k.ctx.enter s.now code detail tval, resv := none, hold := none }

/-- The core's instruction completes and execution continues at an address; instructions retired are counted (R679). -/
def State.goto (s : State) (c : CoreId) (pc : Word) : State :=
  let s := s.retire c
  s.setCtx c { s.ctx c with pc := pc }

/-- The core moves past its instruction. -/
def State.advance (s : State) (c : CoreId) : State := s.goto c ((s.ctx c).pc + 4)

/-- A core executes the instruction whose word is given: nothing when it cannot execute; Fetch Fault when its pc lies
outside cluster memory (R119, R62); Illegal Instruction when a field is not as R39–R47 require; past it without effect
when its guard is false (R40); else `f`. -/
def State.coreExec (s : State) (c : CoreId) (word : Nat) (legal guard : Bool) (f : State → State) : State :=
  if !s.coreReady c then s
  else
  let s := s.itagIssue c word
  if 0x800000 ≤ (s.ctx c).pc.toNat then s.raise c 0x0C 0 (s.ctx c).pc
  else if !legal then s.raise c 0x01 0 (BitVec.ofNat 64 word)
  else if !guard then s.advance c
  else f s

/-- The guard of format A (R40). -/
def State.guardA (s : State) (c : CoreId) (f : FmtA) : Bool := (s.ctx c).pred f.pred.toNat

/-! ### Stopping and starting (R119, R121, R146, R115) -/

/-- A core starts under R119: supervisor mode, IE = 0, cluster address 0. -/
def State.coreStart (s : State) (c : CoreId) : State :=
  s.setCore c.num { Core.reset with running := true, fallow := (s.core c.num).fallow }

/-- A core held in warm reset (R121). -/
def State.coreHold (s : State) (c : CoreId) : State :=
  s.setCore c.num { Core.reset with fallow := (s.core c.num).fallow }

/-- Whether a power domain is on its way off (R644). -/
def State.goingOff (s : State) (d : Nat) : Bool :=
  natField (32 + d) 1 (s.rg R.PWR_STS).toNat = 1 && natField d 1 (s.rg R.PWR_CTL).toNat = 0

/-- A core whose stores are drained restarts, or is held when its enable bit is 0 or its cluster is switched off. -/
def State.coreDrained (s : State) (c : CoreId) : State :=
  if s.coreEnabled c && !s.goingOff (13 + c.cluster.val) then s.coreStart c else s.coreHold c

/-- A warm reset begins (R146, R115): the contexts are discarded, a Remote load in a slot is abandoned, ACTIVE bits follow,
reservation and remote-fault record are cleared; the stores still buffered drain for up to 256 CK_CTL cycles. -/
def State.coreWarmReset (s : State) (c : CoreId) : State :=
  let k := s.core c.num
  if k.sbuf = [] then s.coreDrained c
  else s.setCore c.num { Core.reset with sbuf := k.sbuf, draining := some (s.now + ctlCyclesPs 256), fallow := k.fallow }

/-- The record of a store that is dropped (R115, R146, R148). Its 8 data bytes are the first 8 of an STP's 16 (DESIGN CHOICE, log entry
84). -/
def State.dropRecord (s : State) (c : CoreId) (b : BufStore) : State :=
  s.faultRecord c.cluster 2 c.core (some (BitVec.ofNat 64 b.addr)) (some (BitVec.ofNat 64 (ofBytesLE (b.bytes.take 8)))) none none

/-- The stores not performed in time are dropped, one kind-2 record each (R115, R146). -/
def State.dropStores (s : State) (c : CoreId) : State := (s.core c.num).sbuf.foldl (fun t b => t.dropRecord c b) s

/-! ### The end of a Remote load (R96–R98, R136) -/

/-- The core that a ledger entry names by 8 × cluster + core (R500). -/
def coreOfNum (n : Nat) : CoreId := ⟨Fin.ofNat 4 (n / 8), Fin.ofNat 6 (n % 8)⟩

/-- A load's data in its registers (R48): one register, extended, or an even pair. -/
def State.loadApply (s : State) (c : CoreId) (r : LoadReq) (bs : List Byte) : State :=
  let v := ofBytesLE bs
  if r.bytes = 16 then
    (s.setGreg c r.dst (BitVec.ofNat 64 v)).setGreg c (r.dst + 1) (BitVec.ofNat 64 (v / 2 ^ 64))
  else s.setGreg c r.dst (if r.signed then sextTo (8 * r.bytes) v else BitVec.ofNat 64 v)

/-- A Remote load of the running context ends: its bytes of the DWs returned in its registers, or Remote-Load Fault. -/
def State.loadFinish (s : State) (c : CoreId) (r : LoadReq) (res : LoadResult) : State :=
  let s1 := s.setCtx c { s.ctx c with rload := none }
  match res with
  | .data bs => (s1.loadApply c r ((bs.drop (r.addr % 4)).take r.bytes)).advance c
  | .fault reason => s1.raise c 0x07 reason (BitVec.ofNat 64 r.addr)

/-- The result of the Remote load with ledger entry `e` reaches its core: the stalled load ends, or the slot of a preempted
context keeps the result (R136). -/
def State.coreLoadDone (s : State) (c : CoreId) (e : Nat) (res : LoadResult) : State :=
  let k := s.core c.num
  let keep (x : Ctx) : Ctx := { x with rload := x.rload.map fun r => if r.entry = e then { r with result := some res } else r }
  match k.ctx.rload with
  | some r =>
    if r.entry = e ∧ !r.preempted then s.loadFinish c r.req res
    else s.setCore c.num { k with ctx := keep k.ctx, saved := k.saved.map keep }
  | none => s.setCore c.num { k with saved := k.saved.map keep }

/-- A Remote store of a core is acknowledged or resolved: the fence of R90 need not wait for it any more. -/
def State.coreStoreDone (s : State) (c : CoreId) (e i : Nat) : State :=
  let k := s.core c.num
  s.setCore c.num { k with outstanding := k.outstanding.filter fun r => !(r.entry = e && r.item = i) }

/-- A Remote store of a core is resolved as failed (R91): the pending remote-fault record takes the store's address, unless a record is
set. A store made before a warm reset is not the restarted core's (R116). -/
def State.coreStoreFail (s : State) (c : CoreId) (e i reason : Nat) : State :=
  let k := s.core c.num
  match k.outstanding.find? fun r => r.entry = e && r.item = i with
  | none => s
  | some r => (s.setCore c.num { k with rfault := if k.rfault.isSome then k.rfault else some (r.addr, reason) }).coreStoreDone c e i

/-- The Remote store that joined a run is known by its place there (R503). -/
def State.coreStoreJoin (s : State) (c : CoreId) (e e1 i1 : Nat) : State :=
  let k := s.core c.num
  s.setCore c.num { k with outstanding := k.outstanding.map fun r => if r.entry = e then { r with entry := e1, item := i1 } else r }

/-- An entry of a core is gone without the outcome of an item: nothing of it is waited for. -/
def State.coreForget (s : State) (c : CoreId) (e : Nat) : State :=
  let k := s.core c.num
  s.setCore c.num { k with outstanding := k.outstanding.filter fun r => r.entry ≠ e }

/-- Every core of a cluster. -/
def clusterCores (cl : Fin 4) : List CoreId := (List.finRange 6).map fun k => ⟨cl, k⟩

/-! ### Dispatch (R130–R134) -/

/-- Whether a handler of queue `q` runs or is preempted on core `k` (R126). -/
def Core.handles (k : Core) (q : Nat) : Bool :=
  (k.ctx :: k.saved).any fun x => match x.handler with | none => false | some h => h.queue = q

/-- EVT_Q[q]_STS.ACTIVE (R126). -/
def State.evqActive (s : State) (q : Nat) : Bool := s.cores.any fun e => e.2.handles q

/-- Whether core `c` is eligible for queue `q` (R130). A core that is halted, stopped, draining or stuck in a Device access
has no instruction boundary (log entry 22). -/
def State.eligible (s : State) (c : CoreId) (q : Nat) : Bool :=
  let k := s.core c.num
  let x := k.ctx
  decide (s.fd (R.EVT_Q_CFG_CLUSTER q) = c.cluster.val) &&
  decide (natField c.core.val 1 (s.fd (R.EVT_Q_CFG_MASK q)) = 1) && s.coreEnabled c && !k.faulted &&
  s.live (13 + c.cluster.val) && k.running && !k.halting && k.draining.isNone && !k.hung &&
  (k.waitUntil.isSome || (x.ie && !x.crit && !x.exl && decide (x.cur.toNat < s.fd (R.EVT_Q_CFG_PRI q))))

/-- Whether queue `q` can be served: it holds an event, and no handler of it runs if it is SERIAL (R131). -/
def State.servable (s : State) (q : Nat) : Bool :=
  s.fb (R.EVT_Q_CFG_EN q) && !(s.evq q).isEmpty && !(s.fb (R.EVT_Q_CFG_SERIAL q) && s.evqActive q)

/-- Order of service (R131): higher priority first, then round robin after the queue last served, whose place is kept for each cluster
and priority (DESIGN CHOICE, log entry 85). -/
def State.bestQueue (s : State) (cl : Nat) (qs : List Nat) : Option Nat :=
  qs.foldl (fun best q =>
    match best with
    | none => some q
    | some b =>
      let pq := s.fd (R.EVT_Q_CFG_PRI q)
      let pb := s.fd (R.EVT_Q_CFG_PRI b)
      let last (p : Nat) : Nat := s.evt.lastServed.get 63 (8 * cl + p)
      let turn (p x : Nat) : Nat := (x + 127 - last p) % 64
      if pb < pq ∨ (pb = pq ∧ turn pq q < turn pq b) then some q else best) none

/-- The rank of an eligible core (R132): a waiting core below any running one, then by PRIO.CUR, then by number. -/
def State.coreRank (s : State) (c : CoreId) : Nat :=
  let k := s.core c.num
  (if k.waitUntil.isSome then 0 else 8 * (k.ctx.cur.toNat + 1)) + c.core.val

/-- The core of lowest rank. -/
def State.bestCore (s : State) (cs : List CoreId) : Option CoreId :=
  cs.foldl (fun best c => match best with
    | none => some c
    | some b => if s.coreRank c < s.coreRank b then some c else best) none

/-- The EVQ value of a handler (R36). -/
def evqWord (q pri : Nat) (e : Event) : Word :=
  BitVec.ofNat 64 (q + 256 * pri + 65536 * (e.typ % 256) + 2 ^ 32 * (e.arg % 2 ^ 32))

/-- A context put aside (R133, R135, R136): run time counted, a pending fence executes again, a Remote load keeps its slot. -/
def Ctx.preempt (x : Ctx) (now : Nat) : Ctx :=
  { x.critPause now with
    fence := none
    rload := x.rload.map fun r => { r with preempted := true }
    handler := x.handler.map fun h => { h with usedPs := h.usedPs + (now - h.startPs) } }

/-- A context resumed. -/
def Ctx.resume (x : Ctx) (now : Nat) : Ctx :=
  { x with critStartPs := now, handler := x.handler.map fun h => { h with startPs := now } }

/-- The context of a handler of queue `q` that starts with event `e` on core `c`, from the registers of context `x` (R133). -/
def State.handlerCtx (s : State) (c : CoreId) (q : Nat) (e : Event) (x : Ctx) : Ctx :=
  let p := s.fd (R.EVT_Q_CFG_PRI q)
  let y : Ctx := { x with
    sup := false, ie := true, crit := false, exl := false, cur := BitVec.ofNat 3 p, disp := BitVec.ofNat 3 p,
    evq := evqWord q p e, pc := BitVec.ofNat 64 (s.fd (R.EVT_Q_HND_ADDR q) * 4), fence := none, rload := none,
    handler := some { queue := q, event := e, budget := s.fd (R.EVT_Q_CFG_BUDGET q), usedPs := 0, startPs := s.now, overBudget := false },
    critUsedPs := 0, critPc := none }
  y.setReg 30 (s.rg (R.CCL_STK c.cluster p) + BitVec.ofNat 64 (8192 * (c.core.val + 1)))

/-- The head event of queue `q` leaves it for core `c`, whose contexts become those of `saved` under a handler with the registers of
`x` (R133, R51). -/
def State.startHandler (s : State) (c : CoreId) (q : Nat) (x : Ctx) (saved : List Ctx) : State :=
  match s.evq q with
  | [] => s
  | e :: rest =>
    let s1 := (s.setEvq q rest).setCore c.num
      { s.core c.num with ctx := s.handlerCtx c q e x, saved := saved, waitUntil := none, resv := none, hold := none }
    ({ s1 with evt := { s1.evt with
        lastServed := s1.evt.lastServed.set 63 (8 * c.cluster.val + s.fd (R.EVT_Q_CFG_PRI q)) q } }.cntCore c 3).cntDev (1472 + q) 1

/-- The head event of queue `q` is dispatched to core `c` (R133, R51). -/
def State.dispatchTo (s : State) (c : CoreId) (q : Nat) : State :=
  if s.evq q = [] then s
  else
    let s := s.itagEnd c 4 0
    let k := s.core c.num
    s.startHandler c q k.ctx (k.ctx.preempt s.now :: k.saved)

/-- The queues that core `c` could be given. -/
def State.queuesFor (s : State) (c : CoreId) : List Nat :=
  (List.range 64).filter fun q => s.servable q && s.eligible c q

/-- ERET with EXL = 0 (R134, R51): the handler ends and the saved context resumes, unless an event that could preempt it is
pending: that one is dispatched at once, with the registers of the handler that has ended. Outside a handler nothing ends (log entry
23). -/
def State.endHandler (s : State) (c : CoreId) : State :=
  match (s.core c.num).saved with
  | [] =>
    let k := s.core c.num
    (s.setCore c.num { k with resv := none, hold := none }).advance c
  | x :: rest =>
    let s := s.retire c
    let s1 := s.setCore c.num { s.core c.num with ctx := x.resume s.now, saved := rest, resv := none, hold := none }
    match s1.bestQueue c.cluster (s1.queuesFor c) with
    | none => s1
    | some q => s.startHandler c q (s.ctx c) (x :: rest)

end Sys2Proof.Machine
end

