-- ==== Sys2Proof/Machine/Events.lean ====
section
/-! DEFINITION. Machine/Events.lean: event queues and dispatch, timers, mailboxes, core enables, warm resets and the cluster
watchdogs (R119–R147). -/

namespace Sys2Proof.Machine

/-- R127: the first event held for queue `q` whose source holds nothing before it enters the queue once there is room. -/
def State.releaseHeld (s : State) (q : Nat) : State :=
  let rec find : List HeldEvent → List HeldEvent → Option (HeldEvent × List HeldEvent)
    | _, [] => none
    | seen, h :: t =>
      if h.queue = q ∧ !(seen.any fun g => g.src = h.src) then some (h, seen ++ t) else find (seen ++ [h]) t
  if s.evqRoom q then
    match find [] s.evt.held with
    | none => s
    | some (h, rest) => { s.setEvq q (s.evq q ++ [h.event]) with
        evt := { (s.setEvq q (s.evq q ++ [h.event])).evt with held := rest } }
  else s

/-- R127: an event held by a source enters its queue. -/
def execHeldEventRelease (q : Fin 64) (s : State) : Host.Outcome State Fault Refusal := .next (s.releaseHeld q)

/-- R131–R133: the dispatcher of a cluster serves its best queue on the best eligible core. -/
def execEventDispatch (cl : Fin 4) (s : State) : Host.Outcome State Fault Refusal :=
  let cs := clusterCores cl
  let qs := (List.range 64).filter fun q => s.servable q && cs.any fun c => s.eligible c q
  .next (match s.bestQueue cl qs with
    | none => s
    | some q => match s.bestCore (cs.filter fun c => s.eligible c q) with
      | none => s
      | some c => s.dispatchTo c q)

/-- R137: the run time of a handler exceeds its queue's BUDGET: a kind-4 record and a core-fault event, once. -/
def execHandlerBudgetExceeded (c : CoreId) (s : State) : Host.Outcome State Fault Refusal :=
  let x := s.ctx c
  .next (match x.handler with
    | none => s
    | some h =>
      let b := h.budget * 100 * nsPs
      if b = 0 ∨ h.overBudget then s
      else
        let i := s.fd (R.CCL_FLTHD_IDX c.cluster)
        let s1 := (s.waitUntil (h.startPs + (b - h.usedPs))).setCtx c { x with handler := some { h with overBudget := true } }
        (s1.faultRecord c.cluster 4 c.core (some x.epc) none none (some h.queue)).coreFaultEvent c.cluster c.core 4 i)

/-- The sum of the depths of the enabled queues other than `q` (R125). -/
def State.evqDepths (s : State) (q : Nat) : Nat :=
  ((List.range 64).map fun i => if i ≠ q ∧ s.fb (R.EVT_Q_CFG_EN i) then s.evqDepth i else 0).sum

/-- A write of EVT_Q[q]_CFG (R124, R125). -/
def State.evtQCfg (s : State) (q : Nat) (v : Word) : State :=
  let open_ := !s.fb (R.EVT_Q_CFG_EN q) && (s.evq q).isEmpty
  let pri := if open_ then wField 0 3 v else s.fd (R.EVT_Q_CFG_PRI q)
  let dep := if open_ then wField 16 4 v else s.fd (R.EVT_Q_CFG_LOGDEPTH q)
  let s1 := (((((s.setFd (R.EVT_Q_CFG_PRI q) pri).setFd (R.EVT_Q_CFG_LOGDEPTH q) dep).setFd
    (R.EVT_Q_CFG_CLUSTER q) (wField 4 2 v)).setFd (R.EVT_Q_CFG_MASK q) (wField 6 6 v)).setFd
    (R.EVT_Q_CFG_SERIAL q) (wField 12 1 v)).setFd (R.EVT_Q_CFG_BUDGET q) (wField 32 16 v)
  if wField 3 1 v = 0 then s1.setFb (R.EVT_Q_CFG_EN q) false
  else if 16384 < s1.evqDepths q + s1.evqDepth q then
    (s1.setFb (R.EVT_Q_CFG_EN q) false).setFb (R.EVT_Q_STS_CFGERR q) true
  else s1.setFb (R.EVT_Q_CFG_EN q) true

/-- R125: a write of EVT_Q[q]_CFG. -/
def execEvtQCfgWrite (w : Writer) (q : Fin 64) (v : Word) (s : State) : Host.Outcome State Fault Refusal :=
  .next (s.regCommand w (R.EVT_Q_CFG q) v fun s => s.evtQCfg q v)

/-! ### Timers (R140–R142) -/

/-- The first CK_AO cycle (5 ns) at or after a time. -/
def ckAoCeil (t : Nat) : Nat := (t + 4999) / 5000 * 5000

/-- A timer fires (R141): the event, FIRED, and EN cleared or CMP advanced past TIME by whole periods. -/
def State.timerFires (s : State) (n : Nat) : State :=
  let cmp := s.fd (R.EVT_TMR_CMP_TIME n)
  let per := s.fd (R.EVT_TMR_PER_PERIOD n)
  let skipped := if per = 0 then 0 else (s.time.toNat - cmp) / per
  let missed := if skipped < 65536 then skipped else (Config.freeWord s.fv).toNat % 65536
  let s1 := (s.bumpFv.postEvent .evt n (some (s.fd (R.EVT_TMR_CTL_Q n))) 0x05 (n + 65536 * missed)
    (BitVec.ofNat 64 cmp)).addFd (R.EVT_TMR_CTL_FIRED n) 1
  if per = 0 then s1.setFb (R.EVT_TMR_CTL_EN n) false
  else s1.setFd (R.EVT_TMR_CMP_TIME n) (cmp + per * (skipped + 1))

/-- R141: an enabled timer whose CMP has been reached fires at a CK_AO cycle. -/
def execTimerFire (n : Fin 64) (s : State) : Host.Outcome State Fault Refusal :=
  .next (if s.live 21 && s.fb (R.EVT_TMR_CTL_EN n) then
      (s.waitUntil (ckAoCeil (s.now + (s.fd (R.EVT_TMR_CMP_TIME n) - s.time.toNat) * nsPs))).timerFires n
    else s)

/-! ### Mailboxes (R143, R144) -/

/-- A write of EVT_MBX[m]_DB (R143, R144). A length outside 1–32 is taken as it is written (DESIGN CHOICE, log entry 89). -/
def State.mbxDb (s : State) (m : Nat) (v : Word) : State :=
  if s.fb (R.EVT_MBX_STS_BUSY m) then s.setFb (R.EVT_MBX_STS_OVW m) true
  else
    let s1 := ((s.setFd (R.EVT_MBX_DB_LEN m) (wField 0 6 v)).setFd (R.EVT_MBX_DB_Q m) (wField 8 6 v)).setFb
      (R.EVT_MBX_STS_BUSY m) true
    s1.postEvent .evt (64 + m) (some (wField 8 6 v)) 0x06 (m + 256 * wField 0 6 v) 0

/-- R143: a mailbox doorbell. -/
def execEvtMbxDb (w : Writer) (m : Fin 16) (v : Word) (s : State) : Host.Outcome State Fault Refusal :=
  .next (s.regCommand w (R.EVT_MBX_DB m) v fun s => s.mbxDb m v)

/-! ### Core enables, warm reset, watchdog (R119, R121, R146, R147) -/

/-- CEN of one core set or cleared. -/
def State.setCen (s : State) (c : CoreId) (b : Bool) : State :=
  s.setFd (R.CCL_CTL_CEN c.cluster)
    (setNatField c.core.val 1 (s.fd (R.CCL_CTL_CEN c.cluster)) (if b then 1 else 0))

/-- A rising CEN bit starts the core when its cluster is powered (R119). -/
def State.coreEnable (s : State) (c : CoreId) : State :=
  let s1 := s.setCen c true
  if s.coreEnabled c ∨ !s.live (13 + c.cluster.val) ∨ (s.core c.num).draining.isSome then s1 else s1.coreStart c

/-- A cleared CEN bit holds the core in warm reset (R121). -/
def State.coreDisable (s : State) (c : CoreId) : State :=
  let s1 := s.setCen c false
  if s.coreEnabled c ∧ (s.core c.num).draining.isNone then s1.coreWarmReset c else s1

/-- WRST written 1 for one core (R146). -/
def State.coreWrst (s : State) (c : CoreId) : State :=
  if s.live (13 + c.cluster.val) ∧ (s.core c.num).draining.isNone then s.coreWarmReset c else s

/-- R119: a rising CEN bit. -/
def execCoreEnable (c : CoreId) (s : State) : Host.Outcome State Fault Refusal :=
  .next (if s.live 21 then s.coreEnable c else s)

/-- R121: a cleared CEN bit. -/
def execCoreDisable (c : CoreId) (s : State) : Host.Outcome State Fault Refusal :=
  .next (if s.live 21 then s.coreDisable c else s)

/-- R146: a WRST write. -/
def execCoreWarmReset (c : CoreId) (s : State) : Host.Outcome State Fault Refusal :=
  .next (if s.live 21 then s.coreWrst c else s)

/-- R115, R146: 256 cycles after a warm reset the stores not performed are dropped and logged, and the core restarts. -/
def execWarmResetDrainExpiry (c : CoreId) (s : State) : Host.Outcome State Fault Refusal :=
  .next (match (s.core c.num).draining with
    | none => s
    | some t => ((s.waitUntil t).dropStores c).coreDrained c)

/-- KICK of a cluster watchdog: its period starts again (R147). -/
def State.wdtKick (s : State) (cl : Nat) : State :=
  { s with evt := { s.evt with wdtPs := s.evt.wdtPs.set 0 cl s.now } }

/-- R147: a KICK write. -/
def execWatchdogKick (w : Writer) (cl : Fin 4) (s : State) : Host.Outcome State Fault Refusal :=
  .next (s.regCommand w (R.CCL_WDT cl) (BitVec.ofNat 64 (2 ^ 33)) fun s => s.wdtKick cl)

/-- The watchdog of a cluster runs out (R147): warm resets, a kind-3 record, a core-fault event and a seal trigger. Which core the
record names, with its EPC, is a free value: the spec names none. -/
def State.wdtExpire (s : State) (cl : Fin 4) : State :=
  let i := s.fd (R.CCL_FLTHD_IDX cl)
  let core := Config.freeChoice s.fv % 6
  let epc := (s.ctx ⟨cl, Fin.ofNat 6 core⟩).epc
  let s1 := (clusterCores cl).foldl (fun t c => if t.coreEnabled c then t.coreWrst c else t) s.bumpFv
  let s2 := ((((s1.faultRecord cl 3 core (some epc) none none none).coreFaultEvent cl core 3 i).wdtKick cl).setFd R.GLB_RSTC_WDT
    (setNatField cl.val 1 (s1.fd R.GLB_RSTC_WDT) 1))
  s2.almTrigger 3 (s1.alm.seqNext % 2 ^ 32)

/-- R147: an enabled watchdog runs out. -/
def execWatchdogExpiry (cl : Fin 4) (s : State) : Host.Outcome State Fault Refusal :=
  .next (if s.live 21 && s.fb (R.CCL_WDT_EN cl) then
      (s.waitUntil (s.evt.wdtPs.get 0 cl + s.fd (R.CCL_WDT_PERIOD cl) * usPs)).wdtExpire cl
    else s)

end Sys2Proof.Machine
end

