-- ==== Sys2Proof/Machine/Tables.lean ====
section
/-! DEFINITION. Machine/Tables.lean: the versioned tables and their lookups (R158–R160, R190–R192, R197–R201, R237–R247, R749). -/

namespace Sys2Proof.Machine

/-! ### Versions -/

/-- The active version of a tenant (R159). -/
def State.tntVer (s : State) (t : Nat) : Nat := natField (t % 64) 1 (s.rg (R.TBL_ACTV (t / 64))).toNat

/-- The routing version (R159). -/
def State.rver (s : State) : Nat := s.fd R.TBL_RVER_VER

/-- The index of every entry of a table in table memory, `stride` bytes an entry from `base`, that has a byte listed; every
other entry reads as 0 and is not valid. -/
def listedFrom (base size stride : Nat) : Option Nat → SMap Byte → List Nat
  | _, [] => []
  | last, (a, _) :: m =>
    if base ≤ a ∧ a < base + size then
      let i := (a - base) / stride
      if last = some i then listedFrom base size stride last m else i :: listedFrom base size stride (some i) m
    else listedFrom base size stride last m

def State.listed (s : State) (base size stride : Nat) : List Nat := listedFrom base size stride none s.tmem

/-- The tenants, windows, FID exact and FID prefix entries with something written. -/
def State.listedTnt (s : State) : List Nat := s.listed 0 0x400000 512
def State.listedWin (s : State) : List Nat := s.listed 0x400000 0x400000 256
def State.listedFid (s : State) : List Nat := s.listed 0x800000 0x400000 64
def State.listedPfx (s : State) : List Nat := s.listed 0xC00000 0x10000 64

/-- Whether a tenant exists under its active version. -/
def State.tntValid (s : State) (t : Nat) : Bool := s.fb (R.TNT_CFG_VALID t (s.tntVer t))

/-- The failed-read policy of a tenant in force. -/
def State.failrd (s : State) (t : Nat) : Nat := s.fd (R.TNT_CFG_FAILRD t (s.tntVer t))

/-- The ledger timeout of a tenant in ps (R164); a value above its range is taken as it stands (DESIGN CHOICE, log entry 92). -/
def State.ldgTmoPs (s : State) (t : Nat) : Nat :=
  let v := s.fd (R.TNT_LDGTMO_TMO t (s.tntVer t))
  (if v = 0 then 10000 else v) * usPs

/-- Whether a tenant is fenced (R255). -/
def State.fenced (s : State) (t : Nat) : Bool := natField (t % 64) 1 (s.rg (R.HPL_FENCE (t / 64))).toNat = 1

/-! ### Windows (R190, R191) -/

/-- First and last address of copy `v` of window `w`. -/
def State.winBase (s : State) (w v : Nat) : Nat := s.fd (R.WIN_BASE_BASE w v) * 4096
def State.winLast (s : State) (w v : Nat) : Nat := s.fd (R.WIN_LIMIT_LIMIT w v) * 4096 + 4095

/-- The window of tenant `t` that an address hits under version `v` (R190). -/
def State.winHit (s : State) (t v addr : Nat) : Option Nat :=
  s.listedWin.find? fun w =>
    s.fb (R.WIN_CTL_VALID w v) && s.fd (R.WIN_OWN_TENANT w) = t && decide (s.winBase w v ≤ addr) &&
    decide (addr ≤ s.winLast w v)

/-- log2 of the interleave ways in force. -/
def State.winWays (s : State) (w v : Nat) : Nat :=
  if s.fb (R.WIN_CTL_HDM w v) then s.fd (R.WIN_HDM_IW w v) else 0

/-- Way index of an address in a window (R191); the bits are those of CXL 3.1's power-of-two interleave. -/
def State.winWay (s : State) (w v addr : Nat) : Nat :=
  natField (8 + s.fd (R.WIN_HDM_IG w v)) (s.winWays w v) addr

/-- The target FID of an address in a window. -/
def State.winFid (s : State) (w v addr : Nat) : Nat := (s.fd (R.WIN_CTL_TFID w v) + s.winWay w v addr) % 65536

/-- The target address of an address in a window (R190, R191). -/
def State.winTarget (s : State) (w v addr : Nat) : Nat :=
  let g := 8 + s.fd (R.WIN_HDM_IG w v)
  let k := s.winWays w v
  let a := if k = 0 then addr else addr / 2 ^ (g + k) * 2 ^ g + addr % 2 ^ g
  (a + s.fd (R.WIN_XOFF_XOFF w v) * 4096) % 2 ^ 64

/-! ### FID routing (R199, R200, R749) -/

/-- Whether a port's link is up. -/
def State.portUp (s : State) (p : Nat) : Bool :=
  if s.fd (R.PRT_CTX_ROLE p) = 3 then s.fb (R.LNK_STS_UP (octetOf p)) else s.fb (R.PRT_LSTS_UP p)

/-- The valid prefix entry of greatest LEN that matches a FID under version `v`. -/
def State.pfxMatch (s : State) (v fid : Nat) : Option Nat :=
  s.listedPfx.foldl (fun best i =>
    let len := s.fd (R.FIDT_PFX_MATCH_LEN i v)
    if s.fb (R.FIDT_PFX_CTL_VALID i v) ∧ len ≤ 16 ∧
        fid / 2 ^ (16 - len) = s.fd (R.FIDT_PFX_MATCH_VALUE i v) / 2 ^ (16 - len) then
      match best with
      | none => some i
      | some b => if s.fd (R.FIDT_PFX_MATCH_LEN b v) < len then some i else best
    else best) none

/-- The flow key of R749. -/
def flowKey (sfid dfid cls : Nat) : Word := BitVec.ofNat 64 (sfid + 65536 * dfid + 2 ^ 32 * cls)

/-- The entry a FID is routed by (R199): whether it is a prefix entry, and its number. -/
def State.routeEntry (s : State) (v fid : Nat) : Option (Bool × Nat) :=
  if s.fb (R.FIDT_CTL_VALID fid v) then some (false, fid)
  else match s.pfxMatch v fid with
    | some i => some (true, i)
    | none => none

/-- The key of the spray counter of an entry. -/
def rrKey (pfx : Bool) (i : Nat) : Nat := if pfx then 65536 + i else i

/-- The CTL field of an exact or prefix entry. -/
def routeFld (pfx : Bool) (ex px : Nat → Nat → Field) (i v : Nat) : Field := if pfx then px i v else ex i v

/-- The next hops of an entry whose port's link is up, in index order. -/
def State.liveHops (s : State) (pfx : Bool) (i v : Nat) : List Nat :=
  let n := s.fd (routeFld pfx R.FIDT_CTL_NHOP R.FIDT_PFX_CTL_NHOP i v)
  ((List.range (n + 1)).map fun k => s.fd (if pfx then R.FIDT_PFX_HOPS_HOP i v k else R.FIDT_HOPS_HOP i v k)).filter
    fun p => s.portUp p

/-- The result word of a FID lookup through an entry (R200, R239). -/
def State.routeWord (s : State) (pfx : Bool) (i v : Nat) (flow : Word) : Word :=
  let f (ex px : Nat → Nat → Field) : Nat := s.fd (routeFld pfx ex px i v)
  let fixed := f R.FIDT_CTL_VCKEEP R.FIDT_PFX_CTL_VCKEEP * 2 ^ 10 + f R.FIDT_CTL_HOPLIM R.FIDT_PFX_CTL_HOPLIM * 2 ^ 48 +
    (if pfx then 2 ^ 47
     else s.fd (R.FIDT_CTL_OWNER i v) * 2 ^ 32 + s.fd (R.FIDT_CTL_HOST i v) * 2 ^ 45 + s.fd (R.FIDT_CTL_LOCAL i v) * 2 ^ 46)
  let vc := f R.FIDT_CTL_VC R.FIDT_PFX_CTL_VC * 2 ^ 8
  if !pfx && s.fb (R.FIDT_CTL_LOCAL i v) then BitVec.ofNat 64 (s.fd (R.FIDT_DEST_LPORT i v) + vc + fixed)
  else
    let live := s.liveHops pfx i v
    match live with
    | [] => BitVec.ofNat 64 (2 ^ 7 + fixed)
    | _ =>
      let k := if f R.FIDT_CTL_SPRAY R.FIDT_PFX_CTL_SPRAY = 1 then s.tbl.rr.get 0 (rrKey pfx i)
        else (flowHash (s.rg R.HPL_HSEED) flow 0).toNat
      BitVec.ofNat 64 (live.getD (k % live.length) 0 + vc + fixed)

/-! ### LKP (R54–R56, R238–R247) -/

/-- A lookup's answer: hit, result word, the use mark a hit names (table and entry), the spray counter a packet advances. -/
structure LkpRes where
  hit : Bool
  word : Word
  mark : Option (Nat × Nat)
  spray : Option Nat
  deriving DecidableEq, Repr

def LkpRes.miss : LkpRes := ⟨false, 0, none, none⟩

/-- The match kind of a table number (R55, R244); none for a table that is not configured. -/
def State.tableKind (s : State) (t : Nat) : Option Nat :=
  match t with
  | 0 => some 0
  | 1 => some 2
  | 2 => some 0
  | 3 => some 1
  | 4 => some 0
  | _ =>
    if 16 ≤ t ∧ t < 64 then
      match s.fd (R.HPL_FTBL_KIND t) with
      | 1 => some 0
      | 2 => some 3
      | 3 => some 2
      | _ => none
    else none

/-- The key length of a configured table, in bytes. -/
def State.tableKlen (s : State) (t : Nat) : Nat :=
  match t with
  | 0 => 2
  | 1 => 10
  | 2 => 2
  | 3 => 2
  | 4 => 8
  | _ => if s.fd (R.HPL_FTBL_KIND t) = 3 then 10 else s.fd (R.HPL_FTBL_KLENM1 t) + 1

/-- Whether a lookup names a configured table with its match kind and key length (R55). -/
def State.tableOk (s : State) (t kind klen : Nat) : Bool := s.tableKind t = some kind && s.tableKlen t = klen

/-- The 32-byte entry at `a` of table memory matches a key (R241). -/
def State.exactMatch (s : State) (a k0 k1 : Nat) : Bool :=
  (s.tWord a).toNat = k0 && (s.tWord (a + 8)).toNat = k1 && natField 0 1 (s.tByte (a + 24)).toNat = 1

/-- A lookup in a set-associative table whose copy starts at `base` (R241): the entry index and the result word. -/
def State.setLookup (s : State) (base sets k0 k1 : Nat) : Option (Nat × Word) :=
  let set := (flowHash (s.rg R.HPL_HSEED) (BitVec.ofNat 64 k0) (BitVec.ofNat 64 k1)).toNat % sets
  match (List.range 4).find? fun w => s.exactMatch (base + (4 * set + w) * 32) k0 k1 with
  | none => none
  | some w => some (4 * set + w, s.tWord (base + (4 * set + w) * 32 + 16))

/-- The addresses of the entries of a ternary copy that the match engine holds, in index order (R245). -/
def State.hplTern (s : State) (base n : Nat) : List Nat :=
  (s.tbl.ternary.filter fun e => decide (base ≤ e.1) && decide (e.1 < base + n * 64)).map fun e => e.1

/-- The ternary lookup of R244: the lowest-indexed entry that matches, among those the match engine holds (R245). -/
def State.ternLookup (s : State) (base n k0 k1 : Nat) : Option Word :=
  let word (a i : Nat) : Word := (s.tbl.ternary.get [] a).getD i 0
  ((s.hplTern base n).find? fun a =>
    let m0 := (word a 2).toNat
    let m1 := (word a 3).toNat
    Nat.land k0 m0 = Nat.land (word a 0).toNat m0 && Nat.land k1 m1 = Nat.land (word a 1).toNat m1).map
    fun a => word a 4

/-- The address of copy `v` of a kind 1 or kind 2 table (R243, R244). -/
def State.ftblCopy (s : State) (t v : Nat) : Nat :=
  s.fd (R.HPL_FTBL_BASE t) * 64 + v * (2 ^ s.fd (R.HPL_FTBL_LOGSZ t) * (if s.fd (R.HPL_FTBL_KIND t) = 1 then 128 else 64))

/-- A lookup of key (k0, k1) in table `t` with routing version `rv` and tenant versions `tv`, for a flow (R238–R244). -/
def State.lookup (s : State) (t k0 k1 : Nat) (tv : Nat → Nat) (rv : Nat) (flow : Word) : LkpRes :=
  match t with
  | 0 =>
    let n := k0 % 8192
    let v := tv n
    if s.fb (R.TNT_CFG_VALID n v) then
      ⟨true, BitVec.ofNat 64 (1 + s.fd (R.TNT_CFG_STRICT n v) * 2 + s.fd (R.TNT_CFG_NOMIRROR n v) * 4 +
        s.fd (R.TNT_CFG_FAILRD n v) * 8 + (if s.fenced n then 32 else 0) + s.fd (R.TNT_CFG_PGRP n v) * 256), some (0, n), none⟩
    else .miss
  | 1 =>
    let n := k1 % 8192
    let v := tv n
    match s.winHit n v k0 with
    | none => .miss
    | some w =>
      ⟨true, BitVec.ofNat 64 (w + s.fd (R.WIN_CTL_GRANTV w v) * 2 ^ 14 + s.fd (R.WIN_CTL_HDM w v) * 2 ^ 15 +
        s.fd (R.WIN_CTL_RD w v) * 2 ^ 16 + s.fd (R.WIN_CTL_WR w v) * 2 ^ 17 + s.fd (R.WIN_CTL_PEER w v) * 2 ^ 18 +
        s.fd (R.WIN_CTL_DMA w v) * 2 ^ 19 + s.fd (R.WIN_CTL_PREF w v) * 2 ^ 20 + s.fd (R.WIN_HDM_BI w v) * 2 ^ 21 +
        s.winFid w v k0 * 2 ^ 32), some (1, w), none⟩
  | 2 =>
    match s.routeEntry rv (k0 % 65536) with
    | none => .miss
    | some (pfx, i) => ⟨true, s.routeWord pfx i rv flow, some (if pfx then 3 else 2, i), some (rrKey pfx i)⟩
  | 3 =>
    match s.pfxMatch rv (k0 % 65536) with
    | none => .miss
    | some i => ⟨true, s.routeWord true i rv flow, some (3, i), some (rrKey true i)⟩
  | 4 =>
    let k := Nat.land k0 s.tbl.kmask.toNat
    if natField 7 1 k = 1 then .miss
    else match s.setLookup (0x1000000 + 0x200000 * rv) 16384 k 0 with
      | none => .miss
      | some (i, w) => ⟨true, w, some (4, i), none⟩
  | _ =>
    match s.fd (R.HPL_FTBL_KIND t) with
    | 1 => match s.setLookup (s.ftblCopy t rv) (2 ^ s.fd (R.HPL_FTBL_LOGSZ t)) k0 k1 with
      | none => .miss
      | some (i, w) => ⟨true, w, some (t, i), none⟩
    | 2 => match s.ternLookup (s.ftblCopy t rv) (2 ^ s.fd (R.HPL_FTBL_LOGSZ t)) k0 k1 with
      | none => .miss
      | some w => ⟨true, w, none, none⟩
    | 3 => match s.winHit (k1 % 8192) (tv (k1 % 8192)) k0 with
      | none => .miss
      | some w => ⟨true, BitVec.ofNat 64 (s.winTarget w (tv (k1 % 8192)) k0), none, none⟩
    | _ => .miss

/-- A key of `klen` bytes from a register and the next one (R54), as its two 8-byte halves. -/
def lkpKey (klen : Nat) (r0 r1 : Word) : Nat × Nat :=
  if klen ≤ 8 then (r0.toNat % 2 ^ (8 * klen), 0) else (r0.toNat, r1.toNat % 2 ^ (8 * (klen - 8)))

/-- The key of a use mark. -/
def markKey (t i : Nat) : Nat := t * 2 ^ 22 + i

/-- The use mark of an entry set (R247). -/
def State.setMark (s : State) (m : Option (Nat × Nat)) : State :=
  match m with
  | none => s
  | some (t, i) => { s with hpl := { s.hpl with marks := s.hpl.marks.set false (markKey t i) true } }

/-- A packet's lookup advances the spray counter of the entry it used (R200). -/
def State.advanceRr (s : State) (k : Option Nat) : State :=
  match k with
  | none => s
  | some k => { s with tbl := { s.tbl with rr := s.tbl.rr.set 0 k (s.tbl.rr.get 0 k + 1) } }

/-- The spray counter of the entry that a FID is routed by advances for a packet that no lookup of a program routed. -/
def State.advanceFor (s : State) (v fid : Nat) : State := s.advanceRr ((s.routeEntry v fid).map fun e => rrKey e.1 e.2)

/-! ### Stores and reservations (R103, R104) -/

/-- The cores of a condition lose a reservation on the granules that `n` bytes at `a` touch. -/
def State.clearResv (s : State) (mine : Nat → Bool) (table : Bool) (a n : Nat) : State :=
  let g := if table then 256 else 128
  { s with cores := s.cores.map fun e =>
      match e.2.resv with
      | some r => if mine e.1 && r.table = table && decide (a / g ≤ r.granule) && decide (r.granule ≤ (a + n - 1) / g)
          then (e.1, { e.2 with resv := none }) else e
      | none => e }

/-- A store to table memory by any agent: the bytes, and the reservations it clears. -/
def State.storeTable (s : State) (a : Nat) (bs : List Byte) : State :=
  (s.setTBytes a bs).clearResv (fun _ => true) true a bs.length

/-- A store to a cluster's memory by any agent. -/
def State.storeCluster (s : State) (cl a : Nat) (bs : List Byte) : State :=
  (s.setCBytes cl a bs).clearResv (fun c => decide (c / 8 = cl)) false a bs.length

end Sys2Proof.Machine
end

