-- ==== Sys2Proof/Machine/Pkt.lean ====
section
/-! DEFINITION. Machine/Pkt.lean: packets: the fields of their header window (R230–R236, R430; the TLP bytes by PCI Express,
log entry 30), the list of packets held, and the cells of the pools (R272–R278, R753). -/

namespace Sys2Proof.Machine

/-! ### Header window -/

def Pkt.h (k : Pkt) (n : Nat) : Word := k.win.getD n 0
def Pkt.setH (k : Pkt) (n : Nat) (w : Word) : Pkt := { k with win := k.win.set n w }

/-- A field of header register hN. -/
def Pkt.hf (k : Pkt) (n lo width : Nat) : Nat := wField lo width (k.h n)
def Pkt.setHf (k : Pkt) (n lo width v : Nat) : Pkt := k.setH n (setWField lo width (k.h n) v)

/-! The sheaf header (R430, R31). -/
def Pkt.cls (k : Pkt) : Nat := k.hf 0 56 4
def Pkt.ord (k : Pkt) : Nat := k.hf 0 54 2
def Pkt.hop (k : Pkt) : Nat := k.hf 0 48 6
def Pkt.dfid (k : Pkt) : Nat := k.hf 0 32 16
def Pkt.tenant (k : Pkt) : Nat := k.hf 0 19 13
def Pkt.vc (k : Pkt) : Nat := k.hf 0 16 3
def Pkt.sfid (k : Pkt) : Nat := k.hf 0 0 16
def Pkt.ses (k : Pkt) : Nat := k.hf 1 50 14
def Pkt.eseq (k : Pkt) : Nat := k.hf 1 32 18
def Pkt.birth (k : Pkt) : Nat := k.hf 1 16 16
def Pkt.evictable (k : Pkt) : Bool := k.hf 1 15 1 = 1
def Pkt.mirrored (k : Pkt) : Bool := k.hf 1 14 1 = 1
def Pkt.traced (k : Pkt) : Bool := k.hf 1 13 1 = 1

/-! m3 (R235). -/
def Pkt.tkind (k : Pkt) : Nat := wField 16 8 k.m3
def Pkt.flit (k : Pkt) : Bool := wField 24 1 k.m3 = 1
def Pkt.tver (k : Pkt) : Nat := wField 0 1 k.m3
def Pkt.rverOf (k : Pkt) : Nat := wField 1 1 k.m3

/-- The tenant of R178, which m1 keeps whatever the program writes into the header (R253). -/
def Pkt.ownTenant (k : Pkt) : Nat := wField 0 13 k.m1

/-- Fabric time in µs modulo 65,536 (R233). -/
def State.birthNow (s : State) : Nat := s.time.toNat / 1000 % 65536

/-- The sheaf CRC-8 of R431 over bytes 0–14 and a zero byte. -/
def sheafCrc (h0 h1 : Word) : Nat :=
  crcUnreflected 8 0x07 0xFF (bytesBE 8 h0.toNat ++ (bytesBE 8 h1.toNat).take 7 ++ [0])

/-- A sheaf header (R430), CRC-8 left 0. -/
def sheafWords (cls ord hop dfid tenant vc sfid ses eseq birth flags : Nat) : Word × Word :=
  (BitVec.ofNat 64 (2 ^ 60 + cls % 16 * 2 ^ 56 + ord % 4 * 2 ^ 54 + hop % 64 * 2 ^ 48 + dfid % 65536 * 2 ^ 32 +
     tenant % 8192 * 2 ^ 19 + vc % 8 * 2 ^ 16 + sfid % 65536),
   BitVec.ofNat 64 (ses % 16384 * 2 ^ 50 + eseq % 2 ^ 18 * 2 ^ 32 + birth % 65536 * 2 ^ 16 + flags % 256 * 2 ^ 8))

/-! ### TLP header bytes (PCI Express, log entry 30) -/

/-- The transaction kind of R236 by Fmt and Type (byte 16); 0 for a TLP of no known kind. I/O requests and MRdLk, refused at
entry (R229), get codes of the model: 0x80 I/O read, 0x81 I/O write, 0x82 MRdLk. -/
def tlpKind (flit : Bool) (b : Nat) : Nat :=
  if b = 0x00 ∨ b = 0x20 ∨ (flit ∧ b = 0x03) then 0x01
  else if b = 0x40 ∨ b = 0x60 then 0x02
  else if b = 0x4C ∨ b = 0x4D ∨ b = 0x4E ∨ b = 0x6C ∨ b = 0x6D ∨ b = 0x6E then 0x03
  else if b = 0x04 ∨ b = 0x05 then 0x04
  else if b = 0x44 ∨ b = 0x45 then 0x05
  else if 0x30 ≤ b ∧ b ≤ 0x37 then 0x06
  else if 0x70 ≤ b ∧ b ≤ 0x77 then 0x07
  else if b = 0x0A ∨ b = 0x0B then 0x08
  else if b = 0x4A ∨ b = 0x4B then 0x09
  else if b = 0x5B ∨ b = 0x7B then 0x0A
  else if b = 0x02 then 0x80
  else if b = 0x42 then 0x81
  else if b = 0x01 ∨ b = 0x21 then 0x82
  else 0

/-- The ordering type of a kind: 0 P, 1 NP, 2 CPL (R233); CXL messages take 0. -/
def kindOrd (k : Nat) : Nat :=
  if k = 0x01 ∨ k = 0x03 ∨ k = 0x04 ∨ k = 0x05 ∨ k = 0x0A ∨ k = 0x80 ∨ k = 0x81 ∨ k = 0x82 then 1
  else if k = 0x08 ∨ k = 0x09 then 2 else 0

/-- Whether a kind is a non-posted request, CXL requests included (R500, R525). -/
def kindNp (k : Nat) : Bool := kindOrd k = 1 || k = 0x10 || k = 0x11 || k = 0x14

/-- Whether a kind is a completion or a CXL response. -/
def kindCpl (k : Nat) : Bool := kindOrd k = 2 || k = 0x12 || k = 0x13 || k = 0x15

/-- Whether a kind is a memory request whose address form R231 normalises. -/
def kindMem (k : Nat) : Bool := k = 0x01 || k = 0x02 || k = 0x03 || k = 0x0A || k = 0x82

/-- Whether a non-posted kind expects data. -/
def kindData (k : Nat) : Bool := k = 0x01 || k = 0x03 || k = 0x04 || k = 0x80 || k = 0x82 || k = 0x10

/-- The completion data in bytes that a request of a kind, TLP type and length asks for (R207): a cacheline in CXL, and of a compare and swap
one of its two operands. -/
def respBytes (tkind typ lendw : Nat) : Nat :=
  if tkind = 0x10 then 64
  else if tkind = 0x03 ∧ (typ = 0x4E ∨ typ = 0x6E) then lendw * 2
  else if kindData tkind then lendw * 4 else 0

/-- The bytes of a base TLP header of a type: the 4-DW form has bit 5 of its type set (R231, R272). -/
def baseBytes (typ : Nat) : Nat := if natField 5 1 typ = 1 then 16 else 12

def Pkt.tlpType (k : Pkt) : Nat := k.hf 2 56 8
def Pkt.respBytes (k : Pkt) : Nat := Sys2Proof.Machine.respBytes k.tkind k.tlpType (let l := k.hf 2 32 10; if l = 0 then 1024 else l)
def Pkt.tc (k : Pkt) : Nat := if k.flit then k.hf 2 53 3 else k.hf 2 52 3
def Pkt.lenDw (k : Pkt) : Nat := let l := k.hf 2 32 10; if l = 0 then 1024 else l
def Pkt.reqId (k : Pkt) : Nat := if kindOrd k.tkind = 2 then k.hf 3 48 16 else k.hf 2 16 16
def Pkt.tlpTag (k : Pkt) : Nat :=
  match k.ftag with
  | some t => t
  | none =>
    if k.flit then (if kindOrd k.tkind = 2 then k.hf 3 32 14 else k.hf 2 0 14)
    else (if kindOrd k.tkind = 2 then k.hf 3 40 8 else k.hf 2 8 8) + k.hf 2 51 1 * 256 + k.hf 2 55 1 * 512
/-- Attributes RO, IDO of the header. -/
def Pkt.relaxed (k : Pkt) : Bool := if k.flit then k.hf 2 43 1 = 1 else k.hf 2 45 1 = 1
def Pkt.ido (k : Pkt) : Bool := if k.flit then k.hf 2 44 1 = 1 else k.hf 2 50 1 = 1
def Pkt.attrs (k : Pkt) : Nat := if k.flit then k.hf 2 42 3 else k.hf 2 44 2 + 4 * k.hf 2 50 1
/-- The address of a request; an I/O request has 32 bits of it, in bytes 8–11 of its TLP header. -/
def Pkt.addr (k : Pkt) : Word := match k.cxl with
  | some c => c.addr
  | none => (if k.tkind = 0x80 ∨ k.tkind = 0x81 then k.h 3 >>> 32 else k.h 3) &&& ~~~3#64
def Pkt.poisoned (k : Pkt) : Bool :=
  if k.flit then (if kindOrd k.tkind = 2 then k.hf 2 12 1 = 1 else k.hf 2 15 1 = 1) else k.hf 2 46 1 = 1
def Pkt.cplStatus (k : Pkt) : Nat := k.hf 2 13 3
def Pkt.cplBytes (k : Pkt) : Nat := let b := k.hf 2 0 12; if b = 0 then 4096 else b

/-- The requester ID and tag of a header replaced; a tag that a non-flit header has no room for is kept beside it. -/
def Pkt.setReq (k : Pkt) (rid tag : Nat) : Pkt :=
  let cpl := decide (kindOrd k.tkind = 2)
  let k := if cpl then k.setHf 3 48 16 rid else k.setHf 2 16 16 rid
  if k.flit then (if cpl then k.setHf 3 32 14 tag else k.setHf 2 0 14 tag)
  else
    let k := if cpl then k.setHf 3 40 8 tag else k.setHf 2 8 8 tag
    { (k.setHf 2 51 1 (tag / 256)).setHf 2 55 1 (tag / 512) with ftag := if tag < 1024 then none else some tag }

/-- The session class of a packet (R438). -/
def Pkt.sesClass (k : Pkt) : Nat :=
  match k.tkind with
  | 0x10 => 8 | 0x11 => 9 | 0x12 => 10 | 0x13 => 11 | 0x14 => 12 | 0x15 => 13 | 0x18 => 14
  | _ => k.cls % 8

/-! ### The packets held -/

def State.pkt? (s : State) (id : Nat) : Option Pkt := s.pkts.find? fun k => k.id = id

/-! ### Cells (R269–R271) -/

/-- The cells of the buffer and of a bank of it. -/
def cellCount : Nat := 524288
def bankCells : Nat := 8192

/-- The bank of a logical cell (DESIGN CHOICE, log entry 95). -/
def bankOf (i : Nat) : Nat := i / bankCells

/-- The first cell from `start` on that is not in use and does not lie in bank `bar`, among as many as the fuel says. -/
def freeCell (used : List Nat) (bar : Option Nat) (start : Nat) : Nat → Option Nat
  | 0 => none
  | n + 1 =>
    let c := start % cellCount
    if used.contains c || bar = some (bankOf c) then freeCell used bar (c + 1) n else some c

/-- `n` cells not in use, no two consecutive ones in one bank and the first not in bank `bar` (R270). -/
def takeCells (used : List Nat) (bar : Option Nat) (start : Nat) : Nat → List Nat
  | 0 => []
  | n + 1 =>
    match freeCell used bar start (used.length + bankCells + 1) with
    | none => []
    | some c => c :: takeCells (c :: used) (some (bankOf c)) (c + bankCells) n

/-- The cells in use by other packets. -/
def State.cellsInUse (s : State) (id : Nat) : List Nat := ((s.pkts.filter fun x => x.id ≠ id).map fun x => x.cellIx).flatten

/-- The cells of a packet of `n` cells that has cells `old`: it keeps them, gets more, or gives the last ones back (R271). -/
def State.fitCells (s : State) (id : Nat) (old : List Nat) (n : Nat) : List Nat :=
  if n ≤ old.length then old.take n
  else
    let used := old ++ s.cellsInUse id
    old ++ takeCells used (old.getLast?.map bankOf) (Config.freeCell s.fv used) (n - old.length)

/-- The cells a packet has. -/
def State.cellsOfPkt (s : State) (id : Nat) : List Nat :=
  match s.pkt? id with
  | none => []
  | some x => x.cellIx

/-- A packet replaced in place. -/
def State.setPkt (s : State) (k : Pkt) : State :=
  { s with pkts := s.pkts.map fun x => if x.id = k.id then { k with cellIx := s.fitCells k.id x.cellIx k.cells } else x }

/-- A packet moved behind every other packet, so that it is the last of its place. -/
def State.movePkt (s : State) (k : Pkt) : State :=
  { s with pkts := (s.pkts.filter fun x => x.id ≠ k.id) ++ [{ k with cellIx := s.fitCells k.id (s.cellsOfPkt k.id) k.cells }] }

/-- A new packet with an identity of its own, in the cells it has already or new ones. -/
def State.addPkt (s : State) (k : Pkt) : State :=
  let used := s.cellsInUse s.pktNext
  let old := if k.cellIx.any fun c => used.contains c then [] else k.cellIx
  { s with pkts := s.pkts ++ [{ k with id := s.pktNext, cellIx := s.fitCells s.pktNext old k.cells }], pktNext := s.pktNext + 1 }

def State.at (s : State) (l : Loc) : List Pkt := s.pkts.filter fun k => k.loc = l

/-- Items of the drain list still held and not begun (R216). -/
def State.drainCount (s : State) (l : List Nat) : Nat :=
  (s.pkts.filter fun k => l.contains k.id && k.txPort.isNone && k.copies = 0 && k.loc ≠ .held).length

/-- Key of the drain of a tenant's version or, with none, of the routing version. -/
def drainKey (t : Option Nat) : Nat := match t with | none => 8192 | some t => t

/-- The drains whose last item has left are empty: DRAINED, and the table interrupt under TBL_CFG.DIE (R216). -/
def State.drainCheck (s : State) : State :=
  s.tbl.drain.foldl (fun t e =>
    if e.2 ≠ [] ∧ t.drainCount e.2 = 0 then
      let t1 := ({ t with tbl := { t.tbl with drain := t.tbl.drain.set [] e.1 [] } }).setFb R.TBL_STS_DRAINED true
      if t.fb R.TBL_CFG_DIE then t1.emit .tableIrq else t1
    else t) s

/-- Headers of octet `n` stamped with a superseded program version (R263). -/
def State.progDrain (s : State) (n : Nat) : Nat :=
  (s.pkts.filter fun k => match k.loc with
    | .trap m _ => m = n &&
        k.progVer ≠ s.fd (R.HPL_CTXSEL_PVER n (wField 40 5 k.m0))
    | _ => false).length

/-- A packet's fields brought into its trace. -/
def Pkt.traceOf (k : Pkt) (t : Trace) : Trace :=
  { t with len := k.len, ord := k.ord, replayed := k.replay, dfid := k.dfid, sfid := k.sfid, q := k.qctx, ses := k.ses,
           eseq := k.eseq, tenant := k.tenant }

/-- The messages of this node that wait to be sent (R458). -/
def State.noticeStore (s : State) : Nat := (s.pkts.filter fun k => k.origin = .node).length

/-- The mark of the notice store (R458): set above 7,168, cleared below 6,144. -/
def State.storeMark (s : State) : State :=
  let n := s.noticeStore
  if 7168 < n then { s with ses := { s.ses with storeHigh := true } }
  else if n < 6144 then { s with ses := { s.ses with storeHigh := false } }
  else s

/-- Octet `n`'s program drain has reached 0 (R263). -/
def State.progDrained (s : State) (n before : Nat) : State :=
  if before ≠ 0 ∧ s.progDrain n = 0 then s.setFb (R.HPL_PSTS_DRAINED n) true else s

/-- A packet leaves the device's hands; the trace of an item that has no outcome yet stays with its entry. -/
def State.dropPkt (s : State) (id : Nat) : State :=
  match s.pkt? id with
  | none => s
  | some k =>
    let ents := match k.entry, k.trace with
      | some i, some t => s.ldg.entries.map fun (e : Entry) =>
          if e.idx = i then { e with traces := e.traces ++ [(k.item, k.traceOf t)] } else e
      | _, _ => s.ldg.entries
    let s1 := { s with pkts := s.pkts.filter fun x => x.id ≠ id, ldg := { s.ldg with entries := ents } }
    (match k.loc with
     | .trap n _ => s1.progDrained n (s.progDrain n)
     | _ => s1).storeMark.drainCheck

/-! ### Trace records (R685–R687) -/

/-- A time as an offset of R687, in ns after the time of ingress. -/
def offsetNs (inPs : Nat) (t : Option Nat) : Nat :=
  match t with
  | none => 0xFFFFFFFF
  | some p => min ((p - inPs) / 1000) 0xFFFFFFFE

/-- The 64 bytes of a transaction trace record (R687). -/
def Trace.record (t : Trace) (now node reason : Nat) (failed : Bool) : List Byte :=
  bytesLE 8 t.inTime.toNat ++ bytesLE 1 0x02 ++ bytesLE 1 (if failed then 32 else 0) ++ bytesLE 1 t.port ++
  bytesLE 1 reason ++ bytesLE 2 t.tenant ++ bytesLE 2 (min t.len 65535) ++ bytesLE 1 (t.outPort.getD 0xFF) ++
  bytesLE 1 (t.kind + (if t.sampled then 8 else 0) + (if t.tagged then 16 else 0) + (if t.replayed then 32 else 0) +
    64 * t.ord) ++
  bytesLE 2 t.dfid ++ bytesLE 2 t.sfid ++ bytesLE 2 t.q ++ bytesLE 4 (offsetNs t.inPs t.exitPs) ++
  bytesLE 4 (offsetNs t.inPs t.enqPs) ++ bytesLE 4 (offsetNs t.inPs t.selPs) ++ bytesLE 4 (offsetNs t.inPs t.txPs) ++
  bytesLE 4 (offsetNs t.inPs (some now)) ++ bytesLE 4 (t.eseq + t.ses * 2 ^ 18) ++ bytesLE 8 t.addr.toNat ++
  bytesLE 2 t.rid ++ bytesLE 2 (t.tag % 16384) ++ bytesLE 2 node ++ bytesLE 2 0

/-- A traced item reaches its outcome (R686, R687): one record, none from sag stage 1 on. -/
def State.traceEnd (s : State) (t : Trace) (reason : Nat) (failed : Bool) : State :=
  if 1 ≤ s.fd R.SAG_STS_STAGE then s
  else ((s.glnPut (t.record s.now (s.fd R.GLB_MODE_NODE) reason failed)).addFd R.TRC_CNT_TRACED 1).cntTnt t.tenant 15 1

/-- The outcome of a packet's own trace, for a packet that no entry speaks for. -/
def State.pktTraceEnd (s : State) (k : Pkt) (reason : Nat) (failed : Bool) : State :=
  match k.trace with
  | none => s
  | some t => (s.traceEnd (k.traceOf t) reason failed).setPkt { k with trace := none }

/-- The outcome of item `i` of an entry, as its trace tells it. -/
def State.itemTraceEnd (s : State) (idx i reason : Nat) (failed : Bool) : State :=
  let s1 := (s.pkts.filter fun k => k.entry = some idx && k.item = i).foldl (fun t k => t.pktTraceEnd k reason failed) s
  match s1.ldg.entries.find? fun e => e.idx = idx with
  | none => s1
  | some e =>
    let s2 := (e.traces.filter fun x => x.1 = i).foldl (fun t x => t.traceEnd x.2 reason failed) s1
    { s2 with ldg := { s2.ldg with entries := s2.ldg.entries.map fun x =>
        if x.idx = idx then { x with traces := x.traces.filter fun y => y.1 ≠ i } else x } }

/-! ### Cells and pools (R272–R278, R753) -/

/-- The cells of a packet (R272). -/
def cellsOf (native : Bool) (len : Nat) : Nat := if native then (len + 239) / 240 else (len + 255) / 256

/-- Whether a packet came over a native link. -/
def Pkt.native (k : Pkt) : Bool := match k.origin with
  | .native _ => true
  | _ => false

/-- Cells of the packets drawn from pools of a kind. -/
def State.poolCells (s : State) (f : Pool → Bool) : Nat := ((s.pkts.filter fun k => f k.pool).map fun k => k.cells).sum

def State.port (s : State) (p : Nat) : PciPort := s.ports.get PciPort.reset p
def State.setPort (s : State) (p : Nat) (x : PciPort) : State := { s with ports := s.ports.set PciPort.reset p x }

/-- The placed bridge (TOF, FRF) and landing reservations of a port, as words of their registers (R274). -/
def State.placedOf (s : State) (p : Nat) : Nat × Nat × Nat :=
  match (s.port p).placed with
  | none => (0, 0, 0)
  | some (a, b, c, _) => (a, b, c)

def State.tofSize (s : State) (p k : Nat) : Nat := natField (16 * k) 16 (s.placedOf p).1
def State.frfSize (s : State) (p k : Nat) : Nat := natField (16 * k) 16 (s.placedOf p).2.1
/-- Landing cells of VC k (0–3) or class C (4). -/
def State.landSize (s : State) (p k : Nat) : Nat :=
  if k < 4 then natField (12 * k) 12 (s.placedOf p).2.2 else natField 48 8 (s.placedOf p).2.2

/-- The cells a port's reservations hold. -/
def placedCells (x : PciPort) : Nat :=
  match x.placed with
  | none => 0
  | some (a, b, c, _) =>
    ((List.range 4).map fun k => natField (16 * k) 16 a + natField (16 * k) 16 b + natField (12 * k) 12 c).sum +
      natField 48 8 c

/-- BUF_RSV.PORTRSV (R284). -/
def State.portRsv (s : State) : Nat := (s.ports.map fun e => placedCells e.2).sum

/-- The valid tenants of a partition group. -/
def State.groupTenants (s : State) (g : Nat) : List Nat :=
  s.listedTnt.filter fun t => t ≠ 0 && s.tntValid t && s.fd (R.TNT_CFG_PGRP t (s.tntVer t)) = g

def State.strict (s : State) (t : Nat) : Bool := s.tntValid t && s.fb (R.TNT_CFG_STRICT t (s.tntVer t))

/-- Whether the shared-pool fall-back sets a tenant's shares (R171, R172): a valid shared tenant of a shared group, not tenant 0. -/
def State.fbShare (s : State) (t : Nat) : Bool :=
  s.fb R.TBL_FB_ACTIVE && t ≠ 0 && s.tntValid t && !s.fb (R.TBL_PG_CFG_STRICT (s.fd (R.TNT_CFG_PGRP t (s.tntVer t))))

/-- A quota of a tenant in force (R166, R170, R171): the strict share, the fall-back share, or its own field. -/
def State.quota (s : State) (t : Nat) (cap : Nat → Field) (own : Nat → Nat → Field) : Nat :=
  let v := s.tntVer t
  let g := s.fd (R.TNT_CFG_PGRP t v)
  if t = 0 then s.fd (own t v)
  else if s.fb (R.TNT_CFG_STRICT t v) then s.fd (cap g) / s.fd (R.TBL_PG_CFG_SLOTS g)
  else if s.fbShare t then s.fd (cap g) / (s.groupTenants g).length
  else s.fd (own t v)

/-- The buffer quota of a tenant, and its reservation (R170, R273). -/
def State.bufQuota (s : State) (t : Nat) : Nat := s.quota t R.TBL_PG_CAP0_CELLS R.TNT_QBUF_CELLS
def State.tntRsv (s : State) (t : Nat) : Nat :=
  if s.strict t ∧ t ≠ 0 then s.bufQuota t else if s.tntValid t then s.fd (R.TNT_QBUF_RSV t (s.tntVer t)) else 0

/-- BUF_RSV.TNTRSV. -/
def State.tntRsvTotal (s : State) : Nat := (s.listedTnt.map fun t => s.tntRsv t).sum

/-- BUF_STS.SHARED: every cell that no reservation holds. -/
def State.sharedSize (s : State) : Nat := 524288 - s.portRsv - s.tntRsvTotal

/-- Frames spilled to shared cells by the links (R421): those beyond the latest 1,024 (2,048 of an x16 link). -/
def State.spillCells (s : State) : Nat :=
  (s.links.map fun e => e.2.unacked.length -
    (if (s.phys.get Phy.reset e.1).x16 then 2048 else 1024)).sum

/-- BUF_STS.FREE: the free shared cells. -/
def State.sharedFree (s : State) : Nat :=
  s.sharedSize - s.poolCells (fun q => match q with | .shared _ _ _ => true | .classC p => p = 128 | _ => false) -
    s.spillCells

/-- Cells a tenant holds that its quota counts (R278). -/
def State.tntCells (s : State) (t : Nat) : Nat :=
  s.poolCells fun q => match q with
    | .tenant u => u = t
    | .shared _ _ u => u = t
    | _ => false

/-- The port and class a packet is queued for (R277): those of its queue context, or of its place among the mirror copies; none for a
copy that is kept after it was sent. -/
def State.queuedFor (s : State) (k : Pkt) : Option (Nat × Nat) :=
  match k.loc with
  | .mirror p => some (p, k.cls % 8)
  | .queue q => some (s.fd (R.SCH_Q_CFG_PORT q), k.cls % 8)
  | .reseq _ q => some (s.fd (R.SCH_Q_CFG_PORT q), k.cls % 8)
  | .openHold _ => some (s.fd (R.SCH_Q_CFG_PORT k.qctx), k.cls % 8)
  | _ => none

/-- U(e, k): the shared cells held by packets queued for port `e` in class `c` (R277). -/
def State.sharedUse (s : State) (e c : Nat) : Nat :=
  ((s.pkts.filter fun k => (match k.pool with | .shared _ _ _ => true | _ => false) && s.queuedFor k = some (e, c)).map
    fun k => k.cells).sum

/-- Whether a draw of `n` cells from the shared pool for port `e`, class `k` is permitted (R277). -/
def State.sharedDraw (s : State) (n e k : Nat) : Bool :=
  let f := s.sharedFree
  let a := s.fd (R.PRT_BUFDT_ALPHA e k)
  decide (n ≤ f) && a ≠ 15 && decide ((s.sharedUse e k + n) * 64 ≤ 2 ^ a * f)

/-- Whether an admission of `n` cells for port `e`, class `k` finds the shared pool short (R293): a class that never draws on it does not. -/
def State.sharedShort (s : State) (n e k : Nat) : Bool := s.fd (R.PRT_BUFDT_ALPHA e k) ≠ 15 && !s.sharedDraw n e k

/-- The mark of a packet of no tenant's quota in a shared pool. -/
def noTenant : Nat := 8192

/-- Mirror copies not begun are discarded, the newest first, until a condition holds (R293). -/
def State.shedMirror (s : State) (ok : State → Bool) : Nat → State
  | 0 => s
  | n + 1 =>
    if ok s then s else
    match (s.pkts.filter fun k => (match k.origin with | .mirror _ => true | _ => false) && k.txPort.isNone).getLast? with
    | none => s
    | some k =>
      let ses := match k.origin with | .mirror x => x | _ => 0
      (((s.dropPkt k.id).addFd (R.MIR_SES_CNT_LOST ses) 1).cntDev 1537 1).shedMirror ok n

/-- The cells of a port's C reservation in use, but for one packet's: those of class C packets admitted to it and of those still landing. -/
def State.classCUse (s : State) (p id : Nat) : Nat :=
  ((s.pkts.filter fun k => k.id ≠ id && (k.pool = .classC p || k.pool = .landing p 4 || k.pool = .tof p 3)).map fun k => k.cells).sum

/-- The pool of a class C packet (R276): the C reservation of a port, NRSV C of a native link or BRG C (TOF) of an edge port, else the
shared pool without threshold (pool index 128). -/
def State.classCPool (s : State) (p id n : Nat) : Option Pool :=
  let size := if s.fd (R.PRT_CTX_ROLE p) = 3 then s.landSize p 4 else s.tofSize p 3
  if s.classCUse p id + n ≤ size then some (.classC p)
  else if n ≤ s.sharedFree then some (.classC 128) else none

/-- Cells for a class C packet, mirror copies making room (R276, R293). -/
def State.drawC (s : State) (p id n : Nat) : Option (State × Pool) :=
  let s1 := s.shedMirror (fun t => (t.classCPool p id n).isSome)
    (s.pkts.filter fun x => match x.origin with | .mirror _ => true | _ => false).length
  (s1.classCPool p id n).map fun q => (s1, q)

/-- An own item's pool (R276, R753): TOF in place, tenant reservation, shared pool under R277 and the quota. -/
def State.edgePool (s : State) (k : Pkt) (e cls : Nat) : Option Pool :=
  let t := k.tenant
  let n := k.cells
  let tof := match k.origin with
    | .port p =>
      let held := ((s.pkts.filter fun x => x.pool = .tof p k.ord && x.id ≠ k.id && x.loc ≠ .arrival x.qctx &&
        (match x.loc with | .ingress _ => false | .credit _ => false | .trap _ _ => false | _ => true)).map
          fun x => x.cells).sum
      if held + n + 17 ≤ s.tofSize p k.ord then some (Pool.tof p k.ord) else none
    | _ => none
  let inTnt := s.poolCells fun q => q = .tenant t
  let quota := s.bufQuota t
  match tof with
  | some q => some q
  | none =>
    if inTnt + n ≤ s.tntRsv t ∧ s.tntCells t + n ≤ quota then some (.tenant t)
    else if s.sharedDraw n e cls ∧ s.tntCells t + n ≤ quota then some (.shared e cls t)
    else none

/-- The cells of a port's TOF reservation of an ordering type that are free: the link credits its partner has (R206, R753). -/
def State.tofFree (s : State) (p ord : Nat) : Nat := s.tofSize p ord - s.poolCells fun q => q = .tof p ord

/-- A native arrival's pool (R276): FRF of the local edge port for P and NP, the shared pool, or for transit the shared pool
alone. -/
def State.nativePool (s : State) (k : Pkt) (e cls : Nat) (local_ : Bool) : Option Pool :=
  let n := k.cells
  if local_ && k.ord = 2 then some (.cplRsv e)
  else if local_ && decide (s.poolCells (fun q => q = .frf e k.ord) + n ≤ s.frfSize e k.ord) then some (.frf e k.ord)
  else if s.sharedDraw n e cls then some (.shared e cls noTenant)
  else none

end Sys2Proof.Machine
end

