-- ==== Sys2Proof/Machine/Msgs.lean ====
section
/-! DEFINITION. Machine/Msgs.lean: the edge-transport messages a node sends (R433–R435, R534): each is a class C packet, queued
at its port or, for a FID of this node, consumed here. -/

namespace Sys2Proof.Machine

/-- The body of R435 (R534 for RECORD and RACK) as header registers h2–h5. -/
def edgeBody (typ : Nat) (m : EdgeMsg) : List Word :=
  [BitVec.ofNat 64 (typ * 2 ^ 56 + m.code.toNat * 2 ^ 48 + m.sctx.toNat * 2 ^ 32 + m.seq.toNat),
   BitVec.ofNat 64 (m.subj.toNat / 2 ^ 64), BitVec.ofNat 64 m.subj.toNat, m.arg]

/-- The message a packet's header window carries. -/
def Pkt.msg (k : Pkt) : Nat × EdgeMsg :=
  (k.hf 2 56 8,
   { dfid := BitVec.ofNat 16 k.dfid, sfid := BitVec.ofNat 16 k.sfid, ses := BitVec.ofNat 14 k.ses,
     code := BitVec.ofNat 8 (k.hf 2 48 8), sctx := BitVec.ofNat 16 (k.hf 2 32 16), seq := BitVec.ofNat 18 (k.hf 2 0 18),
     subj := BitVec.ofNat 128 ((k.h 3).toNat * 2 ^ 64 + (k.h 4).toNat), arg := k.h 5 })

/-- A packet with nothing in it. -/
def Pkt.blank : Pkt :=
  { id := 0, loc := .held, origin := .node, inPort := 0, m0 := 0, m1 := 0, m2 := 0, m3 := 0, win := List.replicate 16 0,
    cxl := none, data := [], hdrLen := 0, len := 0, rcvd := 0, complete := true, ide := false, pool := .none, cells := 0,
    entry := none, item := 0, sctx := none, rctx := none, qctx := 0, progVer := 0, arrivedPs := 0, txPort := none,
    txSent := 0, txDone := false, replay := false, sentPs := 0, repl := 0, ageK := false,
    copies := 0, dead := false, delivered := false, trace := none, ftag := none, enqPs := 0, cellIx := [], copyOf := none }

/-- Whether a FID has a valid LOCAL exact entry on this node (R434). -/
def State.localFid (s : State) (f : Nat) : Bool :=
  s.fb (R.FIDT_CTL_VALID f s.rver) && s.fb (R.FIDT_CTL_LOCAL f s.rver)

/-- The native port that class C traffic to a FID takes, if a hop is live (R200, R434). -/
def State.ctlPort (s : State) (sfid dfid : Nat) : Option Nat :=
  match s.routeEntry s.rver dfid with
  | none => none
  | some (pfx, i) =>
    let w := s.routeWord pfx i s.rver (flowKey sfid dfid 15)
    if wField 7 1 w = 1 then none else some (wField 0 7 w)

/-- A message of this node (R433): consumed here for a local FID, queued at its port in class C otherwise, where one that finds no cells
waits for them (R276); with no route it is discarded (R425). -/
def State.sendMsg (s : State) (typ ses dfid code sctx seq : Nat) (subj : Nat) (arg : Word) : State :=
  let sfid := s.fd R.GLB_NFID_NFID
  let m : EdgeMsg :=
    { dfid := BitVec.ofNat 16 dfid, sfid := BitVec.ofNat 16 sfid, ses := BitVec.ofNat 14 ses, code := BitVec.ofNat 8 code,
      sctx := BitVec.ofNat 16 sctx, seq := BitVec.ofNat 18 seq, subj := BitVec.ofNat 128 subj, arg := arg }
  if s.localFid dfid then { s with ses := { s.ses with loop := s.ses.loop ++ [(typ, m)] } }
  else match s.ctlPort sfid dfid with
    | none => s
    | some p =>
      let hop := match s.routeEntry s.rver dfid with
        | none => 0
        | some (pfx, i) => s.fd (routeFld pfx R.FIDT_CTL_HOPLIM R.FIDT_PFX_CTL_HOPLIM i s.rver)
      let hd := sheafWords 15 3 hop dfid 0 7 sfid ses 0 s.birthNow 0
      let k : Pkt := { Pkt.blank with
        loc := .classC p, win := ([hd.1, hd.2] ++ edgeBody typ m) ++ List.replicate 10 0, hdrLen := 32, len := 48, rcvd := 48,
        arrivedPs := s.now }
      let s := s.advanceFor s.rver dfid
      State.storeMark <| match s.drawC p s.pktNext 1 with
        | none => s.addPkt k
        | some (s1, pool) => s1.addPkt { k with cells := 1, pool := pool }

/-- The sheaf header of a packet as a 128-bit SUBJ. -/
def Pkt.subj (k : Pkt) : Nat := (k.h 0).toNat * 2 ^ 64 + (k.h 1).toNat

/-! ### Contexts and receipts (R438, R444, R445) -/

def State.sctx? (s : State) (c : Nat) : Option SendCtx := s.ses.send.get none c
def State.setSctx (s : State) (c : Nat) (x : Option SendCtx) : State :=
  { s with ses := { s.ses with send := s.ses.send.set none c x } }
def State.rctx? (s : State) (c : Nat) : Option RecvCtx := s.ses.recv.get none c
def State.setRctx (s : State) (c : Nat) (x : Option RecvCtx) : State :=
  { s with ses := { s.ses with recv := s.ses.recv.set none c x } }

/-- The distance from one edge sequence number to another, modulo 2^18. -/
def seqDist (a b : Nat) : Nat := (b + 2 ^ 18 - a % 2 ^ 18) % 2 ^ 18

/-- The highest number up to which every number is coverable or consumed (R444). -/
def RecvCtx.point (x : RecvCtx) : Nat :=
  (List.range (x.coverable.length + x.consumed.length)).foldl (fun p _ =>
    let n := (p + 1) % 2 ^ 18
    if x.coverable.contains n || x.consumed.contains n then n else p) x.covered

/-- A receive context whose receipt covers every number up to its point. -/
def RecvCtx.cover (x : RecvCtx) : RecvCtx :=
  let p := x.point
  let past (n : Nat) : Bool := decide (seqDist n p < 2 ^ 17)
  { x with covered := p, coverable := x.coverable.filter fun n => !past n,
           consumed := x.consumed.filter fun n => !past n || decide (seqDist x.next n < 2 ^ 17), newCov := 0 }

/-- A RECEIPT of CODE 0 leaves a receive context (R445). -/
def State.receipt (s : State) (rctx : Nat) : State :=
  match s.rctx? rctx with
  | none => s
  | some x =>
    let y := x.cover
    ((s.setRctx rctx (some y)).sendMsg 0x03 rctx x.replyFid 0 x.sctx y.covered 0 0).cntPort x.port 90 1

/-- The RECEIPT that answers a notice: its CODE, SEQ and ARG (R435). -/
def State.answer (s : State) (rctx code seq : Nat) (arg : Word) : State :=
  match s.rctx? rctx with
  | none => s
  | some x => (s.sendMsg 0x03 rctx x.replyFid code x.sctx seq 0 arg).cntPort x.port 90 1

/-- The number a packet consumes at its receive context becomes coverable (R444), and RCNT of them send a RECEIPT (R445). -/
def State.coverable (s : State) (rctx seq : Nat) : State :=
  match s.rctx? rctx with
  | none => s
  | some x =>
    if x.coverable.contains seq ∨ seqDist seq x.covered < 2 ^ 17 then s else
    let y := { x with coverable := x.coverable ++ [seq], newCov := x.newCov + 1,
                      oldestCovPs := if x.newCov = 0 then s.now else x.oldestCovPs }
    let s1 := s.setRctx rctx (some y)
    if s.fd R.SES_CFG_RCNT ≤ y.newCov then s1.receipt rctx else s1

/-- The session's header fields of a notice from a source edge: RCTX as session ID, the session's FID (R435). -/
def State.sendSrc (s : State) (c typ code seq : Nat) (arg : Word) : State :=
  match s.sctx? c with
  | none => s
  | some x => s.sendMsg typ x.rctx x.dfid code c seq 0 arg

/-- A notice of send context `c` (REVOKE, SKIP, ABORT, CLOSE) is sent and awaits its RECEIPT (R436). -/
def State.notice (s : State) (c typ code seq : Nat) (arg : Word) : State :=
  match s.sctx? c with
  | none => s
  | some x =>
    (s.setSctx c (some { x with notices := x.notices ++ [(⟨typ, code, seq, arg, s.now⟩ : Notice)] })).sendSrc c typ code seq arg

/-- Consecutive numbers of one context, one after the other in a list, share one SKIP (R451): context, first number, count
minus 1. -/
def skipRuns : List (Nat × Nat) → List (Nat × Nat × Nat)
  | [] => []
  | (c, q) :: rest =>
    match skipRuns rest with
    | (c2, q2, n) :: more =>
      if c = c2 ∧ q2 = (q + 1) % 2 ^ 18 ∧ n < 1023 then (c, q, n + 1) :: more else (c, q, 0) :: (c2, q2, n) :: more
    | [] => [(c, q, 0)]

/-- SKIPs for numbers of items that have their outcome and of which no copy remains in the fabric (R451). -/
def State.skipNumbers (s : State) (l : List (Nat × Nat)) : State :=
  (skipRuns l).foldl (fun t r => t.notice r.1 0x07 0 r.2.1 (BitVec.ofNat 64 r.2.2)) s

/-- A copy of which no other copy remains leaves, and its number is skipped. -/
def State.skipCopy (s : State) (k : Pkt) : State :=
  match k.sctx with
  | none => s.dropPkt k.id
  | some c => (s.dropPkt k.id).skipNumbers [(c, k.eseq)]

/-- An eviction notice for a packet to its source edge (R435); none for a mirror copy without a session (R310). -/
def State.sendEvict (s : State) (k : Pkt) (kind : Nat) : State :=
  if k.mirrored ∧ k.ses = 0 then s
  else ((s.sendMsg 0x04 k.ses k.sfid kind 0 0 k.subj 0).cntPort k.inPort 63 1)

/-- A failure notice for a packet to its source edge (R435, R519). -/
def State.sendFail (s : State) (k : Pkt) (reason : Nat) : State :=
  (s.sendMsg 0x05 k.ses k.sfid reason 0 0 k.subj k.addr).cntPort k.inPort 93 1

end Sys2Proof.Machine
end

