-- ==== Sys2Proof/Machine/Slots.lean ====
section
/-! DEFINITION. Machine/Slots.lean: what a virtual downstream port's binding binds and what its slot shows (R184–R186, R479, R481). -/

namespace Sys2Proof.Machine

/-! ### Bindings and FIDs (R184) -/

/-- Whether a binding binds a FID. -/
def State.binds (s : State) (b : Nat × Nat) (fid : Nat) : Bool :=
  match s.fd (R.PRT_VDP_B0_KIND b.1 b.2) with
  | 0 =>
    let q := s.fd (R.PRT_VDP_B0_LPORT b.1 b.2)
    let base := s.fd (R.PRT_FIDMAP_FIDBASE q)
    decide (base ≤ fid) && decide (fid ≤ base + s.fd (R.PRT_FIDMAP_COUNTM1 q))
  | 1 =>
    let base := s.fd (R.PRT_VDP_B0_FID b.1 b.2)
    decide (base ≤ fid) && decide (fid ≤ base + s.fd (R.PRT_VDP_B0_FNCNT b.1 b.2))
  | 2 => fid = s.fd (R.PRT_VDP_B0_FID b.1 b.2)
  | _ => false

/-- The binding of upstream port `p` that binds a FID. -/
def State.bindingOf (s : State) (p fid : Nat) : Option (Nat × Nat) :=
  s.bindings.find? fun b => b.1 = p && s.binds b fid

/-- Whether the target of a FID is gone (R481), or was removed from its port (R518). -/
def State.goneFid (s : State) (fid : Nat) : Bool :=
  s.bindings.any fun b => s.binds b fid &&
    ((s.fd (R.PRT_VDP_B0_KIND b.1 b.2) ≠ 0 && s.fb (R.PRT_VDL_GONE b.1 b.2)) ||
     (s.fd (R.PRT_VDP_B0_KIND b.1 b.2) = 0 && (s.port (s.fd (R.PRT_VDP_B0_LPORT b.1 b.2))).removed))

/-- Whether a proxy reset of a FID runs. -/
def VdpState.resetting (x : VdpState) (fid : Nat) : Bool := x.resets.any fun r => r.fid = fid

/-- DLLLA of a virtual downstream port (R479, R546). -/
def State.dllla (s : State) (p v : Nat) : Bool :=
  let x := s.vdp p v
  s.fb (R.PRT_VDP_B0_VALID p v) &&
  (if s.fd (R.PRT_VDP_B0_KIND p v) = 0 then s.fb (R.PRT_LSTS_UP (s.fd (R.PRT_VDP_B0_LPORT p v)))
   else !s.fb (R.PRT_VDL_GONE p v) && x.resets.isEmpty && !x.linkDisable && !x.sbr && !x.dpc &&
     !(s.fd (R.PRT_VDP_B0_KIND p v) = 3 && (s.ffn.fns.get FnState.reset (4096 + p)).rst.isSome))

/-- Presence Detect State of a virtual downstream port (R479); in-band detection follows the link. -/
def State.slotPresent (s : State) (p v : Nat) : Bool :=
  s.fb (R.PRT_VDP_B0_VALID p v) &&
  (if s.fd (R.PRT_VDP_B0_KIND p v) = 0 then
    (if s.fb (R.PRT_VDP_B1_SPCV p v) then s.fb (R.SPC_STS_PRSNT (s.fd (R.PRT_VDP_B1_SPC p v)))
     else s.fb (R.PRT_LSTS_UP (s.fd (R.PRT_VDP_B0_LPORT p v))))
   else !s.fb (R.PRT_VDL_GONE p v))

/-- GONE set at a binding (R481): the slot shows a removal. -/
def State.setGone (s : State) (p v : Nat) : State :=
  if s.fb (R.PRT_VDL_GONE p v) then s.setVdp p v { s.vdp p v with resets := [] }
  else
    let s1 := s.setFb (R.PRT_VDL_GONE p v) true
    let s2 := if s.dllla p v && !s1.dllla p v then s1.slotDll p v else s1
    let s3 := if s.slotPresent p v && !s1.slotPresent p v then s2.slotPresence p v else s2
    s3.setVdp p v { s3.vdp p v with resets := [] }

/-- Whether a binding is one that a removal marks as gone. -/
def State.shared (s : State) (b : Nat × Nat) : Bool :=
  s.fd (R.PRT_VDP_B0_KIND b.1 b.2) = 1 || s.fd (R.PRT_VDP_B0_KIND b.1 b.2) = 2

/-- GONE of every KIND 1 or 2 binding of a FID (R481). -/
def State.goneFor (s : State) (fid : Nat) : State :=
  (s.bindings.filter fun b => s.shared b && s.binds b fid).foldl (fun t b => t.setGone b.1 b.2) s

/-- The answer to a proxy reset's request (R489): the reset of a function ends at the first Successful answer to the read of its
Command register; an RRS answer is asked again, and after another answer only the timeout is left. -/
def State.proxyAnswer (s : State) (p v fid status : Nat) (read : Bool) : State :=
  if !read then s
  else
    let x := s.vdp p v
    if status = 0 then
      let s1 := s.setVdp p v { x with resets := x.resets.filter fun r => r.fid ≠ fid }
      if s1.dllla p v && !s.dllla p v then s1.slotDll p v else s1
    else if status = 2 then s.setVdp p v { x with resets := x.resets.map fun r => if r.fid = fid then { r with phase := 2 } else r }
    else s

end Sys2Proof.Machine
end

