-- ==== Sys2Proof/Machine/LedgerOps.lean ====
section
/-! DEFINITION. Machine/LedgerOps.lean: the transaction ledger (12_transaction_ledger_and_containment.md): drawing entries,
tags, outcomes, records and the resolution of failed items. -/

namespace Sys2Proof.Machine

/-! ### Entries -/

def State.entry? (s : State) (i : Nat) : Option Entry := s.ldg.entries.find? fun e => e.idx = i

def State.setEntry (s : State) (e : Entry) : State :=
  { s with ldg := { s.ldg with entries := s.ldg.entries.map fun x => if x.idx = e.idx then e else x } }

/-- An entry changed where it stands. -/
def State.updEntry (s : State) (i : Nat) (f : Entry → Entry) : State :=
  { s with ldg := { s.ldg with entries := s.ldg.entries.map fun x => if x.idx = i then f x else x } }

def State.delEntry (s : State) (i : Nat) : State :=
  { s with ldg := { s.ldg with entries := s.ldg.entries.filter fun x => x.idx ≠ i } }

/-- Entries drawn from a pool (0 none, 1 port P, 2 port NP, 3 shared with quota, 4 XRSV, 5 shared without quota). -/
def State.ldgUsed (s : State) (f : Entry → Bool) : Nat := (s.ldg.entries.filter f).length

/-- The placed port reservations (R510). -/
def State.ldgPlaced (s : State) : Nat :=
  (s.ports.map fun e => match e.2.placedLdg with | none => 0 | some (a, b) => a + b).sum

/-- LDG_STS.FREE (R507): free entries of the shared pool. -/
def State.ldgFree (s : State) : Nat :=
  262144 - s.ldgPlaced - s.fd R.LDG_CFG_XRSV - s.ldgUsed fun e => e.pool = 3 || e.pool = 5

/-- The ledger quota of a tenant (R508). -/
def State.ldgQuota (s : State) (t : Nat) : Nat := s.quota t R.TBL_PG_CAP0_LDG R.TNT_QLDG_ENTRIES

/-- The pool an entry is drawn from (R507); none when there is no entry. -/
def State.ldgPool (s : State) (role origin p ord t : Nat) : Option Nat :=
  let free := decide (0 < s.ldgFree)
  let shared := free && decide (s.ldgUsed (fun e => e.pool = 3 && e.tenant = t) < s.ldgQuota t)
  if role = 2 ∨ role = 3 then
    if s.ldgUsed (fun e => e.pool = 4) < s.fd R.LDG_CFG_XRSV then some 4 else if free then some 5 else none
  else
    let np := ord = 1
    let rsv := match (s.port p).placedLdg with
      | none => 0
      | some (a, b) => if np then b else a
    let which := if np then 2 else 1
    if origin = 0 ∧ s.ldgUsed (fun e => e.pool = which && e.inPort = p) < rsv then some which
    else if shared then some 3 else none

def Entry.blank : Entry :=
  { idx := 0, state := 0, role := 0, kind := 0, trap := false, origin := 0, stamp := 0, tenant := 0, inPort := 0,
    outPort := 0, cls := 0, runCnt := 0, runAck := 0, gen := 0, repl := 0, ageK := false, addr := 0, rid := 0, tag := 0,
    xtag := 0, lendw := 0, cplc := 0, dfid := 0, sfid := 0, ses := 0, eseq := 0, runout := 0, pool := 0, allocPs := 0,
    deadlinePs := 0, forced := false, hdr2 := 0, tkind := 0, gotBytes := 0, sctx := none, reason := 0,
    pktId := 0, tagPort := none, tagIdx := 0, ide := false, traces := [] }

/-- The ORIGIN code of a packet (R500). -/
def Pkt.originCode (k : Pkt) : Nat :=
  match k.origin with
  | .port _ => 0 | .dma _ => 1 | .core _ => 2 | .native _ => 3 | .proxy _ => 4 | .node => 0 | .mirror _ => 0

/-- The KIND of an item (R500). -/
def itemKind (tkind : Nat) : Nat :=
  if tkind = 0x14 then 4 else if kindNp tkind then (if kindData tkind then 2 else 3) else 0

/-- The cells R207 reserves for the completion of a request. -/
def Pkt.cplCells (k : Pkt) : Nat := if !kindNp k.tkind then 0 else (k.respBytes + 32 + 239) / 240

/-- The completion data that an entry's request asks for, in bytes. -/
def Entry.respBytes (e : Entry) : Nat := Sys2Proof.Machine.respBytes e.tkind (wField 56 8 e.hdr2) e.lendw

/-- The entry a packet draws at the ingress queue (R502), with its deadline (R521), its tenant and what it will need as an
open entry. STATE stays 0 until it is opened. `hdr2` keeps the third header word for its attributes, with PH in its two low
bits. -/
def Pkt.toEntry (k : Pkt) (idx role pool now tmo : Nat) : Entry :=
  { Entry.blank with
    idx := idx, role := role, kind := itemKind k.tkind, origin := k.originCode, stamp := wField 0 3 k.m3,
    tenant := k.tenant, inPort := k.inPort, cls := k.cls % 8, addr := k.addr,
    rid := (match k.origin with | .dma c => c | .core c => c | .proxy b => b | _ => k.reqId),
    tag := (match k.cxl with | some c => c.tag.toNat | none => k.tlpTag), lendw := k.lenDw,
    dfid := k.dfid, sfid := k.sfid, ses := k.ses, eseq := k.eseq, pool := pool, allocPs := now,
    deadlinePs := now + tmo, hdr2 := (k.h 2 &&& ~~~3#64) ||| (k.h 3 &&& 3#64), tkind := k.tkind, pktId := k.id, ide := k.ide,
    cplc := if role = 0 ∨ role = 1 then k.cplCells else 0 }

/-- An entry for a packet, if a pool has one; the hardware picks its index. Until its header is stamped it has the versions in force. -/
def State.drawEntry (s : State) (k : Pkt) (role : Nat) : Option (State × Nat) :=
  match s.ldgPool role k.originCode k.inPort k.ord k.tenant with
  | none => none
  | some pool =>
    match pickFree 262144 (s.ldg.entries.map fun e => e.idx) s.fv with
    | none => none
    | some i =>
      let e0 := k.toEntry i role pool s.now (s.ldgTmoPs k.tenant)
      let e := if role = 3 then e0 else { e0 with stamp := s.tntVer k.tenant + 2 * s.rver }
      some (({ s with ldg := { s.ldg with entries := s.ldg.entries ++ [e] } }.bumpFv).cntDev 1540 1, i)

/-! ### Tags (R511, R514, R515) -/

/-- GEN bits and INDEX bits of a tag width (R511); the largest listed width not above the partner's. -/
def tagLayout (width : Nat) (cxlMem : Bool) : Nat × Nat :=
  if cxlMem then (2, 14) else if 14 ≤ width then (2, 12) else if 10 ≤ width then (1, 9)
  else if 8 ≤ width then (0, 8) else (0, 5)

def genKey (p i : Nat) : Nat := p * 16384 + i

/-- A ledger tag of port `p` (R511, R514): its INDEX is used by no open entry, and neither its present GEN nor, with no GEN
bits, the INDEX itself is in quarantine. The hardware picks the INDEX. -/
def State.allocTag (s : State) (p width : Nat) (cxlMem : Bool) : Option (Nat × Nat × Nat) :=
  let (g, b) := tagLayout width cxlMem
  let gen (i : Nat) : Nat := if g = 0 then 0 else s.ldg.gens.get 0 (genKey p i) % 2 ^ g
  let busy := (s.ldg.entries.filterMap fun e => if e.tagPort = some p then some e.tagIdx else none) ++
    (s.ldg.quar.filterMap fun q => match q.key with
      | .index i => if q.port = p && decide (s.now < q.untilPs) && q.gen = gen i then some i else none
      | .ide _ _ => none)
  match pickFree (2 ^ b) busy s.fv with
  | none => none
  | some i => some (i, gen i, gen i * 2 ^ b + i)

/-- An entry resolved without its completion gives up its tag (R514, R515). -/
def State.tagLost (s : State) (e : Entry) (reason : Nat) : State :=
  let ch := if e.origin = 1 ∧ reason = 0x11 then some e.rid else none
  let t := s.now + s.fd R.LDG_CFG_QTIME * msPs
  match e.tagPort with
  | none => s
  | some p =>
    if e.ide then
      { s with ldg := { s.ldg with quar := s.ldg.quar ++
          [⟨p, .ide (BitVec.ofNat 16 e.rid) (BitVec.ofNat 16 e.tag), 0, ch, t⟩] } }
    else
      { s with ldg := { s.ldg with
          quar := s.ldg.quar ++ [⟨p, .index e.tagIdx, e.gen, ch, t⟩]
          gens := s.ldg.gens.set 0 (genKey p e.tagIdx) ((e.gen + 1) % 4) } }

/-- The open entry a tag of port `p` names with its GEN (R512), or an IDE item's entry by RID and TAG (R515): at a source edge
(`src`) the entries of the requests that entered at the port, else those of the requests delivered to it. -/
def State.matchTag (s : State) (src : Bool) (p rid tag : Nat) : Option Entry :=
  s.ldg.entries.find? fun e =>
    e.state = 1 && e.tagPort = some p && decide ((e.role = 1) = src) &&
    !(e.ide && s.ldg.quar.any fun q => q.port = p && decide (s.now < q.untilPs) &&
      q.key = .ide (BitVec.ofNat 16 rid) (BitVec.ofNat 16 tag)) &&
    (if e.ide then e.rid = rid && e.tag = tag else e.xtag = tag)

/-! ### Records (R531–R536) -/

/-- A ledger report event (R536): at most one per tenant and reason per 10 µs. -/
def State.ldgReport (s : State) (t reason idx : Nat) : State :=
  let key := t * 256 + reason
  let last := s.ldg.lastReport.getD (fun _ => 0) key
  if s.fb R.LDG_CFG_RPTQV ∧ (last = 0 ∨ last - 1 + 10 * usPs ≤ s.now) then
    ({ s with ldg := { s.ldg with lastReport := s.ldg.lastReport.set 0 key (s.now + 1) } }).postEvent .ldg 0
      (some (s.fd R.LDG_CFG_RPTQ)) 0x09 (t + reason * 65536) (BitVec.ofNat 64 idx)
  else s

/-- The host-local ID that a tenant's ID map gives for a FID, if a valid range covers it (R181). -/
def State.hostLocal (s : State) (t v fid : Nat) : Option Nat :=
  ((List.range 24).find? fun i =>
      s.fb (R.TNT_IDM_V t v i) && decide (s.fd (R.TNT_IDM_FID t v i) ≤ fid) &&
      decide (fid ≤ s.fd (R.TNT_IDM_FID t v i) + s.fd (R.TNT_IDM_CNT t v i))).map
    fun i => s.fd (R.TNT_IDM_LRID t v i) + (fid - s.fd (R.TNT_IDM_FID t v i))

/-- The requester ID of a record (R531): 0xFFFF where no range covers the FID. -/
def State.hostRid (s : State) (t v fid : Nat) : Nat := (s.hostLocal t v fid).getD 0xFFFF

/-- Records of a tenant in the overflow store, and the most it may hold there (R533). -/
def State.overflowOf (s : State) (t : Nat) : Nat := (s.ldg.overflow.filter fun w => w.r.tenant = t).length
def State.overflowMax (s : State) : Nat := let v := s.fd R.LDG_CFG_OVT; if v = 0 then 4096 else v

/-- Whether a record of a tenant can enter the overflow store. -/
def State.recordRoom (s : State) (t : Nat) : Bool :=
  decide (s.ldg.overflow.length < 4096) && decide (s.overflowOf t < s.overflowMax)

/-- RECORDs to a home node that are sent and not acknowledged (R534). -/
def State.unackedTo (s : State) (hfid : Nat) : Nat :=
  (s.ldg.overflow.filter fun w => match w.dest with | .home h _ _ b => h = hfid && b | _ => false).length

/-- The body of a RECORD (R534): bytes 2–3 the tenant, SEQ the token, bytes 8–31 record bytes 0–23. -/
def State.sendRecord (s : State) (r : Rec) (hfid token : Nat) : State :=
  let b20 := r.reason + 256 * (r.cls + 16 * r.kind + (if r.taddr then 64 else 0)) + 65536 * (r.remaining % 65536)
  let w2 := r.rid % 65536 + 65536 * (r.lendw % 65536) + 2 ^ 32 * b20
  let be (w : Nat) : Nat := ofBytesBE (bytesLE 8 w)
  (s.sendMsg 0x0B 0 hfid 0 r.tenant token (be r.time.toNat * 2 ^ 64 + be r.addr.toNat)
    (BitVec.ofNat 64 (be w2))).cntDev 1546 1

/-- Waiting RECORDs are sent while fewer than 1,024 to their home node are unacknowledged (R534). -/
def State.sendRecords (s : State) : State :=
  s.ldg.overflow.foldl (fun t w =>
    match w.dest with
    | .home h tok _ false =>
      if t.unackedTo h < 1024 then
        ({ t with ldg := { t.ldg with overflow := t.ldg.overflow.map fun x =>
            if x = w then { x with dest := .home h tok t.now true } else x } }).sendRecord w.r h tok
      else t
    | _ => t) s

/-- A record enters the overflow store on its way to its tenant's log (R533), or to tenant 0's. -/
def State.placeRecord (s : State) (r : Rec) (toZero : Bool) (idx : Nat) : State :=
  let t := r.tenant
  let foreign := toZero || !s.fb (R.LDG_TLOG_V t)
  let l := if foreign then 0 else t
  let local_ := s.fb (R.LDG_TLOG_LOCAL l) || !s.fb (R.LDG_TLOG_V l)
  let h := s.fd (R.LDG_TLOG_HFID l)
  let tok := s.ldg.nextToken.get 0 h
  let dest : RecDest := if local_ then .log (some l) else .home h tok 0 false
  let s1 := { s with ldg := { s.ldg with
    overflow := s.ldg.overflow ++ [({ r := r, dest := dest } : WaitRec)]
    nextToken := if local_ then s.ldg.nextToken else s.ldg.nextToken.set 0 h ((tok + 1) % 2 ^ 18) } }
  let s2 := s1.cntTnt t 6 1
  let s3 := if foreign then s2.ldgReport t r.reason idx else s2
  let s4 := if s3.ldg.overflow.length = 4096 then s3.ldgReport t r.reason idx else s3
  if local_ then s4 else s4.sendRecords

/-- A record enters the overflow store, or is not produced before there is room (R533). -/
def State.putRecord (s : State) (r : Rec) (toZero : Bool) (idx : Nat) : State :=
  if s.recordRoom r.tenant && !(s.ldg.recWait.any fun w => w.1.tenant = r.tenant) then s.placeRecord r toZero idx
  else { s with ldg := { s.ldg with recWait := s.ldg.recWait ++ [(r, toZero)] } }

/-- Records not produced yet enter the overflow store while there is room, each tenant's in order. -/
def State.placeWaiting (s : State) : State :=
  let l := s.ldg.recWait
  l.foldl (fun t w => t.putRecord w.1 w.2 0) { s with ldg := { s.ldg with recWait := [] } }

/-! ### Responses (R252, R525) -/

/-- The first two header words of a completion (PCI Express, log entry 30). -/
def cplWords (flit data : Bool) (status bytes lendw completer rid tag tc attrs lower : Nat) : List Word :=
  let b0 := if data then 0x4A else 0x0A
  let hi := if flit then b0 * 2 ^ 56 + tc % 8 * 2 ^ 53 + attrs % 8 * 2 ^ 42
    else b0 * 2 ^ 56 + tag / 512 % 2 * 2 ^ 55 + tc % 8 * 2 ^ 52 + tag / 256 % 2 * 2 ^ 51 + attrs / 4 % 2 * 2 ^ 50 +
      attrs % 4 * 2 ^ 44
  [BitVec.ofNat 64 (hi + lendw % 1024 * 2 ^ 32 + completer % 65536 * 2 ^ 16 + status % 8 * 2 ^ 13 + bytes % 4096),
   BitVec.ofNat 64 (rid % 65536 * 2 ^ 48 +
     (if flit then tag % 16384 * 2 ^ 32 + lower % 128 else tag % 256 * 2 ^ 40 + lower % 128 * 2 ^ 32))]

/-- The pieces of `n` bytes from `a` cut at Max_Payload_Size, on 128-byte-aligned addresses (R208): address and length. -/
def splitBytes (mps : Nat) : Nat → Nat → Nat → List (Nat × Nat)
  | 0, _, _ => []
  | fuel + 1, a, n =>
    if n = 0 then []
    else if n ≤ mps then [(a, n)]
    else
      let fst := (a + mps) / 128 * 128 - a
      if fst = 0 then [(a, n)] else (a, fst) :: splitBytes mps fuel (a + fst) (n - fst)

/-- Max_Payload_Size of a port's partner. -/
def State.mpsOf (s : State) (p : Nat) : Nat := (s.port p).mps

/-- Completion TLPs with a status leave a port toward the requester (R252): without data, or with `data`, split (R208); a port whose
link is down sends nothing. -/
def State.sendCpl (s : State) (p status : Nat) (withData : Bool) (data : List Byte) (rid tag tc attrs addr : Nat) : State :=
  let flit := s.fb (R.PRT_LSTS_FLIT p)
  let own := s.fd (R.PRT_CTX_OWNRID p)
  if !s.fb (R.PRT_LSTS_UP p) then s
  else if withData then
    let pieces := splitBytes (s.mpsOf p) data.length addr data.length
    (pieces.foldl (fun (acc : State × Nat) pc =>
      let rest := data.length - acc.2
      (acc.1.emit (.completion p (cplWords flit true status rest ((pc.2 + 3) / 4) own rid tag tc attrs pc.1)
        ((data.drop acc.2).take pc.2)), acc.2 + pc.2)) (s, 0)).1
  else s.emit (.completion p (cplWords flit false status 4 0 own rid tag tc attrs 0) [])

/-- A CXL response leaves a port: its message code of R236, poison, tag and data. -/
def State.sendCxl (s : State) (p code : Nat) (poison : Bool) (tag : Nat) (data : List Byte) : State :=
  if !s.fb (R.PRT_LSTS_UP p) then s else s.emit (.completion p [BitVec.ofNat 64 (code * 2 ^ 56 + (if poison then 2 ^ 55 else 0)), BitVec.ofNat 64 tag] data)

def ones (n : Nat) : List Byte := List.replicate n 0xFF#8

/-- TC and attribute bits of an entry's request, from its header. -/
def Entry.hdrTc (e : Entry) (flit : Bool) : Nat := if flit then wField 53 3 e.hdr2 else wField 52 3 e.hdr2
def Entry.hdrAttrs (e : Entry) (flit : Bool) : Nat :=
  if flit then wField 42 3 e.hdr2 else wField 44 2 e.hdr2 + 4 * wField 50 1 e.hdr2

/-- The failed-read policy that governs an entry (R525): of the tenant's copy named by its stamp. -/
def State.entryFailrd (s : State) (e : Entry) : Nat := s.fd (R.TNT_CFG_FAILRD e.tenant (e.stamp % 2))

/-- Whether a failed item's failure is a record, and the kind of that record (R525, R97, R526). -/
def Entry.recordKind (e : Entry) (failrd : Nat) : Option Nat :=
  let np := kindNp e.tkind
  let cxl := e.tkind = 0x10 || e.tkind = 0x11 || e.tkind = 0x14
  if e.origin = 1 ∨ e.origin = 4 then none
  else if e.origin = 2 ∧ np then (if failrd = 0 then some 1 else none)
  else if !np ∨ e.tkind = 0x11 ∨ e.tkind = 0x14 then some 0
  else if cxl then some 1
  else if failrd ≠ 0 then none
  else if kindData e.tkind then some 1 else some 2

/-- The response of R525 to the requester of a failed item that entered at a PCIe/CXL port. -/
def State.failResponse (s : State) (e : Entry) (failrd : Nat) : State :=
  let p := e.inPort
  let flit := s.fb (R.PRT_LSTS_FLIT p)
  let tc := e.hdrTc flit
  let at_ := e.hdrAttrs flit
  let left := e.respBytes - e.gotBytes
  if e.tkind = 0x10 then s.sendCxl p 0x13 true e.tag (ones 64)
  else if e.tkind = 0x11 then s.sendCxl p 0x12 false e.tag []
  else if e.tkind = 0x14 then s.sendCxl p 0x15 false e.tag []
  else if !kindNp e.tkind then s
  else if e.tkind = 0x82 ∨ failrd = 1 then s.sendCpl p 1 false [] e.rid e.tag tc at_ 0
  else if failrd = 2 then s.sendCpl p 4 false [] e.rid e.tag tc at_ 0
  else if kindData e.tkind then s.sendCpl p 0 true (ones left) e.rid e.tag tc at_ (e.addr.toNat + e.gotBytes)
  else s.sendCpl p 0 false [] e.rid e.tag tc at_ 0

/-- A failed item of a DMA channel or a control core (R526, R91, R97). -/
def State.failOwn (s : State) (e : Entry) (i reason failrd : Nat) : State :=
  if e.origin = 1 then
    { s with dma := { s.dma with outcomes := s.dma.outcomes ++ [⟨e.rid, e.idx, i, e.addr + BitVec.ofNat 64 (4 * e.lendw * i), none, reason⟩] } }
  else if e.origin = 2 then
    let c := coreOfNum e.rid
    if kindNp e.tkind then
      s.coreLoadDone c e.idx (if failrd = 0 then .data (ones e.respBytes) else .fault reason)
    else s.coreStoreFail c e.idx i reason
  else s

/-- The record of item `i` of an entry (R531). -/
def State.itemRecord (s : State) (e : Entry) (i reason kind remaining : Nat) : Rec :=
  let host := s.fd (R.PRT_CTX_ROLE e.inPort) = 1 && e.origin = 0
  { time := s.time, addr := e.addr + BitVec.ofNat 64 (4 * e.lendw * i),
    rid := if host then e.rid else s.hostRid e.tenant (e.stamp % 2) e.sfid,
    lendw := e.lendw, reason := reason, cls := e.cls, kind := kind, taddr := false, remaining := remaining,
    tenant := if e.origin = 2 then 0 else e.tenant }

/-- The failure counters of an item (R525, R677, R678, R537). -/
def State.countFailed (s : State) (e : Entry) : State :=
  (((s.addFd R.LDG_CNT_FAILED 1).cntTnt e.tenant (if kindNp e.tkind then 5 else 4) 1).cntPort e.inPort 94 1).cntPort
    e.outPort 95 1

/-! ### Resolution (R516–R526) -/

/-- The items of an entry without an outcome. -/
def Entry.openItems (e : Entry) : List Nat := (List.range (e.runCnt + 1)).filter fun i => !e.runout.getLsbD i

/-- One item fails with a reason: its response, its record; reason 0x02 sets GONE at its binding (R481). The caller has checked the
record's room. -/
def State.failItem (s : State) (e : Entry) (i reason remaining : Nat) : State :=
  let fr := s.entryFailrd e
  let s0 := (s.countFailed e).itemTraceEnd e.idx i reason true
  let s1 := if reason = 0x02 then (s0.goneFor e.dfid).goneFor e.sfid else s0
  let s2 := if e.origin = 0 then s1.failResponse e fr else s1.failOwn e i reason fr
  match e.recordKind fr with
  | none => s2
  | some k => s2.putRecord (s2.itemRecord e i reason k remaining) false e.idx

/-- Items failed in order while their records find room; the items left wait in STATE 2 (R533). -/
def State.failItems (s : State) (idx reason : Nat) : List Nat → State
  | [] => s
  | i :: rest =>
    match s.entry? idx with
    | none => s
    | some e =>
      if (e.recordKind (s.entryFailrd e)).isSome ∧ !s.recordRoom (if e.origin = 2 then 0 else e.tenant) then
        s.setEntry { e with state := 2, reason := reason }
      else
        let s1 := s.failItem e i reason rest.length
        ((match s1.entry? idx with
          | none => s1
          | some e1 => s1.setEntry { e1 with runout := e1.runout ||| (1#64 <<< i), reason := reason })).failItems
          idx reason rest

/-- The packets of an entry that have not begun transmission and have no copy in the fabric leave; the number of one that
has a number is skipped. The others stay with their session, marked, until no copy of them remains (R451). -/
def State.releasePkts (s : State) (idx : Nat) : State :=
  let mine := s.pkts.filter fun k => k.entry = some idx
  let stays (k : Pkt) : Bool := (decide (k.copies ≠ 0) && k.sctx.isSome) || (k.txPort.isSome && !k.txDone)
  let s1 := mine.foldl (fun t k =>
    let t1 := match k.loc with
      | .trap n _ => t.cntDev (32 * n + 14) 1
      | _ => t
    if stays k then
      t1.setPkt { k with
        entry := none, dead := true
        delivered := (match s.entry? idx with | some e => e.reason = 0 | none => false)
        loc := if k.txPort.isNone then .held else k.loc }
    else t1.dropPkt k.id) s
  s1.skipNumbers ((mine.filter fun k => !stays k).filterMap fun k => k.sctx.map fun c => (c, k.eseq))

/-- An entry whose items all have an outcome is retired (R502, R505). -/
def State.retireIfDone (s : State) (idx : Nat) : State :=
  match s.entry? idx with
  | none => s
  | some e => if e.openItems = [] then ((s.releasePkts idx).delEntry idx) else s

/-- A destination edge resolves its item (R519): FAIL to the source edge, then coverable; the entry is retired. -/
def State.failDest (s : State) (e : Entry) (reason : Nat) : State :=
  let hd := sheafWords e.cls (kindOrd e.tkind) 0 e.dfid e.tenant 0 e.sfid e.ses e.eseq 0 0
  let subj := match s.pkt? e.pktId with
    | some k => k.subj
    | none => hd.1.toNat * 2 ^ 64 + hd.2.toNat
  let s1 := ((s.countFailed e).itemTraceEnd e.idx 0 reason true).sendMsg 0x05 e.ses e.sfid reason 0 0 subj e.addr
  let s2 := (s1.tagLost e reason).coverable e.ses e.eseq
  let s3 := (s2.pkts.filter fun k => k.entry = some e.idx).foldl (fun t k => t.dropPkt k.id) s2
  (s3.delEntry e.idx).cntPort e.outPort 93 1

/-- The packets of an entry that is being resolved and that have not begun, or wait to be sent again, are held aside until every item has
its record: none is sent any more, and a trap slot is free at once (R260, R517). -/
def State.setAside (s : State) (idx : Nat) : State :=
  (s.pkts.filter fun k => k.entry = some idx && k.txPort.isNone).foldl (fun t k =>
    let t1 := t.setPkt { k with loc := .held, dead := true }
    match k.loc with
    | .trap n _ => (t1.progDrained n (t.progDrain n)).cntDev (32 * n + 14) 1
    | _ => t1) s

/-- An entry is resolved with a reason (R516, R518, R521). -/
def State.resolve (s : State) (idx reason : Nat) : State :=
  match s.entry? idx with
  | none => s
  | some e =>
    if e.state = 2 then s
    else
      let s1 := s.cntDev 1542 1
      let s2 := if e.tenant = 0 then s1.ldgReport 0 reason idx else s1
      if e.role = 3 then s2.failDest e reason
      else if e.role = 2 ∧ e.trap then (s.pkts.filter fun k => k.entry = some idx).foldl (fun t k =>
        ((t.sendFail k reason).pktTraceEnd k reason true).dropPkt k.id) (s2.delEntry idx)
      else if e.role = 2 then ((s2.itemTraceEnd idx 0 reason true).releasePkts idx).delEntry idx
      else
        let s3 := if e.state = 1 then s2.tagLost e reason else s2
        let s4 := s3.updEntry idx fun e => { e with state := 2, trap := false, tagPort := none }
        ((s4.setAside idx).failItems idx reason e.openItems).retireIfDone idx

/-- Every entry that a condition names is resolved with a reason. -/
def State.resolveWhere (s : State) (f : Entry → Bool) (reason : Nat) : State :=
  (s.ldg.entries.filter f).foldl (fun t e => t.resolve e.idx reason) s

/-- Entries waiting in STATE 2 for room in the overflow store go on (R533). -/
def State.resumeResolving (s : State) : State :=
  let s := s.placeWaiting
  (s.ldg.entries.filter fun e => e.state = 2).foldl (fun t e => (t.failItems e.idx e.reason e.openItems).retireIfDone e.idx) s

/-- An entry is retired without an outcome of its items (R483, R542): its packets leave, and no core waits for it. -/
def State.voidEntry (s : State) (e : Entry) : State :=
  let s1 := (s.releasePkts e.idx).delEntry e.idx
  if e.origin = 2 then s1.coreForget (coreOfNum e.rid) e.idx else s1

/-- Write `i` of an entry is delivered (R505): every write up to it whose bit is clear. -/
def State.deliverItems (s : State) (idx upto : Nat) : State :=
  match s.entry? idx with
  | none => s
  | some e =>
    if e.state = 2 then s else
    let fresh := e.openItems.filter fun i => i ≤ upto
    let mask := fresh.foldl (fun (m : Word) i => m ||| (1#64 <<< i)) e.runout
    let s1 := ((fresh.foldl (fun t i => t.itemTraceEnd idx i 0 false) s).updEntry idx fun e =>
      { e with runout := mask, runAck := e.runAck + fresh.length }).retireIfDone idx
    if e.origin = 2 then fresh.foldl (fun t i => t.coreStoreDone (coreOfNum e.rid) idx i) s1
    else if e.origin = 1 then
      let os : List DmaOutcome := fresh.map fun i => ⟨e.rid, idx, i, e.addr + BitVec.ofNat 64 (4 * e.lendw * i), some [], 0⟩
      { s1 with dma := { s1.dma with outcomes := s1.dma.outcomes ++ os } }
    else s1

end Sys2Proof.Machine
end

