-- ==== Sys2Proof/Machine/HostGate.lean ====
section
/-! DEFINITION. Machine/HostGate.lean: what the state of a virtual switch lets through (R180, R193, R472, R477, R478, R483–R485,
R489, R518): requests of a host to the functions bound to it, and requests of those functions. -/

namespace Sys2Proof.Machine

/-! ### Bridges -/

def State.up (s : State) (p : Nat) : UpBridge := s.ups.get UpBridge.reset p
def State.setUp (s : State) (p : Nat) (x : UpBridge) : State := { s with ups := s.ups.set UpBridge.reset p x }

/-! ### The gate of a forwarded request -/

/-- What becomes of a request at the gate: it passes; it is resolved with a reason; it is answered with a completion status; it
is discarded; it is refused as a window miss (R478); it is redirected to an upstream port (R20); it is refused by Translation Blocking of a
virtual downstream port (R485). -/
inductive Gate where
  | pass
  | fail (reason : Nat)
  | status (st : Nat)
  | drop
  | miss
  | redirect (p v : Nat)
  | blocked (p v : Nat)
  deriving DecidableEq, Repr

/-- Whether a request carries a translated address (AT, log entry 30). -/
def Pkt.translated (k : Pkt) : Bool := !k.flit && kindMem k.tkind && k.hf 2 42 2 = 2

/-- The host-local target ID of an ID-routed request: configuration requests, and messages routed by ID. -/
def Pkt.idTarget (k : Pkt) : Option Nat :=
  if k.tkind = 0x04 ∨ k.tkind = 0x05 then some (k.hf 3 48 16)
  else if (k.tkind = 0x06 ∨ k.tkind = 0x07) ∧ k.tlpType % 8 = 2 then some (k.hf 3 48 16)
  else none

/-- The FID a tenant's ID map gives for a host-local ID (R180). -/
def State.idFid (s : State) (t v lid : Nat) : Option Nat :=
  ((List.range 24).find? fun i =>
      s.fb (R.TNT_IDM_V t v i) && decide (s.fd (R.TNT_IDM_LRID t v i) ≤ lid) &&
      decide (lid ≤ s.fd (R.TNT_IDM_LRID t v i) + s.fd (R.TNT_IDM_CNT t v i))).map
    fun i => s.fd (R.TNT_IDM_FID t v i) + (lid - s.fd (R.TNT_IDM_LRID t v i))

/-- Whether a FID's valid exact entry of a routing version is owned by a tenant. -/
def State.ownsIn (s : State) (v t fid : Nat) : Bool := s.fb (R.FIDT_CTL_VALID fid v) && s.fd (R.FIDT_CTL_OWNER fid v) = t

/-- Whether a FID is owned by a tenant under the routing version in force. -/
def State.owns (s : State) (t fid : Nat) : Bool := s.ownsIn s.rver t fid

/-- Whether a packet's host-local ID is mapped to the FID it is forwarded to, and that FID is owned by its tenant (R180), under the
versions it is stamped with (R160). -/
def State.mappedTo (s : State) (k : Pkt) (lid : Nat) : Bool :=
  match s.idFid k.ownTenant k.tver lid with
  | none => false
  | some f => f = k.dfid && s.ownsIn k.rverOf k.ownTenant f

/-- Whether a completion of a host may go on to the device (R180): its requester ID as received is mapped to the FID it is forwarded to, or
is the ID that the port gives to requesters outside the map (R181). -/
def State.gateCpl (s : State) (k : Pkt) : Bool :=
  let lid := wField 40 16 k.m1
  k.cxl.isSome || s.fd (R.PRT_CTX_ROLE k.inPort) ≠ 1 || k.native || lid = s.fd (R.PRT_CTX_OWNRID k.inPort) || s.mappedTo k lid

/-- Whether a FID is a function that no virtual switch binds, of a device of this node some function of which a KIND 2 binding names: it
belongs to tenant 0 (R188). -/
def State.sharedUnbound (s : State) (fid : Nat) : Bool :=
  !(s.bindings.any fun b => s.binds b fid) &&
  (List.range 128).any fun q =>
    let lo := s.fd (R.PRT_FIDMAP_FIDBASE q)
    let hi := lo + s.fd (R.PRT_FIDMAP_COUNTM1 q)
    s.fd (R.PRT_CTX_ROLE q) = 2 && decide (lo ≤ fid) && decide (fid ≤ hi) && s.bindings.any fun b =>
      s.fd (R.PRT_VDP_B0_KIND b.1 b.2) = 2 && decide (lo ≤ s.fd (R.PRT_VDP_B0_FID b.1 b.2)) &&
      decide (s.fd (R.PRT_VDP_B0_FID b.1 b.2) ≤ hi)

/-- Whether a request is an ATS Invalidation Request (the message code of PCI Express, log entry 30). -/
def Pkt.invalidation (k : Pkt) : Bool := (k.tkind = 0x06 || k.tkind = 0x07) && k.hf 2 0 8 = 1

/-- The gate of a host's request (R180, R193, R477, R478, R483, R489); Invalidation Requests reach only functions bound to the host (R495). -/
def State.gateHost (s : State) (k : Pkt) (addrIn : Word) : Gate :=
  let p := k.inPort
  let cfg : Bool := k.tkind = 0x04 || k.tkind = 0x05
  let np := kindNp k.tkind
  let idOk : Bool := match k.idTarget with
    | none => true
    | some l => s.mappedTo k l
  if !idOk then (if np then .status 1 else .drop)
  else if k.dfid = s.fd (R.PRT_CTX_PFID p) then .miss
  else match s.bindingOf p k.dfid with
    | none => if k.invalidation then .drop else .pass
    | some b =>
      let x := s.vdp b.1 b.2
      let rst := x.resetting k.dfid
      if cfg ∧ (rst ∨ x.rrs) then .status 2
      else if x.dpc ∨ x.linkDisable ∨ x.sbr ∨ rst then
        (if np then .status (if x.dpcUr then 1 else 4) else .fail 0x05)
      else if kindMem k.tkind ∧
          !((s.winHit k.ownTenant k.tver addrIn.toNat).isSome && cfgWindowHit x.cfg addrIn.toNat && cfgMse (s.up p).cfg) then .miss
      else .pass

/-- Whether a request is an ATS Translation Request or a PRI Page Request (the codes of PCI Express, log entry 30). -/
def Pkt.atsUp (k : Pkt) : Bool :=
  (kindMem k.tkind && !k.flit && decide (k.hf 2 42 2 = 1)) || ((k.tkind = 0x06 || k.tkind = 0x07) && decide (k.hf 2 0 8 = 4))

/-- The gate of a device's request at the port it enters (R19, R20, R483, R485): the binding is that of the port (KIND 0) or that of the
function (KIND 1, 2). A Translation Request or Page Request goes to the host of the binding, wherever the program sends it (R495). -/
def State.gateDevice (s : State) (k : Pkt) : Gate :=
  match s.bindings.find? fun b =>
      if s.fd (R.PRT_VDP_B0_KIND b.1 b.2) = 0 then s.fd (R.PRT_VDP_B0_LPORT b.1 b.2) = k.inPort else s.binds b k.sfid with
  | none => .pass
  | some b =>
    let x := s.vdp b.1 b.2
    if x.dpc then (if s.fd (R.PRT_VDP_B0_KIND b.1 b.2) = 0 then .drop else .fail 0x05)
    else if k.translated ∧ x.transBlock then .blocked b.1 b.2
    else if k.atsUp then (if k.dfid = s.fd (R.PRT_CTX_PFID b.1) then .pass else .redirect b.1 b.2)
    else if x.redirect && !(k.translated && x.directP2p) && kindMem k.tkind &&
        !s.fb (R.FIDT_CTL_HOST k.dfid k.rverOf) then .redirect b.1 b.2
    else .pass

/-- Whether a CXL.cache message may be forwarded (R472). -/
def State.cacheOk (s : State) (k : Pkt) : Bool :=
  s.bindings.any fun b => s.fd (R.PRT_VDP_B0_KIND b.1 b.2) = 0 &&
    ((b.1 = k.inPort && s.binds b k.dfid) ||
     (s.fd (R.PRT_VDP_B0_LPORT b.1 b.2) = k.inPort && k.dfid = s.fd (R.PRT_CTX_PFID b.1)))

/-- The gate of a request forwarded at a source edge; `addrIn` is its address as received. -/
def State.gateOut (s : State) (k : Pkt) (addrIn : Word) : Gate :=
  if k.tkind = 0x18 then (if s.cacheOk k then .pass else .fail 0x0F)
  else if s.goneFid k.dfid then
    (if k.tkind = 0x04 ∨ k.tkind = 0x05 then .status 1 else .fail 0x02)
  else match k.origin with
    | .port _ =>
      if k.ownTenant ≠ 0 ∧ s.sharedUnbound k.dfid then (if kindNp k.tkind then .status 1 else .drop)
      else if s.fd (R.PRT_CTX_ROLE k.inPort) = 1 then s.gateHost k addrIn
      else if s.fd (R.PRT_CTX_ROLE k.inPort) = 2 then s.gateDevice k
      else .pass
    | _ => .pass

/-- The gate of a request delivered to a host at upstream port `e` (R478, R483). -/
def State.gateIn (s : State) (k : Pkt) (e : Nat) : Gate :=
  if s.fd (R.PRT_CTX_ROLE e) ≠ 1 then .pass
  else match s.bindingOf e k.sfid with
    | none => .pass
    | some b =>
      let x := s.vdp b.1 b.2
      if x.dpc then (if s.fd (R.PRT_VDP_B0_KIND b.1 b.2) = 0 then .drop else .fail 0x05)
      else if cfgBme x.cfg && cfgBme (s.up e).cfg then .pass else .miss

/-- The reason of a refused window miss: the spec leaves it to the program, so it is a free program-defined one. -/
def State.missReason (s : State) : Nat := 0x40 + (Config.freeByte s.fv).toNat % 0xC0

end Sys2Proof.Machine
end

