-- ==== Sys2Proof/Machine/FnOps.lean ====
section
/-! DEFINITION. Machine/FnOps.lean: the functions of the fabric function (R543–R561): which exist, their ports, tenants, requester
IDs and DMA channels; their MSI-X messages and host writes; the failure logs (R562–R565) and dirty-page logging (R577–R584). -/

namespace Sys2Proof.Machine

/-! ### Functions (R543, R544) -/

def State.fn (s : State) (f : Nat) : FnState := s.ffn.fns.get FnState.reset f
def State.setFn (s : State) (f : Nat) (x : FnState) : State :=
  { s with ffn := { s.ffn with fns := s.ffn.fns.set FnState.reset f x } }

/-- Whether the PF of a port exists. -/
def State.pfExists (s : State) (p : Nat) : Bool := s.fb (R.FFN_PF_CFG_EN p) && s.fd (R.PRT_CTX_ROLE p) = 1

/-- Number of VFs of a port's PF that exist. -/
def State.vfCount (s : State) (p : Nat) : Nat := if (s.fn (4096 + p)).vfEnable then (s.fn (4096 + p)).numVfs else 0

/-- The port of a function that exists. -/
def State.fnPort (s : State) (f : Nat) : Option Nat :=
  if 4096 ≤ f then (if s.pfExists (f - 4096) then some (f - 4096) else none)
  else (List.range 128).find? fun p => s.pfExists p && decide (s.fd (R.FFN_PF_CFG_VFBASE p) ≤ f) &&
    decide (f < s.fd (R.FFN_PF_CFG_VFBASE p) + s.vfCount p)

/-- The functions of a port's PF that exist: the PF and its VFs. -/
def State.fnsOf (s : State) (p : Nat) : List Nat :=
  (4096 + p) :: (List.range (s.vfCount p)).map fun i => s.fd (R.FFN_PF_CFG_VFBASE p) + i

/-- The tenant of a function (R556, R558). -/
def State.fnTenant (s : State) (f : Nat) : Nat :=
  if 4096 ≤ f then s.fd (R.PRT_CTX_TENANT (f - 4096))
  else if (s.fn f).tenantSet then s.fd (R.FFN_FN_CFG_TENANT f)
  else match s.fnPort f with
    | none => 0
    | some p => s.fd (R.PRT_CTX_TENANT p)

/-- The virtual downstream port that binds a port's PF (R544). -/
def State.kind3 (s : State) (p : Nat) : Option Nat :=
  (s.bindings.find? fun b => b.1 = p && s.fd (R.PRT_VDP_B0_KIND b.1 b.2) = 3).map fun b => b.2

/-- The requester ID of a function as its host gives it (R544). -/
def State.fnRid (s : State) (f : Nat) : Nat :=
  match s.fnPort f with
  | none => 0
  | some p =>
    let bus := match s.kind3 p with | none => 0 | some v => (s.vdp p v).secBus
    (bus * 256 + (if 4096 ≤ f then 0 else f - s.fd (R.FFN_PF_CFG_VFBASE p) + 1)) % 65536

/-- Whether a function's own writes are issued (R561). -/
def State.fnIssues (s : State) (f : Nat) : Bool :=
  (s.fn f).bme && (match s.fnPort f with
    | none => false
    | some p => match s.kind3 p with
      | none => false
      | some v => cfgBme (s.vdp p v).cfg)

/-- The manager function (R547). -/
def State.mgrFn (s : State) : Option Nat := if s.fb R.FFN_CFG_MGRV then some (4096 + s.fd R.FFN_CFG_MGRPORT) else none

/-- The functions with something written in FFN_FN[f]_CFG. -/
def State.fnCfgs (s : State) : List Nat :=
  s.regs.filterMap fun kv => if 0x354000 ≤ kv.1 ∧ kv.1 < 0x375000 ∧ (kv.1 - 0x354000) % 0x20 = 0 then some ((kv.1 - 0x354000) / 0x20)
    else none

/-- The channels of a function (R559). -/
def State.fnHasChan (s : State) (f g : Nat) : Bool :=
  decide (s.fd (R.FFN_FN_CFG_CHBASE f) ≤ g) && decide (g < s.fd (R.FFN_FN_CFG_CHBASE f) + s.fd (R.FFN_FN_CFG_CHCNT f))

def State.fnOfChan (s : State) (g : Nat) : Option Nat :=
  s.fnCfgs.find? fun f => s.fnHasChan f g && (s.fnPort f).isSome

/-! ### Host writes and MSI-X (R553, R561) -/

/-- A function's own write (R561). -/
def State.hostWrite (s : State) (f : Nat) (addr : Word) (data : List Byte) : State :=
  match s.fnPort f with
  | none => s
  | some p => s.emit (.hostWrite p (s.fnRid f) addr data)

/-- MSI-X Enable and Function Mask of a function (places of PCI Express, log entry 33), and a vector's mask bit. -/
def State.msixOn (s : State) (f : Nat) : Bool := natField 15 1 (cfgWord (s.fn f).cfg 0x52) = 1
def State.msixMasked (s : State) (f vec : Nat) : Bool :=
  natField 14 1 (cfgWord (s.fn f).cfg 0x52) = 1 || natField 32 1 (s.rg (R.FN_MSIX f (2 * vec + 1))).toNat = 1

/-- A function sends an MSI-X message; one that is masked or cannot be issued is pending. -/
def State.msix (s : State) (f vec : Nat) : State :=
  if !s.msixOn f then s
  else if s.fnIssues f && !s.msixMasked f vec then s.emit (.msix f vec)
  else s.setRg (R.FN_PBA f) (s.rg (R.FN_PBA f) ||| (1#64 <<< vec))

/-- Pending messages that may be sent now are sent. -/
def State.msixFlush (s : State) (f : Nat) : State :=
  if s.msixOn f && s.fnIssues f then
    (List.range 64).foldl (fun t v =>
      if natField v 1 (t.rg (R.FN_PBA f)).toNat = 1 ∧ !t.msixMasked f v then
        (t.setRg (R.FN_PBA f) (t.rg (R.FN_PBA f) &&& ~~~(1#64 <<< v))).emit (.msix f v)
      else t) s
  else s

/-- The table interrupt and the device-mailbox interrupt of the manager function (R553) are its vectors 63 and 62. -/
def State.mgrVector (s : State) (vec : Nat) : State := match s.mgrFn with | none => s | some f => s.msix f vec

/-! ### Failure logs (R562–R565) -/

/-- The function whose log receives records for tenant `t`'s log on this node (R562). -/
def State.logFn (s : State) (t : Nat) : Option Nat :=
  let f := s.fd (R.FFN_TLF_FN t)
  if s.fb (R.FFN_TLF_V t) && (s.fnPort f).isSome && s.fnTenant f = t then some f else s.mgrFn

/-- Whether a log accepts a record (R564). -/
def State.logRoom (s : State) (f : Nat) : Bool :=
  s.fb (R.FN_LOG_CFG_EN f) && s.fnIssues f &&
  decide ((s.fd (R.FN_LOG_PROD_PROD f) + 2 ^ 32 - s.fd (R.FN_LOG_CONS_CONS f)) % 2 ^ 32 < 2 ^ s.fd (R.FN_LOG_CFG_LOGSZ f))

/-- The 32 bytes of a record (R531). -/
def Rec.bytes (r : Rec) (seq : Nat) : List Byte :=
  bytesLE 8 r.time.toNat ++ bytesLE 8 r.addr.toNat ++ bytesLE 2 r.rid ++ bytesLE 2 r.lendw ++ bytesLE 1 r.reason ++
  bytesLE 1 (r.cls % 16 + r.kind % 4 * 16 + (if r.taddr then 64 else 0)) ++ bytesLE 2 r.remaining ++
  bytesLE 2 (r.tenant % 8192) ++ bytesLE 2 0 ++ bytesLE 4 seq

/-- The next record that waits for a function's log. -/
def State.nextRecord (s : State) (f : Nat) : Option WaitRec :=
  s.ldg.overflow.find? fun w => match w.dest with
    | .log (some t) => s.logFn t = some f
    | .log none => s.mgrFn = some f
    | .home _ _ _ _ => false

/-- Vector 0 of a function after a burst: at once, or 2 µs after the previous one (R565). -/
def State.logVector (s : State) (f : Nat) : State :=
  let x := s.fn f
  let soon := match x.lastVecPs with | none => false | some t => decide (s.now < t + 2 * usPs)
  if soon then s.setFn f { x with vecPending := true }
  else (s.setFn f { x with lastVecPs := some s.now, vecPending := false }).msix f 0

/-- A record is written into a function's log (R563). -/
def State.logWrite (s : State) (f : Nat) : State :=
  if !s.logRoom f then s else
  match s.nextRecord f with
  | none => s
  | some w =>
    let prod := s.fd (R.FN_LOG_PROD_PROD f)
    let at_ := s.fd (R.FN_LOG_BASE_BASE f) * 4096 + 32 * (prod % 2 ^ s.fd (R.FN_LOG_CFG_LOGSZ f))
    let s1 := (s.hostWrite f (BitVec.ofNat 64 at_) (w.r.bytes prod)).addFd (R.FN_LOG_PROD_PROD f) 1
    let s2 := { s1 with ldg := { s1.ldg with overflow := s1.ldg.overflow.erase w } }
    let s3 := if w.r.remaining = 0 then s2.logVector f else s2
    s3.resumeResolving

/-- A completion that matches no entry of port `p` (R512), counted for the function whose bus-master clear it outlived (R570). -/
def State.lateCpl (s : State) (p rid tag : Nat) : State :=
  let s1 := (s.addFd R.LDG_CNT_LATE 1).cntDev 1543 1
  match s1.ldg.quar.find? fun q => q.port = p && q.chan.isSome && (match q.key with
      | .index i => [tagLayout 14 false, tagLayout 10 false, tagLayout 8 false].any fun l =>
          tag % 2 ^ l.2 = i && tag / 2 ^ l.2 % 2 ^ l.1 = q.gen % 2 ^ l.1
      | .ide r t => r.toNat = rid && t.toNat = tag) with
  | none => s1
  | some q => match s1.fnOfChan (q.chan.getD 0) with
    | none => s1
    | some f => s1.addFd (R.FFN_FN_CNT_LATEBME f) 1

/-! ### Dirty-page logging (R577–R584) -/

/-- The PF that owns a global tracker. -/
def State.dlPf (s : State) (k : Nat) : Option Nat :=
  (List.range 128).find? fun p => s.fb (R.FFN_PF_CFG_EN p) && decide (s.fd (R.FFN_PF_CFG_DLBASE p) ≤ k) &&
    decide (k < s.fd (R.FFN_PF_CFG_DLBASE p) + s.fd (R.FFN_PF_CFG_DLCNT p))

/-- A tracker's cached pages leave the cache. -/
def State.dlPurge (s : State) (k : Nat) : State :=
  { s with ffn := { s.ffn with cache := s.ffn.cache.filter fun e => e.k ≠ k } }

/-- Records of a tracker are written, up to 64 bytes at a time (R581), or the tracker overflows (R582). -/
def State.dlRecords (s : State) (k : Nat) : Nat → List Word → State
  | 0, _ => s
  | _, [] => s
  | fuel + 1, ws =>
    if s.fb (R.DL_STS_OVF k) then s
    else
      let prod := s.fd (R.DL_PROD_PROD k)
      let size := 2 ^ s.fd (R.DL_RCFG_LOGSZ k)
      let room := size - (prod + 2 ^ 32 - s.fd (R.DL_CONS_CONS k)) % 2 ^ 32
      let f := match s.dlPf k with | none => 0 | some p => 4096 + p
      if room = 0 || !s.fnIssues f then (s.setFb (R.DL_STS_OVF k) true).dlPurge k
      else
        let n := min (min 8 ws.length) (min room (size - prod % size))
        let at_ := s.fd (R.DL_RBASE_BASE k) * 4096 + 8 * (prod % size)
        ((s.hostWrite f (BitVec.ofNat 64 at_) ((ws.take n).map fun w => bytesLE 8 w.toNat).flatten).addFd (R.DL_PROD_PROD k)
          n).dlRecords k fuel (ws.drop n)

/-- The record of a page. -/
def pageRec (page : Nat) : Word := BitVec.ofNat 64 (page * 4096)

/-- A SYNC ends: its marker, LASTTOK and vector 2 (R583). -/
def State.dlSyncEnd (s : State) (k : Nat) : State :=
  match s.ffn.syncs.find? fun y => y.k = k with
  | none => s
  | some y =>
    let s1 := { s with ffn := { s.ffn with syncs := s.ffn.syncs.erase y } }
    let s2 := ((s1.dlRecords k 1 [BitVec.ofNat 64 (y.token * 2 ^ 32 + 1)]).setFb (R.DL_STS_SYNCP k) false).setFd
      (R.DL_STS_LASTTOK k) y.token
    match s2.dlPf k with
    | none => s2
    | some p => s2.msix (4096 + p) 2

/-- Cached pages that a condition names are written out, tracker by tracker, and leave the cache; they were cached after the mark of a SYNC
that runs, so its marker goes first (R583). -/
def State.dlFlush (s : State) (f : DlEntry → Bool) : State :=
  let out := s.ffn.cache.filter f
  let s1 := { s with ffn := { s.ffn with cache := s.ffn.cache.filter fun e => !f e } }
  ((out.map fun e => e.k).dedup).foldl (fun t k =>
    let ws := (out.filter fun e => e.k = k).map fun e => pageRec e.page
    (t.dlSyncEnd k).dlRecords k ws.length ws) s1

/-- A page is logged for a tracker (R580, R584). -/
def State.dlPage (s : State) (k page : Nat) : State :=
  let s := match s.dlPf k with | none => s | some p => s.cntTnt (s.fnTenant (4096 + p)) 14 1
  if s.fb (R.DL_STS_OVF k) then s
  else if 2 ≤ s.fd R.SAG_STS_STAGE then (s.dlSyncEnd k).dlRecords k 1 [pageRec page]
  else if s.ffn.cache.any fun e => e.k = k && e.page = page then s
  else
    let s1 := if s.ffn.cache.length < 16384 then s else match s.ffn.cache with
      | [] => s
      | e :: _ => s.dlFlush fun x => decide (x = e)
    { s1 with ffn := { s1.ffn with cache := s1.ffn.cache ++ [⟨k, page, s.now⟩] } }

/-- Whether a tracker follows a packet (R579). -/
def State.dlTracks (s : State) (k : Nat) (x : Pkt) : Bool :=
  let lo := s.fd (R.DL_CTL_SFID k)
  let n := s.fd (R.DL_CTL_SFCNT k)
  s.fb (R.DL_CTL_EN k) &&
  ((!(lo = 0 && n = 4095) && decide (lo ≤ x.sfid) && decide (x.sfid ≤ lo + n)) ||
   (s.fb (R.DL_CTL_FNV k) && (match x.origin with
     | .dma c => s.fnHasChan (s.fd (R.DL_CTL_FN k)) c
     | _ => false)))

/-- A write begins transmission on a port: the trackers of the port's PF log the pages it touches (R579). -/
def State.dlSent (s : State) (p : Nat) (x : Pkt) : State :=
  if !(x.tkind = 0x02 || x.tkind = 0x0A || x.tkind = 0x03) || !s.pfExists p then s else
  let a := x.addr.toNat
  let n := if x.tkind = 0x03 then x.respBytes else x.lenDw * 4
  let pages := (List.range ((a + n - 1) / 4096 - a / 4096 + 1)).map fun i => a / 4096 + i
  let ks := (List.range (s.fd (R.FFN_PF_CFG_DLCNT p))).map fun i => s.fd (R.FFN_PF_CFG_DLBASE p) + i
  (ks.filter fun k => s.dlTracks k x).foldl (fun t k => pages.foldl (fun u g => u.dlPage k g) t) s

/-- A write of DL[k]_CTL (R577, R578). -/
def State.dlCtl (s : State) (k : Nat) (v : Word) : State :=
  if s.fb (R.DL_CTL_EN k) then (if wField 0 1 v = 0 then s.setFb (R.DL_CTL_EN k) false else s)
  else
    let s1 := (((s.setFd (R.DL_CTL_FNV k) (wField 1 1 v)).setFd (R.DL_CTL_SFID k) (wField 16 16 v)).setFd
      (R.DL_CTL_SFCNT k) (wField 32 12 v)).setFd (R.DL_CTL_FN k) (wField 48 13 v)
    if wField 0 1 v = 0 then s1
    else
      let lo := wField 16 16 v
      let n := wField 32 12 v
      let ok : Bool := match s.dlPf k with
        | none => false
        | some p => (s.fn (4096 + p)).bme &&
          (decide (lo = 0 ∧ n = 4095) || (List.range (n + 1)).all fun i => (s.bindingOf p (lo + i)).isSome) &&
          (decide (wField 1 1 v = 0) || (s.fnsOf p).contains (wField 48 13 v))
      if ok then ((s1.setFb (R.DL_CTL_EN k) true).setFd (R.DL_PROD_PROD k) 0).setFd (R.DL_CONS_CONS k) 0
      else s1.setFb (R.DL_STS_REJ k) true

/-- A write of DL[k]_SYNC (R583): what is cached at the mark is written out. -/
def State.dlSyncStart (s : State) (k token : Nat) : State :=
  if s.fb (R.DL_STS_SYNCP k) then s.setFb (R.DL_STS_SLOST k) true
  else
    let s1 := (s.setFb (R.DL_STS_SYNCP k) true).dlFlush fun e => decide (e.k = k)
    { s1 with ffn := { s1.ffn with syncs := s1.ffn.syncs ++ [⟨k, token⟩] } }

/-- A PF's trackers are disabled and what they hold is discarded (R571, R576). -/
def State.dlReset (s : State) (p : Nat) : State :=
  ((List.range (s.fd (R.FFN_PF_CFG_DLCNT p))).map fun i => s.fd (R.FFN_PF_CFG_DLBASE p) + i).foldl (fun t k =>
    let t1 := ((t.setFb (R.DL_CTL_EN k) false).setFb (R.DL_STS_SYNCP k) false).dlPurge k
    { t1 with ffn := { t1.ffn with syncs := t1.ffn.syncs.filter fun y => y.k ≠ k } }) s

end Sys2Proof.Machine
end

