-- ==== Sys2Proof/Machine/Fwd.lean ====
section
/-! DEFINITION. Machine/Fwd.lean: what happens to a packet that is forwarded to a queue context: mirror copies, admission and
push-out (R276–R293, R305–R310), numbering at a source edge (R439–R443), resequencing and delivery at a destination edge
(R452–R455), replay (R447–R450), and DROP outcomes of native packets (R250). -/

namespace Sys2Proof.Machine

/-! ### Queues and ports -/

/-- The port of a queue context. -/
def State.qPort (s : State) (q : Nat) : Nat := s.fd (R.SCH_Q_CFG_PORT q)

/-- Whether a queue context is configured: attached, and not the null queue (R242, R323). -/
def State.qOpen (s : State) (q : Nat) : Bool := q ≠ 0 && s.fb (R.SCH_Q_CFG_EN q)

/-- Whether a port is a native link. -/
def State.nativeRole (s : State) (p : Nat) : Bool := s.fd (R.PRT_CTX_ROLE p) = 3

/-- Whether the part runs in fabric mode (R13). -/
def State.fabric (s : State) : Bool := s.fb R.GLB_MODE_FABRIC

/-- The sag stage in force. -/
def State.sagStage (s : State) : Nat := s.fd R.SAG_STS_STAGE

/-- A packet put at the end of a queue context (R317, R455); the last item put there from its port is remembered (R503). -/
def State.enqueue (s : State) (k : Pkt) (q : Nat) : State :=
  let s1 := s.movePkt { k with loc := .queue q, qctx := q, enqPs := s.now, trace := k.trace.map fun t => { t with enqPs := some s.now } }
  let last := s1.ldg.lastEnq.set none (q * 128 + k.inPort) (k.entry.map fun e => (e, k.item))
  { s1 with ldg := { s1.ldg with lastEnq := last } }

/-! ### Mirroring (R305–R310, R313) -/

/-- A header-capture record (R313). -/
def Pkt.capture (k : Pkt) (time : Word) (ses port reason : Nat) (egress dropped : Bool) : List Byte :=
  bytesLE 8 time.toNat ++ bytesLE 1 0x01 ++ bytesLE 1 (ses + (if egress then 16 else 0) + (if dropped then 32 else 0)) ++
  bytesLE 1 port ++ bytesLE 1 reason ++ bytesLE 2 k.tenant ++ bytesLE 2 (min k.len 65535) ++
  ((k.win.take 6).map fun w => bytesBE 8 w.toNat).flatten

/-- Cells held by the copies of a mirror session. -/
def State.mirrorCells (s : State) (ses : Nat) : Nat :=
  ((s.pkts.filter fun k => k.origin = .mirror ses).map fun k => k.cells).sum

/-- The packet of a port copy (R309). -/
def State.mirrorPkt (s : State) (ses : Nat) (k : Pkt) : Pkt :=
  let tr := s.fd (R.MIR_SES_CTL_TRUNC ses)
  let body := (k.win.map fun w => bytesBE 8 w.toNat).flatten ++ (if tr = 0 then k.data else k.data.take (64 * tr))
  let hd := sheafWords (s.fd (R.MIR_SES_CTL_CLASS ses)) 0 63 (s.fd (R.MIR_SES_CTL_DFID ses)) 0 (s.fd (R.MIR_SES_CTL_VC ses))
    (s.fd (R.MIR_SES_CTL_SFID ses)) 0 0 s.birthNow 0xC0
  let len := 16 + body.length
  { Pkt.blank with
    loc := .mirror (s.fd (R.MIR_SES_CTL_PORT ses)), origin := .mirror ses, inPort := k.inPort,
    win := [hd.1, hd.2] ++ List.replicate 14 0, data := body, len := len, rcvd := len, cells := cellsOf false len,
    complete := k.complete, copyOf := if k.complete then none else some k.id,
    pool := .shared (s.fd (R.MIR_SES_CTL_PORT ses)) (s.fd (R.MIR_SES_CTL_CLASS ses)) noTenant, arrivedPs := s.now,
    m1 := BitVec.ofNat 64 k.ownTenant }

/-- A copy of a packet whose reception goes on takes what arrived after it was made, as far as TRUNC lets it (R309). -/
def State.growCopy (s : State) (c : Pkt) (bs : List Byte) (last : Bool) : State :=
  let tr := match c.origin with | .mirror ses => s.fd (R.MIR_SES_CTL_TRUNC ses) | _ => 0
  let room := if tr = 0 then bs.length else 128 + 64 * tr - c.data.length
  let data := c.data ++ bs.take room
  let len := 16 + data.length
  s.setPkt { c with data := data, len := len, rcvd := len, cells := max c.cells (cellsOf false len), complete := last,
                    copyOf := if last then none else c.copyOf }

/-- The copies of packet `id` made before it was whole. -/
def State.growCopies (s : State) (id : Nat) (bs : List Byte) (last : Bool) : State :=
  (s.pkts.filter fun c => c.copyOf = some id).foldl (fun t c => t.growCopy c bs last) s

/-- A copy of a packet for a mirror session (R306–R308); NOMIRROR is judged of the tenant of R178 in m1 (R253). -/
def State.mirrorCopy (s : State) (ses : Nat) (k : Pkt) (port reason : Nat) (egress dropped : Bool) : State :=
  if !s.fb (R.MIR_SES_CTL_EN ses) ∨ 1 ≤ s.sagStage then s
  else if s.fb (R.TNT_CFG_NOMIRROR k.ownTenant k.tver) then s.addFd (R.MIR_SES_SKIP_NOMIR ses) 1
  else
    let made (t : State) : State := (t.addFd (R.MIR_SES_CNT_COPIES ses) 1).cntPort port 88 1
    if !s.fb (R.MIR_SES_CTL_DEST ses) then made (s.glnPut (k.capture s.time ses port reason egress dropped))
    else
      let c := s.mirrorPkt ses k
      let maxc := let v := s.fd (R.MIR_SES_LIM_MAXC ses); if v = 0 then 64 else v
      if maxc < s.mirrorCells ses + c.cells ∨ s.sharedFree < c.cells then s.addFd (R.MIR_SES_CNT_LOST ses) 1
      else made (s.addPkt c)

/-! ### Push-out (R285–R293) -/

/-- The push-out rank of a class. -/
def State.rank (s : State) (c : Nat) : Nat := s.fd (R.BUF_CRANK_RANK c)

/-- Whether a packet arrived on a native link (R294), as a delivery inside the node did not. -/
def Pkt.viaLink (k : Pkt) : Bool := k.native && decide (k.cells ≠ 0)

/-- Whether a packet is a push-out candidate for a packet of a rank (R286). -/
def State.candidate (s : State) (rank : Nat) (k : Pkt) : Bool :=
  k.viaLink && k.evictable && k.cls ≠ 15 && decide (s.rank k.cls < rank) && !s.strict k.tenant &&
  (match k.pool with | .shared _ _ _ => true | _ => false) && k.txPort.isNone

/-- A native packet is discarded with an eviction notice, and its entry is retired (R288, R295, R302). -/
def State.evictPkt (s : State) (k : Pkt) (kind : Nat) : State :=
  let s1 := s.sendEvict k kind
  let s2 := match k.entry with
    | none => s1.pktTraceEnd k 0 true
    | some e => (s1.itemTraceEnd e 0 0 true).delEntry e
  s2.dropPkt k.id

/-- The next victim for a packet of a rank (R287): lowest rank, then the queue with most candidate cells, then lowest port,
then the candidate nearest the tail. -/
def State.victim (s : State) (rank : Nat) : Option Pkt :=
  let cs := s.pkts.filter fun k => s.candidate rank k && (match k.loc with | .queue _ => true | _ => false)
  let low := (cs.map fun k => s.rank k.cls).foldl min 7
  let cs := cs.filter fun k => s.rank k.cls = low
  let held (q : Nat) : Nat := ((cs.filter fun k => k.qctx = q).map fun k => k.cells).sum
  let best : Option Nat := cs.foldl (fun b k => match b with
    | none => some k.qctx
    | some q => if held q < held k.qctx ∨ (held q = held k.qctx ∧ s.qPort k.qctx < s.qPort q) then some k.qctx else b) none
  match best with
  | none => none
  | some q => (cs.filter fun k => k.qctx = q).getLast?

/-- Victims are removed until a condition holds or none is left (R287); none while the notice store is nearly full (R458). -/
def State.pushOut (s : State) (rank : Nat) (ok : State → Bool) : Nat → State
  | 0 => s
  | n + 1 =>
    if ok s || s.ses.storeHigh then s else
    match s.victim rank with
    | none => s
    | some k => (((s.evictPkt k 1).cntPort (s.qPort k.qctx) 52 1).cntDev 1536 1).pushOut rank ok n

/-- Room for a packet is made while the shared pool is short: mirror copies first, push-out for native arrivals (R285, R287, R293). When
push-out cannot make the room no victim is removed. -/
def State.makeRoom (s : State) (k : Pkt) (ok short : State → Bool) : State :=
  if ok s || !short s then s else
  let s1 := s.shedMirror ok (s.pkts.filter fun x => match x.origin with | .mirror _ => true | _ => false).length
  if ok s1 then s1
  else if k.native then
    let s2 := s1.pushOut (s.rank k.cls) ok s1.pkts.length
    if ok s2 then s2 else s1
  else s1

/-- Whether the shared pool is what bars a packet's admission for port `e` (R293): for an item of this node's edges its tenant's quota
does not. -/
def State.shortFor (s : State) (k : Pkt) (e : Nat) : Bool :=
  s.sharedShort k.cells e (k.cls % 8) && (k.native || decide (s.tntCells k.tenant + k.cells ≤ s.bufQuota k.tenant))

/-- A packet's pool for port `e` drawn, with room made for it; none when it must wait. -/
def State.draw (s : State) (k : Pkt) (e : Nat) (f : State → Option Pool) : Option (State × Pool) :=
  let s1 := s.makeRoom k (fun t => (f t).isSome) (fun t => t.shortFor k e)
  (f s1).map fun q => (s1.cntDev 1538 k.cells, q)

/-- A packet waits in its arrival or landing reservation (R279, R280). -/
def State.waitArrival (s : State) (k : Pkt) (q : Nat) : State := s.setPkt { k with loc := .arrival q, qctx := q }

/-! ### Runs (R503) -/

/-- TLP attributes, TH and PH as an entry's `hdr2` and a packet's header show them. -/
def runAttrs (flit : Bool) (w : Word) : Nat :=
  (if flit then wField 42 3 w else wField 44 2 w + 4 * wField 50 1 w + 8 * wField 48 1 w) * 4 + wField 0 2 w

/-- The open entry that a posted memory write extends (R503). -/
def State.runEntry (s : State) (k : Pkt) (q : Nat) (c : Option Nat) : Option Entry :=
  if k.tkind ≠ 0x02 ∨ !k.complete then none else
  s.ldg.entries.find? fun e =>
    e.state = 1 && decide (e.kind ≤ 1) && e.tkind = 0x02 && decide (e.runCnt < 63) && decide (s.now ≤ e.allocPs + usPs) &&
    decide (e.role ≤ 1) && e.tenant = k.tenant && e.inPort = k.inPort && e.origin = k.originCode &&
    e.rid = (match k.origin with | .dma ch => ch | .core n => n | .proxy b => b | _ => k.reqId) && e.dfid = k.dfid && e.cls = k.cls % 8 &&
    e.stamp = wField 0 3 k.m3 && e.lendw = k.lenDw &&
    runAttrs k.flit e.hdr2 = runAttrs k.flit ((k.h 2 &&& ~~~3#64) ||| (k.h 3 &&& 3#64)) &&
    k.addr = e.addr + BitVec.ofNat 64 (4 * e.lendw * (e.runCnt + 1)) &&
    (match c with
     | none => s.ldg.lastEnq.get none (q * 128 + k.inPort) = some (e.idx, e.runCnt)
     | some n => e.sctx = some n && (match s.sctx? n with
       | none => false
       | some x => x.nextSeq = (e.eseq + e.runCnt + 1) % 2 ^ 18))

/-- A write of a DMA channel or a core that joined a run is known by its entry there. -/
def State.ownJoin (s : State) (e : Entry) (i : Nat) : State :=
  if e.origin = 2 then s.coreStoreJoin (coreOfNum e.rid) i e.idx (e.runCnt + 1)
  else if e.origin ≠ 1 then s else
  let c := s.dma.chans.get Chan.reset e.rid
  let ws := c.writes.map fun w => if w.entry = i then { w with entry := e.idx, item := e.runCnt + 1 } else w
  { s with dma := { s.dma with chans := s.dma.chans.set Chan.reset e.rid { c with writes := ws } } }

/-- The drawn entry of a forwarded request becomes open, or the request joins a run and releases it (R502, R503). -/
def State.openEntry (s : State) (k : Pkt) (q role : Nat) (c : Option Nat) : State × Pkt :=
  match k.entry with
  | none => (s, k)
  | some i =>
    match (if role ≤ 1 then s.runEntry k q c else none) with
    | some e =>
      ((((s.ownJoin e i).delEntry i).updEntry e.idx fun e => { e with kind := 1, runCnt := e.runCnt + 1 }).cntDev 1541 1,
       { k with entry := some e.idx, item := e.runCnt + 1 })
    | none =>
      (s.updEntry i fun e => { e with
        state := 1, role := role, trap := false, outPort := s.qPort q, dfid := k.dfid, sfid := k.sfid, ses := k.ses,
        eseq := k.eseq, sctx := c, cls := k.cls % 8,
        cplc := if role ≤ 1 then k.cplCells else 0 }, k)

/-! ### Delivery at a destination edge (R452–R456, R512, R513, R209) -/

/-- Whether a bridge refuses an item at its port: a payload larger than Max_Payload_Size, an AtomicOp where a host blocks them,
a CXL message where the port is no CXL port (R209). -/
def State.bridgeRefuses (s : State) (k : Pkt) (e : Nat) : Bool :=
  ((k.tkind = 0x02 || k.tkind = 0x0A || k.tkind = 0x07) && decide (s.mpsOf e < k.data.length)) ||
  (k.tkind = 0x03 && ((s.fd (R.PRT_CTX_ROLE e) = 1 && (s.up e).atomicBlock) || s.bindings.any fun b =>
    s.fd (R.PRT_VDP_B0_KIND b.1 b.2) = 0 && s.fd (R.PRT_VDP_B0_LPORT b.1 b.2) = e && (s.vdp b.1 b.2).atomicBlock)) ||
  (k.cxl.isSome && !s.fb (R.PRT_LSTS_CXL e))

/-- The tag a completion or response carries. -/
def Pkt.rspTag (k : Pkt) : Nat := match k.cxl with
  | some c => c.tag.toNat
  | none => k.tlpTag

/-- Whether a matched entry has its whole response with `n` bytes more (R513). -/
def Pkt.lastPiece (k : Pkt) (e : Entry) : Bool :=
  k.cxl.isSome || k.cplStatus ≠ 0 || !kindData e.tkind || decide (e.respBytes ≤ e.gotBytes + k.data.length)

/-- The reason an error or poisoned response gives (R516, R530). -/
def Pkt.rspReason (k : Pkt) : Nat :=
  if k.cplStatus = 1 then 0x0C else if k.cplStatus = 4 then 0x0D else if k.poisoned then 0x0E else 0x0C

/-- A response is counted against its entry, which it retires when it is the last (R513). -/
def State.completeEntry (s : State) (k : Pkt) (e : Entry) : State :=
  let s1 := s.cntTnt e.tenant 3 k.data.length
  if k.lastPiece e then ((s1.itemTraceEnd e.idx 0 0 false).releasePkts e.idx).delEntry e.idx
  else s1.updEntry e.idx fun e => { e with gotBytes := e.gotBytes + k.data.length }

/-- A response reaches the channel or core that made the request (R251, R593, R97): whole data, or the reason of its failure.
Pieces wait with the entry until the last. -/
def State.ownResponse (s : State) (k : Pkt) (e : Entry) : State :=
  let pieces := s.pkts.filter fun x => x.entry = some e.idx && x.loc = .held && x.id ≠ k.id && kindCpl x.tkind
  let bad : Bool := k.poisoned || pieces.any fun x => x.poisoned
  let ok := k.cplStatus = 0 && !bad
  let reason := if k.cplStatus = 0 ∧ bad then 0x0E else k.rspReason
  if k.lastPiece e then
    let data := (pieces.map fun x => x.data).flatten ++ k.data
    let s1 := (s.completeEntry k e).dropPkt k.id
    if e.origin = 1 then
      let o : DmaOutcome := ⟨e.rid, e.idx, 0, e.addr, if ok then some data else none, if ok then 0 else reason⟩
      { s1 with dma := { s1.dma with outcomes := s1.dma.outcomes ++ [o] } }
    else if e.origin = 4 then s1.proxyAnswer (e.rid / 256) (e.rid % 256) e.dfid (if ok then 0 else k.cplStatus) (e.tkind = 0x04)
    else s1.coreLoadDone (coreOfNum e.rid) e.idx (if ok then .data data else .fault reason)
  else (s.completeEntry k e).setPkt { k with entry := some e.idx, loc := .held, sctx := none, copies := 0 }

/-- A completion in sequence at the edge of its requester (R512, R513). -/
def State.deliverCpl (s : State) (k : Pkt) (q : Nat) : State :=
  let e := s.qPort q
  let cov (t : State) : State := match k.rctx with
    | none => t
    | some r => t.coverable r k.eseq
  match s.matchTag true e k.reqId k.rspTag with
  | none => cov ((s.lateCpl e k.reqId k.rspTag).dropPkt k.id)
  | some x =>
    if x.dfid ≠ k.sfid then cov ((s.lateCpl e k.reqId k.rspTag).dropPkt k.id)
    else if x.origin = 1 ∨ x.origin = 2 ∨ x.origin = 4 then cov (s.ownResponse k x)
    else
      let k1 := match k.cxl with
        | some c => { k with cxl := some { c with tag := BitVec.ofNat 16 x.tag } }
        | none => k.setReq x.rid x.tag
      (s.completeEntry k x).enqueue { k1 with pool := .cplRsv e } q

/-- A request delivered to port `e` fails where a bridge refuses it (R209) or its virtual switch does (R478, R483). -/
def State.checkDelivered (s : State) (k : Pkt) (e : Nat) : State :=
  match k.entry with
  | none => s
  | some i =>
    if s.bridgeRefuses k e then s.resolve i 0x0F
    else match s.gateIn k e with
      | .fail r => s.resolve i r
      | .miss => (s.resolve i s.missReason).bumpFv
      | .drop =>
        match s.entry? i with
        | none => s
        | some x => if x.role = 0 then s.voidEntry x else s.resolve i 0x05
      | _ => s

/-- A packet in sequence is delivered (R455): a completion to its requester, a request to the queue, or to its failure. -/
def State.deliverPkt (s : State) (k : Pkt) (q : Nat) : State :=
  if kindCpl k.tkind then s.deliverCpl k q
  else
    let (s1, k1) := s.openEntry k q 3 none
    (s1.enqueue k1 q).checkDelivered k1 (s1.qPort q)

/-- NEXT moved past its number. -/
def State.bumpNext (s : State) (r : Nat) : State :=
  match s.rctx? r with
  | none => s
  | some x => s.setRctx r (some { x with next := (x.next + 1) % 2 ^ 18 })

/-- NEXT moves over every number that is consumed, or held and now delivered (R452). -/
def State.advanceNext (s : State) (r : Nat) : Nat → State
  | 0 => s
  | n + 1 =>
    match s.rctx? r with
    | none => s
    | some x =>
      if x.consumed.contains x.next then (s.bumpNext r).advanceNext r n
      else match s.pkts.find? fun k => (match k.loc with | .reseq a _ => a = r | _ => false) && k.eseq = x.next with
        | none => s.setRctx r (some { x with revokes := x.revokes.filter fun b => !decide (seqDist b.2 (x.next + 2 ^ 18 - 1) < 2 ^ 17) })
        | some k => ((s.deliverPkt { k with rctx := some r } k.qctx).bumpNext r).advanceNext r n

/-- Whether a revoke boundary covers a packet of a receive context (R219, R454). -/
def RecvCtx.revoked (x : RecvCtx) (tenant seq : Nat) : Bool :=
  x.revokes.any fun b => b.1 = tenant && decide (seqDist seq b.2 < 2 ^ 17)

/-- A number counts as consumed (R444, R454). -/
def State.consume (s : State) (r seq : Nat) : State :=
  match s.rctx? r with
  | none => s
  | some x => if x.consumed.contains seq then s else s.setRctx r (some { x with consumed := x.consumed ++ [seq] })

/-- An arrival that is discarded without any notice. -/
def State.discard (s : State) (k : Pkt) : State :=
  (match k.entry with
   | none => s.pktTraceEnd k 0 true
   | some e => (s.itemTraceEnd e k.item 0 true).delEntry e).dropPkt k.id

/-- Whether a revoke boundary that a receive context keeps covers a packet that arrives there (R219, R290, R454). -/
def State.revokedArrival (s : State) (k : Pkt) : Bool :=
  s.localFid k.dfid && k.ses ≠ 0 && (match s.rctx? k.ses with
    | none => false
    | some x => decide (seqDist x.next k.eseq < 2 ^ 17) && !x.consumed.contains k.eseq && x.revoked k.tenant k.eseq)

/-- A packet that a revoke boundary covers is discarded under the revoke: reported failed, with no eviction notice (R290). -/
def State.failRevoked (s : State) (k : Pkt) (fuel : Nat) : State :=
  (((s.sendFail k 0x08).discard k).consume k.ses k.eseq).advanceNext k.ses fuel

/-- A session packet arrives at its destination edge for queue `q` (R452–R454). -/
def State.destEdge (s : State) (k : Pkt) (q : Nat) : State :=
  let r := k.ses
  let e := s.qPort q
  match (if r = 0 then none else s.rctx? r) with
  | none => s.discard k
  | some x =>
    let d := seqDist x.next k.eseq
    let fuel := s.pkts.length + x.consumed.length + 1
    if 2 ^ 17 ≤ d then (s.discard k).receipt r
    else if x.consumed.contains k.eseq then s.discard k
    else if s.pkts.any fun y => y.id ≠ k.id && y.eseq = k.eseq &&
        (match y.loc with | .reseq a _ => a = r | .arrival _ => y.rctx = some r | _ => false) then s.discard k
    else if 1024 ≤ d then ((s.addFd R.SES_CNT_DECLINED 1).cntPort k.inPort 55 1).evictPkt k 4
    else if x.revoked k.tenant k.eseq then s.failRevoked k fuel
    else
      let k := { k with rctx := some r }
      if d = 0 then
        let (s1, pool) := if k.cells = 0 then (s, Pool.none)
          else (s.draw k e fun t => t.nativePool k e (k.cls % 8) true).getD (s, k.pool)
        ((s1.deliverPkt { k with pool := pool } q).bumpNext r).advanceNext r fuel
      else
        let ok (t : State) : Bool := decide (k.cells = 0) || t.sharedDraw k.cells e (k.cls % 8)
        let s1 := s.makeRoom { k with origin := .node } ok fun t => t.sharedShort k.cells e (k.cls % 8)
        if ok s1 then
          let pool : Pool := if k.cells = 0 then Pool.none else Pool.shared e (k.cls % 8) noTenant
          (s1.movePkt { k with loc := .reseq r q, qctx := q, pool := pool }).cntPort k.inPort 89 1
        else ((s1.addFd R.SES_CNT_DECLINED 1).cntPort k.inPort 55 1).evictPkt k 4

/-! ### The source edge (R207, R439–R443, R511) -/

/-- The tenant against whose session quota a send context of a port counts (R440). -/
def State.sesTenant (s : State) (p : Nat) : Nat := if s.fd (R.PRT_CTX_ROLE p) = 1 then s.fd (R.PRT_CTX_TENANT p) else 0

/-- Send contexts counted against a tenant, those of OPENs in progress included. -/
def State.sesUsed (s : State) (t : Nat) : Nat :=
  (s.ses.send.filter fun e => match e.2 with | some x => s.sesTenant x.port = t | none => false).length +
  (s.ses.opening.filter fun o => o.sctx.isSome && s.sesTenant o.key.port.val = t).length

/-- Context numbers in use, of either kind (R438). -/
def State.ctxUsed (s : State) : List Nat :=
  (s.ses.send.map fun e => e.1) ++ (s.ses.recv.map fun e => e.1) ++ (s.ses.opening.filterMap fun o => o.sctx)

/-- The OPEN for a key is sent when a context and the quota allow (R439, R440). -/
def State.sendOpen (s : State) (o : Opening) : State :=
  let c : Option Nat := match o.sctx with
    | some c => some c
    | none =>
      let t := s.sesTenant o.key.port.val
      if s.sesUsed t < s.quota t R.TBL_PG_CAP1_SES R.TNT_QRES_SES then pickFree 16384 s.ctxUsed s.fv else none
  let put (t : State) (o2 : Opening) : State :=
    { t with ses := { t.ses with opening := t.ses.opening.map fun y => if y.key = o.key then o2 else y } }
  match c with
  | none => put s { o with sentPs := s.now, refused := true }
  | some c =>
    let s1 := put s.bumpFv { o with sctx := some c, sentPs := s.now, refused := false }
    let reply := match (s.at (.openHold o.key)).head? with
      | some k => k.sfid
      | none => s.fd (R.PRT_CTX_PFID o.key.port.val)
    (s1.sendMsg 0x01 0 o.key.dfid.toNat o.key.cls.val c 0 0
      (BitVec.ofNat 64 (reply * 2 ^ 48 + s.fd R.GLB_MODE_NODE * 2 ^ 32 + o.key.port.val))).cntPort o.key.port.val 92 1

/-- The key of a packet in the session map (R439). -/
def Pkt.openKey (k : Pkt) : OpenKey := ⟨Fin.ofNat 128 k.inPort, BitVec.ofNat 16 k.dfid, Fin.ofNat 16 k.sesClass⟩

/-- The send context of a key (R439). -/
def State.sesMap (s : State) (key : OpenKey) : Option Nat := (s.ses.map.find? fun e => e.1 = key).map fun e => e.2

/-- The transmission of a numbered packet begins: its number is the last its session sent under its tenant's version (R218), unless a
later one began before it. -/
def State.markSent (s : State) (k : Pkt) : State :=
  match k.sctx with
  | none => s
  | some c => match s.sctx? c with
    | none => s
    | some x =>
      let v := 2 * k.tenant + k.tver
      if x.carried.any fun y => y.1 = v && decide (seqDist k.eseq y.2 < 2 ^ 17) then s
      else s.setSctx c (some { x with carried := (v, k.eseq) :: x.carried.filter fun y => y.1 ≠ v })

/-- A copy of a numbered packet is sent to a destination edge of this node (R442): it becomes a held copy, and a delivery of it
arrives at the destination edge. -/
def State.sendLocal (s : State) (k : Pkt) (q : Nat) : State :=
  let s1 := (s.markSent k).setPkt { k with loc := .held, qctx := q, txPort := none, txDone := true, sentPs := s.now, copies := k.copies + 1 }
  let d : Pkt := { k with origin := .native k.inPort, pool := .none, cells := 0, entry := none, item := 0, sctx := none,
                          copies := 0, trace := none, loc := .ingress 0, qctx := q }
  let d := { d with id := s1.pktNext }
  let s2 := s1.addPkt d
  let s2 := { s2 with tbl := { s2.tbl with
    drain := s2.tbl.drain.map fun (e : Nat × List Nat) => if e.2.contains k.id then (e.1, e.2 ++ [d.id]) else e } }
  if kindCpl k.tkind then s2.destEdge d q
  else match s2.drawEntry d 3 with
    | none => s2.dropPkt d.id
    | some (s3, i) =>
      let d := { d with entry := some i }
      (s3.setPkt d).destEdge d q

/-- A TLP that proves bad is no transaction (R302): its packet goes, its entry is released without a record, and its number, if it has
one, is skipped. -/
def State.dropCut (s : State) (k : Pkt) : State :=
  (match k.entry with
   | none => s
   | some i => s.delEntry i).skipCopy k

/-- A numbered packet is put on its way: to its queue, or to the destination edge of this node, which takes no packet that is not whole
(R298). -/
def State.launch (s : State) (k : Pkt) (q : Nat) : State :=
  if s.nativeRole (s.qPort q) then s.enqueue k q else if k.complete then s.sendLocal k q else s.dropCut k

/-- A packet takes the next number of its session (R234, R443) and is put on its way. -/
def State.numberPkt (s : State) (k : Pkt) (q c : Nat) : State :=
  match s.sctx? c with
  | none => s
  | some x =>
    let (s1, k1) := if k.entry.isSome then s.openEntry k q 1 (some c) else (s, k)
    let k2 := { (k1.setHf 1 50 14 x.rctx).setHf 1 32 18 x.nextSeq with sctx := some c }
    let s2 := s1.setSctx c (some { x with nextSeq := (x.nextSeq + 1) % 2 ^ 18, lastPs := s.now })
    let s3 := match k2.entry with
      | some e => if k2.item = 0 then s2.updEntry e fun e => { e with ses := x.rctx, eseq := x.nextSeq } else s2
      | none => s2
    (s3.setPkt k2).launch k2 q

/-- Held packets of a key are numbered in order once the key has a context (R439). -/
def State.releaseHeldFor (s : State) (key : OpenKey) (c : Nat) : State :=
  (s.at (.openHold key)).foldl (fun t k => t.numberPkt k k.qctx c) s

/-- Whether the completion of a non-posted request has its cells (R207). -/
def State.cplRoom (s : State) (k : Pkt) : Bool :=
  !kindNp k.tkind || k.originCode ≠ 0 ||
  decide (((s.ldg.entries.filter fun e => e.state ≠ 0 && decide (e.role ≤ 1) && e.inPort = k.inPort).map fun e => e.cplc).sum +
    s.poolCells (fun q => q = .cplRsv k.inPort) + k.cplCells ≤ s.frfSize k.inPort 2)

/-- The fabric tag of a non-posted request (R511, R515): none when the port has none free. -/
def State.fabricTag (s : State) (k : Pkt) : Option (State × Pkt) :=
  match k.entry with
  | none => some (s, k)
  | some i =>
    if !kindNp k.tkind then some (s, k)
    else if k.ide then some (s.updEntry i fun e => { e with tagPort := some k.inPort }, k)
    else match s.allocTag k.inPort 14 k.cxl.isSome with
      | none => none
      | some (idx, gen, tag) =>
        some (s.bumpFv.updEntry i fun e => { e with tagPort := some k.inPort, tagIdx := idx, gen := gen, xtag := tag },
          match k.cxl with
          | some c => { k with cxl := some { c with tag := BitVec.ofNat 16 tag } }
          | none => k.setReq k.reqId tag)

/-- Tenant counters of an admitted item (R678). -/
def State.countAdmitted (s : State) (k : Pkt) : State :=
  if kindCpl k.tkind then s
  else (s.cntTnt k.tenant (if kindNp k.tkind then 1 else 0) 1).cntTnt k.tenant 2 k.data.length

/-- A forwarded packet that entered at this node's edges, a DMA channel or a core (R276, R439–R443). -/
def State.sourceEdge (s : State) (k : Pkt) (q : Nat) : State :=
  let e := s.qPort q
  let local_ := !s.nativeRole e
  if local_ && k.cxl.isSome && !s.fb (R.PRT_LSTS_CXL e) && k.entry.isSome then
    (s.waitArrival k q).resolve (k.entry.getD 0) 0x0F
  else if !s.cplRoom k then s.waitArrival k q
  else match (if s.fabric && !kindCpl k.tkind then s.fabricTag k else some (s, k)) with
  | none => s.waitArrival k q
  | some (s0, k0) =>
    match s0.draw k0 e fun t => t.edgePool k0 e (k0.cls % 8) with
    | none => s.waitArrival k q
    | some (s1, pool) =>
      let s1 := match kindCpl k.tkind, k.entry with
        | true, some i => (match s1.entry? i with
          | some x => s1.completeEntry k x
          | none => s1)
        | _, _ => s1
      let k1 := { k0 with pool := pool, qctx := q, entry := if kindCpl k.tkind then none else k.entry }
      let s1 := (s1.setPkt k1).countAdmitted k1
      if !s.fabric then
        let (s2, k2) := s1.openEntry k1 q 0 none
        let s3 := s2.enqueue k2 q
        if kindCpl k2.tkind then s3 else s3.checkDelivered k2 e
      else
          let s2 := s1
          let k2 := k1
          match s2.sesMap k2.openKey with
          | some c => s2.numberPkt k2 q c
          | none =>
            let (s3, k3) := if k2.entry.isSome then
                (s2.updEntry (k2.entry.getD 0) fun e => { e with
                  state := 1, role := 1, trap := false, outPort := s.qPort q, dfid := k2.dfid, sfid := k2.sfid, sctx := none,
                  cls := k2.cls % 8, cplc := k2.cplCells }, k2)
              else (s2, k2)
            let s4 := s3.movePkt { k3 with loc := .openHold k3.openKey }
            if s4.ses.opening.any fun o => o.key = k3.openKey then s4
            else
              let o : Opening := { key := k3.openKey, sctx := none, sentPs := s.now, refused := false }
              ({ s4 with ses := { s4.ses with opening := s4.ses.opening ++ [o] } }).sendOpen o

/-! ### Transit and class C (R276, R357) -/

/-- A native packet that is to leave on another native link (R17, R276): one that cannot be admitted is queued in its landing reservation,
from which it may begin (R280). -/
def State.transit (s : State) (k : Pkt) (q : Nat) : State :=
  let (s1, pool) := (s.draw k (s.qPort q) fun t => t.nativePool k (s.qPort q) (k.cls % 8) false).getD (s, k.pool)
  let (s2, k2) := s1.openEntry { k with pool := pool } q 2 none
  s2.enqueue k2 q

/-- A queued packet that still holds its landing reservation tries to be admitted (R280). -/
def State.leaveLanding (s : State) (k : Pkt) (q : Nat) : State :=
  match k.pool with
  | .landing _ _ =>
    if k.txPort.isSome then s else
    match s.draw k (s.qPort q) fun t => t.nativePool k (s.qPort q) (k.cls % 8) (!s.nativeRole (s.qPort q)) with
    | none => s
    | some (s1, pool) => s1.setPkt { k with pool := pool }
  | _ => s

/-- A DROP of a native packet (R250): an eviction notice for reasons 0x01, 0x03, 0x04 and program-defined ones, a failure notice
for the others. -/
def State.dropNative (s : State) (k : Pkt) (reason : Nat) : State :=
  if reason = 1 ∨ reason = 3 ∨ reason = 4 ∨ 0x40 ≤ reason then s.evictPkt k 5
  else
    let s1 := if k.mirrored ∧ k.ses = 0 then s else s.sendFail k reason
    (match k.entry with
     | none => s1.pktTraceEnd k reason true
     | some e => (s1.itemTraceEnd e 0 reason true).delEntry e).dropPkt k.id

/-- A class C packet of any origin joins the class C queue of its port (R276, R357), and holds no ledger entry (R501); toward a port that
is no native link it has no route. -/
def State.forwardC (s : State) (k : Pkt) (q : Nat) : State :=
  let e := s.qPort q
  if !s.nativeRole e then (if k.native then s.dropNative k 0x01 else s.discard k)
  else match s.drawC k.inPort k.id k.cells with
    | none => s.waitArrival k q
    | some (s1, pool) =>
      let s2 := match k.entry with
        | none => s1
        | some i => s1.delEntry i
      s2.movePkt { k with loc := .classC e, qctx := q, pool := pool, entry := none }

/-- A FWD to a configured queue context takes effect (R249), or the packet waits in its arrival reservation. -/
def State.forward (s : State) (k : Pkt) (q : Nat) : State :=
  if k.cls = 15 then s.forwardC k q else
  match k.origin with
  | .native _ =>
    if s.nativeRole (s.qPort q) then s.transit k q
    else if k.mirrored && k.ses = 0 then
      (s.cntPort k.inPort 32 1).discard k
    else s.destEdge k q
  | _ => s.sourceEdge k q

/-- A waiting packet tries again once the one waiting reason may have gone (R279, R280), unless its queue context was disabled meanwhile and
takes no new admission (R323); one whose entry was resolved is gone already. -/
def State.retryAdmission (s : State) (k : Pkt) : State :=
  match k.loc with
  | .arrival q => if s.qOpen q then s.forward k q else s
  | .queue q => s.leaveLanding k q
  | _ => s

/-! ### Replay at a source edge (R425, R447–R450) -/

/-- The first enabled queue context attached to a port in a class, one of the tenant's before others (log entry 31). -/
def State.hopQueue (s : State) (p cls t : Nat) : Option Nat :=
  let qs := s.regs.filter fun e => 0x1400000 ≤ e.1 && e.1 < 0x1600000 && e.1 % 0x20 = 0 && wField 0 1 e.2 = 1 && wField 1 7 e.2 = p &&
    wField 8 4 e.2 = cls
  ((qs.find? fun e => wField 12 13 e.2 = t).orElse fun _ => qs.head?).map fun e => (e.1 - 0x1400000) / 0x20

/-- The queue that carries a packet routed again by its destination FID (R200): the queue map's (R240), or where the map has none that
is open at a live port, one of the chosen port (log entry 31); none with no live hop. -/
def State.mapQueue (s : State) (k : Pkt) : Option Nat :=
  match s.routeEntry s.rver k.dfid with
  | none => none
  | some (pfx, i) =>
    let w := s.routeWord pfx i s.rver (flowKey k.sfid k.dfid k.cls)
    if wField 7 1 w = 1 then none
    else
      let key := wField 0 7 w + k.vc * 2 ^ 8 + k.cls * 2 ^ 12 + k.tenant * 2 ^ 16 + k.ord * 2 ^ 29
      let mapped := (s.setLookup (0x1000000 + 0x200000 * s.rver) 16384 (Nat.land key s.tbl.kmask.toNat) 0).map fun r => wField 0 16 r.2
      match mapped.filter fun q => s.qOpen q && s.portUp (s.qPort q) with
      | some q => some q
      | none => s.hopQueue (wField 0 7 w) k.cls k.tenant

/-- The queue a copy is sent again through (R425, R447): its own while that port's link is up; else a next hop chosen again. -/
def State.replayQueue (s : State) (k : Pkt) : Option Nat :=
  if s.portUp (s.qPort k.qctx) ∨ !s.nativeRole (s.qPort k.qctx) then some k.qctx else s.mapQueue k

/-- A session fails (R450): ABORT, and its map entries go so that new traffic opens a new session. -/
def State.failSession (s : State) (c reason : Nat) : State :=
  match s.sctx? c with
  | none => s
  | some x =>
    if x.aborting.isSome then s else
    let s1 := ((s.setSctx c (some { x with aborting := some reason })).addFd R.SES_CNT_FAILED 1).cntDev 1545 1
    ({ s1 with ses := { s1.ses with map := s1.ses.map.filter fun e => e.2 ≠ c } }).notice c 0x08 reason 0 0

/-- A held copy is sent again (R447, R449): `counted` tells whether the replay counts. With no live hop its item is resolved
with reason 0x01 (R202, R425). -/
def State.replayPkt (s : State) (k : Pkt) (counted : Bool) : State :=
  match k.sctx with
  | none => s
  | some c =>
    if k.dead then s
    else if counted ∧ s.fd R.SES_CFG_RLIM ≤ k.repl then s.failSession c (if k.ageK then 0x03 else 0x04)
    else
      let n := if counted then k.repl + 1 else k.repl
      let s1 := match k.entry with
        | some e => s.updEntry e fun e => { e with repl := max e.repl n % 16, ageK := k.ageK }
        | none => s
      match s1.replayQueue k with
      | none => match k.entry with
        | some e => (s1.resolve e 0x01)
        | none => s1.skipCopy k
      | some q =>
        let k1 := { (k.setHf 1 16 16 s.birthNow).setHf 1 12 1 1 with
          repl := n, replay := true, txPort := none, txSent := 0, txDone := false }
        let s2 := if s1.portUp (s1.qPort k.qctx) || !s1.nativeRole (s1.qPort k.qctx) then s1 else s1.advanceFor s1.rver k.dfid
        (((s2.setPkt k1).launch k1 q).cntPort k.inPort 65 1)

end Sys2Proof.Machine
end

