-- ==== Sys2Proof/Machine/Police.lean ====
section
/-! DEFINITION. Machine/Police.lean: charged lengths (R327), ingress policers (R350–R356), the reports of the buffer (R754) and
ageing (R294–R297). -/

namespace Sys2Proof.Machine

/-! ### Charged lengths (R327) -/

/-- The charged length of a packet of stored length `l` under port `p`'s registers. -/
def State.charged (s : State) (p l : Nat) : Nat :=
  let x := (max ((l : Int) + signedOf 8 (s.fd (R.SCH_PRT_LEN_ADD p))) 1).toNat
  if s.fb (R.SCH_PRT_LEN_MODE p) then
    let u := s.fd (R.SCH_PRT_LEN_UNIT p)
    (x + u - 1) / u * s.fd (R.SCH_PRT_LEN_UNITW p)
  else (x * s.fd (R.SCH_PRT_LEN_SCALE p) + 4095) / 4096

/-- SCH_PRT[p]_LEN's default by the port's mode (R327); that of a port of no role is the non-flit one (log entry 104). -/
def State.lenDefault (s : State) (p : Nat) : Word :=
  if s.fd (R.PRT_CTX_ROLE p) = 3 then 0x000100F000000001#64
  else if s.fb (R.PRT_LSTS_FLIT p) then 0x115BF000#64
  else 0x1000F800#64

/-! ### Policers (R350–R356) -/

/-- The words of a policer in force (R352): RATE and BURST. -/
def State.polRate (s : State) (i : Nat) : Word := s.sch.polCfg.get 0 (2 * i)
def State.polBurst (s : State) (i : Nat) : Word := s.sch.polCfg.get 0 (2 * i + 1)

/-- Policer `i` charged with `l` bytes (R354): 0 green, 1 yellow, 2 red. -/
def State.police (s : State) (i l : Nat) : State × Nat :=
  if natField 24 1 (s.polRate i).toNat = 0 then (s, 0) else
  let lb := l * 256
  let c := s.sch.ctok.get 0 i
  let p := s.sch.ptok.get 0 i
  if p < lb then (s.addFd (R.POL_CNT_RED i) 1, 2)
  else
    let s1 := { s with sch := { s.sch with ptok := s.sch.ptok.set 0 i (p - lb) } }
    if c < lb then (s1.addFd (R.POL_CNT_YEL i) 1, 1)
    else ({ s1 with sch := { s1.sch with ctok := s1.sch.ctok.set 0 i (c - lb) } }, 0)

/-! ### Reports of the buffer (R295, R754) -/

/-- A report of the buffer for a port: an Almanac record, and the event of R754. -/
def State.bufReport (s : State) (port code : Nat) (detail : Word) : State :=
  let on := s.fb R.BUF_CFG_RPTQV
  let q := if on then some (s.fd R.BUF_CFG_RPTQ) else none
  if code = 2 ∨ code = 3 then
    let key := port * 8 + code
    let last := s.gln.rptPs.get 0 key
    let n := s.gln.rptMerged.get 0 key
    if on ∧ last ≠ 0 ∧ s.now < last - 1 + 10 * usPs then
      ({ s with gln := { s.gln with rptMerged := s.gln.rptMerged.set 0 key (n + 1) } }).errorReport .buf 0 none 0 code detail
    else
      let s1 := s.errorReport .buf 0 q n code detail
      if on then { s1 with gln := { s1.gln with
        rptPs := s1.gln.rptPs.set 0 key (s.now + 1), rptMerged := s1.gln.rptMerged.set 0 key 0 } }
      else s1
  else s.errorReport .buf 0 q 0 code detail

/-- The detail word of codes 0x0002 and 0x0003. -/
def Pkt.reportDetail (k : Pkt) (port : Nat) : Word := BitVec.ofNat 64 (port + k.sfid * 2 ^ 16 + k.dfid * 2 ^ 32)

/-! ### Ageing (R294–R297) -/

/-- The ageing limit in ps (R284). -/
def State.agelimPs (s : State) : Nat := (let v := s.fd R.BUF_CFG_AGELIM; if v = 0 then 100 else v) * usPs

/-- Whether a packet's age exceeds the limit (R294, R295). -/
def State.overAge (s : State) (k : Pkt) : Bool :=
  s.fb R.BUF_CFG_AGEEN && k.viaLink && k.cls ≠ 15 &&
  decide (s.agelimPs < max ((s.birthNow + 65536 - k.birth) % 65536 * usPs) (s.now - k.arrivedPs))

/-- Whether a check discards a packet for its age: not while the notice store is above its mark (R458). -/
def State.aged (s : State) (k : Pkt) : Bool := s.overAge k && !s.ses.storeHigh

/-- A packet discarded for its age at a check of port `p` (R295). -/
def State.ageOut (s : State) (k : Pkt) (p : Nat) : State :=
  ((s.cntPort p 53 1).bufReport p 2 (k.reportDetail p)).evictPkt k 2

end Sys2Proof.Machine
end

