-- ==== Sys2Proof/Machine/Session.lean ====
section
/-! DEFINITION. Machine/Session.lean: what a node does with the edge-transport messages it consumes (R433–R454, R519–R520, R534)
and with the timers of its sessions. -/

namespace Sys2Proof

open Sys2Proof.Machine

/-! Fields of the sheaf header in SUBJ. -/
def EdgeMsg.subjSes (m : EdgeMsg) : Nat := natField 50 14 m.subj.toNat
def EdgeMsg.subjSeq (m : EdgeMsg) : Nat := natField 32 18 m.subj.toNat
def EdgeMsg.subjDfid (m : EdgeMsg) : Nat := natField 96 16 m.subj.toNat
def EdgeMsg.subjTenant (m : EdgeMsg) : Nat := natField 83 13 m.subj.toNat
def EdgeMsg.subjOrd (m : EdgeMsg) : Nat := natField 118 2 m.subj.toNat
def EdgeMsg.subjClass (m : EdgeMsg) : Nat := natField 120 4 m.subj.toNat
def EdgeMsg.subjSfid (m : EdgeMsg) : Nat := natField 64 16 m.subj.toNat

/-- The record a RECORD message carries. -/
def EdgeMsg.toRec (m : EdgeMsg) : Machine.Rec :=
  let be (w : Nat) : Nat := ofBytesBE (bytesLE 8 w)
  let w2 := be m.arg.toNat
  let b21 := natField 40 8 w2
  { time := BitVec.ofNat 64 (be (m.subj.toNat / 2 ^ 64)), addr := BitVec.ofNat 64 (be (m.subj.toNat % 2 ^ 64)),
    rid := natField 0 16 w2, lendw := natField 16 16 w2, reason := natField 32 8 w2, cls := natField 0 4 b21,
    kind := natField 4 2 b21, taddr := natField 6 1 b21 = 1, remaining := natField 48 16 w2,
    tenant := natField 0 13 m.sctx.toNat }

end Sys2Proof

namespace Sys2Proof.Machine

/-! ### Fences (R255, R256, R518) -/

/-- Item `k.item` of a packet's entry fails (R518, R520): a single item resolves its entry; one write of a run fails alone, and
its packet is accounted for. -/
def State.failPktItem (s : State) (k : Pkt) (reason : Nat) : State :=
  match k.entry with
  | none => s
  | some i =>
    match s.entry? i with
    | none => s
    | some e =>
      if e.runCnt = 0 then s.resolve i reason
      else if e.runout.getLsbD k.item then s
      else
        let s1 := s.failItems i reason [k.item]
        let s2 := match s1.pkt? k.id with
          | none => s1
          | some k =>
            if k.copies ≠ 0 ∨ (k.txPort.isSome ∧ !k.txDone) then s1.setPkt { k with entry := none, dead := true }
            else s1.skipCopy k
        s2.retireIfDone i

/-- Every item held on this node whose packet a condition names fails with a reason. -/
def State.failPkts (s : State) (f : Pkt → Bool) (reason : Nat) : State :=
  (s.pkts.filter f).foldl (fun t k => match t.pkt? k.id with
    | none => t
    | some k => t.failPktItem k reason) s

/-- Whether a packet is held and no copy of it has begun transmission. -/
def Pkt.unsent (k : Pkt) : Bool := k.txPort.isNone && !k.txDone && k.copies = 0

/-- A tenant's fence bit set or cleared (R255, R256); setting it resolves its items held here and not begun (R518). Tenant 0 has
no fence (R248). -/
def State.setFence (s : State) (t : Nat) (on : Bool) : State :=
  if t = 0 then s else
  let w := (s.rg (R.HPL_FENCE (t / 64))).toNat
  let s1 := s.setRg (R.HPL_FENCE (t / 64)) (BitVec.ofNat 64 (setNatField (t % 64) 1 w (if on then 1 else 0)))
  if on ∧ natField (t % 64) 1 w = 0 then
    s1.failPkts (fun k => k.unsent && !kindCpl k.tkind && k.tenant = t && (match k.entry with
      | none => false
      | some i => match s1.entry? i with
        | none => false
        | some e => decide (e.role ≤ 1) && e.state = 1)) 0x07
  else s1

/-! ### Source edge: ACCEPT, RECEIPT, EVICT, FAIL -/

/-- ACCEPT of CODE 0 (R439). -/
def State.onAccept (s : State) (m : EdgeMsg) : State :=
  match s.ses.opening.find? fun o => o.sctx = some m.sctx.toNat with
  | none => s
  | some o =>
    let a := m.arg.toNat
    let rctx := natField 0 16 a
    let node := natField 16 12 a
    let port := natField 28 7 a
    let s1 := { s with ses := { s.ses with opening := s.ses.opening.filter fun y => y.key ≠ o.key } }
    match s.ses.send.find? fun e => match e.2 with
      | none => false
      | some x => x.node = node && x.dport = port && x.cls = o.key.cls.val && !x.closing && x.aborting.isNone with
    | some e =>
      let s2 := { s1 with ses := { s1.ses with
        map := s1.ses.map ++ [(o.key, e.1)]
        stray := s1.ses.stray ++ [(rctx, m.sctx.toNat, o.key.dfid.toNat, s.now)] } }
      (s2.sendMsg 0x09 rctx o.key.dfid.toNat 0 m.sctx.toNat 0 0 0).releaseHeldFor o.key e.1
    | none =>
      let x : SendCtx := { port := o.key.port.val, dfid := o.key.dfid.toNat, cls := o.key.cls.val, node := node, dport := port,
                           rctx := rctx, nextSeq := 0, base := 0, hist := [], notices := [], closing := false,
                           aborting := none, carried := [], lastPs := s.now }
      let s2 := (s1.setSctx m.sctx.toNat (some x)).cntDev 1544 1
      ({ s2 with ses := { s2.ses with map := s2.ses.map ++ [(o.key, m.sctx.toNat)] } }).releaseHeldFor o.key m.sctx.toNat

/-- ACCEPT of CODE 1 (R439): the OPEN is retried. -/
def State.onRefused (s : State) (m : EdgeMsg) : State :=
  let f (o : Opening) : Opening := if o.sctx = some m.sctx.toNat then { o with refused := true, sentPs := s.now } else o
  { s with ses := { s.ses with opening := s.ses.opening.map f } }

/-- The history entry of a covered number (R520). -/
def State.coveredOf (s : State) (k : Pkt) : Option Covered :=
  match k.entry with
  | none => none
  | some i => match s.entry? i with
    | none => none
    | some e => some { seq := k.eseq, dfid := k.dfid, 
                       r := s.itemRecord e k.item 0 (if !kindNp e.tkind then 0 else if kindData e.tkind then 1 else 2) 0 }

/-- Every number of a send context up to `seq` is covered (R446): cells freed, posted items delivered, history kept. -/
def State.coverUpTo (s : State) (c seq : Nat) : State :=
  match s.sctx? c with
  | none => s
  | some x =>
    let d := seqDist x.base seq
    if seqDist x.base x.nextSeq ≤ d then s else
    let ks := s.pkts.filter fun k => k.sctx = some c && decide (seqDist x.base k.eseq ≤ d)
    let hist := x.hist ++ ks.filterMap fun k => s.coveredOf k
    let s1 := s.setSctx c (some { x with base := (seq + 1) % 2 ^ 18, lastPs := s.now, hist := hist.drop (hist.length - 1024) })
    ks.foldl (fun t k =>
      let t0 := if k.entry.isNone && !k.dead then t.pktTraceEnd k 0 false else t
      let t1 := if k.txPort.isSome ∧ !k.txDone then t0.setPkt { k with sctx := none, dead := true } else t0.dropPkt k.id
      match k.entry with
      | none => t1
      | some i => if kindNp k.tkind then t1 else t1.deliverItems i k.item) s1

/-- A notice is answered: the first one that matches (R436). -/
def State.answered (s : State) (c typ : Nat) (f : Notice → Bool) : State :=
  match s.sctx? c with
  | none => s
  | some x =>
    match x.notices.find? fun n => n.typ = typ && f n with
    | none => s
    | some n => s.setSctx c (some { x with notices := x.notices.erase n })

/-- The send context a RECEIPT is for. -/
def State.receiptCtx (s : State) (m : EdgeMsg) : Option (Nat × SendCtx) :=
  match s.sctx? m.sctx.toNat with
  | none => none
  | some x => if x.rctx = m.ses.toNat then some (m.sctx.toNat, x) else none

/-- RECEIPT of CODE 0. -/
def State.onDelivery (s : State) (m : EdgeMsg) : State :=
  match s.receiptCtx m with
  | none => s
  | some (c, x) => (s.cntPort x.port 91 1).coverUpTo c m.seq.toNat

/-- RECEIPT of CODE 1. -/
def State.onRevokeDone (s : State) (m : EdgeMsg) : State :=
  match s.receiptCtx m with
  | none => s
  | some (c, x) => (s.cntPort x.port 91 1).answered c 0x06 fun n => n.seq = m.seq.toNat

/-- RECEIPT of CODE 2. -/
def State.onSkipDone (s : State) (m : EdgeMsg) : State :=
  match s.receiptCtx m with
  | none => s
  | some (c, x) => (s.cntPort x.port 91 1).answered c 0x07 fun n => n.seq = m.seq.toNat && n.arg = m.arg

/-- A send context becomes free with its map entries. -/
def State.freeSctx (s : State) (c : Nat) : State :=
  let s1 := s.setSctx c none
  { s1 with ses := { s1.ses with map := s1.ses.map.filter fun e => e.2 ≠ c } }

/-- RECEIPT of CODE 3 (R450): items up to SEQ are delivered, the others fail, and the context is free. -/
def State.onAbortDone (s : State) (m : EdgeMsg) : State :=
  match s.receiptCtx m with
  | none => s
  | some (c, x) =>
    match x.aborting with
    | none => s
    | some reason =>
      let s1 := (s.cntPort x.port 91 1).coverUpTo c m.seq.toNat
      let ks := s1.pkts.filter fun k => k.sctx = some c
      let s2 := ks.foldl (fun t k =>
        if k.txPort.isSome ∧ !k.txDone then t.setPkt { k with sctx := none, entry := none, dead := true } else t.dropPkt k.id) s1
      (ks.foldl (fun t k => match k.entry with
        | none => t
        | some i => match t.entry? i with
          | none => t
          | some e =>
            if e.runCnt = 0 then t.resolve i reason
            else if e.runout.getLsbD k.item then t
            else (t.failItems i reason [k.item]).retireIfDone i) s2).freeSctx c

/-- RECEIPT of CODE 4 (R439, R441). -/
def State.onCloseDone (s : State) (m : EdgeMsg) : State :=
  if (s.ses.stray.any fun t => t.1 = m.ses.toNat && t.2.1 = m.sctx.toNat) then
    { s with ses := { s.ses with stray := s.ses.stray.filter fun t => !(t.1 = m.ses.toNat && t.2.1 = m.sctx.toNat) } }
  else match s.receiptCtx m with
    | none => s
    | some (c, x) => if x.closing then (s.cntPort x.port 91 1).freeSctx c else s

/-- The source edge's copy of the packet a notice names. -/
def State.copyOf (s : State) (m : EdgeMsg) : Option Pkt :=
  s.pkts.find? fun k => match k.sctx with
    | none => false
    | some c => k.eseq = m.subjSeq && k.dfid = m.subjDfid && (match s.sctx? c with
      | none => false
      | some x => x.rctx = m.subjSes)

/-- Whether a REVOKE commit has superseded the version a packet is stamped with (R291): the revoked versions are kept with the
time of their flip. -/
def State.revokedStamp (s : State) (k : Pkt) : Bool :=
  let at_ := match k.entry with
    | none => k.arrivedPs
    | some i => match s.entry? i with | none => k.arrivedPs | some e => e.allocPs
  s.tbl.revoked.any fun r => r.1 = k.tenant * 2 + k.tver && decide (at_ ≤ r.2)

/-- EVICT at a source edge (R447, R449, R451, R291). -/
def State.onEvict (s : State) (m : EdgeMsg) : State :=
  match s.copyOf m with
  | none => s
  | some k =>
    let kind := m.code.toNat
    let k := { k with copies := k.copies - 1, ageK := kind = 2 }
    let s1 := (s.setPkt k).cntPort k.inPort 64 1
    let queued := (match k.loc with | .queue _ => true | _ => false) && k.txPort.isNone
    if k.dead then (if k.copies = 0 ∧ !(k.txPort.isSome && !k.txDone) then s1.skipCopy k else s1)
    else if (match k.sctx with | none => false | some c => match s.sctx? c with | none => false | some x => x.aborting.isSome) then s1
    else if queued ∨ (k.txPort.isSome ∧ !k.txDone) then s1
    else if s1.revokedStamp k then (match k.entry with
      | none => s1.skipCopy k
      | some _ => s1.failPktItem k 0x08)
    else s1.replayPkt k (kind ≠ 4)

/-- The open entry and item a FAIL names (R520). -/
def State.itemOf (s : State) (m : EdgeMsg) : Option (Entry × Nat) :=
  match s.ldg.entries.find? fun e =>
      e.role = 1 && e.state = 1 && e.sctx.isSome && e.ses = m.subjSes && e.dfid = m.subjDfid &&
      decide (seqDist e.eseq m.subjSeq ≤ e.runCnt) && !e.runout.getLsbD (seqDist e.eseq m.subjSeq) with
  | none => none
  | some e => some (e, seqDist e.eseq m.subjSeq)

/-- A FAIL after its item was retired (R520): a record from the history, or from the FAIL alone. -/
def State.lateFail (s : State) (m : EdgeMsg) : State :=
  let h := s.ses.send.findSome? fun e => match e.2 with
    | none => none
    | some x => if x.rctx = m.subjSes then x.hist.find? fun h => h.seq = m.subjSeq && h.dfid = m.subjDfid else none
  match h with
  | some h => s.putRecord { h.r with time := s.time, reason := m.code.toNat } false 0
  | none => s.putRecord
      { time := s.time, addr := m.arg, rid := 0xFFFF, lendw := 0, reason := m.code.toNat, cls := m.subjClass,
        kind := if m.subjOrd = 0 then 0 else 3, taddr := true, remaining := 0, tenant := m.subjTenant } false 0

/-- FAIL at a source edge (R447, R451, R520). -/
def State.onFail (s : State) (m : EdgeMsg) : State :=
  let account (t : State) : State := match t.copyOf m with
    | none => t
    | some k =>
      let k := { k with copies := k.copies - 1, dead := true, entry := none }
      if k.copies = 0 ∧ !(k.txPort.isSome && !k.txDone) then t.skipCopy k else t.setPkt k
  match s.itemOf m with
  | some (e, i) =>
    let s1 := match s.copyOf m with
      | none => s
      | some k => s.setPkt { k with copies := max k.copies 1 }
    account (if e.runCnt = 0 then s1.resolve e.idx m.code.toNat else (s1.failItems e.idx m.code.toNat [i]).retireIfDone e.idx)
  | none =>
    match s.copyOf m with
    | none => s.lateFail m
    | some k => if k.dead ∧ k.delivered then account (s.lateFail m) else account s

/-! ### Destination edge: OPEN, REVOKE, SKIP, ABORT, CLOSE -/

/-- OPEN (R439, R440). A repeated OPEN is answered alike. -/
def State.onOpen (s : State) (m : EdgeMsg) : State :=
  let a := m.arg.toNat
  let reply := natField 48 16 a
  let node := natField 32 12 a
  let sport := natField 0 8 a
  let lport := s.fd (R.FIDT_DEST_LPORT m.dfid.toNat s.rver)
  let accept (t : State) (r : Nat) : State :=
    t.sendMsg 0x02 r reply 0 m.sctx.toNat 0 0
      (BitVec.ofNat 64 (r + s.fd R.GLB_MODE_NODE * 2 ^ 16 + lport * 2 ^ 28))
  match s.ses.recv.find? fun e => match e.2 with
    | none => false
    | some x => x.node = node && x.sport = sport && x.sctx = m.sctx.toNat && x.replyFid = reply && x.cls = m.code.toNat with
  | some e => accept s e.1
  | none =>
    match pickFree 16384 (0 :: s.ctxUsed) s.fv with
    | none => (s.addFd R.SES_CNT_REFUSED 1).sendMsg 0x02 0 reply 1 m.sctx.toNat 0 0 0
    | some r =>
      let x : RecvCtx := { node := node, sport := sport, cls := m.code.toNat, replyFid := reply, sctx := m.sctx.toNat,
                           port := lport, next := 0, consumed := [], coverable := [], covered := 2 ^ 18 - 1, newCov := 0,
                           oldestCovPs := 0, revokes := [] }
      let s1 := s.bumpFv.setRctx r (some x)
      accept { s1 with ses := { s1.ses with gone := s1.ses.gone.set none r none } } r

/-- A packet of a receive context is discarded before its transmission; `report` gives the FAIL. -/
def State.dropDest (s : State) (r : Nat) (k : Pkt) (report : Option Nat) : State :=
  let delivered := match k.loc with | .queue _ => true | _ => false
  let s1 := match report with
    | none => s
    | some code => s.sendFail k code
  let s2 := match k.entry with
    | none => s1
    | some e =>
      let t := s1.itemTraceEnd e 0 (report.getD 0) true
      (match t.entry? e with | none => t | some x => t.tagLost x (report.getD 0)).delEntry e
  let s3 := s2.dropPkt k.id
  match report with
  | none => s3
  | some _ => if delivered then s3.coverable r k.eseq else s3.consume r k.eseq

/-- The packets of a receive context held on this node that have not begun transmission. -/
def State.destPkts (s : State) (r : Nat) : List Pkt :=
  s.pkts.filter fun k => k.rctx = some r && k.txPort.isNone && (match k.loc with
    | .queue _ => true | .reseq _ _ => true | .arrival _ => true | _ => false)

/-- REVOKE (R219, R436, R454). -/
def State.onRevoke (s : State) (m : EdgeMsg) : State :=
  let r := m.ses.toNat
  match s.rctx? r with
  | none => s
  | some x =>
    let t := natField 0 13 m.arg.toNat
    let b := m.seq.toNat
    let s1 := if x.revokes.contains (t, b) then s else
      let s1 := s.setRctx r (some { x with revokes := x.revokes ++ [(t, b)] })
      let s2 := (s1.destPkts r).foldl (fun u k =>
        if k.tenant = t ∧ seqDist k.eseq b < 2 ^ 17 then u.dropDest r k (some 0x08) else u) s1
      s2.advanceNext r (s2.pkts.length + x.consumed.length + 1024)
    s1.answer r 1 b 0

/-- SKIP (R436, R444, R451): numbers not held and not covered count as consumed. -/
def State.onSkip (s : State) (m : EdgeMsg) : State :=
  let r := m.ses.toNat
  match s.rctx? r with
  | none => s
  | some x =>
    let n := natField 0 10 m.arg.toNat + 1
    let s1 := (List.range n).foldl (fun t i =>
      let q := (m.seq.toNat + i) % 2 ^ 18
      let held := t.pkts.any fun k => k.rctx = some r && k.eseq = q
      let covered := match t.rctx? r with
        | none => true
        | some y => decide (seqDist q y.covered < 2 ^ 17) || y.coverable.contains q
      if held || covered then t else t.consume r q) s
    (s1.advanceNext r (s1.pkts.length + x.consumed.length + n + 1)).answer r 2 m.seq.toNat m.arg

/-- A receive context ends (R441, R450) and goes on answering copies of the notice that ended it (R436). -/
def State.endRctx (s : State) (r code seq : Nat) : State :=
  match s.rctx? r with
  | none => match s.ses.gone.get none r with
    | none => s
    | some (fid, sc, q) => s.sendMsg 0x03 r fid code sc (if code = 3 then q else 0) 0 0
  | some x =>
    let s1 := s.answer r code seq 0
    let s2 := s1.setRctx r none
    { s2 with ses := { s2.ses with gone := s2.ses.gone.set none r (some (x.replyFid, x.sctx, seq)) } }

/-- ABORT (R450). -/
def State.onAbort (s : State) (m : EdgeMsg) : State :=
  let r := m.ses.toNat
  match s.rctx? r with
  | none => s.endRctx r 3 0
  | some x => ((s.destPkts r).foldl (fun t k => t.dropDest r k none) s).endRctx r 3 x.point

/-- CLOSE (R439, R441). -/
def State.onClose (s : State) (m : EdgeMsg) : State := s.endRctx m.ses.toNat 4 0

/-! ### RECORD and RACK (R534, R535) -/

/-- RECORD at a home node: logged once among the last 1,024 tokens of its source node, and answered. It is answered once it has a
place in this node's overflow store (log entry 32). -/
def State.onRecord (s : State) (m : EdgeMsg) : State :=
  let src := m.sfid.toNat
  let seen := s.ldg.seenTokens.get [] src
  let rack (t : State) : State := t.sendMsg 0x0C 0 src 0 0 m.seq.toNat 0 0
  if seen.contains m.seq.toNat then rack s
  else
    let r := m.toRec
    if !s.recordRoom r.tenant then s
    else
      let r := if r.reason = 6 then { r with rid := s.hostRid r.tenant (s.tntVer r.tenant) r.rid } else r
      let seen := seen ++ [m.seq.toNat]
      rack { s with ldg := { s.ldg with
        overflow := s.ldg.overflow ++ [({ r := r, dest := RecDest.log (some r.tenant) } : WaitRec)]
        seenTokens := s.ldg.seenTokens.set [] src (seen.drop (seen.length - 1024)) } }

/-- Whether a waiting record is sent, with a token, to a home node (any home node for none). -/
def WaitRec.sentTok (w : WaitRec) (hfid : Option Nat) (tok : Nat) : Bool :=
  match w.dest with
  | .home h x _ true => x = tok && (match hfid with | none => true | some f => h = f)
  | _ => false

/-- RACK: the record with the token leaves the overflow store; entries that wait for room go on (R533). -/
def State.onRack (s : State) (m : EdgeMsg) : State :=
  let tok := m.seq.toNat
  let a := s.ldg.overflow.find? fun w => w.sentTok (some m.sfid.toNat) tok
  let b := s.ldg.overflow.find? fun w => w.sentTok none tok
  match (if a.isSome then a else b) with
  | none => s
  | some w => ((({ s with ldg := { s.ldg with overflow := s.ldg.overflow.erase w } }).cntDev 1547 1).sendRecords).resumeResolving

/-! ### Timers of sessions -/

/-- RTMO of a timer that started at a time (R461). -/
def State.rtmoPs (s : State) (t : Nat) : Nat := s.fdAt R.SES_CFG_RTMO t * usPs

/-- The packet of least `sentPs` among those of a send context that a condition names. -/
def State.earliest (s : State) (c : Nat) (f : Pkt → Bool) : Option Pkt :=
  (s.pkts.filter fun k => k.sctx = some c && f k).foldl (fun b k => match b with
    | none => some k
    | some x => if k.sentPs < x.sentPs then some k else b) none

/-- RTIM expires at a receive context (R445). -/
def State.rtimExpiry (s : State) (r : Nat) : State :=
  match s.rctx? r with
  | none => s
  | some x => if x.newCov = 0 then s else (s.waitUntil (x.oldestCovPs + s.fdAt R.SES_CFG_RTIM x.oldestCovPs * 100 * nsPs)).receipt r

/-- RTMO expires for the packet sent longest ago and not covered (R448). -/
def State.rtmoExpiry (s : State) (c : Nat) : State :=
  match s.sctx? c with
  | none => s
  | some x =>
    if x.aborting.isSome then s else
    match s.earliest c fun k => !k.dead && k.loc = .held && k.txDone with
    | none => s
    | some k =>
      let s1 := s.waitUntil (k.sentPs + s.rtmoPs k.sentPs)
      if s1.revokedStamp k ∧ k.entry.isSome then s1.failPktItem k 0x08 else s1.replayPkt k true

/-- The notice of a send context that was sent longest ago. -/
def SendCtx.oldestNotice (x : SendCtx) : Option Notice :=
  x.notices.foldl (fun b n => match b with
    | none => some n
    | some y => if n.sentPs < y.sentPs then some n else b) none

/-- The CLOSE of a receive context that ACCEPT named in vain is sent again (R439). -/
def State.strayAgain (s : State) (c r fid at_ : Nat) : State :=
  let s1 := s.waitUntil (at_ + s.rtmoPs at_)
  ({ s1 with ses := { s1.ses with stray := s1.ses.stray.map fun t =>
      if t = (r, c, fid, at_) then (r, c, fid, s1.now) else t } }).sendMsg 0x09 r fid 0 c 0 0 0

/-- A notice of a send context is sent again (R436). -/
def State.noticeAgain (s : State) (c : Nat) (x : SendCtx) (n : Notice) : State :=
  let s1 := s.waitUntil (n.sentPs + s.rtmoPs n.sentPs)
  (s1.setSctx c (some { x with notices := x.notices.map fun y => if y = n then { y with sentPs := s1.now } else y })).sendSrc
    c n.typ n.code n.seq n.arg

/-- The notice sent longest ago is sent again after RTMO without an answer (R436, R439). -/
def State.noticeRetry (s : State) (c : Nat) : State :=
  let own := (s.sctx? c).bind fun x => x.oldestNotice.map fun n => (x, n)
  match s.ses.stray.find? (fun t => t.2.1 = c), own with
  | none, none => s
  | none, some (x, n) => s.noticeAgain c x n
  | some (r, _, fid, at_), none => s.strayAgain c r fid at_
  | some (r, _, fid, at_), some (x, n) => if n.sentPs < at_ then s.noticeAgain c x n else s.strayAgain c r fid at_

/-- An OPEN is tried again: after RTMO without an answer, then every 10 µs (R439). -/
def State.openAgain (s : State) (key : OpenKey) : State :=
  match s.ses.opening.find? fun o => o.key = key with
  | none => s
  | some o =>
    if (s.at (.openHold key)).isEmpty then
      { s with ses := { s.ses with opening := s.ses.opening.filter fun y => y.key ≠ key } }
    else
      let s1 := s.waitUntil (o.sentPs + (if o.refused then 10 * usPs else s.rtmoPs o.sentPs))
      let s2 := s1.sendOpen o
      { s2 with ses := { s2.ses with opening := s2.ses.opening.map fun y =>
          if y.key = key then { y with refused := true } else y } }

/-- An idle session is closed (R441). -/
def State.idleClose (s : State) (c : Nat) : State :=
  match s.sctx? c with
  | none => s
  | some x =>
    if x.closing ∨ x.aborting.isSome ∨ x.notices ≠ [] ∨ (s.pkts.any fun k => k.sctx = some c) then s
    else
      let s1 := (s.waitUntil (x.lastPs + s.fdAt R.SES_CFG_IDLE x.lastPs * 10 * usPs)).setSctx c (some { x with closing := true })
      ({ s1 with ses := { s1.ses with map := s1.ses.map.filter fun e => e.2 ≠ c } }).notice c 0x09 0 0 0

/-- The third case of R451: ageing leaves no copy of an item that has its outcome, and its number is skipped. -/
def State.skipAged (s : State) (c : Nat) : State :=
  if !s.fb R.BUF_CFG_AGEEN then s else
  match s.earliest c fun k => k.dead && decide (k.copies ≠ 0) && k.txDone with
  | none => s
  | some k => (s.waitUntil (k.sentPs + s.agelimPs + s.rtmoPs k.sentPs)).skipCopy k

/-- RECORDs to a home node not acknowledged within RTMO are sent again (R534). -/
def State.recordsAgain (s : State) (hfid : Nat) : State :=
  let sentTo (w : WaitRec) : Option (Nat × Nat) := match w.dest with
    | .home h tok at_ true => if h = hfid then some (tok, at_) else none
    | _ => none
  match (s.ldg.overflow.filterMap sentTo).map fun x => x.2 with
  | [] => s
  | t :: ts =>
    let first := ts.foldl min t
    let s1 := s.waitUntil (first + s.rtmoPs first)
    s1.ldg.overflow.foldl (fun u w => match sentTo w with
      | none => u
      | some (tok, at_) =>
        if at_ + s.rtmoPs at_ ≤ s1.now then
          ({ u with ldg := { u.ldg with overflow := u.ldg.overflow.map fun x =>
              if x = w then { x with dest := .home hfid tok u.now true } else x } }).sendRecord w.r hfid tok
        else u) s1

/-! ### Consumption of a message (R434) -/

/-- A message for this node takes effect by its TYPE and CODE. -/
def State.consumeMsg (s : State) (typ : Nat) (m : EdgeMsg) : State :=
  match typ with
  | 0x01 => s.onOpen m
  | 0x02 => if m.code = 0 then s.onAccept m else s.onRefused m
  | 0x03 => match m.code.toNat with
    | 0 => s.onDelivery m
    | 1 => s.onRevokeDone m
    | 2 => s.onSkipDone m
    | 3 => s.onAbortDone m
    | 4 => s.onCloseDone m
    | _ => s
  | 0x04 => s.onEvict m
  | 0x05 => s.onFail m
  | 0x06 => s.onRevoke m
  | 0x07 => s.onSkip m
  | 0x08 => s.onAbort m
  | 0x09 => s.onClose m
  | 0x0A => s.setFence (natField 0 13 m.arg.toNat) (m.code = 1)
  | 0x0B => s.onRecord m
  | 0x0C => s.onRack m
  | _ => s

end Sys2Proof.Machine
end

