-- ==== Sys2Proof/Machine/TableOps.lean ====
section
/-! DEFINITION. Machine/TableOps.lean: writes of the versioned tables (R158–R162, R189) by registers and by stores. -/

namespace Sys2Proof.Machine

/-- The tenant a job concerns, none for the routing tables. -/
def TblJob.who : TblJob → Option Nat
  | .commit t _ => some t
  | .sync t => some t
  | .route _ _ => none
  | .syncRoute _ => none

/-- Whether a drain is incomplete. -/
def State.draining (s : State) (who : Option Nat) : Bool := s.tbl.drain.get [] (drainKey who) ≠ []

/-- Whether a commit or synchronisation of a tenant or of the routing tables runs, or its drain is incomplete (R161). -/
def State.tblBusy (s : State) (who : Option Nat) : Bool :=
  (match s.tbl.job with | some j => j.who = who | none => false) || s.draining who

/-- Whether a write to copy `v`, selected by `who`'s version, is discarded (R161). -/
def State.copyBarred (s : State) (who : Option Nat) (v : Nat) : Bool :=
  (match who with | some t => s.tntVer t = v | none => s.rver = v) || s.tblBusy who

/-- Whether a write at a byte of table memory is discarded with TBL_STS.INUSE (R161, R189). -/
def State.tblBarred (s : State) (a : Nat) : Bool :=
  if a < 0x400000 then s.copyBarred (some (a / 512)) (a % 512 / 256)
  else if a < 0x800000 then
    let w := (a - 0x400000) / 256
    let o := a % 256
    if o < 0x40 then s.fb (R.WIN_CTL_VALID w 0) || s.fb (R.WIN_CTL_VALID w 1) || s.draining (some (s.fd (R.WIN_OWN_TENANT w)))
    else if o < 0xC0 then s.copyBarred (some (s.fd (R.WIN_OWN_TENANT w))) ((o - 0x40) / 64)
    else false
  else if a < 0xC00000 then s.copyBarred none (a % 64 / 32)
  else if a < 0xC10000 then s.copyBarred none (a % 64 / 32)
  else if 0x1000000 ≤ a ∧ a < 0x1400000 then s.copyBarred none ((a - 0x1000000) / 0x200000)
  else false

/-- The bits of an 8-byte word of table memory that a write changes: those its register table gives, or all. -/
def tblMask (a : Nat) : Word :=
  let off : Option Nat := if 0x000000 ≤ a ∧ a < 0xC00000 then some (a + 0x800000)
    else if a < 0xC10000 then some (a - 0xC00000 + 0x7E0000) else none
  match off with
  | none => BitVec.allOnes 64
  | some o => match findReg o with
    | none => 0
    | some h => BitVec.ofNat 64 h.row.rw

/-- The bytes that a write of `b` at `a` leaves there. -/
def State.tblByte (s : State) (a : Nat) (b : Byte) : Byte :=
  let m := BitVec.ofNat 8 (natField (8 * (a % 8)) 8 (tblMask (a / 8 * 8)).toNat)
  (b &&& m) ||| (s.tByte a &&& ~~~m)

def State.tblMerge (s : State) : Nat → List Byte → List Byte
  | _, [] => []
  | a, b :: bs => s.tblByte a b :: s.tblMerge (a + 1) bs

/-- A write of bytes to table memory, by a store, a register or the aperture: discarded where R161 or R189 says so, else in the
bits that are written. -/
def State.tblStore (s : State) (a : Nat) (bs : List Byte) : State :=
  if s.tblBarred a then s.setFb R.TBL_STS_INUSE true else s.storeTable a (s.tblMerge a bs)

end Sys2Proof.Machine
end

