-- ==== Sys2Proof/Machine/Commit.lean ====
section
/-! DEFINITION. Machine/Commit.lean: the commit engine (R210–R221, R750), the checks of a commit (R164, R167, R169, R183,
R194–R196, R198, R245) and the fixed-equal-share fall-back (R171–R173). -/

namespace Sys2Proof.Machine

/-- Why a request is refused: RCODE, and the offending and the conflicting entry where there are such (R210). -/
structure Reject where
  code : Nat
  entry : Option Nat
  other : Option Nat
  deriving DecidableEq, Repr

/-- The first of a list of findings. -/
def firstBad (l : List (Option Reject)) : Option Reject := l.findSome? id

/-! ### The checks, on the state as the flip would leave it -/

/-- The valid windows of a tenant. -/
def State.winsOf (s : State) (t : Nat) : List Nat :=
  s.listedWin.filter fun w => s.fd (R.WIN_OWN_TENANT w) = t && s.fb (R.WIN_CTL_VALID w (s.tntVer t))

/-- The owner of a FID under the routing version in force. -/
def State.ownerOf (s : State) (f : Nat) : Option Nat :=
  if s.fb (R.FIDT_CTL_VALID f s.rver) then some (s.fd (R.FIDT_CTL_OWNER f s.rver)) else none

/-- The FIDs a window reaches (R191). -/
def State.winTargets (s : State) (w v : Nat) : List Nat :=
  (List.range (2 ^ s.winWays w v)).map fun i => s.fd (R.WIN_CTL_TFID w v) + i

/-- First and last target address of a window (R194). -/
def State.winRange (s : State) (w v : Nat) : Nat × Nat :=
  let x := s.fd (R.WIN_XOFF_XOFF w v) * 4096
  ((s.winBase w v + x) % 2 ^ 64, (s.winLast w v + x) % 2 ^ 64)

/-- Whether a window names a tenant in its grant. -/
def State.grants (s : State) (w v t : Nat) : Bool :=
  s.fb (R.WIN_CTL_GRANTV w v) && s.fd (R.WIN_CTL_GRANT w v) = t

/-- R194 rule 1. -/
def State.ruleOverlap (s : State) (t : Nat) : Option Reject :=
  let v := s.tntVer t
  let ws := s.winsOf t
  ws.findSome? fun w => (ws.find? fun x => decide (x < w) && decide (s.winBase x v ≤ s.winLast w v) &&
    decide (s.winBase w v ≤ s.winLast x v)).map fun x => ⟨2, some w, some x⟩

/-- R194 rule 2. -/
def State.ruleTarget (s : State) (t : Nat) : Option Reject :=
  let v := s.tntVer t
  (s.winsOf t).findSome? fun w => ((s.winTargets w v).find? fun f => match s.ownerOf f with
    | none => true
    | some o => decide (o ≠ t) && !s.grants w v o).map fun f => ⟨4, some w, some f⟩

/-- R194 rule 3. -/
def State.ruleShare (s : State) (t : Nat) : Option Reject :=
  let v := s.tntVer t
  (s.winsOf t).findSome? fun w => (s.listedWin.find? fun x =>
    let u := s.fd (R.WIN_OWN_TENANT x)
    let y := s.tntVer u
    decide (u ≠ t) && decide (u ≠ 0) && s.fb (R.WIN_CTL_VALID x y) &&
    ((s.winTargets w v).any fun f => (s.winTargets x y).contains f) &&
    decide ((s.winRange w v).1 ≤ (s.winRange x y).2) && decide ((s.winRange x y).1 ≤ (s.winRange w v).2) &&
    !s.grants w v u && !s.grants x y t).map fun x => ⟨3, some w, some x⟩

/-- R194 rule 4. -/
def State.ruleForm (s : State) (t : Nat) : Option Reject :=
  let v := s.tntVer t
  ((s.winsOf t).find? fun w =>
    let x := s.fd (R.WIN_XOFF_XOFF w v) * 4096
    let iw := s.fd (R.WIN_HDM_IW w v)
    let ig := s.fd (R.WIN_HDM_IG w v)
    decide (s.winLast w v < s.winBase w v) || decide ((s.winBase w v + x) / 2 ^ 64 ≠ (s.winLast w v + x) / 2 ^ 64) ||
    (s.fb (R.WIN_CTL_HDM w v) && (decide (4 < iw) || decide (6 < ig) ||
      decide ((s.winLast w v + 1 - s.winBase w v) % (2 ^ iw * (256 * 2 ^ ig)) ≠ 0)))).map fun w => ⟨6, some w, none⟩

/-- R194 and R195: the windows of a tenant. -/
def State.ruleWindows (s : State) (t : Nat) : Option Reject :=
  firstBad [s.ruleOverlap t, if t = 0 then none else s.ruleTarget t, if t = 0 then none else s.ruleShare t, s.ruleForm t]

/-- R183: the ID-map ranges of a tenant. -/
def State.ruleIdMap (s : State) (t : Nat) : Option Reject :=
  let v := s.tntVer t
  let l := (List.range 24).filter fun i => s.fb (R.TNT_IDM_V t v i)
  let lr (i : Nat) := s.fd (R.TNT_IDM_LRID t v i)
  let fd (i : Nat) := s.fd (R.TNT_IDM_FID t v i)
  let ct (i : Nat) := s.fd (R.TNT_IDM_CNT t v i)
  l.findSome? fun i =>
    if 0xFFFF < lr i + ct i ∨ 0xFFFF < fd i + ct i then some ⟨5, some i, none⟩
    else (l.find? fun j => decide (j < i) && ((decide (lr j ≤ lr i + ct i) && decide (lr i ≤ lr j + ct j)) ||
      (decide (fd j ≤ fd i + ct i) && decide (fd i ≤ fd j + ct j)))).map fun j => ⟨5, some i, some j⟩

/-- R169: profile and group of a tenant. -/
def State.ruleGroup (s : State) (t : Nat) : Bool :=
  let g := s.fd (R.TNT_CFG_PGRP t (s.tntVer t))
  decide (t ≠ 0) && s.tntValid t &&
  (s.strict t != s.fb (R.TBL_PG_CFG_STRICT g) ||
   (s.fb (R.TBL_PG_CFG_STRICT g) && decide (s.fd (R.TBL_PG_CFG_SLOTS g) < (s.groupTenants g).length)))

/-- The checks of a tenant commit in the order of R213. -/
def State.checkTenant (s : State) (t : Nat) : Option Reject :=
  let v := s.tntVer t
  firstBad
    [if s.tntValid t ∧ s.fd (R.TNT_CFG_FAILRD t v) = 3 then some ⟨6, none, none⟩ else none,
     if 327680 < s.tntRsvTotal then some ⟨7, none, none⟩ else none,
     if s.ruleGroup t then some ⟨8, none, none⟩ else none,
     s.ruleIdMap t, s.ruleWindows t]

/-- R198: an exact entry. -/
def State.badExact (s : State) (f : Nat) : Bool :=
  let v := s.rver
  let hops := (List.range (s.fd (R.FIDT_CTL_NHOP f v) + 1)).map fun k => s.fd (R.FIDT_HOPS_HOP f v k)
  let r := s.fd (R.PRT_CTX_ROLE (s.fd (R.FIDT_DEST_LPORT f v)))
  (s.fb (R.FIDT_CTL_LOCAL f v) && decide (r ≠ 1) && decide (r ≠ 2)) ||
  (s.fb (R.FIDT_CTL_VALID f v) &&
    (s.fd (R.FIDT_CTL_HOPLIM f v) = 0 || (!s.fb (R.FIDT_CTL_LOCAL f v) && hops.any fun h => !s.nativeRole h)))

/-- R198: a prefix entry. -/
def State.badPrefix (s : State) (i : Nat) : Bool :=
  let v := s.rver
  let hops := (List.range (s.fd (R.FIDT_PFX_CTL_NHOP i v) + 1)).map fun k => s.fd (R.FIDT_PFX_HOPS_HOP i v k)
  (s.fd (R.FIDT_PFX_CTL_LOCAL i v) ≠ 0 || s.fd (R.FIDT_PFX_CTL_HOST i v) ≠ 0 || s.fd (R.FIDT_PFX_CTL_OWNER i v) ≠ 0) ||
  (s.fb (R.FIDT_PFX_CTL_VALID i v) &&
    (s.fd (R.FIDT_PFX_CTL_HOPLIM i v) = 0 || decide (16 < s.fd (R.FIDT_PFX_MATCH_LEN i v)) || hops.any fun h => !s.nativeRole h))

/-- R198: two valid prefix entries alike. -/
def State.rulePrefixTwice (s : State) : Option Reject :=
  let v := s.rver
  let l := s.listedPfx.filter fun i => s.fb (R.FIDT_PFX_CTL_VALID i v)
  l.findSome? fun i => (l.find? fun j => decide (j < i) && s.fd (R.FIDT_PFX_MATCH_VALUE i v) = s.fd (R.FIDT_PFX_MATCH_VALUE j v)
    && s.fd (R.FIDT_PFX_MATCH_LEN i v) = s.fd (R.FIDT_PFX_MATCH_LEN j v)).map fun j => ⟨6, some i, some j⟩

/-- The firmware tables of a kind. -/
def State.ftbls (s : State) (kind : Nat) : List Nat :=
  ((List.range 48).map fun i => i + 16).filter fun n => s.fd (R.HPL_FTBL_KIND n) = kind

/-- The valid entries, by address, of the routing version's copies of the ternary tables (R244, R245). -/
def State.ternEntries (s : State) : List Nat :=
  ((s.ftbls 2).map fun n =>
    let b := s.ftblCopy n s.rver
    let len := 64 * 2 ^ s.fd (R.HPL_FTBL_LOGSZ n)
    (s.tmem.filter fun e => decide (b ≤ e.1) && decide (e.1 < b + len) && (e.1 - b) % 64 = 40 && e.2.getLsbD 0).map
      fun e => e.1 - 40).flatten

/-- The checks of a routing commit (R196, R198, R245); `s0` is the state before. -/
def State.checkRoute (s s0 : State) : Option Reject :=
  let owners := ((s.listedWin.map fun w => s.fd (R.WIN_OWN_TENANT w)).dedup).filter fun t => t ≠ 0
  let moved := s.listedFid.filter fun f => s.ownerOf f ≠ s0.ownerOf f
  let idm := (s.listedTnt.filter fun t => s.tntValid t).findSome? fun t =>
    let v := s.tntVer t
    ((List.range 24).find? fun i => s.fb (R.TNT_IDM_V t v i) && moved.any fun f =>
      decide (s.fd (R.TNT_IDM_FID t v i) ≤ f) && decide (f ≤ s.fd (R.TNT_IDM_FID t v i) + s.fd (R.TNT_IDM_CNT t v i))).map
      fun i => (⟨4, some i, none⟩ : Reject)
  firstBad
    [owners.findSome? fun t => firstBad [s.ruleTarget t, s.ruleShare t], idm,
     (s.listedFid.find? fun f => s.badExact f).map fun f => ⟨6, some f, none⟩,
     (s.listedPfx.find? fun i => s.badPrefix i).map fun i => ⟨6, some i, none⟩,
     s.rulePrefixTwice,
     if 8192 < s.ternEntries.length then some ⟨6, none, none⟩ else none]

/-! ### Requests (R210–R213, R750) -/

/-- The end of a request: BUSY clears and DONE is set. -/
def State.tblDone (s : State) : State :=
  (({ s with tbl := { s.tbl with job := none } }).setFb R.TBL_STS_BUSY false).setFb R.TBL_STS_DONE true

/-- A rejection (R213). An entry the spec does not name is a free value. -/
def State.tblReject (s : State) (r : Reject) : State :=
  let s := match s.tbl.job with | some (.commit _ _) => s.cntDev 1550 1 | some (.route _ _) => s.cntDev 1550 1 | _ => s
  ((((s.tblDone.setFb R.TBL_STS_REJ true).setFd R.TBL_STS_RCODE r.code).setFd R.TBL_STS_ENTRY
    (r.entry.getD (Config.freeWord s.fv).toNat)).setFd R.TBL_STS_OTHER
    (r.other.getD (Config.freeWord (s.fv + 1)).toNat)).bumpFv.bumpFv

/-- A write that requests a job: discarded with LOST while BUSY; else accepted, and rejected at once when its fields are wrong
(R750) or its drain is not complete (R213, R220). -/
def State.tblRequest (s : State) (t : Nat) (route bad : Bool) (j : TblJob) : State :=
  if s.fb R.TBL_STS_BUSY then s.setFb R.TBL_STS_LOST true
  else
    let s1 := ((({ s with tbl := { s.tbl with job := some j } }).setFb R.TBL_STS_BUSY true).setFd R.TBL_STS_TENANT t).setFb
      R.TBL_STS_ROUTE route
    if bad then s1.tblReject ⟨6, some 0, some 0⟩
    else if s.draining j.who then s1.tblReject ⟨1, none, none⟩
    else s1

/-- The state with a tenant's version bit, or the routing version, turned. -/
def State.flipVer (s : State) (who : Option Nat) : State :=
  match who with
  | none => s.setFd R.TBL_RVER_VER (1 - s.rver)
  | some t => s.setRg (R.TBL_ACTV (t / 64)) (s.rg (R.TBL_ACTV (t / 64)) ^^^ (1#64 <<< (t % 64)))

/-- Whether a packet carries a stamp of this node's pipeline and has not begun transmission (R216). -/
def Pkt.stamped (k : Pkt) : Bool :=
  k.txPort.isNone && k.copies = 0 && (match k.loc with | .ingress _ => false | .credit _ => false | .held => false | .mirror _ => false | _ => true) &&
  (match k.origin with | .mirror _ => false | .node => false | _ => true)

/-- The items a drain counts at a flip from version `old` (R216). -/
def State.oldItems (s : State) (who : Option Nat) (old : Nat) : List Pkt :=
  s.pkts.filter fun k => k.stamped && (match who with
    | some t => k.tenant = t && k.tver = old
    | none => k.rverOf = old)

/-- A drain loaded (R213, R216). -/
def State.loadDrain (s : State) (who : Option Nat) (ids : List Nat) : State :=
  let s1 := { s with tbl := { s.tbl with drain := s.tbl.drain.set [] (drainKey who) ids } }
  if ids = [] then
    let s2 := s1.setFb R.TBL_STS_DRAINED true
    if s2.fb R.TBL_CFG_DIE then s2.emit .tableIrq else s2
  else s1

/-- A held item fails by a revoke (R218); one in custody is reported to its source edge. A completion is the response of an item already
delivered, and has no entry (R501): no revoke touches it (log entry 62). -/
def State.revokeItem (s : State) (k : Pkt) : State :=
  match s.pkt? k.id with
  | none => s
  | some k => match k.entry with
    | none => s
    | some i => match s.entry? i with
      | none => s
      | some e =>
        if e.role = 2 then (((s.sendFail k 0x08).itemTraceEnd i 0 0x08 true).delEntry i).dropPkt k.id
        else s.failPktItem k 0x08

/-- The sessions of this node that carried items of a tenant under a version get a revoke notice (R218). -/
def State.sendRevokes (s : State) (t old : Nat) : State :=
  s.ses.send.foldl (fun u e => match e.2 with
    | none => u
    | some x => match x.carried.find? fun y => y.1 = 2 * t + old with
      | none => u
      | some y => if x.aborting.isSome then u else u.notice e.1 0x06 0 y.2 (BitVec.ofNat 64 t)) s

/-- What sessions carried under a version that is in force again is forgotten. -/
def State.freshVersion (s : State) (t v : Nat) : State :=
  { s with ses := { s.ses with send := s.ses.send.map fun (e : Nat × Option SendCtx) =>
      (e.1, e.2.map fun x => { x with carried := x.carried.filter fun y => y.1 ≠ 2 * t + v }) } }

/-- The flip of a tenant's version (R213–R218). -/
def State.flipTenant (s : State) (t : Nat) (revoke : Bool) : State :=
  let old := s.tntVer t
  let items := s.oldItems (some t) old
  let s1 := ((s.flipVer (some t)).freshVersion t (1 - old)).loadDrain (some t) (items.map fun k => k.id)
  if revoke then
    let s2 := { s1 with tbl := { s1.tbl with revoked :=
      (2 * t + old, s.now) :: s1.tbl.revoked.filter fun r => r.1 ≠ 2 * t + old } }
    let s3 := if s.fabric then s2.sendRevokes t old else s2
    ((items.filter fun k => !kindCpl k.tkind).foldl (fun u k => u.revokeItem k) s3).drainCheck
  else s1

/-- The flip of the routing version: HPL_KMASK takes effect (R248) and the match engine is loaded (R245). -/
def State.flipRoute (s : State) : State :=
  let items := s.oldItems none s.rver
  let s1 := s.flipVer none
  let words (a : Nat) : List Word := [s1.tWord a, s1.tWord (a + 8), s1.tWord (a + 16), s1.tWord (a + 24), s1.tWord (a + 32)]
  let kept := s.tbl.ternary.filter fun e => !((s1.ftbls 2).any fun n =>
    decide (s1.ftblCopy n s1.rver ≤ e.1) &&
    decide (e.1 < s1.ftblCopy n s1.rver + 64 * 2 ^ s1.fd (R.HPL_FTBL_LOGSZ n)))
  let tern : SMap (List Word) := s1.ternEntries.foldl (fun (m : SMap (List Word)) a => SMap.set [] m a (words a)) kept
  ({ s1 with tbl := { s1.tbl with kmask := s1.rg R.HPL_KMASK, ternary := tern } }).loadDrain none (items.map fun (k : Pkt) => k.id)

/-- Request Retry Status ends below the virtual downstream ports of a tenant's hosts once its commit completes (R477). -/
def State.rrsClear (s : State) (t : Nat) : State :=
  (s.vdps.map fun x => x.1).foldl (fun u k =>
    if u.fd (R.PRT_CTX_TENANT (k / 256)) = t then u.setVdp (k / 256) (k % 256) { u.vdp (k / 256) (k % 256) with rrs := false }
    else u) s

/-- A running commit ends (R213): with a rejection, or the flip, then DONE. -/
def State.tblFinish (s : State) : State :=
  match s.tbl.job with
  | some (.commit t revoke) => match (s.flipVer (some t)).checkTenant t with
    | some r => s.tblReject r
    | none => ((s.flipTenant t revoke).cntDev 1549 1).tblDone.rrsClear t
  | some (.route _ _) => match (s.flipVer none).checkRoute s with
    | some r => s.tblReject r
    | none => (s.flipRoute.cntDev 1549 1).tblDone
  | _ => s

/-! ### Synchronisation (R220) -/

/-- In an area made of pairs of copies, `off` bytes each, the copy `v` of every pair is written over the other. -/
def State.syncArea (s : State) (base size off v : Nat) : State :=
  let mine (a : Nat) : Bool := decide (base ≤ a) && decide (a < base + size)
  let ver (a : Nat) : Nat := (a - base) / off % 2
  let src := s.tmem.filter fun e => mine e.1 && ver e.1 = v
  let rest := s.tmem.filter fun e => !(mine e.1 && ver e.1 ≠ v)
  (src.foldl (fun (t : State) e => t.setTByte (if v = 0 then e.1 + off else e.1 - off) e.2) { s with tmem := rest }).clearResv
    (fun _ => true) true base size

/-- A running synchronisation ends. -/
def State.tblSynced (s : State) : State :=
  match s.tbl.job with
  | some (.sync t) =>
    let v := s.tntVer t
    let s1 := s.syncArea (512 * t) 512 256 v
    ((s1.listedWin.filter fun w => s1.fd (R.WIN_OWN_TENANT w) = t).foldl
      (fun u w => u.syncArea (0x400000 + 256 * w + 64) 128 64 v) s1).tblDone
  | some (.syncRoute _) =>
    let v := s.rver
    let s1 := ((s.syncArea 0x800000 0x400000 32 v).syncArea 0xC00000 0x10000 32 v).syncArea 0x1000000 0x400000 0x200000 v
    let s2 := (s1.ftbls 1).foldl (fun u n => let l := 128 * 2 ^ u.fd (R.HPL_FTBL_LOGSZ n)
      u.syncArea (u.fd (R.HPL_FTBL_BASE n) * 64) (2 * l) l v) s1
    ((s2.ftbls 2).foldl (fun u n => let l := 64 * 2 ^ u.fd (R.HPL_FTBL_LOGSZ n)
      u.syncArea (u.fd (R.HPL_FTBL_BASE n) * 64) (2 * l) l v) s2).tblDone
  | _ => s

/-! ### Heartbeat and fall-back (R171–R173) -/

def State.hbPeriodPs (s : State) : Nat := s.fd R.TBL_HB_PERIOD * usPs

/-- Whether a kick has arrived within the last PERIOD. -/
def State.kicked (s : State) : Bool :=
  match s.tbl.lastKickPs with | none => false | some k => decide (s.now ≤ k + s.hbPeriodPs)

/-- An error-report event whose code and detail the spec does not give: free values. -/
def State.freeReport (s : State) (src : Src) (unit : Nat) (q : Option Nat) : State :=
  (s.errorReport src unit q 0 ((Config.freeWord s.fv).toNat % 65536) (Config.freeWord (s.fv + 1))).bumpFv.bumpFv

/-- The fall-back is entered (R171, R172). -/
def State.fbEnter (s : State) (command : Bool) : State :=
  if s.fb R.TBL_FB_ACTIVE then s
  else (((s.cntDev 1552 1).setFb R.TBL_FB_ACTIVE true).setFb R.TBL_FB_CAUSE command).freeReport .tbl 0 (Src.tbl.freeQueue 2)

/-- A write to TBL_HB_KICK. -/
def State.hbKick (s : State) (w : Writer) : State :=
  { s with tbl := { s.tbl with
    lastKickPs := some s.now
    kickCluster := match w with | .core c => some c.cluster.val | _ => none } }

/-- A write to TBL_HB: the first period starts at the write that sets EN. -/
def State.hbWrite (s : State) (v : Word) : State :=
  let on := !s.fb R.TBL_HB_EN && wField 32 1 v = 1
  let s1 := (s.setFd R.TBL_HB_PERIOD (wField 0 32 v)).setFd R.TBL_HB_EN (wField 32 1 v)
  if on then { s1 with tbl := { s1.tbl with periodPs := s.now } } else s1

/-- The heartbeat is missed: one PERIOD since the last kick, or since EN was set. -/
def State.hbMiss (s : State) : State :=
  if !s.fb R.TBL_HB_EN || s.fb R.TBL_FB_ACTIVE then s
  else (s.waitUntil (max s.tbl.periodPs (s.tbl.lastKickPs.getD 0) + s.hbPeriodPs)).fbEnter false

/-- A write to TBL_FB (R171, R173). -/
def State.fbWrite (s : State) (enter leave : Bool) : State :=
  let s1 := if enter then s.fbEnter true else s
  if leave && s1.kicked then s1.setFb R.TBL_FB_ACTIVE false else s1

/-! ### The commands -/

/-- R213: TBL_COMMIT for a tenant. -/
def State.tblCommitTenant (s : State) (t : Nat) (revoke : Bool) : State := s.tblRequest t false false (.commit t revoke)
/-- R213, R750: TBL_COMMIT with ROUTE. -/
def State.tblCommitRouting (s : State) (t : Nat) (revoke : Bool) : State :=
  s.tblRequest t true (decide (t ≠ 0) || revoke) (.route t revoke)
/-- R220, R750: TBL_SYNC. -/
def State.tblSyncTenant (s : State) (t : Nat) : State := s.tblRequest t false false (.sync t)
def State.tblSyncRouting (s : State) (t : Nat) : State := s.tblRequest t true (decide (t ≠ 0)) (.syncRoute t)

end Sys2Proof.Machine
end

