-- ==== Sys2Proof/Machine/Coding.lean ====
section
/-! DEFINITION. Machine/Coding.lean: the line coding of a native link (09_fabric_link_phy.md, R365–R370, R373, R382, R383) and the byte image
of a frame (R403, R404, R407): blocks, groups, the RS(544,514) code, interleaving, PAM4, Gray mapping and precoding, training frames. -/

namespace Sys2Proof.Machine

/-! ### Frames and blocks (R365, R403, R404, R407) -/

/-- The link header of a frame (R404). -/
def linkHeader (typ : Nat) (h : FrameHdr) : Nat :=
  typ % 16 * 2 ^ 60 + h.seq.toNat * 2 ^ 48 + h.ack.toNat * 2 ^ 36 + h.cvc.val * 2 ^ 33 + h.ccnt.toNat * 2 ^ 21 + h.dvc.val * 2 ^ 18 +
    h.len.toNat * 2 ^ 10

/-- The CRC-64 of a frame over its bytes 0–247 (R407). -/
def frameCrc (bs : List Byte) : Nat :=
  Nat.xor (crcUnreflected 64 0x42F0E1EBA9EA3693 0xFFFFFFFFFFFFFFFF bs) 0xFFFFFFFFFFFFFFFF

/-- The 256 bytes of a frame (R403). -/
def frameBytes (typ : Nat) (h : FrameHdr) (pay : List Byte) : List Byte :=
  let body := bytesBE 8 (linkHeader typ h) ++ pay ++ List.replicate (240 - pay.length) 0
  body ++ bytesBE 8 (frameCrc body)

/-- The 8 blocks of a frame, 32 bytes each (R365). -/
def frameBlocks (bs : List Byte) : List (List Byte) := (List.range 8).map fun i => (bs.drop (32 * i)).take 32

/-- The bits of a block: byte 0 first, each byte most significant bit first (R365). -/
def blockBits (b : List Byte) : List Bool := (b.map fun x => (List.range 8).map fun i => x.getLsbD (7 - i)).flatten

/-! ### Groups (R366, R373) -/

/-- The group word: SYNC, COUNT, WCODE, ORDER, ARG (R373). -/
def groupWord (count wcode order arg : Nat) : Nat :=
  0xA * 2 ^ 56 + count % 4096 * 2 ^ 44 + wcode % 16 * 2 ^ 40 + order % 256 * 2 ^ 32 + arg % 256 * 2 ^ 24

/-- Bits packed into symbols of 10, the first bit the most significant (R366). -/
def symbolsOf (bits : List Bool) : List Nat :=
  (List.range (bits.length / 10)).map fun i => ((bits.drop (10 * i)).take 10).foldl (fun v b => 2 * v + b.toNat) 0

/-- The message of codeword `j` of a group: blocks 20j to 20j+19, each with its header bit in front (R366). -/
def groupMessage (word : Nat) (blocks : List (List Byte)) (j : Nat) : List Nat :=
  symbolsOf (((List.range 20).map fun i => word.testBit (59 - (20 * j + i)) :: blockBits (blocks.getD (20 * j + i) [])).flatten)

/-! ### RS(544,514) over GF(2^10) (R367) -/

/-- Product in GF(2^10) with the field polynomial x^10 + x^3 + 1, by `n` bits of `b`. -/
def gfMulUpto : Nat → Nat → Nat → Nat
  | 0, _, _ => 0
  | n + 1, a, b =>
    Nat.xor (if b % 2 = 1 then a else 0) (gfMulUpto n (if a.testBit 9 then Nat.xor (2 * a) 0x409 else 2 * a) (b / 2))
def gfMul (a b : Nat) : Nat := gfMulUpto 10 a b

/-- α^i, α being x. -/
def gfPow : Nat → Nat
  | 0 => 1
  | i + 1 => gfMul 2 (gfPow i)

/-- The product of the factors x + α^i, i below `n`: its coefficients, the highest first. -/
def rsGen : Nat → List Nat
  | 0 => [1]
  | n + 1 =>
    let g := rsGen n
    List.zipWith Nat.xor (g ++ [0]) (0 :: g.map fun c => gfMul c (gfPow n))

/-- The 30 parity symbols of a message: the remainder by the generator. -/
def rsParity (msg : List Nat) : List Nat :=
  let g := (rsGen 30).drop 1
  msg.foldl (fun r m =>
    let f := Nat.xor m (r.headD 0)
    List.zipWith Nat.xor (r.drop 1 ++ [0]) (g.map fun c => gfMul c f)) (List.replicate 30 0)

/-- A codeword: the 514 message symbols, then the parity. -/
def rsEncode (msg : List Nat) : List Nat := msg ++ rsParity msg

/-! ### Interleaving and lanes (R368) -/

/-- Group symbol `i`: symbol i div 3 of codeword i mod 3. -/
def groupSymbols (word : Nat) (blocks : List (List Byte)) : List Nat :=
  let cw := (List.range 3).map fun j => rsEncode (groupMessage word blocks j)
  (List.range 1632).map fun i => (cw.getD (i % 3) []).getD (i / 3) 0

/-- The symbols that logical lane `l` of `w` sends of a group. -/
def laneSymbols (w l : Nat) (syms : List Nat) : List Nat := (List.range (syms.length / w)).map fun i => syms.getD (w * i + l) 0

/-! ### PAM4, Gray mapping and precoding (R369, R370) -/

/-- The level of a pair of bits (R370). -/
def grayLevel (pair : Nat) : Nat := match pair % 4 with | 0 => 0 | 1 => 1 | 3 => 2 | _ => 3
/-- The pair of bits of a level. -/
def grayPair (level : Nat) : Nat := match level % 4 with | 0 => 0 | 1 => 1 | 2 => 3 | _ => 2

/-- The five levels of a 10-bit symbol, bits 9:8 first (R369). -/
def symbolLevels (s : Nat) : List Nat := [s / 256, s / 64, s / 16, s / 4, s].map grayLevel

/-- The transmitter's precoder from the level last sent (R370). -/
def precode (y : Nat) : List Nat → List Nat
  | [] => []
  | x :: xs => let z := (x + 4 - y % 4) % 4; z :: precode z xs

/-- The receiver's inverse of it. -/
def unprecode (y : Nat) : List Nat → List Nat
  | [] => []
  | z :: zs => (z + y) % 4 :: unprecode z zs

/-- The levels that a logical lane sends for a run of groups, from the first group sent in FECLOCK: each group's width, word and blocks; the
precoder starts with 0 (R370). -/
def laneLevels (pre : Bool) (l : Nat) (groups : List (Nat × Nat × List (List Byte))) : List Nat :=
  let xs := (groups.map fun g => ((laneSymbols g.1 l (groupSymbols g.2.1 g.2.2)).map symbolLevels).flatten).flatten
  if pre then precode 0 xs else xs

/-! ### Training frames (R382, R383) -/

/-- The control word of a training frame: its CRC-16 is computed over bits [47:0], bit 47 first (R383). -/
def controlWord (lane octet state : Nat) (ready compat wcap16 pre : Bool) (srole treq tsts : Nat) : Nat :=
  let w := lane % 16 + octet % 32 * 2 ^ 4 + state % 8 * 2 ^ 9 + ready.toNat * 2 ^ 12 + compat.toNat * 2 ^ 13 + wcap16.toNat * 2 ^ 14 +
    pre.toNat * 2 ^ 16 + srole % 16 * 2 ^ 17 + treq % 256 * 2 ^ 32 + tsts % 256 * 2 ^ 40
  w + crcUnreflected 16 0x1021 0xFFFF (bytesBE 6 w) * 2 ^ 48

/-- Whether a receiver takes a control word: its CRC holds (R383). -/
def controlOk (w : Nat) : Bool := crcUnreflected 16 0x1021 0xFFFF (bytesBE 6 (w % 2 ^ 48)) = w / 2 ^ 48 % 2 ^ 16

/-- `n` bits of PRBS13 from a state of its register (its polynomial is that of IEEE 802.3, log entry 108). -/
def prbs13 : Nat → Nat → List Nat
  | 0, _ => []
  | n + 1, r =>
    let b := (r / 2 ^ 12 + r / 2 ^ 11 + r / 2 + r) % 2
    b :: prbs13 n (r * 2 % 2 ^ 13 + b)

/-- The 16,384 levels of a training frame on a lane: marker, control word, PRBS13 (R382); never precoded. -/
def trainingFrame (word seed : Nat) : List Nat :=
  ((List.range 64).map fun i => if i / 8 % 2 = 0 then 3 else 0) ++
  ((List.range 64).map fun i => if word.testBit i then 3 else 0) ++
  (let bs := prbs13 32512 seed
   (List.range 16256).map fun i => grayLevel (2 * bs.getD (2 * i) 0 + bs.getD (2 * i + 1) 0))

/-! ### Transmit taps in NX5400 compatibility (R386, R387) -/

/-- The taps (pre, post) of a preset. -/
def tapPreset (i : Nat) : Nat × Nat := match i % 4 with | 0 => (0, 0) | 1 => (0, 8) | 2 => (4, 8) | _ => (6, 12)

/-- Whether taps are within the limits: pre 0–12, post 0–20, and main = 64 − pre − post at least 32. -/
def tapsOk (t : Nat × Nat) : Bool := decide (t.1 ≤ 12) && decide (t.2 ≤ 20) && decide (t.1 + t.2 ≤ 32)

/-- One field of a tap request: the taps it leaves and its status. A request that would break the limits is answered with status 2 (at
minimum) or 3 (at maximum) and is not applied. -/
def tapStep (t : Nat × Nat) (req : Nat) (up down preset : Nat × Nat) (atMin : Bool) : (Nat × Nat) × Nat :=
  match req % 4 with
  | 0 => (t, 0)
  | 1 => if tapsOk up then (up, 1) else (t, 3)
  | 2 => if !atMin && tapsOk down then (down, 1) else (t, 2)
  | _ => if tapsOk preset then (preset, 1) else (t, 3)

/-- A tap request on a lane: the taps it leaves, and the TSTS that answers it. Main follows pre and post, so that a request to move it alone
breaks main = 64 − pre − post (log entry 109). -/
def tapRequest (t : Nat × Nat) (treq : Nat) : (Nat × Nat) × Nat :=
  let p := tapPreset (treq / 64)
  let a := tapStep t treq (t.1 + 1, t.2) (t.1 - 1, t.2) (p.1, if treq / 4 % 4 = 3 then p.2 else t.2) (t.1 = 0)
  let b := tapStep a.1 (treq / 4) (a.1.1, a.1.2 + 1) (a.1.1, a.1.2 - 1) (a.1.1, p.2) (a.1.2 = 0)
  let m := match treq / 16 % 4 with | 0 => 0 | 1 => 3 | 2 => 2 | _ => 1
  (b.1, a.2 + 4 * b.2 + 16 * m)

end Sys2Proof.Machine
end

