-- ==== Sys2Proof/Machine/Program.lean ====
section
/-! DEFINITION. Machine/Program.lean: pipeline programs (R30–R32, R46, R54–R57, R69–R76): the checks of a program commit (R263)
and the run of one header through the 16 stages. -/

namespace Sys2Proof.Machine

/-! ### Program copies -/

/-- The word in slot `i` of stage `k` of copy `v` of program slot `sl` of octet `n`. -/
def State.progWord (s : State) (n sl v k i : Nat) : Nat :=
  natField (32 * (i % 2)) 32 (s.rg (R.HPL_PROG n sl (32 * v + 2 * k + i / 2))).toNat

/-! ### Fields of an instruction word (R38) -/

def wMaj (w : Nat) : Nat := natField 26 6 w
def wDst (w : Nat) : Nat := natField 21 5 w
def wA (w : Nat) : Nat := natField 16 5 w
def wB (w : Nat) : Nat := natField 11 5 w
def wPred (w : Nat) : Nat := natField 8 3 w
def wFn (w : Nat) : Nat := natField 0 8 w
def wImm (w : Nat) : Nat := natField 0 16 w

/-- Whether a word is an LKP or LKPU. -/
def isLkp (w : Nat) : Bool := wMaj w = 0x28 || wMaj w = 0x29

/-- The key length of an LKP descriptor (R54). -/
def lkpLen (w : Nat) : Nat := natField 0 4 w + 1

/-- Whether a word has an encoding of R42–R47, R54 that the pipeline profile allows (RCODE 2). -/
def wordLegal (w : Nat) : Bool :=
  match wMaj w with
  | 0x01 => decide (wFn w ≤ 0x19) && (!(wFn w = 0x14 || wFn w = 0x15) || wB w = 0)
  | 0x02 => decide (wFn w < 8) && decide (wDst w < 8)
  | 0x03 => true
  | 0x04 => true
  | 0x05 => true
  | 0x06 => decide (wA w < 4)
  | 0x07 => decide (natField 10 6 w + natField 4 6 w + 1 ≤ 64) && decide (natField 0 4 w < 2)
  | 0x08 => decide (natField 10 6 w + natField 4 6 w + 1 ≤ 64) && natField 0 4 w = 0
  | 0x20 => true
  | 0x28 => natField 4 1 w = 0 && (decide (lkpLen w ≤ 8) || wA w % 2 = 0)
  | 0x29 => natField 4 1 w = 0 && (decide (lkpLen w ≤ 8) || wA w % 2 = 0)
  | 0x2C => wFn w = 0 && wDst w = 0
  | 0x2D => decide (wFn w < 32) && wDst w = 0 && (natField 2 1 w = 1 || wB w = 0)
  | _ => false

/-- The instructions that the pipeline profile excludes (R75, RCODE 3). -/
def wordExcluded (w : Nat) : Bool :=
  (wMaj w = 0x01 && decide (0x0B ≤ wFn w) && decide (wFn w ≤ 0x0E)) ||
  (decide (0x10 ≤ wMaj w) && decide (wMaj w ≤ 0x16)) || wMaj w = 0x1C || wMaj w = 0x21 || wMaj w = 0x22 ||
  (decide (0x30 ≤ wMaj w) && decide (wMaj w ≤ 0x38))

/-- The register a word writes (R30), g0 left out. -/
def wordWrites (w : Nat) : Option Nat :=
  let m := wMaj w
  if (m = 0x01 ∨ (0x03 ≤ m ∧ m ≤ 0x08) ∨ isLkp w) ∧ wDst w ≠ 0 then some (wDst w) else none

/-- The predicate a word writes, p0 left out. -/
def wordSets (w : Nat) : Option Nat :=
  let p := if wMaj w = 0x02 then wDst w % 8 else if isLkp w then natField 5 3 w else 0
  if p = 0 then none else some p

/-- The target of a branch in slot `i` of stage `k`, counted in slots (R41). -/
def branchTarget (k i w : Nat) : Int := (4 * k + i : Nat) + signedOf 22 (natField 0 22 w)

/-- Whether a branch goes to the first slot of a later stage (R72). -/
def branchOk (k i w : Nat) : Bool :=
  let t := branchTarget k i w
  decide (((4 * (k + 1) : Nat) : Int) ≤ t) && decide (t < 64) && decide (t % 4 = 0)

/-- The rejection code of the word in slot `i` of a bundle; `before` are the words of the bundle's lower slots. The order of the checks
is the model's (DESIGN CHOICE, log entry 91). -/
def State.wordCheck (s : State) (k i : Nat) (before : List Nat) (w : Nat) : Nat :=
  if wordExcluded w then 3
  else if !wordLegal w then 2
  else if isLkp w && before.any isLkp then 4
  else if wMaj w = 0x20 && !branchOk k i w then 5
  else if isLkp w && !s.tableOk (natField 10 6 w) (natField 8 2 w) (lkpLen w) then 6
  else if (match wordWrites w with | none => false | some d => (before.filterMap wordWrites).contains d) ||
      (match wordSets w with | none => false | some p => (before.filterMap wordSets).contains p) then 7
  else match wordWrites w with
    | some d => if 8 ≤ d ∧ d ≤ 11 then 8 else 0
    | none => 0

/-- The first check a copy fails, in stage and slot order: code, stage, slot (R263). -/
def State.progCheck (s : State) (n sl v : Nat) : Option (Nat × Nat × Nat) :=
  (List.range 64).findSome? fun x =>
    let k := x / 4
    let i := x % 4
    let c := s.wordCheck k i ((List.range i).map fun j => s.progWord n sl v k j) (s.progWord n sl v k i)
    if c = 0 then none else some (c, k, i)

/-- Whether a copy runs at half rate (R264). -/
def State.progHalf (s : State) (n sl v : Nat) : Bool :=
  decide (8 < ((List.range 64).filter fun x => isLkp (s.progWord n sl v (x / 4) (x % 4))).length)

/-! ### The run of one header (R70–R73) -/

/-- A header's run: the 32 registers of R30, predicates, the stage to which a branch goes, the executed EMIT (kind, modifiers,
its two operands), counter additions, use marks and spray counters. -/
structure Run where
  r : List Word
  p : BitVec 8
  skipTo : Nat
  emit : Option (Nat × Nat × Word × Word)
  cincs : List (Word × Word)
  marks : List (Nat × Nat)
  sprays : List Nat
  deriving DecidableEq, Repr

def Run.reg (x : Run) (n : Nat) : Word := if n = 0 then 0 else x.r.getD n 0
def Run.setReg (x : Run) (n : Nat) (v : Word) : Run := if n = 0 then x else { x with r := x.r.set n v }
def Run.pred (x : Run) (n : Nat) : Bool := n = 0 || x.p.getLsbD n
def Run.setPred (x : Run) (n : Nat) (b : Bool) : Run :=
  if n = 0 then x else { x with p := if b then x.p ||| (1#8 <<< n) else x.p &&& ~~~(1#8 <<< n) }

/-- One instruction of stage `k`: sources as `x0` stood at the start of the stage, results written to `x` (R70). -/
def State.runWord (s : State) (tver rver k i : Nat) (x0 x : Run) (w : Nat) : Run :=
  let a := x0.reg (wA w)
  let b := x0.reg (wB w)
  let g := x0.pred (wPred w)
  let d := wDst w
  let sfid := wField 0 16 (x0.reg 16)
  let cls := wField 56 4 (x0.reg 16)
  match wMaj w with
  | 0x01 =>
    if wFn w = 0x13 then x.setReg d (if g then a else b)
    else if !g then x
    else if wFn w = 0x19 then x.setReg d (flowHash (s.rg R.HPL_HSEED) a b)
    else x.setReg d (aluOp (wFn w) a b)
  | 0x02 =>
    let c := match wFn w with
      | 0 => condHolds .eq a b | 1 => condHolds .ne a b | 2 => condHolds .lt a b | 3 => condHolds .ge a b
      | 4 => condHolds .ltu a b | 5 => condHolds .geu a b | 6 => condHolds .bs a b | _ => condHolds .bc a b
    if g then x.setPred (d % 8) c else x
  | 0x03 => x.setReg d (a + sextTo 16 (wImm w))
  | 0x04 => x.setReg d (a &&& BitVec.ofNat 64 (wImm w))
  | 0x05 => x.setReg d (a ||| BitVec.ofNat 64 (wImm w))
  | 0x06 => x.setReg d (setWField (16 * (wA w % 4)) 16 (x0.reg d) (wImm w))
  | 0x07 => x.setReg d (extractField a (natField 10 6 w) (natField 4 6 w + 1) (natField 0 1 w = 1))
  | 0x08 => x.setReg d (insertField (x0.reg d) a (natField 10 6 w) (natField 4 6 w + 1))
  | 0x20 =>
    if x0.pred (natField 23 3 w) != (natField 22 1 w = 1) ∧ x.skipTo = 0 then
      { x with skipTo := (branchTarget k i w).toNat / 4 }
    else x
  | 0x2C => if g then { x with cincs := x.cincs ++ [(a, b)] } else x
  | 0x2D => if g ∧ x.emit.isNone then { x with emit := some (natField 0 2 w, natField 2 3 w, a, b) } else x
  | m =>
    if m = 0x28 ∨ m = 0x29 then
      let key := lkpKey (lkpLen w) a (x0.reg (wA w + 1))
      let res := s.lookup (natField 10 6 w) key.1 key.2 (fun _ => tver) rver (flowKey sfid (key.1 % 65536) cls)
      let x1 := (x.setReg d res.word).setPred (natField 5 3 w) res.hit
      { x1 with
        marks := if m = 0x29 then x1.marks ++ res.mark.toList else x1.marks
        sprays := x1.sprays ++ res.spray.toList }
    else x

/-- Stage `k` of a copy, unless a branch or an earlier EMIT suppresses it (R72, R73). -/
def State.runStage (s : State) (n sl v tver rver : Nat) (x : Run) (k : Nat) : Run :=
  if x.emit.isSome ∨ k < x.skipTo then x
  else (List.range 4).foldl (fun y i => s.runWord tver rver k i x y (s.progWord n sl v k i)) { x with skipTo := 0 }

/-- The whole run. -/
def State.runProgram (s : State) (n sl v tver rver : Nat) (x : Run) : Run :=
  (List.range 16).foldl (fun y k => s.runStage n sl v tver rver y k) x

end Sys2Proof.Machine
end

