-- ==== Sys2Proof/Machine/Ingress.lean ====
section
/-! DEFINITION. Machine/Ingress.lean: the ingress queue (R267, R502, R509), the pass of a header through its pipeline (R222–R256),
traps and verdicts (R257–R260). -/

namespace Sys2Proof.Machine

/-! ### The ingress queue -/

/-- The kind of a packet's ingress context (R222). -/
def Pkt.ctxKind (k : Pkt) : Nat :=
  match k.origin with
  | .port _ => if k.cxl.isSome then 1 else 0
  | .dma _ => 2
  | .core _ => 3
  | _ => if k.cls = 15 then 5 else 4

/-- The octet whose pipeline a packet enters. -/
def Pkt.octet (k : Pkt) : Nat := octetOf k.inPort

/-- Whether octet `n`'s ingress queue has room for a header (R267): 240 shared entries, 16 for class C. -/
def State.ingressRoom (s : State) (n : Nat) (classC : Bool) : Bool :=
  let q := (s.at (.ingress n)).filter fun k => decide (k.ctxKind = 5) = classC
  decide (q.length < if classC then 16 else 240)

/-- The role a request's entry is drawn for (R507): source edge or standalone, custody or destination edge. -/
def State.ingressRole (s : State) (k : Pkt) : Nat := if k.native then 2 else if s.fabric then 1 else 0

/-- Whether a packet draws no entry (R501). -/
def Pkt.noEntry (k : Pkt) : Bool := kindCpl k.tkind || k.cls = 15 || (k.mirrored && k.ses = 0)

/-- A header enters its octet's ingress queue with its entry (R502, R509); none when it must wait, as every new request at an edge
does from sag stage 5 (R660). -/
def State.admitHeader (s : State) (k : Pkt) : Option State :=
  if 5 ≤ s.sagStage ∧ !k.native ∧ !k.noEntry ∧ k.originCode = 0 then none
  else if !s.ingressRoom k.octet (decide (k.ctxKind = 5)) then none
  else
    let put (t : State) (k : Pkt) : State := t.movePkt { k with loc := .ingress k.octet, sentPs := t.now }
    if k.noEntry then some (put s k)
    else match s.drawEntry k (s.ingressRole k) with
      | none => none
      | some (s1, i) => some (put s1 { k with entry := some i })

/-- Whether two waiting headers wait for the same credits (R509): the ordering type of an edge port, the VC of a native link. -/
def sameCredit (a b : Pkt) : Bool :=
  a.inPort = b.inPort && a.native = b.native &&
  (if a.native then a.vc = b.vc && decide (a.cls = 15) = decide (b.cls = 15) else a.ord = b.ord)

/-- An arriving header: into the ingress queue, or behind those of its kind that wait for credits. -/
def State.arrive (s : State) (k : Pkt) : State :=
  let k := { k with id := s.pktNext, arrivedPs := s.now }
  let s1 := s.addPkt { k with loc := .credit k.octet }
  if (s.at (.credit k.octet)).any fun x => sameCredit x k then s1
  else (s1.admitHeader { k with loc := .credit k.octet }).getD s1

/-- A waiting header tries again (R509). -/
def State.readmit (s : State) (p : Nat) (ord : Nat) : State :=
  match s.pkts.find? fun k => k.inPort = p && k.ord = ord &&
      (match k.loc with | .credit _ => true | _ => false) &&
      !(s.pkts.any fun x => x.id < k.id && sameCredit x k && (match x.loc with | .credit _ => true | _ => false)) with
  | none => s
  | some k => (s.admitHeader k).getD s

/-! ### Metadata (R235) -/

/-- The lanes of a port in its octet (R462), as a mask; a native link and a x16 port have all eight. -/
def State.lanesOf (s : State) (p : Nat) : Nat :=
  if s.fd (R.PRT_CTX_ROLE p) = 3 then 0xFF else
  let l : List Nat := match s.fd (R.OCT_BIF_CODE (octetOf p)) with
    | 0 => [0xFF]
    | 1 => [0x0F, 0xF0]
    | 2 => [0x0F, 0x30, 0xC0]
    | 3 => [0x03, 0x0C, 0xF0]
    | 4 => [0x03, 0x0C, 0x30, 0xC0]
    | 5 => [0x0F, 0x30, 0x40, 0x80]
    | 6 => [0xFF]
    | _ => []
  l.getD (p % 4) 0

/-- Whether a PCIe/CXL port is a x16 port of an octet pair: both octets have BIF code 6 and the same mode (R10, R462). -/
def State.pciX16 (s : State) (p : Nat) : Bool :=
  let n := octetOf p
  p % 8 = 0 && (s.fd (R.PRT_CTX_ROLE p) = 1 || s.fd (R.PRT_CTX_ROLE p) = 2) &&
  s.fd (R.OCT_BIF_CODE n) = 6 && s.fd (R.OCT_BIF_CODE (n + 1)) = 6 &&
  s.fd (R.PHY_CTL_MODE n) = 1 && s.fd (R.PHY_CTL_MODE (n + 1)) = 1

/-- Whether a port spans an octet pair. -/
def State.spansPair (s : State) (p : Nat) : Bool :=
  if s.fd (R.PRT_CTX_ROLE p) = 3 then (s.phys.get Phy.reset (octetOf p)).x16 else s.pciX16 p

/-- log2 of a port's width. -/
def State.widthLog (s : State) (p : Nat) : Nat :=
  if s.spansPair p then 4 else
  match ((List.range 8).filter fun i => natField i 1 (s.lanesOf p) = 1).length with
  | 8 => 3 | 4 => 2 | 2 => 1 | _ => 0

/-- m0.RATE of a port. -/
def State.rateCode (s : State) (p : Nat) : Nat :=
  if s.fd (R.PRT_CTX_ROLE p) = 3 then (if s.fb (R.PHY_STS_COMPAT (octetOf p)) then 9 else 8) else s.fd (R.PRT_LSTS_RATE p)

/-- The ingress context of a packet (R222). -/
def Pkt.ctxNo (k : Pkt) : Nat := 8 * (if k.native then 0 else k.inPort % 4) + k.ctxKind

def State.metaM0 (s : State) (k : Pkt) : Word :=
  let p := k.inPort
  BitVec.ofNat 64 (k.octet + p % 4 * 2 ^ 5 + p * 2 ^ 8 + s.fd (R.PRT_CTX_ROLE p) * 2 ^ 16 +
    (if s.fb (R.PRT_LSTS_CXL p) then 2 ^ 18 else 0) + (if s.spansPair p then 2 ^ 19 else 0) + k.ctxKind * 2 ^ 20 +
    s.lanesOf p * 2 ^ 24 + s.widthLog p * 2 ^ 32 + s.rateCode p * 2 ^ 36 + k.ctxNo * 2 ^ 40)

/-- m1: tenant, virtual switch, source FID, requester ID as received (for a DMA channel its number). -/
def State.metaM1 (s : State) (k : Pkt) : Word :=
  let up : Bool := s.fd (R.PRT_CTX_ROLE k.inPort) = 1
  BitVec.ofNat 64 (k.tenant + (if up then s.fd (R.PRT_CTX_VS k.inPort) * 2 ^ 16 + 2 ^ 23 else 0) + k.sfid * 2 ^ 24 +
    (match k.origin with
     | .dma c => c % 65536
     | .port _ => if kindCpl k.tkind then wField 40 16 k.m1 else k.reqId
     | _ => k.reqId) * 2 ^ 40)

/-- m3 as a packet arrives: transaction kind, flit mode, payload, address form, length, bytes of OHC and prefixes. -/
def arrivalM3 (tkind : Nat) (flit data a64 : Bool) (lenDw xb : Nat) : Word :=
  BitVec.ofNat 64 (tkind * 2 ^ 16 + (if flit then 2 ^ 24 else 0) + (if data then 2 ^ 25 else 0) +
    (if a64 then 2 ^ 26 else 0) + lenDw % 1024 * 2 ^ 32 + xb * 2 ^ 48)

/-! ### Sampling (R684–R686) -/

/-- The LFSR of octet `n` steps for an entering header; whether the header is sampled. -/
def State.sample (s : State) (n : Nat) : State × Bool :=
  let x := lfsrStep (s.hpl.lfsr.getD (lfsrSeed 1) n)
  ({ s with hpl := { s.hpl with lfsr := s.hpl.lfsr.setD (lfsrSeed 1) n x } },
   decide (x % 2 ^ s.fd R.TRC_CFG_K = 0) && !decide (1 ≤ s.sagStage))

/-- The trace of a header that leaves the pipeline (R687); the address, requester ID and tag are those received. -/
def State.newTrace (s : State) (k k0 : Pkt) (kind : Nat) (sampled tagged : Bool) : Trace :=
  { inTime := BitVec.ofInt 64 (s.nsAt k.sentPs), inPs := k.sentPs, sampled := sampled, tagged := tagged,
    kind := kind, rid := k0.reqId, tag := k0.rspTag, addr := if kindMem k0.tkind || k0.cxl.isSome then k0.addr else 0,
    exitPs := some s.now, enqPs := none, selPs := none, txPs := none, outPort := none, port := k.inPort, tenant := k.tenant,
    len := k.len, ord := k.ord, replayed := false, dfid := k.dfid, sfid := k.sfid, q := 0, ses := 0, eseq := 0 }

/-- A header gets its trace when it is traced (R685): sampled, tagged by TRACE, or flagged on a native link with HONOR; counted as a
header tagged for tracing (R679). -/
def State.withTrace (s : State) (k k0 : Pkt) (kind : Nat) (samp tagged : Bool) : State × Pkt :=
  if s.fb R.TRC_CFG_EN && !decide (1 ≤ s.sagStage) && (samp || tagged || (k0.native && k0.traced && s.fb R.TRC_CFG_HONOR)) then
    (s.cntDev (32 * k.octet + 15) 1, { k with trace := some (s.newTrace k k0 kind samp (tagged || k0.traced)) })
  else (s, { k with trace := none })

/-! ### Exit of a header (R249–R254) -/

/-- A terminal action: kind (0 FWD, 1 DROP, 2 TRAP, 3 SYNTH), MIRROR, TRACE, EVICT, the operand and the mirror session. -/
structure Action where
  kind : Nat
  mirror : Bool
  trace : Bool
  evict : Bool
  oper : Word
  mses : Nat
  deriving DecidableEq, Repr

/-- Whether a packet is in a native context. -/
def Pkt.nativeCtx (k : Pkt) : Bool := decide (4 ≤ k.ctxKind)

/-- The answer to a non-posted item with a completion status, or its form in CXL (R252): its entry is not kept. -/
def State.synthesise (s : State) (k : Pkt) (status : Nat) : State :=
  match k.entry with
  | none => s.dropPkt k.id
  | some i =>
    match s.entry? i with
    | none => s.dropPkt k.id
    | some e =>
      let data := kindData e.tkind && status = 0
      let reason := if status = 4 then 0x0D else 0x0C
      let flit := s.fb (R.PRT_LSTS_FLIT e.inPort)
      let s1 :=
        if e.origin = 1 then
          let o : DmaOutcome := ⟨e.rid, i, 0, e.addr, if status = 0 then some (if data then ones e.respBytes else []) else none,
                                 if status = 0 then 0 else reason⟩
          { s with dma := { s.dma with outcomes := s.dma.outcomes ++ [o] } }
        else if e.origin = 2 then
          s.coreLoadDone (coreOfNum e.rid) i (if status = 0 then .data (ones e.respBytes) else .fault reason)
        else if e.tkind = 0x10 then s.sendCxl e.inPort 0x13 (decide (status ≠ 0)) e.tag (ones 64)
        else if e.tkind = 0x11 then s.sendCxl e.inPort 0x12 false e.tag []
        else if e.tkind = 0x14 then s.sendCxl e.inPort 0x15 false e.tag []
        else s.sendCpl e.inPort status data (if data then ones e.respBytes else []) e.rid e.tag (e.hdrTc flit)
          (e.hdrAttrs flit) e.addr.toNat
      (((s1.cntPort e.inPort 87 1).itemTraceEnd i 0 0 false).releasePkts i).delEntry i

/-- A DROP takes effect (R249–R251). -/
def State.exitDrop (s : State) (k : Pkt) (reason : Nat) : State :=
  let s1 := (s.cntPort k.inPort (if reason < 0x40 then 31 + reason else 51) 1).cntDev (32 * k.octet + 3) 1
  if k.nativeCtx then s1.dropNative k reason
  else if kindCpl k.tkind then
    let k1 := { k with entry := none }
    ((s1.setPkt k1).pktTraceEnd k1 reason true).dropPkt k.id
  else match k.entry with
    | none => s1.dropPkt k.id
    | some i => if 0x40 ≤ reason ∧ kindNp k.tkind then s1.synthesise k 1 else s1.resolve i reason

/-- The queue context of an upstream port for a redirected request (log entry 31). -/
def State.redirectQueue (s : State) (k : Pkt) (p : Nat) : Nat :=
  let key := p + k.cls * 2 ^ 12 + k.tenant * 2 ^ 16 + k.ord * 2 ^ 29
  match s.setLookup (0x1000000 + 0x200000 * k.rverOf) 16384 (Nat.land key s.tbl.kmask.toNat) 0 with
  | none => 0
  | some (_, r) => wField 0 16 r

/-- An action that has become a DROP with a reason. -/
def Action.dropped (a : Action) (reason : Nat) : Action := { a with kind := 1, oper := BitVec.ofNat 64 reason }

/-- Mirror copies at pipeline exit (R253, R306): by the modifier, then by the ingress port. -/
def State.exitMirror (s : State) (k : Pkt) (a : Action) : State :=
  let dropped : Bool := a.kind = 1
  let reason := if dropped then wField 0 8 a.oper else 0
  let s1 := if a.mirror then s.mirrorCopy a.mses k k.inPort reason false dropped else s
  if s1.fb (R.MIR_PSRC_IEN k.inPort) then
    s1.mirrorCopy (s1.fd (R.MIR_PSRC_ISES k.inPort)) k k.inPort reason false dropped
  else s1

/-- A FWD to a configured queue context (R249), through the gate of its virtual switch. The copies made at exit show the outcome (R306). -/
def State.exitFwd (s : State) (k : Pkt) (a : Action) : State :=
  let q := wField 0 16 a.oper
  let s := (s.cntDev (32 * k.octet + 2) 1).setPkt k
  let addrIn := match k.entry with
    | none => k.addr
    | some i => match s.entry? i with | none => k.addr | some e => e.addr
  let fails (r : Nat) : State := (s.exitMirror k (a.dropped r)).exitDrop k r
  if k.nativeCtx then (s.exitMirror k a).forward k q
  else if kindCpl k.tkind then
    (if s.gateCpl k then (s.exitMirror k a).forward k q else (s.exitMirror k (a.dropped 0)).dropPkt k.id)
  else match s.gateOut k addrIn with
    | .pass => (s.exitMirror k a).forward k q
    | .fail r => fails r
    | .miss => (fails s.missReason).bumpFv
    | .status st => if kindNp k.tkind then (s.exitMirror k { a with kind := 3 }).synthesise k st
        else (s.exitMirror k (a.dropped 0)).discard k
    | .drop => (s.exitMirror k (a.dropped 0)).discard k
    | .blocked p v =>
      let s1 := s.setVdp p v { s.vdp p v with acsViol := true }
      if kindNp k.tkind then (s1.exitMirror k { a with kind := 3 }).synthesise k 1 else (s1.exitMirror k (a.dropped 0)).discard k
    | .redirect p _ =>
      let k1 := (k.setHf 0 32 16 (s.fd (R.PRT_CTX_PFID p))).setH 3 (addrIn ||| (k.h 3 &&& 3#64))
      let q1 := s.redirectQueue k1 p
      if s.qOpen q1 then ((s.exitMirror k a).setPkt k1).forward k1 q1 else (s.exitMirror k (a.dropped 1)).exitDrop k1 0x01

/-- The exit precedence from its fourth row (R254): the outcome of an action, with the counters of the rows. -/
def State.exitRows (s : State) (k : Pkt) (a : Action) : State × Action :=
  let drop (r : Nat) : Action := a.dropped r
  let n := k.octet
  match a.kind with
  | 0 =>
    let q := wField 0 16 a.oper
    if !s.qOpen q then ((s.addFd (R.HPL_ERRCNT_QCTX0 n) 1).cntDev (32 * n + 7) 1, drop 0x01)
    else
      let i := wField 16 16 a.oper
      if wField 32 1 a.oper = 1 ∧ i < 16384 ∧ !k.nativeCtx ∧ k.cls ≠ 15 then
        let l := if k.ctxKind ≤ 1 then s.charged k.inPort k.len else k.len
        match s.police i l with
        | (s1, 0) => (s1, a)
        | (s1, c) =>
          let s2 := s1.cntTnt k.tenant (if c = 1 then 10 else 11) 1
          match (if c = 1 then s.fd (R.POL_ACT_YACT i) else s.fd (R.POL_ACT_RACT i)) with
          | 0 => (s2, a)
          | 1 => (s2, { a with evict := true })
          | _ => let r := s.fd (R.POL_ACT_RSN i); (s2, drop (if r < 0x40 then 0x10 else r))
      else (s, a)
  | 1 =>
    let r := wField 0 8 a.oper
    if r = 0 ∨ (0x14 ≤ r ∧ r < 0x40) then (s, drop 0x10) else (s, drop r)
  | 3 => if k.nativeCtx || !kindNp k.tkind then (s, drop 0x10) else (s, a)
  | _ => (s, a)

/-- A header's action takes effect (cycles 20–23 of R227); `a` has passed the exit precedence. -/
def State.deliverAction (s : State) (k : Pkt) (a : Action) : State :=
  let k1 := if a.kind = 0 then
      (if k.cls = 15 then k.setHf 1 15 1 0 else if a.evict then k.setHf 1 15 1 1 else k)
    else k
  let k2 := if a.kind = 0 ∧ k1.trace.isSome ∧ s.fb R.TRC_CFG_PROP ∧ !k1.nativeCtx ∧ s.fabric then k1.setHf 1 13 1 1 else k1
  let s1 := s.setPkt k2
  match a.kind with
  | 0 => s1.exitFwd k2 a
  | 1 => (s1.exitMirror k2 a).exitDrop k2 (wField 0 8 a.oper)
  | _ => ((s1.exitMirror k2 a).cntDev (32 * k.octet + 5) 1).synthesise k2 (wField 0 3 a.oper)

/-! ### Traps (R257–R260) -/

/-- A free trap slot of an octet, picked by hardware. -/
def State.trapSlot (s : State) (n : Nat) : Option Nat :=
  pickFree 64 (s.pkts.filterMap fun k => match k.loc with
    | .trap m i => if m = n then some i else none
    | _ => none) s.fv

/-- A header is held in a trap slot (R249, R502): its entry opens, and the event is posted. -/
def State.trap (s : State) (k : Pkt) (a : Action) (slot : Nat) : State :=
  let n := k.octet
  let s1 := ((s.exitMirror k a).bumpFv.cntPort k.inPort 86 1).cntDev (32 * n + 4) 1
  let s2 := match k.entry with
    | none => s1
    | some i =>
      if kindCpl k.tkind then s1
      else s1.updEntry i fun e => { e with state := 1, trap := true, role := s.ingressRole k, dfid := k.dfid, sfid := k.sfid }
  (s2.movePkt { k with loc := .trap n slot, m2 := s.time }).postEvent .hpl n (some (wField 0 6 a.oper)) 0x01
    (n * 65536 + slot) (BitVec.ofNat 64 k.tenant)

/-- The packet in a trap slot. -/
def State.trapped (s : State) (n slot : Nat) : Option Pkt := (s.at (.trap n slot)).head?

/-- A verdict on a trap slot (R258, R259). -/
def State.verdict (s : State) (n kind : Nat) (v : Verdict) : State :=
  match s.trapped n v.slot.val with
  | none => s.setFb (R.HPL_TSTS_BADV n) true
  | some k =>
    if kind = 2 then s.setFb (R.HPL_TSTS_BADV n) true
    else
      let before := s.progDrain n
      let oper : Nat := if kind = 0 then v.oper.toNat + v.polidx.toNat * 2 ^ 16 + (if v.polv then 2 ^ 32 else 0)
        else v.oper.toNat
      let a0 : Action := { kind := kind, mirror := v.mod.getLsbD 0, trace := v.mod.getLsbD 1, evict := v.mod.getLsbD 2,
                           oper := BitVec.ofNat 64 oper, mses := v.mses.val }
      let traced := a0.trace && s.fb R.TRC_CFG_EN && !decide (1 ≤ s.sagStage)
      let k1 := { k with
        loc := .ingress n
        trace := match k.trace with
          | some t => some { t with tagged := t.tagged || traced }
          | none => if traced then some (s.newTrace k k 2 false true) else none }
      let s1 := ((s.setPkt k1).cntDev (32 * n + 13) 1).progDrained n before
      let s2 := match k.entry with
        | none => s1
        | some i => if kindCpl k.tkind then s1 else s1.updEntry i fun e => { e with trap := false }
      let (s3, a) := s2.exitRows k1 a0
      s3.deliverAction k1 a

/-! ### The pass of a header (R227) -/

/-- A pipeline CINC (R225). -/
def State.pipeCinc (s : State) (n ctx : Nat) (a b : Word) : State :=
  let base := s.fd (R.HPL_CTXCNT_BASE n ctx)
  if a.toNat < s.fd (R.HPL_CTXCNT_LEN n ctx) ∧ base + a.toNat < 3145728 then
    let at_ := 8 * (base + a.toNat)
    s.storeTable at_ (bytesLE 8 (s.tWord at_ + b).toNat)
  else (s.addFd (R.HPL_ERRCNT_CINCOOR n) 1).cntDev (32 * n + 8) 1

/-- Why a header is refused at entry (R224, R229): its drop reason. -/
def State.entryRefusal (s : State) (n ctx : Nat) (k : Pkt) : Option Nat :=
  if !s.fb (R.HPL_CTXSEL_EN n ctx) then some 0x10
  else if 112 < k.hdrLen ∨ k.tkind = 0x80 ∨ k.tkind = 0x81 ∨ k.tkind = 0x82 then some 0x0F
  else none

/-- The registers a program starts with (R30–R32). -/
def Pkt.toRun (k : Pkt) : Run :=
  { r := List.replicate 8 0 ++ [k.m0, k.m1, k.m2, k.m3] ++ List.replicate 4 0 ++ k.win.take 16, p := 0, skipTo := 0, emit := none,
    cincs := [], marks := [], sprays := [] }

/-- The header window a run leaves; byte 16 of a TLP keeps its kind (R752). -/
def Pkt.ofRun (k : Pkt) (x : Run) : Pkt :=
  let k1 := { k with win := (List.range 16).map fun i => x.reg (16 + i) }
  if k.cxl.isNone ∧ (k.cls ≠ 15 ∨ !k.native) then k1.setHf 2 56 8 (k.hf 2 56 8) else k1

/-- The header stamped at cycle 0 (R24, R160, R203, R215, R235). -/
def State.stamp (s : State) (k : Pkt) (sampled : Bool) : Pkt :=
  let n := k.octet
  let ctx := k.ctxNo
  let pver := s.fd (R.HPL_CTXSEL_PVER n ctx)
  let k1 := if k.native then k.setHf 0 48 6 (k.hop - 1) else k
  { k1 with
    m0 := s.metaM0 k, m1 := s.metaM1 k, m2 := s.time, progVer := pver
    m3 := BitVec.ofNat 64 (setNatField 0 8 k.m3.toNat (s.tntVer k.tenant + 2 * s.rver + 4 * pver +
      (if sampled then 8 else 0) + 16 * s.fd (R.HPL_CTXSEL_SLOT n ctx))) }

/-- The action that a stamped header's run ends in, before row 4 of the exit precedence, the header it leaves, and the state after
the run's counter additions, marks and sprays. The fence row leaves nothing of an EMIT, its modifiers included (DESIGN CHOICE, log entry
90). -/
def State.runHeader (s : State) (k : Pkt) : State × Pkt × Action :=
  let n := k.octet
  let ctx := k.ctxNo
  let drop (r : Nat) : Action := ⟨1, false, false, false, BitVec.ofNat 64 r, 0⟩
  match s.entryRefusal n ctx k with
  | some r => (s.cntDev (32 * n + 1) 1, k, drop r)
  | none =>
    let x := s.runProgram n (s.fd (R.HPL_CTXSEL_SLOT n ctx)) k.progVer k.tver k.rverOf k.toRun
    let s1 := x.cincs.foldl (fun t c => t.pipeCinc n ctx c.1 c.2) s
    let s2 := x.marks.foldl (fun t m => t.setMark (some m)) s1
    let s3 := x.sprays.dedup.foldl (fun t r => t.advanceRr (some r)) s2
    let k1 := k.ofRun x
    if !k.nativeCtx && s.fenced k.tenant then ((s3.cntTnt k.tenant 12 1).cntDev (32 * n + 9) 1, k1, drop 0x07)
    else match x.emit with
      | none => ((s3.addFd (R.HPL_ERRCNT_NOEMIT n) 1).cntDev (32 * n + 6) 1, k1, drop 0x10)
      | some (kind, mods, a, b) =>
        (s3, k1, ⟨kind, mods % 2 = 1, natField 1 1 mods = 1, natField 2 1 mods = 1, a,
          if mods % 2 = 1 then wField 0 4 b else 0⟩)

/-- The header at the head of octet `n`'s ingress queue passes the pipeline. A header that a trap finds no slot for stays in the
ingress queue (R129). -/
def State.runPipeline (s : State) (n : Nat) : State :=
  match (s.at (.ingress n)).head? with
  | none => s
  | some k0 =>
    let (s1, samp) := s.sample n
    let s1 := (s1.cntDev (32 * n) 1).cntPort k0.inPort 85 1
    if k0.native ∧ k0.hop = 0 then
      let (s2, k) := s1.withTrace { s1.stamp k0 samp with win := k0.win } k0 1 samp false
      ((((s2.setPkt k).exitMirror k ⟨1, false, false, false, 0, 0⟩).cntPort k0.inPort 54 1).bufReport k0.inPort 3
        (k0.reportDetail k0.inPort)).discard k
    else
      let k := s1.stamp k0 samp
      let half := s1.fb (R.HPL_CTXSEL_HALF n k.ctxNo) || decide (4 ≤ s1.sagStage)
      let s2 := if half then s1.cntDev (32 * n + 10) 1 else s1
      let (s3, k1, a0) := s2.runHeader k
      if s3.aged k1 then
        (let (s4, k2) := s3.withTrace k1 k0 1 samp a0.trace
         let s5 := (s4.setPkt k2).exitMirror k2 (a0.dropped 0x03)
         if s5.revokedArrival k2 then s5.failRevoked k2 (s5.pkts.length + 1) else s5.ageOut k2 k2.inPort)
      else
        let (s4, a) := if a0.kind = 2 then (s3, a0) else s3.exitRows k1 a0
        let (s5, k2) := s4.withTrace k1 k0 a.kind samp a0.trace
        let s6 := match k2.entry with
          | none => s5
          | some i => if kindCpl k2.tkind then s5 else s5.updEntry i fun e => { e with stamp := wField 0 3 k2.m3 }
        let s7 := s6.setPkt k2
        if a.kind = 2 then (match s7.trapSlot n with
          | none => s
          | some slot => s7.trap k2 a slot)
        else s7.deliverAction k2 a

/-! ### Header credits (R267, R414) -/

def State.link (s : State) (n : Nat) : Link := s.links.get Link.reset n
def State.setLink (s : State) (n : Nat) (l : Link) : State := { s with links := s.links.set Link.reset n l }
def State.phy (s : State) (n : Nat) : Phy := s.phys.get Phy.reset n
def State.setPhy (s : State) (n : Nat) (x : Phy) : State := { s with phys := s.phys.set Phy.reset n x }

/-- The port of the native link of octet `n`. -/
def linkPort (n : Nat) : Nat := 4 * n

/-- Landing cells of port `p` that hold a pool's packets (R414): one for each frame received. -/
def State.landHeld (s : State) (p i : Nat) : Nat :=
  ((s.pkts.filter fun k => k.pool = .landing p i).map fun k => min k.cells ((k.rcvd + 239) / 240)).sum

/-- The cells released of a pool since link-up, modulo 4,096 (R414); in sag stage 5 those of VC0–VC3 stay as they were on its entry
(R660), and while the octet's ingress queue is short as they were when it became so (R267). -/
def State.releasedCnt (s : State) (n i : Nat) : Nat :=
  if i < 4 ∧ 5 ≤ s.sagStage ∧ s.pwr.sagHeld.get 0 (4 * n + i) ≠ 0 then s.pwr.sagHeld.get 0 (4 * n + i) - 1
  else if i < 4 ∧ s.hpl.creditHeld.get 0 (4 * n + i) ≠ 0 then s.hpl.creditHeld.get 0 (4 * n + i) - 1
  else ((s.link n).taken.get 0 i - s.landHeld (linkPort n) i) % 4096

/-- The shared entries of octet `n`'s ingress queue that are free (R267). -/
def State.ingressFree (s : State) (n : Nat) : Nat := 240 - ((s.at (.ingress n)).filter fun k => k.ctxKind ≠ 5).length

/-- Header credits of octet `n` (R267): their return stops when fewer than 32 shared entries are free, the frame credits of VC0–VC3
staying where they are, and begins again when 64 are. -/
def State.creditMark (s : State) (n : Nat) : State :=
  let on := s.hpl.creditStop.get false n
  if !on ∧ s.ingressFree n < 32 then
    let held := (List.range 4).foldl (fun (m : SMap Nat) i => m.set 0 (4 * n + i) (s.releasedCnt n i + 1)) s.hpl.creditHeld
    ({ s with hpl := { s.hpl with creditStop := s.hpl.creditStop.set false n true, creditHeld := held } }).emit
      (.mgmt "header credits" n 0)
  else if on ∧ 64 ≤ s.ingressFree n then
    let held := (List.range 4).foldl (fun (m : SMap Nat) i => m.set 0 (4 * n + i) 0) s.hpl.creditHeld
    ({ s with hpl := { s.hpl with creditStop := s.hpl.creditStop.set false n false, creditHeld := held } }).emit
      (.mgmt "header credits" n 1)
  else s

/-- The counts frozen begin at 0 again with the link's (R414). -/
def State.creditRestart (s : State) (n : Nat) : State :=
  if !s.hpl.creditStop.get false n then s
  else { s with hpl := { s.hpl with
    creditHeld := (List.range 4).foldl (fun (m : SMap Nat) i => m.set 0 (4 * n + i) 1) s.hpl.creditHeld } }

/-- Every octet whose ingress queue holds headers or whose credits are stopped. -/
def State.creditMarks (s : State) : State :=
  ((s.pkts.filterMap fun k => match k.loc with | .ingress n => some n | _ => none) ++ s.hpl.creditStop.map fun e => e.1).dedup.foldl
    (fun t n => t.creditMark n) s

end Sys2Proof.Machine
end

