-- ==== Sys2Proof/Machine/Wire.lean ====
section
/-! DEFINITION. Machine/Wire.lean: the byte image of a packet on a native link (R31, R406, R430–R432) and its reading; the header in
flit and non-flit form (PCI Express, log entry 30). -/

namespace Sys2Proof.Machine

/-! ### Header forms -/

/-- The bytes of OHC that the second byte of a flit-mode header announces. -/
def ohcBytes (b : Nat) : Nat :=
  4 * (b % 2 + b / 2 % 2 + b / 4 % 2) + (match b / 8 % 4 with | 0 => 0 | 1 => 4 | 2 => 8 | _ => 16)

/-- The bytes of a window beyond its base header. -/
def Pkt.extBytes (k : Pkt) : List Byte := (((k.win.drop 4).map fun w => bytesBE 8 w.toNat).flatten).take (k.hdrLen - 16)

/-- Whether a packet carries a TLP in its window. -/
def Pkt.isTlp (k : Pkt) : Bool := k.cxl.isNone && k.cls ≠ 15 && !k.mirrored

/-- H of R272: the base header and the bytes beyond it. -/
def Pkt.hdrBytes (k : Pkt) : Nat := if k.isTlp then baseBytes k.tlpType + (k.hdrLen - 16) else k.hdrLen

/-- The window with the bytes beyond its base header replaced. -/
def Pkt.withExt (k : Pkt) (ext : List Byte) : Pkt :=
  let word (i : Nat) : Word := BitVec.ofNat 64 (ofBytesBE ((List.range 8).map fun j => ext.getD (8 * i + j) 0))
  let len := 16 + baseBytes k.tlpType + ext.length + k.data.length
  { k with win := k.win.take 4 ++ (List.range 12).map word, hdrLen := 16 + ext.length, len := len,
           rcvd := if k.complete then len else k.rcvd }

/-- Whether a kind's header has byte enables where a non-flit header holds them. -/
def kindBe (k : Nat) : Bool := kindMem k || k = 0x04 || k = 0x05

/-- The byte enables of a whole access of `n` DW. -/
def fullBe (n : Nat) : Nat := if n = 1 then 0x0F else 0xFF

/-- A TLP in the form that native links carry: the flit-mode header, whose tag field holds every fabric tag. -/
def Pkt.flitForm (k : Pkt) : Pkt :=
  if k.flit || !k.isTlp then k
  else
    let cpl := decide (kindOrd k.tkind = 2)
    let be := k.hf 2 0 8
    let a := kindBe k.tkind && k.tkind ≠ 0x03 && be ≠ fullBe k.lenDw
    let pre := (k.extBytes).take 16
    let e := if pre.length = 0 then 0 else if pre.length ≤ 4 then 1 else if pre.length ≤ 8 then 2 else 3
    let pad := (if e = 0 then 0 else 2 ^ (e + 1)) - pre.length
    let ext := (if a then bytesBE 4 be else []) ++ pre ++ List.replicate pad 0
    let hi := k.tlpType * 2 ^ 56 + k.tc * 2 ^ 53 + ((if a then 1 else 0) + 8 * e) * 2 ^ 48 + k.attrs * 2 ^ 42 + k.hf 2 32 10 * 2 ^ 32 +
      k.hf 2 16 16 * 2 ^ 16
    let ep := if k.poisoned then 1 else 0
    let h2 := if cpl then hi + k.cplStatus * 2 ^ 13 + ep * 2 ^ 12 + k.hf 2 0 12 else hi + ep * 2 ^ 15 + k.tlpTag % 2 ^ 14
    let h3 := if cpl then k.reqId * 2 ^ 48 + k.tlpTag % 2 ^ 14 * 2 ^ 32 + k.hf 3 32 7 else (k.h 3).toNat
    let k1 := (k.setH 2 (BitVec.ofNat 64 h2)).setH 3 (BitVec.ofNat 64 h3)
    { k1.withExt ext with m3 := setWField 48 8 (setWField 24 1 k.m3 1) ext.length, ftag := none }

/-- A TLP in the form of a port in non-flit mode. -/
def Pkt.plainForm (k : Pkt) : Pkt :=
  if !k.flit || !k.isTlp then k
  else
    let cpl := decide (kindOrd k.tkind = 2)
    let ohc := k.hf 2 48 5
    let be := if ohc % 2 = 1 then (k.extBytes.getD 3 0).toNat else fullBe k.lenDw
    let e := match ohc / 8 % 4 with | 0 => 0 | 1 => 4 | 2 => 8 | _ => 16
    let ext := k.extBytes.drop (k.extBytes.length - e)
    let t := k.tlpTag
    let ep := if k.poisoned then 1 else 0
    let hi := k.tlpType * 2 ^ 56 + t / 512 % 2 * 2 ^ 55 + k.tc * 2 ^ 52 + t / 256 % 2 * 2 ^ 51 + k.attrs / 4 % 2 * 2 ^ 50 + ep * 2 ^ 46 +
      k.attrs % 4 * 2 ^ 44 + k.hf 2 32 10 * 2 ^ 32 + k.hf 2 16 16 * 2 ^ 16
    let h2 := if cpl then hi + k.cplStatus * 2 ^ 13 + k.hf 2 0 12
      else hi + t % 256 * 2 ^ 8 + (if kindBe k.tkind then be else k.hf 2 0 8)
    let h3 := if cpl then k.reqId * 2 ^ 48 + t % 256 * 2 ^ 40 + k.hf 3 0 7 * 2 ^ 32 else (k.h 3).toNat
    let k1 := (k.setH 2 (BitVec.ofNat 64 h2)).setH 3 (BitVec.ofNat 64 h3)
    { k1.withExt ext with m3 := setWField 48 8 (setWField 24 1 k.m3 0) ext.length }

/-- Lower Address of a completion. -/
def Pkt.lowerAddr (k : Pkt) : Nat := if k.flit then k.hf 3 0 7 else k.hf 3 32 7

/-- A memory request in the address form of its value (R232): the 32-bit form below 4 GiB. -/
def Pkt.addrForm (k : Pkt) : Pkt :=
  if kindMem k.tkind && k.cxl.isNone && decide ((k.h 3).toNat < 2 ^ 32) then
    let t := if k.flit && k.tlpType = 0x20 then 0x03 else k.tlpType - 0x20
    (k.setHf 2 56 8 t).setH 3 (BitVec.ofNat 64 ((k.h 3).toNat * 2 ^ 32))
  else k

/-! ### Frames -/

/-- The bytes of a packet on a native link: sheaf header with its CRC-8 (R234, R431), header, payload. -/
def Pkt.wireBytes (k : Pkt) : List Byte :=
  bytesBE 8 (k.h 0).toNat ++ (bytesBE 8 (k.h 1).toNat).take 7 ++ [BitVec.ofNat 8 (sheafCrc (k.h 0) (k.h 1))] ++
  (let hd := ((k.win.drop 2).map fun w => bytesBE 8 w.toNat).flatten
   if k.isTlp then hd.take (baseBytes k.tlpType) ++ k.extBytes else hd.take k.hdrLen) ++ k.data

/-- The frames of a packet (R406). -/
def Pkt.frames (k : Pkt) : Nat := (k.len + 239) / 240

/-- The payload of frame `i`: 240 bytes, padded with zeros. -/
def framePay (bs : List Byte) (i : Nat) : List Byte :=
  let c := (bs.drop (240 * i)).take 240
  c ++ List.replicate (240 - c.length) 0

/-- The TYPE of frame `i` of `n` (R405): 2 HEAD, 3 BODY, 4 TAIL, 5 SOLE. -/
def frameTyp (n i : Nat) : Nat := if n ≤ 1 then 5 else if i = 0 then 2 else if i + 1 = n then 4 else 3

/-! ### Reading (R432) -/

/-- Whether the sheaf header of received bytes is one a receiver takes. -/
def sheafOk (bs : List Byte) : Bool :=
  let h0 := BitVec.ofNat 64 (ofBytesBE (bs.take 8))
  let h1 := BitVec.ofNat 64 (ofBytesBE ((bs.drop 8).take 8))
  let cls := wField 56 4 h0
  sheafCrc h0 h1 = (wField 0 8 h1) && wField 60 4 h0 = 1 && decide (cls = 15) = decide (wField 16 3 h0 = 7) &&
  decide (wField 54 2 h0 = 3) = decide (cls = 15)

/-- A CXL message kind by its session class (R438). -/
def cxlOfClass (c : Nat) : Option CxlKind :=
  match c with
  | 8 => some .m2sReq | 9 => some .m2sRwD | 10 => some .s2mNdr | 11 => some .s2mDrs | 12 => some .biSnp | 13 => some .biRsp
  | 14 => some .cache | _ => none

/-- The session class of a packet for this node: that of the receive context it names; none for a packet in transit. -/
def State.rxClass (s : State) (k : Pkt) : Option Nat :=
  if s.localFid k.dfid ∧ k.ses ≠ 0 then (s.rctx? k.ses).map fun x => x.cls else none

/-- The kind of CXL message that a packet of a native link is, if it is one (R236, R438): by its session's class at its destination; in transit a
free one, for a packet that has the length of a CXL message (log entry 65). -/
def State.cxlOf (s : State) (k : Pkt) (len : Nat) (msg : BitVec 128) : Option CxlKind :=
  if s.localFid k.dfid then (s.rxClass k).bind cxlOfClass
  else if k.ses ≠ 0 ∧ k.cls ≠ 15 ∧ !k.mirrored ∧ (len = 32 ∨ len = 96) then (Config.cxlTransit k.ses msg).bind cxlOfClass
  else none

/-- Length of the header beyond its base and of the payload that the first frame of a TLP announces. -/
def tlpLens (bs : List Byte) : Nat × Nat :=
  let b (i : Nat) : Nat := (bs.getD (16 + i) 0).toNat
  let n := b 2 % 4 * 256 + b 3
  (ohcBytes (b 1), if natField 6 1 (b 0) = 1 then 4 * (if n = 0 then 1024 else n) else 0)

/-- The packet that received bytes begin or are (R230): its sheaf header, header window and payload so far.  Its cells lie in the landing
reservation of its VC (R414). -/
def State.nativePkt (s : State) (p : Nat) (bs : List Byte) (whole : Bool) : Pkt :=
  let word (i : Nat) : Word := BitVec.ofNat 64 (ofBytesBE ((bs.drop (8 * i)).take 8 ++ List.replicate (8 - ((bs.drop (8 * i)).take 8).length) 0))
  let h0 := word 0
  let h1 := word 1
  let k0 : Pkt := { Pkt.blank with win := [h0, h1] ++ List.replicate 14 0 }
  let vc := k0.vc
  let ctl := decide (k0.cls = 15)
  let lens := tlpLens bs
  let msg : BitVec 128 := BitVec.ofNat 128 ((word 2).toNat * 2 ^ 64 + (word 3).toNat)
  let cxl := s.cxlOf k0 (if whole then bs.length else 0) msg
  let tlp := cxl.isNone && !ctl && !k0.mirrored
  let base := if tlp then baseBytes (bs.getD 16 0).toNat else 16
  let hdr := if ctl then min (bs.length - 16) 112 else if k0.mirrored then 0 else if cxl.isSome then 16 else min (base + lens.1) 112
  let len := if whole then bs.length else 16 + hdr + lens.2
  let tk := match cxl with
    | some .m2sReq => 0x10 | some .m2sRwD => 0x11 | some .s2mNdr => 0x12 | some .s2mDrs => 0x13 | some .biSnp => 0x14
    | some .biRsp => 0x15 | some .cache => 0x18
    | none => if ctl then 0x20 else if k0.mirrored then 0 else tlpKind true (bs.getD 16 0).toNat
  let shown := if k0.mirrored then 112 else hdr
  let body := bs.drop 16
  let shownAt (x : Nat) : Byte :=
    let y := if x < 16 then x else x - 16 + base
    if (base ≤ x ∧ x < 16) ∨ shown ≤ y then 0 else body.getD y 0
  let hw (i : Nat) : Word := BitVec.ofNat 64 (ofBytesBE ((List.range 8).map fun j => shownAt (8 * i + j)))
  { k0 with
    origin := .native p, inPort := p, win := [h0, h1] ++ (List.range 14).map hw,
    m3 := arrivalM3 tk tlp (decide (hdr + 16 < len)) (kindMem tk)
      (if cxl.isSome || ctl then 0 else (bs.getD 18 0).toNat % 4 * 256 + (bs.getD 19 0).toNat) (hdr - base),
    cxl := cxl.map fun c => { kind := c, addr := Config.cxlAddr msg, tag := Config.cxlTag msg, isWrite := Config.cxlIsWrite msg },
    data := body.drop hdr, hdrLen := if tlp then 16 + (hdr - base) else hdr, len := len, rcvd := bs.length, complete := whole, cells := cellsOf true len,
    pool := .landing p (if ctl then 4 else vc), sentPs := s.now }

end Sys2Proof.Machine
end

