-- ==== Sys2Proof/Machine/Frames.lean ====
section
/-! DEFINITION. Machine/Frames.lean: the frames a native link sends (R403–R408, R413–R416, R421) and the end of a packet with CHAFF
(R301). -/

namespace Sys2Proof

/-- The size of a pool, as the partner's PARAM gives it: 0–3 for VC0–VC3, 4 for control. -/
def LinkParams.size (q : LinkParams) (i : Nat) : Nat :=
  match i with
  | 0 => q.vc0.toNat | 1 => q.vc1.toNat | 2 => q.vc2.toNat | 3 => q.vc3.toNat | _ => q.ctl.toNat

end Sys2Proof

namespace Sys2Proof.Machine

/-- The training state of octet `n` (R379). -/
def State.phyState (s : State) (n : Nat) : Nat := s.fd (R.PHY_STS_STATE n)

/-- Whether octet `n` runs the link layer of a native link: its port is native, and it is no second octet of an x16 link (R426). -/
def State.linkOctet (s : State) (n : Nat) : Bool :=
  s.nativeRole (linkPort n) && !(n % 2 = 1 && (s.phy (n - 1)).x16)

/-! ### Pools and credits (R412–R415) -/

/-- The pool of a DVC or CVC code: 0–3, or 4 for control (code 7). -/
def poolOf (c : Nat) : Nat := if c = 7 then 4 else c
def poolCode (i : Nat) : Fin 8 := if i = 4 then 7 else Fin.ofNat 8 i

/-- The credit available in a pool (R413). -/
def Link.credit (l : Link) (i : Nat) : Nat :=
  match l.partner with
  | none => 0
  | some q => q.size i - (l.debited.get 0 i + 4096 - l.ccnt.get 0 i % 4096) % 4096

/-! ### Sending frames (R404, R413, R414, R416, R421) -/

/-- The order that a group of octet `n` carries, and its argument (R373, R374). -/
def State.groupOrder (s : State) (n : Nat) : Nat × Nat :=
  let x := s.phy n
  match x.txNext with
  | some true => (4, x.txAt)
  | some false => (5, x.txAt)
  | none => if !s.fb (R.PHY_SUB_BUSY n) then (0, 0) else if x.subOwnDone then (2, x.subLane) else (1, x.subLane)

/-- The logical lanes in use toward the partner of octet `n`, and WCODE. -/
def State.txLanes (s : State) (n : Nat) : Nat := (if (s.phy n).x16 then 16 else 8) / (if (s.phy n).txHalf then 2 else 1)
def wCode (lanes : Nat) : Nat := if lanes = 16 then 2 else if lanes = 8 then 1 else 0

/-- The blocks of a frame join the stream of octet `n`; every sixty blocks form a group (R365, R366, R372). -/
def State.codeFrame (s : State) (n : Nat) (bs : List Byte) : State :=
  let x := s.phy n
  let blocks := x.txBlocks ++ frameBlocks bs
  if blocks.length < 60 then s.setPhy n { x with txBlocks := blocks }
  else
    let w := s.txLanes n
    let o := s.groupOrder n
    (s.setPhy n { x with txBlocks := blocks.drop 60, txCount := (x.txCount + 1) % 4096 }).emit
      (.group n w (groupWord x.txCount (wCode w) o.1 o.2) (blocks.take 60))

/-- A frame leaves the link with the present ACK and the count of the pool whose turn it is. -/
def State.txOut (s : State) (n typ seq dvc len : Nat) (pay : List Byte) : State :=
  let l := s.link n
  let h : FrameHdr :=
    { seq := BitVec.ofNat 12 seq, ack := BitVec.ofNat 12 (l.expect + 4095), cvc := poolCode (l.turn % 5),
      ccnt := BitVec.ofNat 12 (s.releasedCnt n (l.turn % 5)), dvc := Fin.ofNat 8 dvc, len := BitVec.ofNat 8 len }
  ((s.setLink n { l with turn := (l.turn + 1) % 5 }).emit (.frame n typ h pay)).codeFrame n (frameBytes typ h pay)

/-- A sequenced frame is sent for the first time. -/
def State.sendSeq (s : State) (n typ dvc len : Nat) (pay : List Byte) (pkt : Option Nat) : State :=
  let l := s.link n
  let q := l.nextSeq
  let f : TxFrame := { typ := typ, seq := q, dvc := dvc, len := len, pay := pay, pkt := pkt }
  let i := poolOf dvc
  (s.setLink n { l with
    unacked := l.unacked ++ [f], nextSeq := (q + 1) % 4096, rtimePs := if l.unacked = [] then s.now else l.rtimePs
    debited := if typ = 1 then l.debited else l.debited.set 0 i ((l.debited.get 0 i + 1) % 4096) }).txOut n typ q dvc len pay

/-- The frames whose images an octet or an x16 pair keeps (R421). -/
def State.imageStore (s : State) (n : Nat) : Nat := if (s.phy n).x16 then 2048 else 1024

/-- Whether `f` more frames may be sent (R416, R421). -/
def State.frameRoom (s : State) (n f : Nat) : Bool :=
  let u := (s.link n).unacked.length
  let spill := u + f - s.imageStore n
  decide (u + f ≤ 4095) && decide (spill ≤ 4096) && decide (spill - (u - s.imageStore n) ≤ s.sharedFree)

/-- The frames of a packet whose bytes are there are handed over (R406); the last one only when the packet is whole. -/
def State.pump (s : State) (n id : Nat) : State :=
  match s.pkt? id with
  | none => s
  | some k =>
    let w := k.flitForm
    let total := w.frames
    let avail := if k.complete then total else min (k.rcvd / 240) (total - 1)
    let dvc := if k.cls = 15 then 7 else k.vc
    let bs := w.wireBytes
    let s1 := ((List.range avail).drop k.txSent).foldl (fun t i =>
      t.sendSeq n (frameTyp total i) dvc (if i + 1 = total then (w.len - 240 * i) - 1 else 239) (framePay bs i) (some id)) s
    let done := decide (avail = total)
    let s2 := s1.setPkt { k with txSent := max avail k.txSent, txDone := done, sentPs := if k.txSent = 0 then s.now else k.sentPs }
    s2.setLink n { s2.link n with txPkt := if done then none else some id }

/-- The packet in progress on a link is ended with CHAFF (R301, R408, R415). -/
def State.chaffOut (s : State) (n : Nat) : State :=
  let l := s.link n
  match l.txPkt with
  | none => s
  | some id =>
    let dvc := match s.pkt? id with
      | none => 0
      | some k => if k.cls = 15 then 7 else k.vc
    let s1 := ((s.setLink n { l with txPkt := none }).sendSeq n 6 dvc 0 (framePay [] 0) none).cntPort (linkPort n) 61 1
    match s1.pkt? id with
    | none => s1
    | some k => s1.setPkt { k with txDone := true }

/-! ### A TLP that ends badly (R301, R302) -/

/-- The reception of a TLP of edge port `p` that began and proves bad ends: where its head has left, with CHAFF; it is no transaction. -/
def State.endCut (s : State) (p : Nat) : State :=
  match (s.port p).rxCut with
  | none => s
  | some id =>
    let s1 := s.setPort p { s.port p with rxCut := none }
    match s1.pkt? id with
    | none => s1
    | some k =>
      (match k.txPort with
       | some e => if (s1.link (octetOf e)).txPkt = some id then s1.chaffOut (octetOf e) else s1
       | none => s1).dropCut k

end Sys2Proof.Machine
end

