-- ==== Sys2Proof/Machine/Own.lean ====
section
/-! DEFINITION. Machine/Own.lean: the requests a DMA channel or a control core makes (R81, R178, R222, R268, R559, R593): their
headers, their window check, their entry into the ingress queue. -/

namespace Sys2Proof.Machine

/-- The port whose pipeline a channel's requests enter (R222): its function's upstream port; a channel of no function uses the
manager function's (log entry 34). -/
def State.chanPort (s : State) (g : Nat) : Option Nat :=
  match s.fnOfChan g with
  | some f => s.fnPort f
  | none => if s.fb R.FFN_CFG_MGRV then some (s.fd R.FFN_CFG_MGRPORT) else none

/-- The tenant of a channel (R559, R586). -/
def State.chanTenant (s : State) (g : Nat) : Nat :=
  match s.fnOfChan g with
  | some f => s.fnTenant f
  | none => 0

/-- Whether a tenant's windows admit an access of the device's own requesters (R81, R189): a window that permits DMA, and reads or
writes. -/
def State.ownAllowed (s : State) (t addr : Nat) (wr : Bool) : Bool :=
  let v := s.tntVer t
  match s.winHit t v addr with
  | none => false
  | some w => s.fb (R.WIN_CTL_DMA w v) && s.fb (if wr then R.WIN_CTL_WR w v else R.WIN_CTL_RD w v)

/-- Whether an address lies in a prefetchable window (R602). -/
def State.prefAt (s : State) (t addr : Nat) : Bool :=
  match s.winHit t (s.tntVer t) addr with
  | none => false
  | some w => s.fb (R.WIN_CTL_PREF w (s.tntVer t))

/-- The DWs an access of `n` bytes touches, and its byte enables (first in [3:0], last in [7:4]); a zero-length access is one DW
with no byte enabled. -/
def accessLen (a n : Nat) : Nat := if n = 0 then 1 else (a % 4 + n + 3) / 4
def accessBe (a n : Nat) : Nat :=
  if n = 0 then 0 else
  let first := (15 * 2 ^ (a % 4)) % 16
  let last := 2 ^ ((a + n - 1) % 4 + 1) - 1
  if accessLen a n = 1 then Nat.land first last else first + 16 * last

/-- The packet of an own request (R178, R233): a memory read, memory write or AtomicOp of `n` bytes at `a` with TLP type `typ`. -/
def State.ownPkt (s : State) (origin : Origin) (p tenant typ a n : Nat) (ns rlx : Bool) (data : List Byte) : Pkt :=
  let tk := tlpKind false typ
  let hd := sheafWords 0 (kindOrd tk) 0 0 tenant 0 (s.fd (R.PRT_CTX_PFID p)) 0 0 s.birthNow 0
  let body := if data = [] then [] else
    List.replicate (a % 4) 0 ++ data ++ List.replicate (accessLen a n * 4 - a % 4 - data.length) 0
  let h2 := typ * 2 ^ 56 + (if rlx then 2 ^ 45 else 0) + (if ns then 2 ^ 44 else 0) + accessLen a n % 1024 * 2 ^ 32 + accessBe a n
  { Pkt.blank with
    id := s.pktNext, loc := .ingress (octetOf p), origin := origin, inPort := p,
    m3 := arrivalM3 tk false (decide (data ≠ [])) true (accessLen a n) 0,
    win := [hd.1, hd.2, BitVec.ofNat 64 h2, BitVec.ofNat 64 (a / 4 * 4)] ++ List.replicate 12 0,
    data := body, hdrLen := 16, len := 32 + body.length, rcvd := 32 + body.length, cells := cellsOf false (32 + body.length),
    arrivedPs := s.now, sentPs := s.now }

/-- Whether a packet of a channel or core waits for admission: its requester stalls (R279). -/
def State.ownWaits (s : State) (o : Origin) : Bool :=
  s.pkts.any fun x => decide (x.origin = o) && (match x.loc with | .arrival _ => true | _ => false)

/-- An own request enters its octet's ingress queue with its entry; none while it must stall (R268, R279, R509). -/
def State.ownRequest (s : State) (k : Pkt) : Option (State × Nat) :=
  if !s.ingressRoom k.octet false || s.ownWaits k.origin then none
  else match s.drawEntry k (s.ingressRole k) with
    | none => none
    | some (s1, i) => some (s1.addPkt { k with entry := some i }, i)

/-- An own request to fabric address `a`: the state with its entry, its index, and whether the tenant's windows admit it. One that they do
not admit gets its entry and no packet: it is never sent (R81). -/
def State.ownIssue (s : State) (k : Pkt) (a : Nat) (wr : Bool) : Option (State × Nat × Bool) :=
  if s.ownAllowed k.tenant a wr then (s.ownRequest k).map fun r => (r.1, r.2, true)
  else if s.ownWaits k.origin then none
  else (s.drawEntry k (s.ingressRole k)).map fun r => (r.1, r.2, false)

end Sys2Proof.Machine
end

