-- ==== Sys2Proof/Machine/Dma.lean ====
section
/-! DEFINITION. Machine/Dma.lean: the DMA engines (14_dma_engines.md): channels, descriptors, bursts, outcomes, arbitration, aborts,
stops from outside, and the localisation of a failed prefetch read. -/

namespace Sys2Proof.Machine

/-! ### Channels (R585–R590) -/

def State.chan (s : State) (g : Nat) : Chan := s.dma.chans.get Chan.reset g
def State.setChan (s : State) (g : Nat) (c : Chan) : State :=
  { s with dma := { s.dma with chans := s.dma.chans.set Chan.reset g c } }

/-- A field of channel `g`. -/
def chF (f : Nat → Nat → Field) (g : Nat) : Field := f (g / 256) (g % 256)

def State.chState (s : State) (g : Nat) : Nat := s.fd (chF R.DMA_CH_STS_STATE g)
def State.chSrc (s : State) (g : Nat) : Nat := s.fd (chF R.DMA_CH_SRC_ADDR g)
def State.chDst (s : State) (g : Nat) : Nat := s.fd (chF R.DMA_CH_DST_ADDR g)
def State.chCnt (s : State) (g : Nat) : Nat := s.fd (chF R.DMA_CH_CNT_BYTES g)
def State.chDone (s : State) (g : Nat) : Nat := s.fd (chF R.DMA_CH_DONE_BYTES g)
def State.chList (s : State) (g : Nat) : Nat := s.fd (chF R.DMA_CH_LIST_ADDR g) * 32
def State.chFlag (s : State) (f : Nat → Nat → Field) (g : Nat) : Bool := s.fb (chF f g)

/-- The channels of engine `e` that have something in hand, in ascending order. -/
def State.engChans (s : State) (e : Nat) : List Nat := (s.dma.chans.map fun x => x.1).filter fun g => g / 256 = e

/-- A counter of engine `e` (R679). -/
def State.cntEng (s : State) (e k n : Nat) : State := s.cntDev (1024 + 16 * e + k) n

/-- HOLD of a channel's function (R574). -/
def State.chHeld (s : State) (g : Nat) : Bool := match s.fnOfChan g with
  | none => false
  | some f => s.fb (R.FFN_FN_CFG_HOLD f)

/-! ### Interrupts (R597) -/

/-- The vector a channel's interrupt is sent on. -/
def State.chVector (s : State) (f g : Nat) : Nat :=
  let v := s.fd (chF R.DMA_CH_CTL_VEC g)
  if v < 3 ∨ (if 4096 ≤ f then 63 else 15) < v ∨ (s.mgrFn = some f ∧ 62 ≤ v) then 3 else v

/-- Whether a packet of a write to the function's own host has not begun transmission there. -/
def State.unbegun (s : State) (pfid : Nat) (k : Pkt) : Bool :=
  match k.loc with
  | .credit _ => true
  | .ingress _ => true
  | .trap _ _ => true
  | .held => k.sctx.isSome && s.pkts.any fun x =>
      x.id ≠ k.id && x.sctx.isNone && x.ses = k.ses && x.eseq = k.eseq && x.dfid = pfid && x.txPort.isNone
  | _ => k.dfid = pfid && k.txPort.isNone

/-- The interrupts of a channel whose descriptors' writes to the own host have begun are sent. -/
def State.chIrq (s : State) (g : Nat) : State :=
  let c := s.chan g
  match s.fnOfChan g with
  | none => if c.pendingIrq = [] then s else s.setChan g { c with pendingIrq := [] }
  | some f =>
    let pfid := match s.fnPort f with | none => 0 | some p => s.fd (R.PRT_CTX_PFID p)
    let waits (d : Nat) : Bool := c.writes.any fun w => w.desc = d &&
      s.pkts.any fun k => k.entry = some w.entry && k.item = w.item && s.unbegun pfid k
    let rest := c.pendingIrq.dropWhile fun d => !waits d
    let sent := c.pendingIrq.length - rest.length
    if sent = 0 then s
    else (List.range sent).foldl (fun t _ => t.msix f (t.chVector f g)) (s.setChan g { c with pendingIrq := rest })

/-- An interrupt of a channel is due. -/
def State.chRaise (s : State) (g : Nat) : State :=
  let c := s.chan g
  (s.setChan g { c with pendingIrq := c.pendingIrq ++ [c.descNo] }).chIrq g

/-! ### The end of a channel (R595, R608, R610) -/

/-- Bytes fetched under engine tags that are discarded unused. -/
def prefetched (l : List Burst) : Nat :=
  ((l.filter fun b => b.engineTag).map fun b => match b.data with | none => 0 | some d => d.length).sum

/-- A channel ends in a state with a reason; its reads still out are forgotten; `irq` tells whether the end itself interrupts. -/
def State.chanEnd (s : State) (g st reason : Nat) (faddr : Option Nat) (irq : Bool) : State :=
  let c := s.chan g
  let s1 := (s.setFd (chF R.DMA_CH_STS_STATE g) st).setFd (chF R.DMA_CH_STS_REASON g) reason
  let s2 := match faddr with
    | some a => if s.chFlag R.DMA_CH_STS_LFAIL g then s1 else s1.setFd (chF R.DMA_CH_FADDR_ADDR g) a
    | none => s1
  let s3 := s2.setChan g { Chan.reset with writes := c.writes, descNo := c.descNo, pendingIrq := c.pendingIrq }
  let s4 := s3.cntEng (g / 256) 9 (prefetched c.bursts)
  let s5 := if reason = 0x12 then s4.cntEng (g / 256) 6 1 else if reason = 0x13 then s4.cntEng (g / 256) 8 1 else s4
  if irq ∧ s.chFlag R.DMA_CH_CTL_IE g then s5.chRaise g else s5

/-- A channel in STATE 1–3 is stopped from outside (R569, R571, R575). -/
def State.chanStop (s : State) (g st reason : Nat) (irq : Bool) : State :=
  if 1 ≤ s.chState g ∧ s.chState g ≤ 3 then s.chanEnd g st reason none irq else s

/-- The channels of a function, stopped in ascending order. -/
def State.fnStop (s : State) (f st reason : Nat) (irq : Bool) : State :=
  ((s.dma.chans.map fun x => x.1).filter fun g => s.fnHasChan f g).foldl (fun t g => t.chanStop g st reason irq) s

/-! ### Descriptors (R591–R594) -/

/-- A channel starts its next descriptor: its registers are loaded, or are to be fetched; a held function's channel waits. -/
def State.chanBegin (s : State) (g : Nat) (flush : Bool) : State :=
  let c := s.chan g
  let list := s.chFlag R.DMA_CH_CTL_LIST g
  let s1 := (s.setFd (chF R.DMA_CH_DONE_BYTES g) 0).setFd (chF R.DMA_CH_STS_STATE g) (if s.chHeld g then 2 else 1)
  s1.setChan g { Chan.reset with
    phase := if list then 1 else 3, descEnd := !list, descFlush := flush, abort := c.abort, writes := c.writes,
    descNo := c.descNo + 1, pendingIrq := c.pendingIrq }

/-- A descriptor is complete (R592, R597): the channel ends, or goes on with the next of its list. -/
def State.descDone (s : State) (g : Nat) : State :=
  let c := s.chan g
  let s1 := s.cntEng (g / 256) 7 1
  if !s.chFlag R.DMA_CH_CTL_LIST g then s1.chanEnd g 4 0 none true
  else
    let s2 := s1.addFd (chF R.DMA_CH_STS_DCNT g) 1
    if c.descEnd then
      if c.descIe && !s.chFlag R.DMA_CH_CTL_IE g then (s2.chRaise g).chanEnd g 4 0 none true else s2.chanEnd g 4 0 none true
    else
      let s3 := if c.descIe then s2.chRaise g else s2
      (s3.setFd (chF R.DMA_CH_LIST_ADDR g) (c.descNext.toNat / 32)).chanBegin g false

/-- Every byte of a descriptor is accepted: it completes, or its flush is to be made (R594); a local destination is flushed at
once. -/
def State.descAccepted (s : State) (g : Nat) : State :=
  let c := s.chan g
  if (s.chFlag R.DMA_CH_CTL_FLUSH g || c.descFlush) && !s.chFlag R.DMA_CH_CTL_DLOC g && s.chCnt g ≠ 0 then
    s.setChan g { c with phase := 4 }
  else s.descDone g

/-- A descriptor of no bytes completes at once (R588). -/
def State.chanZero (s : State) (g : Nat) : State :=
  if s.chState g = 1 ∧ (s.chan g).phase = 3 ∧ s.chCnt g = 0 ∧ s.sagStage < 3 then s.descAccepted g else s

/-- A fetched descriptor is loaded (R591). -/
def State.descLoad (s : State) (g : Nat) : State :=
  let c := s.chan g
  match c.fetched with
  | none => s
  | some bs =>
    let flags := (bs.getD 20 0).toNat
    let s1 := ((s.setFd (chF R.DMA_CH_SRC_ADDR g) (ofBytesLE (bs.take 8))).setFd (chF R.DMA_CH_DST_ADDR g)
      (ofBytesLE ((bs.drop 8).take 8))).setFd (chF R.DMA_CH_CNT_BYTES g) (ofBytesLE ((bs.drop 16).take 4))
    State.chanZero (s1.setChan g { c with
      phase := 3, next := 0, fetched := none, fetchEntry := none, descIe := flags % 2 = 1, descEnd := natField 1 1 flags = 1,
      descFlush := natField 2 1 flags = 1, descNext := BitVec.ofNat 64 (ofBytesLE (bs.drop 24)) }) g

/-! ### Requests of a channel (R593, R604) -/

/-- A request of a channel: its entry; none while it stalls; `ok` false when no window admits it (R81). -/
def State.chanRequest (s : State) (g typ a n : Nat) (rlx : Bool) (data : List Byte) : Option (State × Nat × Bool) :=
  match s.chanPort g with
  | none => none
  | some p =>
    let t := s.chanTenant g
    match s.ownIssue (s.ownPkt (.dma g) p t typ a n (s.chFlag R.DMA_CH_CTL_NS g) rlx data) a (decide (typ = 0x60)) with
    | none => none
    | some (s1, i, true) => some (s1, i, true)
    | some (s1, i, false) =>
      let s2 := s1.resolve i 0x0C
      some ({ s2 with dma := { s2.dma with outcomes := s.dma.outcomes } }, i, false)

/-- The length of the burst at an offset (R593): at most 256 × 2^BSZ bytes, within one 4 KiB page of source and destination. -/
def State.burstLen (s : State) (g off : Nat) : Nat :=
  let lim := 256 * 2 ^ s.fd (chF R.DMA_CH_CTL_BSZ g)
  let a := 4096 - (s.chSrc g + off) % 4096
  let b := 4096 - (s.chDst g + off) % 4096
  min (min lim (s.chCnt g - off)) (min a b)

/-- Whether an access of `n` bytes lies in cluster or table memory (R590). -/
def localOk (a n : Nat) : Bool :=
  decide (a + n ≤ 0x2000000) || (decide (0x10000000 ≤ a) && decide (a + n ≤ 0x11800000))

/-- The write of the first burst whose data is there is issued; DONE counts it (R593, R594). -/
def State.chanWrite (s : State) (g : Nat) : State :=
  let c := s.chan g
  match c.bursts with
  | [] => s
  | b :: rest =>
    match b.data with
    | none => s
    | some d =>
      let a := (s.chDst g + b.off) % 2 ^ 64
      if s.chFlag R.DMA_CH_CTL_DLOC g then
        if c.local_.isSome then s else s.setChan g { c with local_ := some (1, b.off) }
      else match s.chanRequest g 0x60 a b.len (s.chFlag R.DMA_CH_CTL_RLX g) d with
        | none => s
        | some (s1, _, false) => s1.chanEnd g 7 0x0C (some a) true
        | some (s1, i, true) =>
          let s2 := (s1.setChan g { c with
            bursts := rest, writes := c.writes ++ [⟨i, 0, c.descNo, BitVec.ofNat 64 a⟩] }).addFd (chF R.DMA_CH_DONE_BYTES g) b.len
          let s3 := (s2.cntEng (g / 256) 2 b.len).cntTnt (s.chanTenant g) 13 b.len
          if s3.chDone g = s3.chCnt g then s3.descAccepted g else s3

/-- Writes of a channel as far as data and entries allow. -/
def State.chanWrites (s : State) (g : Nat) : Nat → State
  | 0 => s
  | n + 1 =>
    let s1 := s.chanWrite g
    if (s1.chan g).bursts.length < (s.chan g).bursts.length ∧ s1.chState g = s.chState g then s1.chanWrites g n else s1

/-- The flush read (R594). -/
def State.chanFlush (s : State) (g : Nat) : State :=
  let c := s.chan g
  if c.phase ≠ 4 ∨ c.flushEntry.isSome then s
  else match s.chanRequest g 0x20 (s.chDst g) 0 false [] with
    | none => s
    | some (s1, _, false) => s1.chanEnd g 7 0x0C (some (s.chDst g)) true
    | some (s1, i, true) => s1.setChan g { c with flushEntry := some i }

/-- The fetch of a descriptor, as one read (R592). -/
def State.chanFetch (s : State) (g : Nat) : State :=
  let c := s.chan g
  if c.phase ≠ 1 ∨ s.chState g ≠ 1 then s
  else if s.chFlag R.DMA_CH_CTL_LLOC g then s.setChan g { c with phase := 2, local_ := some (2, 0) }
  else match s.chanRequest g 0x20 (s.chList g) 32 false [] with
    | none => s
    | some (s1, _, false) => s1.chanEnd g 7 0x0C (some (s.chList g)) true
    | some (s1, i, true) => s1.setChan g { c with phase := 2, fetchEntry := some i }

/-- The read of a burst, under a channel tag or an engine tag. -/
def State.burstRead (s : State) (g : Nat) (b : Burst) : Option (State × Option Nat) :=
  match s.chanRequest g 0x20 ((s.chSrc g + b.off) % 2 ^ 64) b.len false [] with
  | none => none
  | some (s1, i, ok) => some (s1, if ok then some i else none)

/-! ### Localisation (R611) -/

def State.engStop (s : State) (e : Nat) : Option Localise := s.dma.stops.get none e
def State.setEngStop (s : State) (e : Nat) (x : Option Localise) : State :=
  { s with dma := { s.dma with stops := s.dma.stops.set none e x } }

/-- An error report of engine `e`; the spec gives its code no number, a free value (log entry 2). -/
def State.dmaReport (s : State) (e : Nat) (detail : Nat) : State :=
  (s.errorReport .dma e (s.evTarget R.DMA_CFG_RPTQV R.DMA_CFG_RPTQ) 0 (Config.freeWord s.fv).toNat
    (BitVec.ofNat 64 detail)).bumpFv

/-- Reads of a channel that are to be made again, as far as entries allow; the time limit runs from the last of them. -/
def State.rereads (s : State) (g : Nat) : State :=
  ((s.chan g).bursts.filter fun b => b.again && b.entry.isNone && b.data.isNone && b.failed.isNone).foldl (fun t b =>
    let c := t.chan g
    let put (u : State) (x : Burst) : State :=
      let v := u.setChan g { c with bursts := c.bursts.map fun y => if y.off = x.off then x else y }
      match v.engStop (g / 256) with
      | some l => v.setEngStop (g / 256) (some { l with sincePs := v.now })
      | none => v
    match t.burstRead g b with
    | none => t
    | some (t1, some i) => put t1 { b with entry := some i }
    | some (t1, none) => put t1 { b with failed := some 0x0C }) s

/-- The engine goes on after its last channel (step 5). -/
def State.engResume (s : State) (e failed : Nat) : State :=
  let s1 := ((s.setEngStop e none).setFd (R.DMA_ENG_STS_MODE e) 0).setFd (R.DMA_ENG_STS_LASTF e) failed
  let s2 := s1.dmaReport e failed
  if failed = 0 then s2.addFd (R.DMA_ENG_STS_NOFLT e) 1 else s2

/-- The procedure goes on while the channel in turn is done with (steps 3–5). -/
def State.localise (s : State) (e : Nat) : Nat → State
  | 0 => s
  | n + 1 =>
    match s.engStop e with
    | none => s
    | some l =>
      match l.cur with
      | none =>
        match l.todo with
        | [] => s.engResume e l.failed
        | g :: rest =>
          let s1 := s.setEngStop e (some { l with cur := some g, todo := rest, sincePs := s.now })
          if (s.chan g).abort ∧ 1 ≤ s.chState g ∧ s.chState g ≤ 3 then (s1.chanEnd g 5 0x13 none true).localise e n
          else (s1.rereads g).localise e n
      | some g =>
        let bs := (s.chan g).bursts.filter fun b => b.again
        if bs.any fun b => b.data.isNone && b.failed.isNone then s
        else
          let s0 := s.setEngStop e (some { l with cur := none })
          match bs.find? fun b => b.failed.isSome with
          | some b =>
            let s1 := s0.chanEnd g 7 0x12 (some ((s.chSrc g + b.off) % 2 ^ 64)) true
            let s2 := s1.setFd (chF R.DMA_CH_STS_IREASON g) (b.failed.getD 0)
            (s2.setEngStop e (some { l with cur := none, failed := l.failed + 1 })).localise e n
          | none =>
            let c := s.chan g
            let s1 := s0.setChan g { c with bursts := c.bursts.map fun b => { b with again := false } }
            (s1.chanWrites g c.bursts.length).localise e n

/-- The fuel of the procedure. -/
def State.localiseAll (s : State) (e : Nat) : State := s.localise e (2 * (s.engChans e).length + 2)

/-- An engine stop (steps 1 and 2): the bursts with an engine-tag read unanswered become outstanding. -/
def State.engineStop (s : State) (e : Nat) : State :=
  let s1 := ((s.setFd (R.DMA_ENG_STS_MODE e) 2).addFd (R.DMA_ENG_STS_STOPS e) 1).cntEng e 4 1
  let s2 := s1.dmaReport e 0
  let s3 := (s.engChans e).foldl (fun t g =>
    let c := t.chan g
    t.setChan g { c with bursts := c.bursts.map fun b =>
      if b.engineTag && b.entry.isSome && b.data.isNone then { b with entry := none, engineTag := false, again := true } else b }) s2
  let todo := (s3.engChans e).filter fun g => (s3.chan g).bursts.any fun b => b.again
  (s3.setEngStop e (some { cur := none, sincePs := s.now, todo := todo, failed := 0 })).localiseAll e

/-! ### Outcomes (R593–R596, R611) -/

/-- A write that fails after its descriptor completed (R596). -/
def State.lateWrite (s : State) (g reason : Nat) (a : Word) : State :=
  let s1 := if s.chFlag R.DMA_CH_STS_LFAIL g then s
    else ((s.setFb (chF R.DMA_CH_STS_LFAIL g) true).setFd (chF R.DMA_CH_STS_LREASON g) reason).setFd
      (chF R.DMA_CH_FADDR_ADDR g) a.toNat
  if s.chFlag R.DMA_CH_CTL_IE g then s1.chRaise g else s1

/-- The outcome of an item reaches its channel; that of an abandoned read is discarded. -/
def State.dmaOutcome (s : State) (o : DmaOutcome) : State :=
  let g := o.ch
  let e := g / 256
  let c := s.chan g
  let running : Bool := decide (1 ≤ s.chState g) && decide (s.chState g ≤ 3)
  if c.fetchEntry = some o.entry then
    match o.data with
    | some d => s.setChan g { c with fetchEntry := none, fetched := some d }
    | none => s.chanEnd g 7 o.reason (some (s.chList g)) true
  else if c.flushEntry = some o.entry then
    (match o.data with
     | some _ => s.descDone g
     | none => s.chanEnd g 7 o.reason (some (s.chDst g)) true)
  else match c.bursts.find? fun b => b.entry = some o.entry && b.data.isNone with
    | some b =>
      let put (x : Burst) : State := s.setChan g { c with bursts := c.bursts.map fun y => if y.off = b.off then x else y }
      (match o.data with
       | some d =>
         let d1 := (d.drop ((s.chSrc g + b.off) % 4)).take b.len
         let s1 := ((put { b with data := some d1 }).cntEng e 1 b.len).chanWrites g c.bursts.length
         s1.localiseAll e
       | none =>
         if b.engineTag then s.engineStop e
         else if b.again then (put { b with entry := none, failed := some o.reason }).localiseAll e
         else (s.chanEnd g 7 o.reason (some ((s.chSrc g + b.off) % 2 ^ 64)) true).localiseAll e)
    | none =>
      match c.writes.find? fun w => w.entry = o.entry && w.item = o.item with
      | none => s
      | some w =>
        let s1 := s.setChan g { c with writes := c.writes.erase w }
        match o.data with
        | some _ => s1
        | none =>
          if running && w.desc = c.descNo && decide (c.phase ≠ 1) then
            (s1.chanEnd g 7 o.reason (some w.addr.toNat) true).localiseAll e
          else s1.lateWrite g o.reason w.addr

/-! ### GO and ABORT (R588, R589, R608, R609) -/

/-- The fields of CTL that are kept. -/
def dmaCtlMask : Word := 0x3FFFFC

/-- A write of a channel's CTL. -/
def State.dmaCtl (s : State) (g : Nat) (v : Word) : State :=
  let a := R.DMA_CH_CTL (g / 256) (g % 256)
  let old := s.rg a
  let go := v.getLsbD 0
  let ab := v.getLsbD 1
  let busy : Bool := decide (1 ≤ s.chState g) && decide (s.chState g ≤ 3)
  let werr := s.setFb (chF R.DMA_CH_STS_WERR g) true
  if go && ab then werr
  else if busy then
    (if go || (v &&& dmaCtlMask) ≠ (old &&& dmaCtlMask) then werr
     else if ab then s.setChan g { s.chan g with abort := true }
     else s)
  else
    let s1 := s.setRg a (v &&& dmaCtlMask)
    if !go then s1
    else
      let priv : Bool := s1.chFlag R.DMA_CH_CTL_SLOC g || s1.chFlag R.DMA_CH_CTL_DLOC g || s1.chFlag R.DMA_CH_CTL_LLOC g
      let bmeOff : Bool := match s.fnOfChan g with | none => false | some f => !(s.fn f).bme
      if 4 < s1.fd (chF R.DMA_CH_CTL_BSZ g) ∨ (priv ∧ s.chanTenant g ≠ 0) then s1.chanEnd g 7 0x0F none true
      else if bmeOff then s1.chanEnd g 6 0x11 none true
      else ((s1.setFd (chF R.DMA_CH_STS_REASON g) 0).setFd (chF R.DMA_CH_STS_IREASON g) 0).chanBegin g false |>.chanZero g

/-- A write of SRC, DST, CNT or LIST: discarded with WERR while the channel is busy (R588). -/
def State.dmaChanWrite (s : State) (g off : Nat) (v : Word) : State :=
  if 1 ≤ s.chState g ∧ s.chState g ≤ 3 then s.setFb (chF R.DMA_CH_STS_WERR g) true else s.setRg off v

/-- HOLD of a function cleared: its waiting channels run (R610). -/
def State.fnUnhold (s : State) (f : Nat) : State :=
  ((s.dma.chans.map fun x => x.1).filter fun g => s.fnHasChan f g && decide (s.chState g = 2)).foldl
    (fun t g => t.setFd (chF R.DMA_CH_STS_STATE g) 1) s

/-- Sag stage 3 and above pauses running channels whose reads are written (R610); below it they go on. -/
def State.dmaPause (s : State) : State :=
  (s.dma.chans.map fun x => x.1).foldl (fun t g =>
    let c := t.chan g
    if 3 ≤ t.sagStage then
      (if t.chState g = 1 ∧ c.bursts = [] ∧ c.local_ = none ∧ c.fetchEntry = none ∧ c.flushEntry = none then
        t.setFd (chF R.DMA_CH_STS_STATE g) 3 else t)
    else if t.chState g = 3 then t.setFd (chF R.DMA_CH_STS_STATE g) 1 else t) s

/-! ### Arbitration (R598–R602, R607) -/

/-- Reads in flight of an engine: bursts issued whose write has not been accepted (log entry 35). -/
def State.engBursts (s : State) (e : Nat) : List Burst := ((s.engChans e).map fun g => (s.chan g).bursts).flatten

/-- Whether an engine's channels finish what they have in hand for a spare to take over (R711). -/
def State.engMoves (s : State) (e : Nat) : Bool :=
  s.svc.fal.any fun f => decide (f.kind = 8) && decide (f.target = e) && decide (3 ≤ f.phase)

/-- Whether nothing of an engine's channels is under way. -/
def State.engQuiet (s : State) (e : Nat) : Bool :=
  (s.engChans e).all fun g =>
    let c := s.chan g
    c.bursts.isEmpty && c.local_.isNone && c.fetchEntry.isNone && c.flushEntry.isNone

/-- Whether a channel has a burst that the engine may start. -/
def State.chanReady (s : State) (g : Nat) : Bool :=
  let c := s.chan g
  let e := g / 256
  let dec := s.fd (R.DMA_ENG_STS_MODE e) = 1
  let len := s.burstLen g c.next
  let loc := s.chFlag R.DMA_CH_CTL_SLOC g
  let pref := !loc && s.prefAt (s.chanTenant g) ((s.chSrc g + c.next) % 2 ^ 64)
  decide (s.chState g = 1) && decide (c.phase = 3) && decide (c.next < s.chCnt g) && decide (s.sagStage < 3) && !s.engMoves e &&
  (if loc then c.local_.isNone && decide (c.bursts.length < 4)
   else (s.chanPort g).isSome && decide ((s.engBursts e).length < 32) &&
     (if !pref then c.bursts.all fun b => b.data.isSome && b.entry.isSome
      else !dec || (decide (c.bursts.length < 4) && decide (((s.engBursts e).map fun b => b.len).sum + len ≤ 65536))))

/-- The next burst of a channel is issued; none when its read must stall. -/
def State.burstIssue (s : State) (g : Nat) : Option State :=
  let c := s.chan g
  let e := g / 256
  let dec := s.fd (R.DMA_ENG_STS_MODE e) = 1
  let len := s.burstLen g c.next
  let a := (s.chSrc g + c.next) % 2 ^ 64
  let b : Burst := { off := c.next, len := len, entry := none, data := none,
                     engineTag := !dec && s.prefAt (s.chanTenant g) a, again := false, failed := none }
  if s.chFlag R.DMA_CH_CTL_SLOC g then
    some ((s.setChan g { c with next := c.next + len, bursts := c.bursts ++ [{ b with engineTag := false }],
                                local_ := some (0, c.next) }).cntEng e 0 1)
  else match s.burstRead g b with
    | none => none
    | some (s1, some i) =>
      some ((s1.setChan g { c with next := c.next + len, bursts := c.bursts ++ [{ b with entry := some i }] }).cntEng e 0 1)
    | some (s1, none) => some (s1.chanEnd g 7 0x0C (some a) true)

/-- A tag's distance ahead of a virtual time, of 48 bits (R329). -/
def tagAhead (tag vt : Nat) : Int :=
  let d : Nat := (tag + 2 ^ 48 - vt % 2 ^ 48) % 2 ^ 48
  if d < 2 ^ 47 then (d : Int) else (d : Int) - 2 ^ 48

/-- The tag of a child on waking (R329). -/
def wakeTag (tag vt : Nat) : Nat :=
  let d : Nat := (tag + 2 ^ 48 - vt % 2 ^ 48) % 2 ^ 48
  if 0 < d ∧ d < 2 ^ 46 then tag else vt

def tntTagKey (e t : Nat) : Nat := e * 8192 + t

/-- The weight of a tenant at an engine (R599). -/
def State.dmaWeight (s : State) (t : Nat) : Nat :=
  let v := s.tntVer t
  if s.strict t ∨ s.fbShare t then 1 else max 1 (s.fd (R.TNT_WGT_DMAW t v))

/-- Tenants that become ready are woken. -/
def State.dmaWake (s : State) (e : Nat) (ready : List Nat) : State :=
  let was := s.dma.active.get [] e
  let vt := s.dma.vtimes.get 0 e
  let s1 := (ready.filter fun t => !was.contains t).foldl (fun u t =>
    { u with dma := { u.dma with tags := u.dma.tags.set 0 (tntTagKey e t) (wakeTag (u.dma.tags.get 0 (tntTagKey e t)) vt) } }) s
  { s1 with dma := { s1.dma with active := s1.dma.active.set [] e ready } }

/-- The ready tenant with the least tag, ties to the lowest number. -/
def State.dmaTenant (s : State) (e : Nat) (ready : List Nat) : Option Nat :=
  let vt := s.dma.vtimes.get 0 e
  let ahead (t : Nat) : Int := tagAhead (s.dma.tags.get 0 (tntTagKey e t)) vt
  ready.foldl (fun (b : Option Nat) t => match b with
    | none => some t
    | some x => if ahead t < ahead x ∨ (ahead t = ahead x ∧ t < x) then some t else b) none

/-- The tenant's ready channel of highest PRIO, ties round robin by channel number. -/
def State.dmaChannel (s : State) (e : Nat) (cs : List Nat) : Option Nat :=
  let hi := (cs.map fun g => s.fd (chF R.DMA_CH_CTL_PRIO g)).foldl max 0
  let top := cs.filter fun g => s.fd (chF R.DMA_CH_CTL_PRIO g) = hi
  let last := s.dma.lastCh.get 0 e
  match top.find? fun g => last < g + 1 with
  | some g => some g
  | none => top.head?

/-- The tenant whose window of a dedicated engine's round it is (R600). -/
def State.dmaWindow (s : State) (e : Nat) : Option Nat :=
  let grp := s.fd (R.DMA_ENG_CTL_SGRP e)
  let n := s.fd (R.TBL_PG_CFG_SLOTS grp)
  if n = 0 then none
  else
    let j : Nat := s.time.toNat * 100 / 8192 % n
    if s.fb (R.SCH_SLOT_V grp j) then some (s.fd (R.SCH_SLOT_TENANT grp j)) else none

/-- Whether the write of a burst of `n` bytes can be issued within the window of R600 that is running: at 50 GB/s (R585) a byte takes
20 ps, and the time left is counted from the window's last round (log entry 134). -/
def State.dmaFits (s : State) (n : Nat) : Bool :=
  decide (20 * n + s.time.toNat * 1000 % 81920 / 8000 * 8000 ≤ 81920)

/-- One burst is chosen and issued (R598, R600). -/
def State.dmaChoose (s : State) (e : Nat) : State :=
  let ready := (s.engChans e).filter fun g => s.chanReady g
  let ready := if s.fb (R.DMA_ENG_CTL_SGV e) then
      ready.filter fun g => decide (s.dmaWindow e = some (s.chanTenant g)) && s.dmaFits (s.burstLen g (s.chan g).next)
    else ready
  let tnts := (ready.map fun g => s.chanTenant g).dedup
  let s1 := s.dmaWake e tnts
  match s1.dmaTenant e tnts with
  | none => s1
  | some t =>
    match s1.dmaChannel e (ready.filter fun g => s1.chanTenant g = t) with
    | none => s1
    | some g =>
      match s1.burstIssue g with
      | none => s1
      | some s2 =>
        let tag := s2.dma.tags.get 0 (tntTagKey e t)
        let cost := s.burstLen g (s.chan g).next * 65536 / s2.dmaWeight t
        { s2 with dma := { s2.dma with
          vtimes := s2.dma.vtimes.set 0 e tag
          tags := s2.dma.tags.set 0 (tntTagKey e t) ((tag + cost) % 2 ^ 48)
          lastCh := s2.dma.lastCh.set 0 e (g + 1) } }

/-- A pending abort is sampled (R608, R609). A descriptor whose last write is accepted in that cycle is complete. -/
def State.abortSample (s : State) (g : Nat) : State :=
  if !(s.chan g).abort then s
  else if s.chState g = 0 ∨ 4 ≤ s.chState g then s.setChan g { s.chan g with abort := false }
  else if (s.engStop (g / 256)).isSome ∧ (s.chan g).bursts.any (fun b => b.again) then s
  else
    let t := s.chanWrites g ((s.chan g).bursts.length)
    if t.chState g = 4 then t else s.chanEnd g 5 0x13 none true

/-- What a running channel has to do beside bursts: writes, flush and fetch; a descriptor of no bytes completes at once. -/
def State.chanPump (s : State) (g : Nat) : State :=
  if s.chState g ≠ 1 then s
  else
    let s1 := s.chanWrites g ((s.chan g).bursts.length)
    if s1.chState g ≠ 1 then s1
    else if (s1.engStop (g / 256)).isSome || s1.engMoves (g / 256) then s1
    else
      let s2 := s1.chanZero g
      if s2.sagStage < 3 then (s2.chanFlush g).chanFetch g else s2.chanFlush g

/-- One arbitration round of engine `e` (R598): 8 ns after the previous one. -/
def State.dmaRound (s : State) (e : Nat) : State :=
  let due := s.dma.nextRoundPs.get 0 e
  let s0 := s.waitUntil due
  let s0 := { s0 with dma := { s0.dma with nextRoundPs := s0.dma.nextRoundPs.set 0 e (s0.now + 8000) } }
  let s1 := if (s0.engStop e).isSome then s0
    else s0.setFd (R.DMA_ENG_STS_MODE e) (if s0.fb (R.DMA_ENG_CTL_DEC e) then 1 else 0)
  let s2 := (s1.engChans e).foldl (fun t g => (t.abortSample g).chanPump g) s1
  match s2.engStop e with
  | some l => (match l.cur with
    | some g => (s2.rereads g).localiseAll e
    | none => s2.localiseAll e)
  | none => s2.dmaChoose e

/-! ### Local accesses (R590, R606) -/

/-- `n` bytes of cluster or table memory at a local address. -/
def State.localRead (s : State) (a n : Nat) : List Byte :=
  if a < 0x2000000 then (List.range n).map fun i => s.cByte ((a + i) / cmemSize) ((a + i) % cmemSize)
  else s.tBytes (a - 0x10000000) n

/-- Bytes stored at a local address: caches and reservations follow (R606). A range across two clusters is stored in two parts. -/
def State.localWrite (s : State) (a : Nat) (bs : List Byte) : State :=
  if a < 0x2000000 then
    let k := min bs.length (cmemSize - a % cmemSize)
    let s1 := s.storeCluster (a / cmemSize) (a % cmemSize) (bs.take k)
    if k < bs.length then s1.storeCluster (a / cmemSize + 1) 0 (bs.drop k) else s1
  else s.tblStore (a - 0x10000000) bs

/-- The power domain of a local address. -/
def localDomain (a : Nat) : Nat := if a < 0x2000000 then 13 + a / cmemSize else 19

/-- The local access of a channel is made (R590); one whose memory is off waits (R645). -/
def State.localAccess (s : State) (g : Nat) : State :=
  let c := s.chan g
  match c.local_ with
  | none => s
  | some (kind, off) =>
    let b := (c.bursts.find? fun b => b.off = off).getD ⟨off, 0, none, none, false, false, none⟩
    let a := if kind = 0 then (s.chSrc g + off) % 2 ^ 64 else if kind = 1 then (s.chDst g + off) % 2 ^ 64 else s.chList g
    let n := if kind = 2 then 32 else b.len
    if !localOk a n then s.chanEnd g 7 0x0C (some a) true
    else if !(s.live (localDomain a) && s.live (localDomain (a + n - 1))) then s
    else if kind = 0 then
      let bs := c.bursts.map fun y => if y.off = off then { y with data := some (s.localRead a n), entry := some 0 } else y
      ((s.setChan g { c with local_ := none, bursts := bs }).cntEng (g / 256) 1 n).chanWrites g bs.length
    else if kind = 1 then
      let s1 := s.localWrite a (b.data.getD [])
      let s2 := (s1.setChan g { c with local_ := none, bursts := c.bursts.filter fun y => y.off ≠ off }).addFd
        (chF R.DMA_CH_DONE_BYTES g) n
      let s3 := (s2.cntEng (g / 256) 2 n).cntTnt (s.chanTenant g) 13 n
      if s3.chDone g = s3.chCnt g then s3.descAccepted g else s3.chanWrites g (s3.chan g).bursts.length
    else s.setChan g { c with local_ := none, fetched := some (s.localRead a 32) }

/-- A localisation read limit passes (R611 step 3). -/
def State.localiseTimeout (s : State) (e : Nat) : State :=
  match s.engStop e with
  | none => s
  | some l => match l.cur with
    | none => s
    | some g =>
      let s0 := s.waitUntil (l.sincePs + s.fd R.DMA_CFG_LTMO * usPs)
      let c := s0.chan g
      (s0.setChan g { c with bursts := c.bursts.map fun b =>
        if b.again && b.data.isNone && b.failed.isNone then { b with entry := none, failed := some 0 } else b }).localiseAll e

/-! ### Vigil and resets (R571, R610) -/

/-- Every register of a channel at its reset value. -/
def State.chanReset (s : State) (g : Nat) (lost : Bool) : State :=
  let e := g / 256
  let n := g % 256
  let s1 := [R.DMA_CH_SRC e n, R.DMA_CH_DST e n, R.DMA_CH_CNT e n, R.DMA_CH_CTL e n, R.DMA_CH_STS e n, R.DMA_CH_DONE e n,
    R.DMA_CH_LIST e n, R.DMA_CH_FADDR e n].foldl (fun t a => t.setRg a (regReset a)) s
  (if lost then s1.setFb (chF R.DMA_CH_STS_LOST g) true else s1).setChan g Chan.reset

end Sys2Proof.Machine
end

