-- ==== Sys2Proof/Machine/Settle.lean ====
section
/-! DEFINITION. Machine/Settle.lean: what follows at once from a change: messages of this node to itself are consumed, outcomes reach
their DMA channels, interrupts that waited for a transmission are sent, sag pauses take hold, drains are looked at. -/

namespace Sys2Proof.Machine

/-- Packets without an entry that wait at a port leave (completions whose link is gone). -/
def State.dropAt (s : State) (p : Nat) : State :=
  (s.pkts.filter fun k => k.entry.isNone && k.sctx.isNone && (match k.loc with | .queue q => s.qPort q = p | _ => false)).foldl
    (fun t k => t.discard k) s

/-- Items held for a port, or whose completion or acknowledgement is awaited from it, are resolved. -/
def State.portItems (s : State) (p reason : Nat) : State :=
  (s.resolveWhere (fun e => e.state = 1 && e.outPort = p && (e.role = 0 || e.role = 3)) reason).dropAt p

/-- What becomes of a packet that a native link declared down concerns, or that is queued for one that is down (R202, R425). -/
def State.linkDownPkt (s : State) (k : Pkt) : State :=
  if k.sctx.isSome then
    if k.dead then s.setPkt { k with txDone := true }
    else s.replayPkt k (decide (k.copies ≠ 0))
  else if k.cls = 15 then
    if k.origin = .node ∧ k.txPort.isNone then
      match s.ctlPort k.sfid k.dfid with
      | none => s.dropPkt k.id
      | some p =>
        let s1 := s.setPkt { k with pool := .none, cells := 0 }
        match s1.drawC p k.id 1 with
        | none => s1.movePkt { k with loc := .classC p, pool := .none, cells := 0 }
        | some (s2, pool) => s2.movePkt { k with loc := .classC p, pool := pool, cells := 1 }
    else s.dropPkt k.id
  else match k.origin with
    | .mirror _ => s.dropPkt k.id
    | .native _ => s.evictPkt k 3
    | _ => match k.entry with
      | some e => s.resolve e 0x01
      | none => s.discard k

/-- Items queued for a PCIe/CXL port whose link is down are resolved with the reason of its fall, 0x09 at an upstream port (R258, R518). -/
def State.downItems (s : State) : State :=
  let ps := (s.pkts.filterMap fun k => match k.loc with
    | .queue q =>
      let p := s.qPort q
      if (s.fd (R.PRT_CTX_ROLE p) = 1 ∨ s.fd (R.PRT_CTX_ROLE p) = 2) ∧ s.fb (R.PRT_LSTS_UP p) = false then some p else none
    | _ => none).eraseDups
  ps.foldl (fun t p => t.portItems p (if t.fd (R.PRT_CTX_ROLE p) = 1 then 0x09 else (t.port p).downReason)) s

/-- Packets queued for a native link that is down have the outcome of a declaration (R202, R425, R518; log entry 82). -/
def State.downLinks (s : State) : State :=
  ((s.pkts.filter fun k =>
    let at_ (p : Nat) : Bool := s.fd (R.PRT_CTX_ROLE p) = 3 && !s.portUp p
    match k.loc with
    | .queue q => at_ (s.qPort q)
    | .classC p => at_ p
    | .mirror p => at_ p
    | _ => false).map fun k => k.id).foldl (fun t id => match t.pkt? id with
      | none => t
      | some k => t.linkDownPkt k) s

/-- Messages to this node and outcomes are taken, oldest first, and the items for ports that are down resolved. -/
def State.settleLoop (s : State) : Nat → State
  | 0 => s
  | n + 1 =>
    match s.ses.loop with
    | (typ, m) :: rest => (({ s with ses := { s.ses with loop := rest } }).consumeMsg typ m).settleLoop n
    | [] =>
      match s.dma.outcomes with
      | o :: rest => (({ s with dma := { s.dma with outcomes := rest } }).dmaOutcome o).settleLoop n
      | [] =>
        let t := s.downItems.downLinks
        if t.ses.loop = [] ∧ t.dma.outcomes = [] then t else t.settleLoop n

/-- Interrupts of channels that waited (R597). -/
def State.dmaIrqs (s : State) : State :=
  ((s.dma.chans.filter fun e => e.2.pendingIrq ≠ []).map fun e => e.1).foldl (fun t g => t.chIrq g) s

/-- The table interrupts raised are vector 63 of the manager function (R553). -/
def State.tableIrqs (s : State) : State :=
  let n := (s.out.filter fun o => decide (o = .tableIrq)).length
  if n = 0 then s
  else (List.range n).foldl (fun t _ => t.mgrVector 63) { s with out := s.out.filter fun o => decide (o ≠ .tableIrq) }

/-- Whether a packet is of an item this node holds: no class C packet, no mirror copy, not waiting for credits, without outcome. -/
def Pkt.holdsItem (k : Pkt) : Bool :=
  k.cls ≠ 15 && !k.mirrored && !k.dead && (match k.loc with | .credit _ => false | .mirror _ => false | _ => true)

/-- In sag stage 5 S5DONE is set when no item held remains and no entry is in STATE 1 (R661). -/
def State.sagDone (s : State) : State :=
  if s.sagStage = 5 ∧ (s.ldg.entries.all fun e => e.state ≠ 1) ∧ (s.pkts.all fun k => !k.holdsItem) then s.setFb R.SAG_STS_S5DONE true
  else s

/-- Everything that follows at once. -/
def State.settle (s : State) : State := ((s.settleLoop 4096).dmaIrqs.dmaPause).storeMark.drainCheck.tableIrqs.sagDone.creditMarks

end Sys2Proof.Machine
end

