-- ==== Sys2Proof/Machine/Functions.lean ====
section
/-! DEFINITION. Machine/Functions.lean: the fabric function's resets (R569–R576), mailboxes (R566–R568), configuration writes
(R547, R556–R560) and failure-log configuration (R555). -/

namespace Sys2Proof.Machine

/-! ### Counts of a function (R555) -/

/-- Whether an entry is held for a function's requests. -/
def State.fnEntry (s : State) (f : Nat) (e : Entry) : Bool := e.origin = 1 && s.fnHasChan f e.rid

/-- FN_STS.LDG and FN_STS.DMA. -/
def State.fnLdg (s : State) (f : Nat) : Nat := (s.ldg.entries.filter fun e => s.fnEntry f e).length
def State.fnDma (s : State) (f : Nat) : Nat :=
  ((s.dma.chans.map fun x => x.1).filter fun g => s.fnHasChan f g &&
    (s.chState g = 1 || s.chState g = 3 || !(s.chan g).bursts.isEmpty)).length

/-- FFN_FN[f]_STS.QUIET. -/
def State.quiet (s : State) (f : Nat) : Bool := s.fb (R.FFN_FN_CFG_HOLD f) && s.fnLdg f = 0 && s.fnDma f = 0

/-! ### Stops and resets (R569–R575) -/

/-- A function's BME is cleared (R569). -/
def State.bmeClear (s : State) (f : Nat) : State :=
  let x := s.fn f
  if !x.bme then s
  else
    let s1 := (s.setFn f { x with bme := false }).fnStop f 6 0x11 true
    s1.resolveWhere (fun e => s1.fnEntry f e && kindNp e.tkind) 0x11

/-- A mailbox event of a function (R567). -/
def State.fnMbxEvent (s : State) (f len : Nat) : State :=
  if s.fb R.FFN_CFG_MBXQV then
    s.postEvent .ffn f (some (s.fd R.FFN_CFG_MBXQ)) 0x06 (16 + 256 * len + 65536 * f) 0
  else s

/-- Records that appeared since `n` records waited, for a function's log, are discarded (R572). -/
def State.dropRecords (s : State) (f n : Nat) : State :=
  let mine (w : WaitRec) : Bool := match w.dest with
    | .log (some t) => s.logFn t = some f
    | .log none => s.mgrFn = some f
    | .home _ _ _ _ => false
  let lost := (s.ldg.overflow.drop n).filter mine
  let s1 := { s with ldg := { s.ldg with overflow := s.ldg.overflow.take n ++ (s.ldg.overflow.drop n).filter fun w => !mine w } }
  lost.foldl (fun t w => (t.addFd (R.FFN_FN_CNT_RECLOST f) 1).cntTnt w.r.tenant 7 1) s1

/-- The registers of a function's page that a reset clears. -/
def fnMailbox (f : Nat) : List Nat :=
  (List.range 32).map (fun j => R.FN_MBX_IN f j) ++ (List.range 32).map (fun j => R.FN_MBX_OUT f j) ++
  [R.FN_MBX_DB f, R.FN_MBX_RSP f, R.FN_MBX_STS f]

/-- An FLR of one function begins (R571): everything it does is done; RST holds until it completes. -/
def State.flrOne (s : State) (f : Nat) : State :=
  let x := s.fn f
  let n := s.ldg.overflow.length
  let s1 := (s.setFn f { x with bme := false, rst := some s.now }).fnStop f 6 0x11 false
  let s2 := s1.resolveWhere (fun e => s1.fnEntry f e && kindNp e.tkind) 0x11
  let s3 := (s2.resolveWhere (fun e => s2.fnEntry f e) 0x09).dropRecords f n
  let s4 := ((s3.dma.chans.map fun y => y.1) ++ ((List.range (s3.fd (R.FFN_FN_CFG_CHCNT f))).map fun j =>
    s3.fd (R.FFN_FN_CFG_CHBASE f) + j)).dedup.foldl (fun t g => if t.fnHasChan f g then t.chanReset g false else t) s3
  let s5 := (fnMailbox f ++ (List.range 128).map fun j => R.FN_MSIX f j).foldl (fun t a => t.setRg a (regReset a)) s4
  let s6 := ((s5.setRg (R.FN_PBA f) 0).fnMbxEvent f 0).setFb (R.FN_LOG_CFG_EN f) false
  let s7 := if 4096 ≤ f then s6.dlReset (f - 4096) else s6
  s7.setFn f { FnState.reset with rst := some s.now, tenantSet := x.tenantSet }

/-- An FLR of a function, and of the VFs of a PF (R571, R573, R576). -/
def State.flr (s : State) (f : Nat) : State :=
  if (s.fn f).rst.isSome || (s.fnPort f).isNone then s
  else
    let vfs := if 4096 ≤ f then (s.fnsOf (f - 4096)).filter fun g => decide (g < 4096) && (s.fn g).rst.isNone else []
    (vfs.foldl (fun t g => t.flrOne g) s).flrOne f

/-- A function's reset ends (R571). -/
def State.flrEnd (s : State) (f : Nat) : State :=
  let x := s.fn f
  if x.rst.isNone then s else s.setFn f { x with rst := none }

/-- VF Enable of a port's PF is cleared (R573). -/
def State.vfEnableClear (s : State) (p : Nat) : State :=
  let x := s.fn (4096 + p)
  if !x.vfEnable then s
  else
    let s1 := ((s.fnsOf p).filter fun g => decide (g < 4096) && (s.fn g).rst.isNone).foldl (fun t g => t.flrOne g) s
    s1.setFn (4096 + p) { s1.fn (4096 + p) with vfEnable := false }

/-- FORCE (R575, R576, R610). -/
def State.force (s : State) (f : Nat) : State :=
  if (s.fn f).rst.isSome then s
  else
    let s1 := s.fnStop f 7 0x09 true
    s1.resolveWhere (fun e => s1.fnEntry f e) 0x09

/-! ### Mailboxes (R566–R568) -/

/-- A write of FN_MBX_DB. -/
def State.fnDoorbell (s : State) (f len : Nat) : State :=
  if s.fb (R.FN_MBX_STS_BUSY f) || !s.fb R.FFN_CFG_MBXQV then s.setFb (R.FN_MBX_STS_OVW f) true
  else (s.setFb (R.FN_MBX_STS_BUSY f) true).fnMbxEvent f len

/-- A write of FN_MBX_RSP by resident firmware. -/
def State.fnReply (s : State) (f len : Nat) : State :=
  (((s.setFd (R.FN_MBX_RSP_LEN f) len).setFb (R.FN_MBX_STS_BUSY f) false).setFb (R.FN_MBX_STS_DONE f) true).msix f 1

/-! ### The failure log (R555) -/

/-- A write of FN_LOG_CFG: LOGSZ changes only while EN is 0; EN written 1 clears PROD and CONS. -/
def State.logCfg (s : State) (f : Nat) (v : Word) : State :=
  let s1 := if s.fb (R.FN_LOG_CFG_EN f) then s else s.setFd (R.FN_LOG_CFG_LOGSZ f) (wField 8 5 v)
  let s2 := s1.setFd (R.FN_LOG_CFG_EN f) (wField 0 1 v)
  if wField 0 1 v = 1 then (s2.setFd (R.FN_LOG_PROD_PROD f) 0).setFd (R.FN_LOG_CONS_CONS f) 0 else s2

/-! ### Configuration writes (R547, R556–R560) -/

/-- A write is refused with a code for a function. -/
def State.ffnRej (s : State) (code fn : Nat) : State :=
  ((s.setFb R.FFN_STS_REJ true).setFd R.FFN_STS_RCODE code).setFd R.FFN_STS_FN fn

/-- A write of FFN_CFG (R547): the manager port is designated only by resident firmware or the sideband. -/
def State.ffnCfg (s : State) (w : Writer) (v : Word) : State :=
  let s1 := (s.setFd R.FFN_CFG_MBXQ (wField 8 6 v)).setFd R.FFN_CFG_MBXQV (wField 14 1 v)
  let p := wField 0 7 v
  if w = .manager then s1
  else if wField 7 1 v = 1 ∧
      !(s.fd (R.PRT_CTX_ROLE p) = 1 && s.fb (R.PRT_CTX_MGMT p) && s.fd (R.PRT_CTX_TENANT p) = 0) then s.ffnRej 7 (4096 + p)
  else (s1.setFd R.FFN_CFG_MGRPORT p).setFd R.FFN_CFG_MGRV (wField 7 1 v)

/-- Whether the ranges [a, a+n) and [b, b+m) meet. -/
def rangesMeet (a n b m : Nat) : Bool := decide (0 < n) && decide (0 < m) && decide (a < b + m) && decide (b < a + n)

/-- The VFs that exist and belong to a tenant. -/
def State.tenantVfs (s : State) (t : Nat) : List Nat :=
  ((List.range 128).filter fun p => s.pfExists p).flatMap fun p =>
    (s.fnsOf p).filter fun g => decide (g < 4096) && decide (s.fnTenant g = t)

/-- Whether a tenant's quota bars it from having `n` VFs; a strict tenant's quota fields are ignored, and no capacity of its group counts
VFs (R166, R168, R170). -/
def State.vfBarred (s : State) (t n : Nat) : Bool := !(s.strict t && t ≠ 0) && decide (s.fd (R.TNT_QRES_VF t (s.tntVer t)) < n)

/-- A write of FFN_PF[p]_CFG (R556–R558). -/
def State.ffnPfCfg (s : State) (p : Nat) (v : Word) : State :=
  let vb := wField 16 12 v
  let vn := wField 32 13 v
  let db := wField 48 8 v
  let dn := wField 56 5 v
  let t := s.fd (R.PRT_CTX_TENANT p)
  let others := (List.range 128).filter fun q => q ≠ p
  if (s.fn (4096 + p)).vfEnable || (s.kind3 p).isSome then s.setFb R.FFN_STS_INUSE true
  else if s.fd (R.FFN_PF_CFG_TOTALVF p) < vn ∧ s.vfBarred t ((s.tenantVfs t).length + vn) then
    s.ffnRej 2 (4096 + p)
  else if 4096 < vb + vn ∨ 256 < db + dn ∨ 16 < dn ∨ (others.any fun q =>
      rangesMeet vb vn (s.fd (R.FFN_PF_CFG_VFBASE q)) (s.fd (R.FFN_PF_CFG_TOTALVF q)) ||
      rangesMeet db dn (s.fd (R.FFN_PF_CFG_DLBASE q)) (s.fd (R.FFN_PF_CFG_DLCNT q))) then s.ffnRej 5 (4096 + p)
  else s.setRg (R.FFN_PF_CFG p) (v &&& 0x1FFF1FFF0FFF0003#64)

/-- FFN_FN[f]_CFG as it reads: FORCE reads 0. -/
def State.fnCfgWord (s : State) (f : Nat) : Word := setWField 0 13 (s.rg (R.FFN_FN_CFG f) &&& ~~~0x20000#64) (s.fnTenant f)

/-- Channels of a tenant's functions other than `f` (R559). -/
def State.tenantChans (s : State) (t f : Nat) : Nat :=
  ((s.fnCfgs.filter fun g => decide (g ≠ f) && decide (s.fnTenant g = t)).map fun g => s.fd (R.FFN_FN_CFG_CHCNT g)).sum

/-- A write of FFN_FN[f]_CFG: its checks, then its fields, HOLD and FORCE (R557–R560, R574, R575). -/
def State.ffnFnCfg (s : State) (f : Nat) (v : Word) : State :=
  let base := wField 32 12 v
  let cnt := wField 48 9 v
  let old := s.fd (R.FFN_FN_CFG_CHCNT f)
  let t0 := s.fnTenant f
  let t := if 4096 ≤ f then t0 else wField 0 13 v
  let busy (g : Nat) : Bool := s.fnHasChan f g && !(decide (base ≤ g) && decide (g < base + cnt)) &&
    ((decide (1 ≤ s.chState g) && decide (s.chState g ≤ 3)) || !(s.chan g).bursts.isEmpty)
  let vf : Bool := decide (f < 4096) && (s.fnPort f).isSome
  if 4096 < base + cnt ∨ (if 4096 ≤ f then 256 else 64) < cnt ∨ (s.fnCfgs.any fun g => decide (g ≠ f) &&
      rangesMeet base cnt (s.fd (R.FFN_FN_CFG_CHBASE g)) (s.fd (R.FFN_FN_CFG_CHCNT g))) then s.ffnRej 1 f
  else if ((old < cnt ∨ t ≠ t0) ∧ s.quota t R.TBL_PG_CAP1_DMACH R.TNT_QRES_DMACH < s.tenantChans t f + cnt) ∨
      (t ≠ t0 ∧ vf ∧ s.vfBarred t ((s.tenantVfs t).length + 1)) then s.ffnRej 2 f
  else if (s.dma.chans.map fun x => x.1).any busy then s.ffnRej 3 f
  else if t ≠ t0 ∧ !s.quiet f then s.ffnRej 4 f
  else
    let hold := wField 16 1 v
    let s1 := s.setRg (R.FFN_FN_CFG f) (v &&& 0x01FF0FFF00011FFF#64)
    let s2 := if 4096 ≤ f then s1 else s1.setFn f { s1.fn f with tenantSet := true }
    let s3 := if hold = 0 then s2.fnUnhold f else s2
    if wField 17 1 v = 1 then s3.force f else s3

end Sys2Proof.Machine
end

