-- ==== Sys2Proof/Machine/Spc.lean ====
section
/-! DEFINITION. Machine/Spc.lean: the slot power controllers (15_slot_power.md, R615–R640). -/

namespace Sys2Proof.Machine

/-! ### Shared operations of a channel -/

def State.spc (s : State) (i : Nat) : Spc := s.spcs.get Spc.reset i
def State.setSpc (s : State) (i : Nat) (c : Spc) : State := { s with spcs := s.spcs.set Spc.reset i c }

/-- The KIND 0 virtual downstream ports whose binding names channel `i` with SPCV = 1 (R622, R479). -/
def State.spcBound (s : State) (i : Nat) : List (Nat × Nat) :=
  s.bindings.filter fun b =>
    s.fd (R.PRT_VDP_B0_KIND b.1 b.2) = 0 && s.fb (R.PRT_VDP_B1_SPCV b.1 b.2) && s.fd (R.PRT_VDP_B1_SPC b.1 b.2) = i

/-- Whether a host requests the channel off (R622). -/
def State.spcHostOff (s : State) (i : Nat) : Bool := (s.spcBound i).any fun b => (s.vdp b.1 b.2).powerOff

/-- The bits of SPC[i]_STS whose changes post a hot-plug event (R625): STATE, PRSNT, LATCH, DMG, COOLACT, PWRGD, VINOK. -/
def spcWatched : Nat := 0xA83F

/-- The slot event bits of a change of SPC[i]_STS (R625), bit 8 of ARG as bit 0. Bit 15 of ARG stands for a watched change
that no other bit names (log entry 21). -/
def spcEventBits (old new : Nat) : Nat :=
  let o (k : Nat) : Nat := natField k 1 old
  let n (k : Nat) : Nat := natField k 1 new
  let b0 := if o 3 ≠ n 3 then 1 else 0
  let b1 := if o 4 = 0 ∧ n 4 = 1 then 2 else 0
  let b2 := if o 13 ≠ n 13 then 4 else 0
  let b3 := if o 15 ≠ n 15 then 8 else 0
  let b4 := if o 5 = 0 ∧ n 5 = 1 then 16 else 0
  let b5 := if o 11 = 1 ∧ n 11 = 0 then 32 else 0
  let b6 := if natField 0 3 old = 5 ∧ (natField 0 3 new = 0 ∨ natField 0 3 new = 2) then 64 else 0
  let b := b0 + b1 + b2 + b3 + b4 + b5 + b6
  if b ≠ 0 then b else if Nat.land old spcWatched ≠ Nat.land new spcWatched then 128 else 0

/-- Whether GATE is driven high in a state of R619. -/
def spcGate (st : Nat) : Bool := st = 3 || st = 4 || st = 5

/-- The pins of channel `i` after a change of its status from `old` (R619): GATE, PWRGD and PERST_N where they changed. -/
def State.spcPins (s : State) (i old : Nat) : State :=
  let new := (s.rg (R.SPC_STS i)).toNat
  let g (w : Nat) : Bool := spcGate (natField 0 3 w)
  let s1 := if g old ≠ g new then s.emit (.pin "SPC_GATE" i (g new)) else s
  let s2 := if natField 13 1 old ≠ natField 13 1 new then s1.emit (.pin "SPC_PWRGD" i (natField 13 1 new = 1)) else s1
  if natField 14 1 old ≠ natField 14 1 new then s2.emit (.pin "SPC_PERST_N" i (natField 14 1 new = 0)) else s2

/-- What the change of channel `i`'s status from `old` reports (R625): the pins, the Almanac record of an entry to LATCHED
or DAMAGED, and one hot-plug event. -/
def State.spcReport (s : State) (i : Nat) (old : Word) : State :=
  let o := old.toNat
  let new := s.rg (R.SPC_STS i)
  let n := new.toNat
  let s1 := s.spcPins i o
  let s2 := if natField 0 3 o ≠ natField 0 3 n ∧ 6 ≤ natField 0 3 n then s1.almSource .spc (natField 0 3 n) else s1
  let bits := spcEventBits o n
  if bits = 0 then s2
  else s2.postEvent .spc i (s2.evTarget (R.SPC_CTL_EVQV i) (R.SPC_CTL_EVQ i)) 0x04 (i + 256 * bits) new

/-- A change of channel `i` by `f`, with its report. -/
def State.spcChange (s : State) (i : Nat) (f : State → State) : State := (f s).spcReport i (s.rg (R.SPC_STS i))

/-- The state of R619 of channel `i`. -/
def State.spcState (s : State) (i : Nat) : Nat := s.fd (R.SPC_STS_STATE i)

/-- Channel `i` enters a state other than ON: GATE low unless OFFSEQ, PWRGD deasserted, PERST_N asserted (R619). -/
def State.spcLeave (s : State) (i st : Nat) : State :=
  ((((s.setFd (R.SPC_STS_STATE i) st).setFb (R.SPC_STS_PWRGD i) false).setFb (R.SPC_STS_PERST i) true).setFb
    (R.SPC_STS_INLIM i) false).setSpc i { s.spc i with limPs := none, pgPs := none, offPs := s.now }

/-- A trip (R634): LATCH, TKIND, cool-down, TRIPS, LATCHED; Power Fault Detected of the bound slots (R479). -/
def State.spcTrip (s : State) (i kind : Nat) : State :=
  let s1 := ((((s.spcLeave i 6).setFb (R.SPC_STS_LATCH i) true).setFd (R.SPC_STS_TKIND i) kind).setFb
    (R.SPC_STS_COOLACT i) true).addFd (R.SPC_CNT_TRIPS i) 1
  let s2 := s1.setSpc i { s1.spc i with tripPs := s.now }
  (s.spcBound i).foldl (fun t b => t.slotFault b.1 b.2) s2

/-- Entry to DAMAGED (R627, R628). -/
def State.spcDamage (s : State) (i kind : Nat) : State :=
  ((s.spcLeave i 7).setFb (R.SPC_STS_DMG i) true).setFd (R.SPC_STS_DKIND i) kind

/-- Presence Detect State of the slots bound to channel `i` follows the channel's presence (R479). -/
def State.spcPresence (s : State) (i : Nat) (on : Bool) : State :=
  (s.spcBound i).foldl (fun t b => t.slotPresence b.1 b.2)
    (s.setFb (R.SPC_STS_PRSNT i) on)

/-- A step of channel `i` by an event of its pins or timers: nothing while PD24 is off (R641) or the event's condition
does not hold. -/
def State.spcStep (s : State) (i : Nat) (cond : Bool) (due : Nat) (f : State → State) : State :=
  if s.live 24 && cond then (s.waitUntil due).spcChange i f else s

/-- A step that a channel held through Vigil does not make: during the hold only presence loss and the fast breaker act (R639). -/
def State.spcEvent (s : State) (i : Nat) (cond : Bool) (due : Nat) (f : State → State) : State :=
  s.spcStep i ((s.spc i).heldPs.isNone && cond) due f

/-! ### Writes of SPC[i]_CTL -/

/-- EN written 1 (R624, R638 row 9). -/
def State.spcEn (s : State) (i : Nat) : State :=
  s.spcChange i fun s =>
    let s1 := s.setFb (R.SPC_CTL_EN i) true
    if s.fb (R.SPC_CTL_EN i) then s1
    else if s.spcState i = 0 then s1.setFd (R.SPC_STS_STATE i) (if s.fb (R.SPC_STS_PRSNT i) then 2 else 1)
    else s1

/-- EN written 0 (R624, R635). -/
def State.spcDis (s : State) (i : Nat) : State :=
  s.spcChange i fun s =>
    if s.fb (R.SPC_CTL_EN i) then
      let s1 := (s.setFb (R.SPC_CTL_EN i) false).setFb (R.SPC_STS_LATCH i) false
      if s.spcState i = 4 then s1.spcLeave i 5
      else if s.spcState i = 5 then s1
      else s1.spcLeave i 0
    else s

/-- DCLR written 1 (R624, R628). -/
def State.spcDclr (s : State) (i : Nat) : State :=
  s.spcChange i fun s =>
    if s.fb (R.SPC_CTL_EN i) then s.setFb (R.SPC_STS_WERR i) true
    else
      let s1 := (s.setFb (R.SPC_STS_DMG i) false).setFd (R.SPC_STS_DKIND i) 0
      if s.spcState i = 7 then s1.setFd (R.SPC_STS_STATE i) 0 else s1

/-- PERSTF set: PERST_N asserted (R630). -/
def State.spcPerstf (s : State) (i : Nat) : State :=
  s.spcChange i fun s => (s.setFb (R.SPC_CTL_PERSTF i) true).setFb (R.SPC_STS_PERST i) true

/-- R624: EN written 1. -/
def execSpcEnable (w : Writer) (i : Fin 32) (s : State) : Host.Outcome State Fault Refusal :=
  .next (s.regCommand w (R.SPC_CTL i) 1 fun s => s.spcEn i)

/-- R635: EN written 0. -/
def execSpcDisable (w : Writer) (i : Fin 32) (s : State) : Host.Outcome State Fault Refusal :=
  .next (s.regCommand w (R.SPC_CTL i) 0 fun s => s.spcDis i)

/-- R628: DCLR written 1. -/
def execSpcDclr (w : Writer) (i : Fin 32) (s : State) : Host.Outcome State Fault Refusal :=
  .next (s.regCommand w (R.SPC_CTL i) 4 fun s => s.spcDclr i)

/-- R630: PERSTF set. -/
def execSpcPerstfSet (w : Writer) (i : Fin 32) (s : State) : Host.Outcome State Fault Refusal :=
  .next (s.regCommand w (R.SPC_CTL i) 8 fun s => s.spcPerstf i)

/-- R630: PERSTF cleared. -/
def execSpcPerstfClear (w : Writer) (i : Fin 32) (s : State) : Host.Outcome State Fault Refusal :=
  .next (s.regCommand w (R.SPC_CTL i) 0 fun s => s.setFb (R.SPC_CTL_PERSTF i) false)

/-- A write of SPC[i]_TM: the model temperature becomes TAMB (R636). -/
def State.spcTmSet (s : State) (i : Nat) : State := s.setSpc i { s.spc i with temp := (s.fd (R.SPC_TM_TAMB i) : Int) * 256 }

/-! ### Presence and input voltage -/

/-- R620, R624: presence begins. -/
def execSpcPresenceBegin (i : Fin 32) (s : State) : Host.Outcome State Fault Refusal :=
  .next (s.spcEvent i (!s.fb (R.SPC_STS_PRSNT i)) s.now fun s =>
    let s1 := (s.spcPresence i true).setSpc i { s.spc i with insertPs := s.now }
    if s.spcState i = 1 then s1.setFd (R.SPC_STS_STATE i) 2 else s1)

/-- Presence lost (R620, R624, R638 row 1): EMPTY at once, but LATCHED, DAMAGED and DISABLED stay. -/
def State.spcLost (s : State) (i : Nat) : State :=
  let s1 := (s.spcPresence i false).addFd (R.SPC_CNT_PLOSS i) 1
  if s.spcState i = 0 ∨ s.spcState i = 6 ∨ s.spcState i = 7 then s1
  else s1.spcLeave i (if s.fb (R.SPC_CTL_EN i) then 1 else 0)

/-- R621: VIN qualified. -/
def execSpcVinQualified (i : Fin 32) (s : State) : Host.Outcome State Fault Refusal :=
  .next (s.spcEvent i (!s.fb (R.SPC_STS_VINOK i)) s.now fun s => s.setFb (R.SPC_STS_VINOK i) true)

/-- R621, R624: VIN no longer qualified; RAMP and ON pass to WAIT. -/
def execSpcVinLoss (i : Fin 32) (s : State) : Host.Outcome State Fault Refusal :=
  .next (s.spcEvent i (s.fb (R.SPC_STS_VINOK i)) s.now fun s =>
    let s1 := s.setFb (R.SPC_STS_VINOK i) false
    if s.spcState i = 3 ∨ s.spcState i = 4 then s1.spcLeave i 2 else s1)

/-! ### Ramp, power good, PERST_N -/

/-- The conditions of R623 that are not times. -/
def State.spcMayRamp (s : State) (i : Nat) : Bool :=
  s.fb (R.SPC_CTL_EN i) && s.spcState i = 2 && !s.spcHostOff i && s.fb (R.SPC_STS_PRSNT i) && s.fb (R.SPC_STS_VINOK i) &&
  !s.fb (R.SPC_STS_LATCH i) && !s.fb (R.SPC_STS_DMG i) && !s.fb (R.SPC_STS_COOLACT i) &&
  decide (s.fd (R.SPC_MEAS_VOUT i) ≤ s.fd (R.SPC_VTH_VSHORT i))

/-- R623, R624: WAIT to RAMP; ONCNT advances. -/
def execSpcRampStart (i : Fin 32) (s : State) : Host.Outcome State Fault Refusal :=
  .next (s.spcEvent i (s.spcMayRamp i) ((s.spc i).insertPs + s.fd (R.SPC_TMR0_INSDLY i) * msPs) fun s =>
    ((s.setFd (R.SPC_STS_STATE i) 3).satFd (R.SPC_CNT_ONCNT i)).setSpc i { s.spc i with rampPs := s.now })

/-- A channel in ON whose host requests it off passes to OFFSEQ (R622, R624). -/
def State.spcObey (s : State) (i : Nat) : State := if s.spcHostOff i ∧ s.spcState i = 4 then s.spcLeave i 5 else s

/-- RAMP to ON (R624); the power-good qualification starts (R629). -/
def State.spcOn (s : State) (i : Nat) : State :=
  ((s.setFd (R.SPC_STS_STATE i) 4).setSpc i { s.spc i with pgPs := some s.now }).spcObey i

/-- R624: GATE and VOUT_S reach their levels. -/
def execSpcRampComplete (i : Fin 32) (s : State) : Host.Outcome State Fault Refusal :=
  .next (s.spcEvent i (s.spcState i = 3) s.now fun s => s.spcOn i)

/-- R629: PWRGD rises PGQ after its conditions began to hold together. -/
def execSpcPwrgdQualified (i : Fin 32) (s : State) : Host.Outcome State Fault Refusal :=
  .next (s.spcEvent i (s.spcState i = 4 && !s.fb (R.SPC_STS_PWRGD i) && !s.fb (R.SPC_STS_INLIM i))
    ((s.spc i).pgPs.getD s.now + s.fd (R.SPC_TMR1_PGQ i) * usPs) fun s =>
    (s.setFb (R.SPC_STS_PWRGD i) true).setSpc i { s.spc i with pwrgdPs := s.now })

/-- R629, R630: VOUT_S below PGTH for 10 µs; PWRGD falls and PERST_N is asserted. -/
def execSpcPwrgdLoss (i : Fin 32) (s : State) : Host.Outcome State Fault Refusal :=
  .next (s.spcEvent i (s.spcState i = 4 && s.fb (R.SPC_STS_PWRGD i)) s.now fun s =>
    ((s.setFb (R.SPC_STS_PWRGD i) false).setFb (R.SPC_STS_PERST i) true).setSpc i { s.spc i with pgPs := some s.now })

/-- R630: PERST_N is released PERSTDLY after PWRGD rose, while PERSTF = 0. -/
def execSpcPerstRelease (i : Fin 32) (s : State) : Host.Outcome State Fault Refusal :=
  .next (s.spcEvent i (s.spcState i = 4 && s.fb (R.SPC_STS_PWRGD i) && s.fb (R.SPC_STS_PERST i) &&
      !s.fb (R.SPC_CTL_PERSTF i))
    ((s.spc i).pwrgdPs + s.fd (R.SPC_TMR1_PERSTDLY i) * msPs) fun s => s.setFb (R.SPC_STS_PERST i) false)

/-! ### Current limit and trips -/

/-- R631, R638 row 7: current limit engages and the fault timer runs. -/
def execSpcCurrentLimit (i : Fin 32) (s : State) : Host.Outcome State Fault Refusal :=
  .next (s.spcEvent i ((s.spcState i = 3 || s.spcState i = 4) && !s.fb (R.SPC_STS_INLIM i)) s.now fun s =>
    (s.setFb (R.SPC_STS_INLIM i) true).setSpc i { s.spc i with limPs := some s.now, pgPs := none })

/-- R631: the current has stayed below the limit for 100 µs; the fault timer returns to zero. -/
def execSpcLimitRelease (i : Fin 32) (s : State) : Host.Outcome State Fault Refusal :=
  .next (s.spcEvent i (s.fb (R.SPC_STS_INLIM i)) s.now fun s =>
    (s.setFb (R.SPC_STS_INLIM i) false).setSpc i { s.spc i with limPs := none, pgPs := some s.now })

/-! ### Thermal model -/

/-- The model temperature of R636 after 10 µs, in 1/256 °C; its rounding is a free value, and so is the result for a TAU of
0, outside the field's range. -/
def spcTemp (t vin vout iout rth tau tamb rdson : Int) (gate : Bool) (fv : Nat) : Int :=
  if tau = 0 then (BitVec.truncate 16 (Config.freeWord fv)).toInt else
  let p : Int := if gate then max ((vin - vout) * iout * 10000) (iout * iout * rdson) else 0
  let num := 2560000000000 * tamb + 256 * rth * p - t * 10000000000
  let den := 100000000000 * tau
  t + num.fdiv den + (if num.fmod den ≠ 0 && Config.freeBool fv then 1 else 0)

/-- The temperature in use (R637), in 1/256 °C. -/
def State.spcInUse (s : State) (i : Nat) : Int :=
  let td := s.fd (R.SPC_MEAS_TDIO i)
  let t := (s.spc i).temp
  let d := signedOf 8 td * 256
  if td = 0x80 then t
  else if s.fd (R.SPC_CTL_TMODE i) = 1 then d
  else if s.fd (R.SPC_CTL_TMODE i) = 2 then max t d
  else t

/-- R634: COOL has elapsed since the trip and the temperature in use is below TARM. -/
def execSpcCooldownEnd (i : Fin 32) (s : State) : Host.Outcome State Fault Refusal :=
  .next (s.spcEvent i (s.fb (R.SPC_STS_COOLACT i) && decide (s.spcInUse i < (s.fd (R.SPC_TM_TARM i) : Int) * 256))
    ((s.spc i).tripPs + max (s.fd (R.SPC_TMR1_COOL i)) 1000 * msPs) fun s => s.setFb (R.SPC_STS_COOLACT i) false)

/-- R627: a drain-source short found in EMPTY or WAIT. -/
def execSpcDsShort (i : Fin 32) (s : State) : Host.Outcome State Fault Refusal :=
  .next (s.spcEvent i (s.spcState i = 1 || s.spcState i = 2) s.now fun s => s.spcDamage i 2)

end Sys2Proof.Machine
end

