-- ==== Sys2Proof/Machine/Ports.lean ====
section
/-! DEFINITION. Machine/Ports.lean: PCIe and CXL ports (11_pcie_and_cxl_ports.md): placing of reservations (R274, R510), bindings
(R184–R186), link up and down, resets (R488–R491), proxy resets (R489), containment (R483, R484). -/

namespace Sys2Proof.Machine

/-! ### Slots as the host sees them (R479) -/

/-- A change with the slot events it raises at every binding: DLL State Changed and Presence Detect Changed. GONE and the slot
channels raise their own. -/
def State.slotWatch (s : State) (f : State → State) : State :=
  let t := f s
  ((s.bindings ++ t.bindings).dedup).foldl (fun u b =>
    if s.fb (R.PRT_VDL_GONE b.1 b.2) ≠ t.fb (R.PRT_VDL_GONE b.1 b.2) ∧ t.fb (R.PRT_VDP_B0_VALID b.1 b.2) then u
    else
      let u1 := if s.dllla b.1 b.2 ≠ t.dllla b.1 b.2 then u.slotDll b.1 b.2 else u
      if s.slotPresent b.1 b.2 ≠ t.slotPresent b.1 b.2 then u1.slotPresence b.1 b.2 else u1) t

/-! ### Bindings (R184–R186, R545) -/

/-- The FIDs a binding names. -/
def State.boundFids (s : State) (p v : Nat) : List Nat :=
  let base := s.fd (R.PRT_VDP_B0_FID p v)
  match s.fd (R.PRT_VDP_B0_KIND p v) with
  | 1 => (List.range (s.fd (R.PRT_VDP_B0_FNCNT p v) + 1)).map fun i => base + i
  | 2 => [base]
  | _ => []

/-- Whether setting VALID is refused (R185, R545), by the fields as written. -/
def State.bindRefused (s : State) (p v : Nat) : Bool :=
  match s.fd (R.PRT_VDP_B0_KIND p v) with
  | 0 =>
    let q := s.fd (R.PRT_VDP_B0_LPORT p v)
    let lo := s.fd (R.PRT_FIDMAP_FIDBASE q)
    let hi := lo + s.fd (R.PRT_FIDMAP_COUNTM1 q)
    s.fd (R.PRT_CTX_ROLE q) ≠ 2 ||
    s.bindings.any fun b =>
      (s.fd (R.PRT_VDP_B0_KIND b.1 b.2) = 0 && s.fd (R.PRT_VDP_B0_LPORT b.1 b.2) = q) ||
      (s.fd (R.PRT_VDP_B0_KIND b.1 b.2) = 2 && decide (lo ≤ s.fd (R.PRT_VDP_B0_FID b.1 b.2)) &&
        decide (s.fd (R.PRT_VDP_B0_FID b.1 b.2) ≤ hi))
  | 3 => !s.fb (R.FFN_PF_CFG_EN p) || s.bindings.any fun b => b.1 = p && s.fd (R.PRT_VDP_B0_KIND b.1 b.2) = 3
  | _ => (s.boundFids p v).any fun f => !s.owns (s.fd (R.PRT_CTX_TENANT p)) f || s.bindings.any fun b => s.binds b f

/-- A write of PRT[p]_VDP[v]_B0. -/
def State.vdpB0 (s : State) (p v : Nat) (w : Word) : State :=
  if s.fb (R.PRT_VDP_B0_VALID p v) then
    if wField 0 1 w = 1 then s
    else
      let s1 := (s.setFb (R.PRT_VDP_B0_VALID p v) false).setFb (R.PRT_VDL_GONE p v) false
      s1.setVdp p v { s1.vdp p v with resets := [], dpc := false, linkDisable := false, rrs := false }
  else
    let s1 := s.setRg (R.PRT_VDP_B0 p v) (w &&& 0x000000FFFFFF7F06#64)
    if wField 0 1 w = 0 then s1
    else if s1.bindRefused p v then (s1.setFb R.TBL_STS_REJ true).setFd R.TBL_STS_RCODE 9
    else
      let s2 := s1.setFb (R.PRT_VDP_B0_VALID p v) true
      let i := s2.fd (R.PRT_VDP_B1_SPC p v)
      if s2.live 24 then s2.spcChange i fun t => t.spcObey i else s2

/-- A write of PRT[p]_VDP[v]_B1. -/
def State.vdpB1 (s : State) (p v : Nat) (w : Word) : State :=
  if s.fb (R.PRT_VDP_B0_VALID p v) then s else s.setRg (R.PRT_VDP_B1 p v) (w &&& 0x3F#64)

/-! ### Reservations (R273, R274, R510) -/

/-- The reservation words of a port by its role. -/
def State.wanted (s : State) (p : Nat) : Nat × Nat × Nat × Nat :=
  let role := s.fd (R.PRT_CTX_ROLE p)
  if role = 3 then (0, 0, (s.rg (R.PRT_NRSV p)).toNat, 3)
  else ((s.rg (R.PRT_BRG_TOF p)).toNat, (s.rg (R.PRT_BRG_FRF p)).toNat, 0, role)

/-- Training begins: the port's reservations are placed, or do not fit and hold the link down. -/
def State.place (s : State) (p : Nat) : State :=
  let role := s.fd (R.PRT_CTX_ROLE p)
  if role = 0 then s else
  let x := s.port p
  let y := { x with placed := some (s.wanted p) }
  let s1 := if x.placed = some (s.wanted p) then s
    else if s.portRsv - placedCells x + placedCells y ≤ 196608 then s.setPort p y
    else
      let s2 := (((s.setPort p { x with placed := none }).setFb R.BUF_STS_RSVFAIL true).setFd R.BUF_STS_RSVPORT p)
      s2.bufReport p 1 (BitVec.ofNat 64 (p + (if role = 3 then 256 else 0) + s.portRsv * 2 ^ 32))
  if role = 3 then s1
  else
    let a := s1.fd (R.PRT_LDGRSV_P p)
    let b := s1.fd (R.PRT_LDGRSV_NP p)
    let x1 := s1.port p
    let held := match x1.placedLdg with | none => 0 | some (c, d) => c + d
    if x1.placedLdg = some (a, b) then s1
    else if s1.ldgPlaced - held + a + b + s1.fd R.LDG_CFG_XRSV ≤ 131072 then s1.setPort p { x1 with placedLdg := some (a, b) }
    else ((s1.setPort p { x1 with placedLdg := none }).setFb R.LDG_STS_RSVFAIL true).setFd R.LDG_STS_RSVPORT p

/-- Whether a port's reservations are placed. -/
def State.isPlaced (s : State) (p : Nat) : Bool :=
  let x := s.port p
  x.placed.isSome && (s.fd (R.PRT_CTX_ROLE p) = 3 || x.placedLdg.isSome)

/-- Whether a port is a management-capable upstream port (R175). -/
def State.mgmtPort (s : State) (p : Nat) : Bool := s.fd (R.PRT_CTX_ROLE p) = 1 && s.fb (R.PRT_CTX_MGMT p)

/-- PRT[p]_LCTL as its fields but TRAIN, L0PEN and L1EN are in force: as the last training took it (R465). -/
def State.lctlOf (s : State) (p : Nat) : Word := (s.port p).lctl.getD (regReset (R.PRT_LCTL p))

/-- Whether the PERST_N input of an upstream port is asserted and applies to it (R465, R488, R491). -/
def State.perstHeld (s : State) (p : Nat) : Bool :=
  s.fd (R.PRT_CTX_ROLE p) = 1 && (s.lctlOf p).getLsbD 9 && s.perstIn.getLsbD (wField 10 5 (s.lctlOf p))

/-- Whether a host holds the real link of a KIND 0 binding in reset: Secondary Bus Reset is set (R476). -/
def State.sbrHeld (s : State) (p : Nat) : Bool :=
  s.bindings.any fun b => s.fd (R.PRT_VDP_B0_KIND b.1 b.2) = 0 && s.fd (R.PRT_VDP_B0_LPORT b.1 b.2) = p && (s.vdp b.1 b.2).sbr

/-- Whether a PCIe/CXL port trains (R462, R465, R476, R483, R488); in recovery only a management-capable one does (R152). -/
def State.trains (s : State) (p : Nat) : Bool :=
  let x := s.port p
  (!s.inRecovery || s.mgmtPort p) &&
  (s.fd (R.PRT_CTX_ROLE p) = 1 || s.fd (R.PRT_CTX_ROLE p) = 2) && s.fd (R.PHY_CTL_MODE (octetOf p)) = 1 &&
  s.fb (R.PRT_LCTL_TRAIN p) && !s.fb (R.PRT_LSTS_UP p) && !s.perstHeld p && !s.sbrHeld p && !x.disabled &&
  !s.fb (R.PRT_LSTS_CONT p) && !s.fb (R.PRT_RST_LDIS p) && s.lanesOf p ≠ 0 && (s.fd (R.OCT_BIF_CODE (octetOf p)) ≠ 6 || s.pciX16 p)

/-- Training of a port ends, or starts anew. -/
def State.untrain (s : State) (p : Nat) : State := s.setPort p { s.port p with training := false }

/-- Training begins where it may; one that begins takes LCTL, whose PERST_N input may hold it (R465). -/
def State.train (s : State) (p : Nat) : State :=
  if !s.trains p then s
  else if (s.port p).training then s.place p
  else
    let s1 := s.setPort p { s.port p with training := true, lctl := some (s.rg (R.PRT_LCTL p)) }
    if s1.perstHeld p then s1.untrain p else s1.place p

/-! ### Events of a link (R466) -/

/-- A link state change event; no register names its queue (log entry 36). -/
def State.linkEvent (s : State) (src : Src) (p st : Nat) : State :=
  s.postEvent src p (src.freeQueue 3) 0x03 (octetOf p * 2 ^ 16 + p % 4 * 2 ^ 8 + st) s.time

/-! ### What a fault of a port resolves (R518) -/

/-- Items that entered at a port are resolved. -/
def State.portRequests (s : State) (p reason : Nat) : State :=
  s.resolveWhere (fun e => e.state = 1 && e.inPort = p && decide (e.role ≤ 1)) reason

/-- Items of a binding's functions, as requesters or targets, are resolved. -/
def State.bindingItems (s : State) (b : Nat × Nat) (reason : Nat) : State :=
  s.resolveWhere (fun e => e.state = 1 && (s.binds b e.dfid || s.binds b e.sfid)) reason

/-! ### A link goes down or up (R466, R488) -/

/-- The registers and queues of a port whose link goes down; FLIT keeps the last mode (log entry 37). -/
def State.linkLost (s : State) (p : Nat) : State :=
  if !s.fb (R.PRT_LSTS_UP p) then s.untrain p
  else
    let s := s.endCut p
    let s1 := ((((((s.setFb (R.PRT_LSTS_UP p) false).setFd (R.PRT_LSTS_RATE p) 0).setFd (R.PRT_LSTS_WIDTH p) 0).setFd
      (R.PRT_LSTS_CXL p) 0).setFd (R.PRT_LSTS_REV p) 0).setFd (R.PRT_LSTS_L0P p) 0).setFd (R.PRT_LSTS_LTSSM p) 0
    let s2 := ((s1.addFd (R.PRT_LSTS_DOWNS p) 1).cntPort p 60 1).linkEvent .prt p 9
    s2.setPort p { s2.port p with credits := ⟨0, 0, 0, 0, 0, 0⟩, awaitAck := [], ideKey := none, training := false }

/-- A proxy reset of a binding's functions (R489): those not already being reset. Its FLR write is a configuration write with tenant
0's identity, stamped with the versions in force. -/
def State.proxyPkt (s : State) (p v fid : Nat) (write : Bool) : Pkt :=
  let b := if write then 0x44 else 0x04
  let tk := tlpKind false b
  let hd := sheafWords 0 1 0 fid 0 0 (s.fd R.GLB_NFID_NFID) 0 0 s.birthNow 0
  let target : Nat := match (List.range 128).find? fun q => s.fd (R.PRT_CTX_ROLE q) = 2 &&
      decide (s.fd (R.PRT_FIDMAP_FIDBASE q) ≤ fid) && decide (fid ≤ s.fd (R.PRT_FIDMAP_FIDBASE q) + s.fd (R.PRT_FIDMAP_COUNTM1 q)) with
    | some q => s.fd (R.PRT_FIDMAP_RIDBASE q) + (fid - s.fd (R.PRT_FIDMAP_FIDBASE q))
    | none => (Config.freeWord (s.fv + 1)).toNat % 65536
  let reg : Nat := if write then (Config.freeWord s.fv).toNat % 1024 * 4 else 4
  let data : List Byte := if write then
    [Config.freeByte (s.fv + 2), Config.freeByte (s.fv + 3) ||| 0x80, Config.freeByte (s.fv + 4), Config.freeByte (s.fv + 5)] else []
  { Pkt.blank with
    id := s.pktNext, loc := .ingress (octetOf p), origin := .proxy (vdpKey p v), inPort := p,
    m3 := arrivalM3 tk false write false 1 0 ||| BitVec.ofNat 64 (s.tntVer 0 + 2 * s.rver),
    win := [hd.1, hd.2, BitVec.ofNat 64 (b * 2 ^ 56 + 2 ^ 32 + 0xF), BitVec.ofNat 64 (target % 65536 * 2 ^ 48 + reg * 2 ^ 32)] ++
      List.replicate 12 0,
    data := data, hdrLen := 16, len := 28 + data.length, rcvd := 28 + data.length, cells := 1, arrivedPs := s.now, sentPs := s.now }

/-- A proxy reset's request is sent through the queue its FID maps to, if there is one and an entry is free. -/
def State.proxySend (s : State) (p v fid : Nat) (write : Bool) : State :=
  let k := s.proxyPkt p v fid write
  match s.mapQueue k with
  | none => s
  | some q => match s.drawEntry k (s.ingressRole k) with
    | none => s
    | some (s1, i) =>
      let k1 := { k with entry := some i }
      ((s1.addPkt k1).sourceEdge k1 q).bumpFv.bumpFv.bumpFv.bumpFv.bumpFv.bumpFv

/-- The bound functions of a KIND 1 or 2 binding are reset by proxy (R489, R490). -/
def State.proxyReset (s : State) (p v : Nat) : State :=
  (s.boundFids p v).foldl (fun t f =>
    if (t.vdp p v).resetting f then t
    else
      let x := t.vdp p v
      (t.setVdp p v { x with resets := x.resets ++ [⟨f, 0, t.now, t.now⟩] }).proxySend p v f true) s

/-- Data Link Down of a PCIe/CXL port that is no upstream link: its items are resolved (R518), and a removed port is remembered. -/
def State.portDown (s : State) (p reason : Nat) (lost : Bool) : State :=
  let s0 := s.linkLost p
  let s1 := s0.setPort p { s0.port p with downReason := reason }
  let s2 := s1.portItems p reason
  if lost then
    let s3 := s2.setPort p { s2.port p with removed := true }
    let lo := s3.fd (R.PRT_FIDMAP_FIDBASE p)
    let hi := lo + s3.fd (R.PRT_FIDMAP_COUNTM1 p)
    s3.bindings.foldl (fun t b =>
      if t.shared b && (t.vdp b.1 b.2).resets.any fun r => decide (lo ≤ r.fid) && decide (r.fid ≤ hi) then t.setGone b.1 b.2 else t) s3
  else s2

/-! ### Containment (R483, R484) -/

/-- A DPC trigger on a virtual downstream port. -/
def State.dpcTrigger (s : State) (p v : Nat) : State :=
  let x := s.vdp p v
  if x.dpc ∨ !s.fb (R.PRT_VDP_B0_VALID p v) then s
  else
    let s1 := (s.setVdp p v { x with dpc := true }).bindingItems (p, v) 0x05
    if s1.fd (R.PRT_VDP_B0_KIND p v) = 0 then
      let q := s1.fd (R.PRT_VDP_B0_LPORT p v)
      (s1.setFb (R.PRT_LSTS_CONT q) true).portDown q 0x05 false
    else s1

/-- DPC Trigger Status is cleared (R484): the real link retrains, or the functions are reset by proxy. -/
def State.dpcRelease (s : State) (p v : Nat) : State :=
  let x := s.vdp p v
  if !x.dpc then s
  else
    let s1 := s.setVdp p v { x with dpc := false }
    if s1.fd (R.PRT_VDP_B0_KIND p v) = 0 then
      let q := s1.fd (R.PRT_VDP_B0_LPORT p v)
      (s1.setFb (R.PRT_LSTS_CONT q) false).train q
    else s1.proxyReset p v

/-- An uncorrectable error detected at a virtual downstream port: unmasked it triggers DPC where the host enabled it for the severity (R483;
places and severities of PCI Express, log entry 33). -/
def State.portError (s : State) (p v bit : Nat) (fatal : Bool) : State :=
  let x := s.vdp p v
  let en := natField 0 2 (cfgWord x.cfg 0x166)
  let mask := cfgWord x.cfg 0x108 + 65536 * cfgWord x.cfg 0x10A
  if natField bit 1 mask = 0 ∧ ((fatal ∧ en ≠ 0) ∨ en = 2) then s.dpcTrigger p v else s

/-- A change, and the DPC that ACS Violations logged by it trigger (R483, R485). -/
def State.acsWatch (s : State) (f : State → State) : State :=
  let t := f s
  (t.bindings.filter fun b => (t.vdp b.1 b.2).acsViol && !(s.vdp b.1 b.2).acsViol).foldl (fun u b => u.portError b.1 b.2 21 false) t

/-- Surprise Down triggers DPC at a KIND 0 binding whose host enabled it (R483, R498). -/
def State.surpriseDown (s : State) (q : Nat) : State :=
  match s.bindings.find? fun b => s.fd (R.PRT_VDP_B0_KIND b.1 b.2) = 0 && s.fd (R.PRT_VDP_B0_LPORT b.1 b.2) = q with
  | none => s
  | some b => s.portError b.1 b.2 5 true

/-! ### Resets below a host (R476, R488, R490, R546) -/

/-- A Secondary Bus Reset of a virtual downstream port, or its part of a reset of the switch. -/
def State.busReset (s : State) (p v : Nat) : State :=
  if !s.fb (R.PRT_VDP_B0_VALID p v) || (s.vdp p v).dpc then s
  else
    let s1 := s.bindingItems (p, v) 0x09
    match s1.fd (R.PRT_VDP_B0_KIND p v) with
    | 0 => let q := s1.fd (R.PRT_VDP_B0_LPORT p v)
           ((s1.portDown q 0x09 false).emit (.mgmt "hot reset" q 0)).train q
    | 3 => s1.flr (4096 + p)
    | _ => s1.proxyReset p v

/-- Link Disable of a virtual downstream port written. -/
def State.linkDisable (s : State) (p v : Nat) (on : Bool) : State :=
  let x := s.vdp p v
  if x.linkDisable = on then s
  else
    let s1 := s.setVdp p v { x with linkDisable := on }
    let valid := s.fb (R.PRT_VDP_B0_VALID p v)
    let q := s.fd (R.PRT_VDP_B0_LPORT p v)
    if !valid then s1
    else if on then
      let s2 := s1.bindingItems (p, v) 0x09
      match s.fd (R.PRT_VDP_B0_KIND p v) with
      | 0 => (s2.setPort q { s2.port q with disabled := true }).portDown q 0x09 false |>.setFd (R.PRT_LSTS_LTSSM q) 6
      | 3 => s2.flr (4096 + p)
      | _ => s2.proxyReset p v
    else if s.fd (R.PRT_VDP_B0_KIND p v) = 0 then
      ((s1.setPort q { s1.port q with disabled := false }).setFd (R.PRT_LSTS_LTSSM q) 0).train q
    else s1

/-- The bindings of a switch. -/
def State.switchVdps (s : State) (p : Nat) : List Nat := (s.bindings.filter fun b => b.1 = p).map fun b => b.2

/-- The sticky configuration bytes of a bridge among those kept: Uncorrectable Error Mask (PCI Express, log entry 33). -/
def stickyCfg (m : SMap Byte) : SMap Byte := m.filter fun e => decide (0x108 ≤ e.1) && decide (e.1 < 0x10C)

/-- A reset of the virtual switch of upstream port `p` (R488): bridges to their defaults but for sticky bits, the fabric function reset,
every binding reset as by Secondary Bus Reset, items resolved with reason 0x09. -/
def State.switchReset (s : State) (p : Nat) : State :=
  let s1 := (s.portItems p 0x09).portRequests p 0x09
  let s2 := { s1 with
    ups := s1.ups.set UpBridge.reset p { UpBridge.reset with cfg := stickyCfg (s1.up p).cfg }
    vdps := s1.vdps.map fun (e : Nat × VdpState) =>
      if e.1 / 256 = p then
        (e.1, { VdpState.reset with resets := e.2.resets, acsViol := e.2.acsViol, cfg := stickyCfg e.2.cfg })
      else e }
  let s3 := { s2 with vdps := s2.vdps.filter fun e => e.2 ≠ VdpState.reset }
  let s4 := s3.flr (4096 + p)
  let s5 := (s4.switchVdps p).foldl (fun t v =>
    if t.fd (R.PRT_VDP_B0_KIND p v) = 0 then
      let q := t.fd (R.PRT_VDP_B0_LPORT p v)
      (t.setFb (R.PRT_LSTS_CONT q) false).setPort q { t.port q with disabled := false }
    else t) s4
  ((s5.switchVdps p).filter fun v => s5.fd (R.PRT_VDP_B0_KIND p v) ≠ 3).foldl (fun t v => t.busReset p v) s5

/-- Data Link Down of a port (R466, R488, R518). -/
def State.dlDown (s : State) (p : Nat) (lost : Bool) : State :=
  if !s.fb (R.PRT_LSTS_UP p) then (if lost ∧ s.fd (R.PRT_CTX_ROLE p) = 2 then s.portDown p 0x02 true else s)
  else if s.fd (R.PRT_CTX_ROLE p) = 1 then (s.linkLost p).switchReset p |>.train p
  else (s.portDown p (if lost then 0x02 else 0x01) lost).surpriseDown p |>.train p

/-- Whether port `p` can come up with what the training settled: a width of its lanes and a rate it offers (R462, R465), flit mode at 64
and 128 GT/s and below only under FLITLO (R2, R465), CXL only where LCTL.CXL offers it and at the rates and widths of R469. -/
def State.canSettle (s : State) (p : Nat) (u : DlUp) : Bool :=
  let w := u.width.val
  [1, 2, 4, 8, 16].contains w && decide (w ≤ 2 ^ s.widthLog p) &&
  decide (u.rate.val ≤ wField 0 3 (s.lctlOf p)) &&
  (if 5 ≤ u.rate.val then u.flit else !u.flit || (s.lctlOf p).getLsbD 5) &&
  (!u.cxl || ((s.lctlOf p).getLsbD 4 && decide (4 ≤ w) && decide (2 ≤ u.rate.val) && decide (u.rate.val ≤ 5)))

/-- Data Link Up of a port that trains (R466): what the partners settled; training that settles what the port does not offer brings no
link up. -/
def State.dlUp (s : State) (p : Nat) (u : DlUp) : State :=
  let s0 := s.train p
  if !(s0.trains p && s0.isPlaced p && s0.canSettle p u) then s0
  else
    let s1 := ((((((s0.setFb (R.PRT_LSTS_UP p) true).setFd (R.PRT_LSTS_RATE p) u.rate.val).setFd (R.PRT_LSTS_WIDTH p)
      u.width.val).setFb (R.PRT_LSTS_FLIT p) u.flit).setFb (R.PRT_LSTS_CXL p) u.cxl).setFb (R.PRT_LSTS_REV p) u.rev).setFd
      (R.PRT_LSTS_LTSSM p) 3
    let s1 := if s.fb (R.PRT_LSTS_FLIT p) = u.flit then s1 else s1.setRg (R.SCH_PRT_LEN p) (s1.lenDefault p)
    (s1.setPort p { s1.port p with
      tagBits := u.tagBits, mps := u.mps, credits := ⟨u.pHdr, u.pData, u.npHdr, u.npData, u.cplHdr, u.cplData⟩, awaitAck := [],
      removed := false, downReason := 0x01 }).linkEvent .prt p 8

/-! ### PRT[p]_CTX, PRT[p]_RST, PERST_N -/

/-- A write of PRT[p]_CTX (R175, R274, R325): only while the link is down. -/
def State.prtCtx (s : State) (p : Nat) (v : Word) : State :=
  if s.portUp p then s.setFb (R.PRT_LSTS_WERR p) true
  else
    let s1 := s.setRg (R.PRT_CTX p) (v &&& 0xFFFFFFFF1FFF7F07#64)
    let s2 := if s1.fd (R.PRT_CTX_ROLE p) = 0 then s1.setPort p { s1.port p with placed := none, placedLdg := none } else s1
    ((s2.setRg (R.SCH_PRT_LEN p) (s2.lenDefault p)).untrain p).train p

/-- The port's bindings of any KIND whose functions sit behind downstream port `q` (R484). -/
def State.behind (s : State) (q : Nat) : List (Nat × Nat) :=
  let lo := s.fd (R.PRT_FIDMAP_FIDBASE q)
  let hi := lo + s.fd (R.PRT_FIDMAP_COUNTM1 q)
  s.bindings.filter fun b => match s.fd (R.PRT_VDP_B0_KIND b.1 b.2) with
    | 0 => s.fd (R.PRT_VDP_B0_LPORT b.1 b.2) = q
    | 1 => decide (s.fd (R.PRT_VDP_B0_FID b.1 b.2) ≤ hi) &&
           decide (lo ≤ s.fd (R.PRT_VDP_B0_FID b.1 b.2) + s.fd (R.PRT_VDP_B0_FNCNT b.1 b.2))
    | 2 => decide (lo ≤ s.fd (R.PRT_VDP_B0_FID b.1 b.2)) && decide (s.fd (R.PRT_VDP_B0_FID b.1 b.2) ≤ hi)
    | _ => false

/-- HOTRST: a hot reset of the port's real link. -/
def State.rstHot (s : State) (q : Nat) : State :=
  if s.fd (R.PRT_CTX_ROLE q) ≠ 2 then s else ((s.portDown q 0x09 false).emit (.mgmt "hot reset" q 0)).train q

/-- LDIS: the port's real link disabled or enabled. -/
def State.rstLdis (s : State) (q : Nat) (on : Bool) : State :=
  let s1 := s.setFb (R.PRT_RST_LDIS q) on
  if on then
    (if s.fb (R.PRT_RST_LDIS q) then s1
     else ((if s.fd (R.PRT_CTX_ROLE q) = 1 then (s1.linkLost q).switchReset q else s1.portDown q 0x09 false)).setFd (R.PRT_LSTS_LTSSM q) 6)
  else if s.fb (R.PRT_RST_LDIS q) then (s1.setFd (R.PRT_LSTS_LTSSM q) 0).train q else s1

/-- DPCTRIG and DPCREL: a shared device's link contained or released, for every binding of its functions (R484). -/
def State.rstDpcTrig (s : State) (q : Nat) : State :=
  if s.fd (R.PRT_CTX_ROLE q) ≠ 2 then s
  else (((s.behind q).foldl (fun t b => t.dpcTrigger b.1 b.2) s).setFb (R.PRT_LSTS_CONT q) true).portDown q 0x05 false
def State.rstDpcRel (s : State) (q : Nat) : State :=
  if s.fb (R.PRT_LSTS_CONT q) then (s.setFb (R.PRT_LSTS_CONT q) false).train q else s

/-- A write of PRT[p]_RST. -/
def State.prtRst (s : State) (q : Nat) (v : Word) : State :=
  let s1 := if v.getLsbD 0 then s.rstHot q else s
  let s2 := s1.rstLdis q (v.getLsbD 1)
  let s3 := if v.getLsbD 2 then s2.rstDpcTrig q else s2
  if v.getLsbD 3 then s3.rstDpcRel q else s3

/-- The upstream ports that a PERST_N input serves (R491). -/
def State.perstPorts (s : State) (i : Nat) : List Nat :=
  (List.range 128).filter fun p =>
    s.fd (R.PRT_CTX_ROLE p) = 1 && (s.lctlOf p).getLsbD 9 && decide (wField 10 5 (s.lctlOf p) = i)

/-- A PERST_N input asserted: each switch is reset and its upstream link held in Detect. -/
def State.perstOn (s : State) (i : Fin 32) : State :=
  (s.perstPorts i).foldl (fun t p => (t.linkLost p).switchReset p) { s with perstIn := s.perstIn ||| BitVec.ofNat 32 (2 ^ i.val) }

/-- A PERST_N input released: Detect begins. -/
def State.perstOff (s : State) (i : Fin 32) : State :=
  (s.perstPorts i).foldl (fun t p => t.train p) { s with perstIn := s.perstIn &&& ~~~BitVec.ofNat 32 (2 ^ i.val) }

/-! ### Proxy resets: their timers (R489) -/

/-- The k-th proxy reset of a virtual downstream port. -/
def State.proxyAt (s : State) (p v k : Nat) : Option ProxyReset := (s.vdp p v).resets[k]?

def State.setProxy (s : State) (p v : Nat) (r : ProxyReset) : State :=
  let x := s.vdp p v
  s.setVdp p v { x with resets := x.resets.map fun y => if y.fid = r.fid then r else y }

/-- 100 ms after the FLR write: the first read of the Command register. -/
def State.proxyWait (s : State) (p v k : Nat) : State :=
  match s.proxyAt p v k with
  | none => s
  | some r =>
    if r.phase ≠ 0 then s
    else
      let s1 := s.waitUntil (r.startPs + 100 * msPs)
      (s1.setProxy p v { r with phase := 1, lastPs := s1.now }).proxySend p v r.fid false

/-- 1 ms after an answer of RRS: the read is repeated. -/
def State.proxyPoll (s : State) (p v k : Nat) : State :=
  match s.proxyAt p v k with
  | none => s
  | some r =>
    if r.phase ≠ 2 then s
    else
      let s1 := s.waitUntil (r.lastPs + msPs)
      (s1.setProxy p v { r with phase := 1, lastPs := s1.now }).proxySend p v r.fid false

/-- 1 s after the FLR write: GONE, and an error report, whose code and detail are free values. -/
def State.proxyTimeout (s : State) (p v k : Nat) : State :=
  match s.proxyAt p v k with
  | none => s
  | some r => (((s.waitUntil (r.startPs + 1000 * msPs)).setGone p v).freeReport .prt p (Src.prt.freeQueue 2))

end Sys2Proof.Machine
end

