-- ==== Sys2Proof/Machine/FnRows.lean ====
section
/-! DEFINITION. Machine/FnRows.lean: the commands of the fabric function (13_fabric_function.md), of its failure logs and dirty-page
trackers, and the reply of a device mailbox (R144). -/

namespace Sys2Proof.Machine

/-- A host's access to the page of a function that exists and is not being reset (R551, R571). -/
def State.pageRow (s : State) (f : Nat) (g : State → State) : Host.Outcome State Fault Refusal :=
  .next (if s.live 21 && (s.fnPort f).isSome && (s.fn f).rst.isNone then (g s).settle else s)

/-! ### Resets (R569–R576) -/

/-- R569: a configuration write clears BME. -/
def execHostBmeClear (f : FnIdx) (s : State) : Host.Outcome State Fault Refusal :=
  .next (if s.live 21 then (s.bmeClear f).settle else s)

/-- R571: an FLR is initiated. -/
def execHostFlr (f : FnIdx) (s : State) : Host.Outcome State Fault Refusal :=
  .next (if s.live 21 then (s.slotWatch fun t => t.flr f).settle else s)

/-- R571: an FLR is complete. -/
def execFlrComplete (f : FnIdx) (s : State) : Host.Outcome State Fault Refusal :=
  .next (if s.live 21 then (s.slotWatch fun t => t.flrEnd f).settle else s)

/-- R573: VF Enable of a port's PF is cleared. -/
def execHostVfEnableClear (p : Port) (s : State) : Host.Outcome State Fault Refusal :=
  .next (if s.live 21 then (s.vfEnableClear p).settle else s)

/-! ### The page of a function (R555, R566–R568) -/

/-- R555: a write of FN_LOG_CFG. -/
def execFnLogEnable (f : FnIdx) (v : Word) (s : State) : Host.Outcome State Fault Refusal := s.pageRow f fun t => t.logCfg f v

/-- R567: a write of FN_MBX_DB. -/
def execFnMbxDb (f : FnIdx) (v : Word) (s : State) : Host.Outcome State Fault Refusal :=
  s.pageRow f fun t => t.fnDoorbell f (wField 0 6 v)

/-- R568: a write of FN_MBX_RSP through the aperture. -/
def execFnMbxRsp (w : Writer) (f : FnIdx) (v : Word) (s : State) : Host.Outcome State Fault Refusal :=
  .next (s.regCommand w (R.FN_MBX_RSP f) v fun s => (s.fnReply f (wField 0 6 v)).settle)

/-- R144: a reply in a device mailbox; vector 62 of the manager function is sent (R553). -/
def State.mbxRsp (s : State) (m : Nat) (v : Word) : State :=
  (((s.setFd (R.EVT_MBX_RSP_LEN m) (wField 0 6 v)).setFb (R.EVT_MBX_STS_BUSY m) false).setFb
    (R.EVT_MBX_STS_DONE m) true).mgrVector 62

/-- R144: a write of EVT_MBX[m]_RSP. -/
def execEvtMbxRsp (w : Writer) (m : Fin 16) (v : Word) (s : State) : Host.Outcome State Fault Refusal :=
  .next (s.regCommand w (R.EVT_MBX_RSP m) v fun s => s.mbxRsp m v)

/-! ### Manager registers (R556–R560, R574, R575) -/

/-- R547, R556: a write of FFN_CFG. -/
def execFfnCfgWrite (w : Writer) (v : Word) (s : State) : Host.Outcome State Fault Refusal :=
  .next (s.regCommand w R.FFN_CFG v fun s => (s.ffnCfg w v).settle)

/-- R556–R558: a write of FFN_PF[p]_CFG. -/
def execFfnPfCfgWrite (w : Writer) (p : Port) (v : Word) (s : State) : Host.Outcome State Fault Refusal :=
  .next (s.regCommand w (R.FFN_PF_CFG p) v fun s => (s.ffnPfCfg p v).settle)

/-- R556–R560: a write of FFN_FN[f]_CFG. -/
def execFfnFnCfgWrite (w : Writer) (f : FnIdx) (v : Word) (s : State) : Host.Outcome State Fault Refusal :=
  .next (s.regCommand w (R.FFN_FN_CFG f) v fun s => (s.ffnFnCfg f v).settle)

/-- R574: HOLD written 1, the other fields as they are. -/
def execFnHoldSet (w : Writer) (f : FnIdx) (s : State) : Host.Outcome State Fault Refusal :=
  let v := s.fnCfgWord f ||| 0x10000#64
  .next (s.regCommand w (R.FFN_FN_CFG f) v fun s => (s.ffnFnCfg f v).settle)

/-- R574, R610: HOLD written 0. -/
def execFnHoldClear (w : Writer) (f : FnIdx) (s : State) : Host.Outcome State Fault Refusal :=
  let v := s.fnCfgWord f &&& ~~~0x10000#64
  .next (s.regCommand w (R.FFN_FN_CFG f) v fun s => (s.ffnFnCfg f v).settle)

/-- R575: FORCE written. -/
def execFnForce (w : Writer) (f : FnIdx) (s : State) : Host.Outcome State Fault Refusal :=
  let v := s.fnCfgWord f ||| 0x20000#64
  .next (s.regCommand w (R.FFN_FN_CFG f) v fun s => (s.ffnFnCfg f v).settle)

/-! ### Failure logs (R563–R565) -/

/-- R563: the next record of a function's log is written. -/
def execLogRecordWrite (fn : Nat) (s : State) : Host.Outcome State Fault Refusal :=
  .next (if s.live 21 then (s.logWrite fn).settle else s)

/-- Vector 0 that waited 2 µs after the previous one (R565). -/
def State.logVectorDue (s : State) (f : Nat) : State :=
  let x := s.fn f
  if !x.vecPending then s
  else
    let s1 := s.waitUntil ((x.lastVecPs.getD 0) + 2 * usPs)
    (s1.setFn f { x with lastVecPs := some s1.now, vecPending := false }).msix f 0

/-- R565: vector 0, 2 µs after the previous one. -/
def execFailureLogVector (fn : Nat) (s : State) : Host.Outcome State Fault Refusal :=
  .next (if s.live 21 then s.logVectorDue fn else s)

/-! ### Dirty-page logging (R577–R583) -/

/-- R577, R578: a write of DL[k]_CTL by the host of the tracker's PF. -/
def execDlEnable (k : Fin 256) (v : Word) (s : State) : Host.Outcome State Fault Refusal :=
  .next (if s.live 21 && (s.dlPf k).isSome then s.dlCtl k v else s)

/-- The oldest cache entry is 16 µs old (R580): it is written out. -/
def State.dlAge (s : State) : State :=
  match s.ffn.cache with
  | [] => s
  | e :: _ => (s.waitUntil (e.madePs + 16 * usPs)).dlFlush fun x => decide (x = e)

/-- R580: an entry of the coalescing cache ages out. -/
def execDlEntryAge (s : State) : Host.Outcome State Fault Refusal := .next (if s.live 21 then s.dlAge else s)

/-- R583: a write of DL[k]_SYNC. -/
def execDlSync (k : Fin 256) (token : BitVec 32) (s : State) : Host.Outcome State Fault Refusal :=
  .next (if s.live 21 && (s.dlPf k).isSome then s.dlSyncStart k token.toNat else s)

/-- R583: a SYNC completes. -/
def execDlSyncComplete (k : Fin 256) (s : State) : Host.Outcome State Fault Refusal :=
  .next (if s.live 21 then s.dlSyncEnd k else s)

end Sys2Proof.Machine
end

