-- ==== Sys2Proof/Machine/HplOps.lean ====
section
/-! DEFINITION. Machine/HplOps.lean: the registers of the header pipelines that do something when written (R223, R224, R246, R248,
R258–R264): context selection, program commits, firmware tables, the hash, verdicts. -/

namespace Sys2Proof.Machine

/-- Whether octet `n`'s copies of the pipeline resources are those of the odd octet of a x16 port, whose writes are discarded
(R12). -/
def State.pairedOdd (s : State) (n : Nat) : Bool :=
  n % 2 = 1 && (s.spansPair (4 * (n - 1)))

/-! ### Contexts (R223, R224) -/

/-- A rejected enable or commit is reported (R263). -/
def State.pstsReject (s : State) (n code stage slot ctx : Nat) : State :=
  ((((s.setFb (R.HPL_PSTS_REJ n) true).setFd (R.HPL_PSTS_RCODE n) code).setFd (R.HPL_PSTS_STAGE n) stage).setFd
    (R.HPL_PSTS_BSLOT n) slot).setFd (R.HPL_PSTS_CTX n) ctx

/-- A write to HPL[n]_CTXSEL[c] (R224): SLOT applies while EN is 0; EN is set only if the copy it would run passes the checks. -/
def State.ctxselWrite (s : State) (n c slot : Nat) (en : Bool) : State :=
  if s.pairedOdd n then s
  else if s.fb (R.HPL_CTXSEL_EN n c) then s.setFb (R.HPL_CTXSEL_EN n c) en
  else
    let s1 := s.setFd (R.HPL_CTXSEL_SLOT n c) slot
    if !en then s1
    else
      let v := s1.fd (R.HPL_CTXSEL_PVER n c)
      match s1.progCheck n (slot % 16) v with
      | some (code, k, i) => s1.pstsReject n code k i c
      | none => (s1.setFb (R.HPL_CTXSEL_EN n c) true).setFb (R.HPL_CTXSEL_HALF n c) (s1.progHalf n (slot % 16) v)

/-! ### Program commits (R261–R265) -/

/-- A write to HPL[n]_PCOMMIT. Whether an earlier drain is still under way is judged as it is accepted. -/
def State.pcommitWrite (s : State) (n : Nat) (mask : Nat) : State :=
  if s.pairedOdd n then s
  else if s.fb (R.HPL_PSTS_BUSY n) then s.setFb (R.HPL_PSTS_LOST n) true
  else
    let held : Nat := if s.progDrain n = 0 then 0 else 2 ^ 32
    let s1 := s.setFb (R.HPL_PSTS_BUSY n) true
    { s1 with hpl := { s1.hpl with commitMask := s1.hpl.commitMask.set 0 n (mask % 2 ^ 32 + held) } }

/-- The contexts a mask names. -/
def maskCtxs (mask : Nat) : List Nat := (List.range 32).filter fun c => natField c 1 mask = 1

/-- The first check that the shadow copy of a named context fails: code, stage, slot, context; the lowest context first (DESIGN CHOICE,
log entry 91). -/
def State.commitCheck (s : State) (n mask : Nat) : Option (Nat × Nat × Nat × Nat) :=
  (maskCtxs mask).findSome? fun c =>
    (s.progCheck n (s.fd (R.HPL_CTXSEL_SLOT n c)) (1 - s.fd (R.HPL_CTXSEL_PVER n c))).map fun r => (r.1, r.2.1, r.2.2, c)

/-- A context's PVER turned and its HALF set for the copy now active (R262, R264). -/
def State.flipCtx (s : State) (n c : Nat) : State :=
  let v := 1 - s.fd (R.HPL_CTXSEL_PVER n c)
  (s.setFd (R.HPL_CTXSEL_PVER n c) v).setFb (R.HPL_CTXSEL_HALF n c) (s.progHalf n (s.fd (R.HPL_CTXSEL_SLOT n c)) v)

/-- The running program commit of octet `n` ends (R262–R265). -/
def State.pcommitFinish (s : State) (n : Nat) : State :=
  if !s.fb (R.HPL_PSTS_BUSY n) then s
  else
    let mask := s.hpl.commitMask.get 0 n
    let s1 := ({ s with hpl := { s.hpl with commitMask := s.hpl.commitMask.set 0 n 0 } }).setFb (R.HPL_PSTS_BUSY n) false
    let s2 := s1.setFb (R.HPL_PSTS_DONE n) true
    if natField 32 1 mask = 1 then s2.pstsReject n 1 0 0 0
    else match s.commitCheck n mask with
      | some (code, k, i, c) => s2.pstsReject n code k i c
      | none =>
        let s3 := ((maskCtxs mask).foldl (fun t c => t.flipCtx n c) s2).cntDev 1551 1
        if s3.progDrain n = 0 then s3.setFb (R.HPL_PSTS_DRAINED n) true else s3

/-- Whether copy `v` of program slot `sl` of octet `n` may not be written (R261). -/
def State.progInUse (s : State) (n sl v : Nat) : Bool :=
  ((List.range 32).any fun c => s.fb (R.HPL_CTXSEL_EN n c) && s.fd (R.HPL_CTXSEL_SLOT n c) = sl &&
    s.fd (R.HPL_CTXSEL_PVER n c) = v) ||
  ((s.pkts.any fun k => match k.loc with
    | .trap m _ => m = n && wField 4 4 k.m3 = sl && k.progVer = v && v ≠ s.fd (R.HPL_CTXSEL_PVER n (wField 40 5 k.m0))
    | _ => false))

/-- A write of a 64-bit word of a program copy (R261); `j` is its place in its slot's two copies. -/
def State.progWrite (s : State) (n sl j : Nat) (w : Word) : State :=
  if s.pairedOdd n then s
  else if s.progInUse n sl (j / 32) then s.setFb (R.HPL_PSTS_INUSE n) true
  else s.setRg (R.HPL_PROG n sl j) w

/-! ### Firmware tables (R243–R246) -/

/-- Whether a copy of a program names a table. -/
def State.progNames (s : State) (n sl v t : Nat) : Bool :=
  (List.range 64).any fun x => let w := s.progWord n sl v (x / 4) (x % 4)
    isLkp w && natField 10 6 w = t

/-- Whether an active or draining program copy of any octet names a table. -/
def State.tableNamed (s : State) (t : Nat) : Bool :=
  ((List.range 32).any fun n => (List.range 32).any fun c =>
    s.fb (R.HPL_CTXSEL_EN n c) && s.progNames n (s.fd (R.HPL_CTXSEL_SLOT n c)) (s.fd (R.HPL_CTXSEL_PVER n c)) t) ||
  (s.pkts.any fun k => match k.loc with
    | .trap n _ => s.progNames n (wField 4 4 k.m3) k.progVer t
    | _ => false)

/-- A write to HPL_FTBL[t] (R246). -/
def State.ftblWrite (s : State) (t : Nat) (v : Word) : State :=
  let kind := wField 0 3 v
  let len := 2 ^ wField 12 4 v * (if kind = 1 then 128 else 64)
  if s.tableNamed t || ((kind = 1 || kind = 2) && decide (tmemSize < wField 16 19 v * 64 + 2 * len)) then
    (List.range 32).foldl (fun u n => u.setFb (R.HPL_PSTS_INUSE n) true) s
  else (((s.setFd (R.HPL_FTBL_KIND t) kind).setFd (R.HPL_FTBL_KLENM1 t) (wField 4 4 v)).setFd (R.HPL_FTBL_LOGSZ t)
    (wField 12 4 v)).setFd (R.HPL_FTBL_BASE t) (wField 16 19 v)

/-! ### The hash (R248) -/

def State.hashkWrite (s : State) (v : Word) : State :=
  { s with hpl := { s.hpl with hashPending := some (flowHash (s.rg R.HPL_HSEED) v (s.rg R.HPL_HASHK2)) } }

/-- The result becomes readable. -/
def State.hashReady (s : State) : State :=
  match s.hpl.hashPending with
  | none => s
  | some r => ({ s with hpl := { s.hpl with hashPending := none } }).setRg R.HPL_HASHR r

/-! ### Verdicts (R258) -/

/-- The word of HPL[n]_TVERD. -/
def verdictWord (kind : Nat) (v : Verdict) : Word :=
  BitVec.ofNat 64 (v.slot.val + kind % 4 * 2 ^ 6 + v.mod.toNat * 2 ^ 8 + v.oper.toNat * 2 ^ 16 + v.mses.val * 2 ^ 32 +
    v.polidx.toNat * 2 ^ 36 + (if v.polv then 2 ^ 52 else 0))

/-- The verdict that a word written to HPL[n]_TVERD spells. -/
def verdictOf (w : Word) : Nat × Verdict :=
  (wField 6 2 w, ⟨Fin.ofNat 64 (wField 0 6 w), BitVec.ofNat 3 (wField 8 3 w), BitVec.ofNat 16 (wField 16 16 w),
    Fin.ofNat 16 (wField 32 4 w), BitVec.ofNat 16 (wField 36 16 w), wField 52 1 w = 1⟩)

/-- A write to HPL[n]_TVERD: of a DROP the reason is OPER[23:16], of a SYNTH the status is OPER[18:16]. -/
def State.tverdWrite (s : State) (n kind : Nat) (v : Verdict) : State :=
  if s.pairedOdd n then s else (s.acsWatch fun t => t.verdict n kind v).settle

end Sys2Proof.Machine
end

