-- ==== Sys2Proof/Machine/HplRows.lean ====
section
/-! DEFINITION. Machine/HplRows.lean: the commands of the header pipelines (06_header_pipelines.md) and of admission to and from them. -/

namespace Sys2Proof.Machine

/-- R509: a waiting header tries again to enter the ingress queue. -/
def execHeaderQueueAdmit (p : Port) (ord : Ord) (s : State) : Host.Outcome State Fault Refusal :=
  .next (s.readmit p.val (match ord with | .p => 0 | .np => 1 | .cpl => 2 | .ctl => 3))

/-- R227–R254: the header at the head of octet `n`'s ingress queue passes its pipeline. -/
def execHeaderPipelineRun (n : Octet) (s : State) : Host.Outcome State Fault Refusal :=
  .next (if s.live (domainOf (R.HPL_PSTS n.val)) then (s.acsWatch fun t => t.runPipeline n.val).settle else s)

/-- R279, R280: the packets of port `p` that wait in their arrival or landing reservations try again, oldest first. -/
def execPacketAdmissionRetry (p : Port) (s : State) : Host.Outcome State Fault Refusal :=
  let ids := ((s.pkts.filter fun k => k.inPort = p.val && (match k.loc, k.pool with
    | .arrival _, _ => true
    | .queue _, .landing _ _ => true
    | _, _ => false)).map fun k => k.id)
  .next (ids.foldl (fun t i => match t.pkt? i with | none => t | some k => t.retryAdmission k) s).settle

/-- R224: a write to HPL[n]_CTXSEL[c] that sets EN. -/
def execHplCtxEnable (w : Writer) (n : Octet) (c : Fin 32) (slot : Fin 16) (s : State) : Host.Outcome State Fault Refusal :=
  .next (s.regCommand w (R.HPL_CTXSEL n.val c.val) (BitVec.ofNat 64 (slot.val + 2 ^ 9)) fun s =>
    s.ctxselWrite n.val c.val slot.val true)

/-- R262: a write to HPL[n]_PCOMMIT. -/
def execHplPcommit (w : Writer) (n : Octet) (mask : BitVec 32) (s : State) : Host.Outcome State Fault Refusal :=
  .next (s.regCommand w (R.HPL_PCOMMIT n.val) (mask.setWidth 64) fun s => s.pcommitWrite n.val mask.toNat)

/-- R262–R265: the running program commit of octet `n` ends. -/
def execHplPcommitComplete (n : Octet) (s : State) : Host.Outcome State Fault Refusal := .next (s.pcommitFinish n.val)

/-- R246: a write to HPL_FTBL[t]; tables 0–15 have no such register (R721). -/
def execHplFtblWrite (w : Writer) (t : Fin 64) (v : Word) (s : State) : Host.Outcome State Fault Refusal :=
  .next (s.regCommand w (R.HPL_FTBL t.val) v fun s =>
    if t.val < 16 then s.badAccess (R.HPL_FTBL t.val) else s.ftblWrite t.val v)

/-- R248: a write to HPL_HASHK. -/
def execHplHashk (w : Writer) (v : Word) (s : State) : Host.Outcome State Fault Refusal :=
  .next (s.regCommand w R.HPL_HASHK v fun s => s.hashkWrite v)

/-- R248: the result stands in HPL_HASHR 4 cycles later. -/
def execHplHashrReady (s : State) : Host.Outcome State Fault Refusal := .next s.hashReady

/-- R258, R259: a FWD verdict. -/
def execTrapVerdictFwd (w : Writer) (n : Octet) (v : Verdict) (s : State) : Host.Outcome State Fault Refusal :=
  .next (s.regCommand w (R.HPL_TVERD n.val) (verdictWord 0 v) fun s => s.tverdWrite n.val 0 v)

/-- R258, R259: a DROP verdict. -/
def execTrapVerdictDrop (w : Writer) (n : Octet) (v : Verdict) (s : State) : Host.Outcome State Fault Refusal :=
  .next (s.regCommand w (R.HPL_TVERD n.val) (verdictWord 1 v) fun s => s.tverdWrite n.val 1 v)

/-- R258, R259: a SYNTH verdict. -/
def execTrapVerdictSynth (w : Writer) (n : Octet) (v : Verdict) (s : State) : Host.Outcome State Fault Refusal :=
  .next (s.regCommand w (R.HPL_TVERD n.val) (verdictWord 3 v) fun s => s.tverdWrite n.val 3 v)

end Sys2Proof.Machine
end

