-- ==== Sys2Proof/Machine/PortRows.lean ====
section
/-! DEFINITION. Machine/PortRows.lean: the commands of PCIe and CXL ports, of the hosts behind them and of bindings
(05_tenants_windows_and_routing.md, 11_pcie_and_cxl_ports.md). -/

namespace Sys2Proof.Machine

/-- The registers of ports, octets and bindings answer while their domain is live; the host's view of a switch lives in PD21. -/
def State.hostRow (s : State) (f : State → State) : Host.Outcome State Fault Refusal :=
  .next (if s.live 21 then (s.slotWatch f).settle else s)

/-! ### Bindings and contexts -/

/-- R184, R185, R545: VALID set by a write of PRT[p]_VDP[v]_B0; `b1` is written first. -/
def execVdpBind (w : Writer) (p : Port) (v : Fin 256) (b0 : Word) (s : State) : Host.Outcome State Fault Refusal :=
  .next (s.regCommand w (R.PRT_VDP_B0 p v) (b0 ||| 1#64) fun s => (s.slotWatch fun t => t.vdpB0 p v (b0 ||| 1#64)).settle)

/-- R184, R186: VALID cleared. -/
def execVdpUnbind (w : Writer) (p : Port) (v : Fin 256) (s : State) : Host.Outcome State Fault Refusal :=
  let b0 := s.rg (R.PRT_VDP_B0 p v) &&& ~~~1#64
  .next (s.regCommand w (R.PRT_VDP_B0 p v) b0 fun s => (s.slotWatch fun t => t.vdpB0 p v b0).settle)

/-- R497: Bind vPPB. -/
def execFmapiBind (p : Port) (v : Fin 256) (b0 : Word) (s : State) : Host.Outcome State Fault Refusal :=
  .next (s.regCommand .sideband (R.PRT_VDP_B0 p v) (b0 ||| 1#64) fun s =>
    let t := (s.slotWatch fun t => t.vdpB0 p v (b0 ||| 1#64)).settle
    t.emit (.mgmt "Bind vPPB" (vdpKey p v) (if t.fb (R.PRT_VDP_B0_VALID p v) then 0 else 1)))

/-- R497: Unbind vPPB. -/
def execFmapiUnbind (p : Port) (v : Fin 256) (s : State) : Host.Outcome State Fault Refusal :=
  let b0 := s.rg (R.PRT_VDP_B0 p v) &&& ~~~1#64
  .next (s.regCommand .sideband (R.PRT_VDP_B0 p v) b0 fun s =>
    ((s.slotWatch fun t => t.vdpB0 p v b0).settle).emit (.mgmt "Unbind vPPB" (vdpKey p v) 0))

/-- R175: a write of PRT[p]_CTX. -/
def execPrtCtxWrite (w : Writer) (p : Port) (v : Word) (s : State) : Host.Outcome State Fault Refusal :=
  .next (s.regCommand w (R.PRT_CTX p) v fun s => (s.slotWatch fun t => t.prtCtx p v).settle)

/-! ### Links -/

/-- R466: DL_Up. -/
def execPcieDlUp (p : Port) (up : DlUp) (s : State) : Host.Outcome State Fault Refusal := s.hostRow fun t => t.dlUp p up

/-- R466, R488, R518: DL_Down, with or without presence. -/
def execPcieDlDown (p : Port) (presenceLost : Bool) (s : State) : Host.Outcome State Fault Refusal :=
  s.hostRow fun t => t.dlDown p presenceLost

/-- R488, R491: a PERST_N input asserted. -/
def execPerstAssert (i : Fin 32) (s : State) : Host.Outcome State Fault Refusal := s.hostRow fun t => t.perstOn i

/-- R488: a PERST_N input released. -/
def execPerstDeassert (i : Fin 32) (s : State) : Host.Outcome State Fault Refusal := s.hostRow fun t => t.perstOff i

/-- R488: a hot reset received on an upstream link. -/
def execPcieHotResetReceived (p : Port) (s : State) : Host.Outcome State Fault Refusal :=
  s.hostRow fun t => if t.fd (R.PRT_CTX_ROLE p) = 1 ∧ t.fb (R.PRT_LSTS_UP p) then ((t.linkLost p).switchReset p).train p else t

/-! ### Writes of a host to a virtual downstream port (R476) -/

/-- R476: Retrain Link; the real link of a KIND 0 binding retrains. -/
def execHostRetrainLink (p : Port) (v : Fin 256) (s : State) : Host.Outcome State Fault Refusal :=
  s.hostRow fun t =>
    if t.fb (R.PRT_VDP_B0_VALID p v) ∧ t.fd (R.PRT_VDP_B0_KIND p v) = 0 then
      t.emit (.mgmt "retrain" (t.fd (R.PRT_VDP_B0_LPORT p v)) 0)
    else t

/-- R476: Link Disable. -/
def execHostLinkDisable (p : Port) (v : Fin 256) (disable : Bool) (s : State) : Host.Outcome State Fault Refusal :=
  s.hostRow fun t => t.linkDisable p v disable

/-- R476, R490: Secondary Bus Reset. -/
def execHostSecondaryBusReset (p : Port) (v : Fin 256) (s : State) : Host.Outcome State Fault Refusal :=
  s.hostRow fun t => t.busReset p v

/-- A write of Power Controller Control (R479, R480). -/
def State.powerControl (s : State) (p v : Nat) (off : Bool) : State :=
  let x := s.vdp p v
  if x.powerOff = off then s
  else
    let s1 := s.setVdp p v { x with powerOff := off }
    if s1.fb (R.PRT_VDP_B0_VALID p v) ∧ s1.fd (R.PRT_VDP_B0_KIND p v) = 0 ∧ s1.fb (R.PRT_VDP_B1_SPCV p v) then
      let i := s1.fd (R.PRT_VDP_B1_SPC p v)
      let s2 := if s1.live 24 then s1.spcChange i fun t => t.spcObey i else s1
      s2.slotCommand p v
    else s1

/-- R479, R480: Power Controller Control. -/
def execHostPowerControllerControl (p : Port) (v : Fin 256) (off : Bool) (s : State) : Host.Outcome State Fault Refusal :=
  s.hostRow fun t => t.powerControl p v off

/-- A change of a virtual downstream port's bus numbers (R477): RRS below it, and a hot-plug event. -/
def State.busNumbers (s : State) (p v sec sub : Nat) : State :=
  let x := s.vdp p v
  if x.secBus = sec ∧ x.subBus = sub then s
  else
    let s1 := s.setVdp p v { x with secBus := sec, subBus := sub, rrs := true }
    let i := s1.fd (R.PRT_VDP_B1_SPC p v)
    let spc := s1.fb (R.PRT_VDP_B1_SPCV p v)
    s1.postEvent .spc i (if spc then s1.evTarget (R.SPC_CTL_EVQV i) (R.SPC_CTL_EVQ i) else Src.spc.freeQueue 4) 0x04 i
      (if spc then s1.rg (R.SPC_STS i) else 0)

/-- R477: Secondary or Subordinate Bus Number. -/
def execHostBusNumberChange (p : Port) (v : Fin 256) (sec sub : Byte) (s : State) : Host.Outcome State Fault Refusal :=
  s.hostRow fun t => t.busNumbers p v sec.toNat sub.toNat

/-- R483: a DPC trigger. -/
def execHostDpcTrigger (p : Port) (v : Fin 256) (s : State) : Host.Outcome State Fault Refusal :=
  s.hostRow fun t => t.dpcTrigger p v

/-- R484: DPC Trigger Status cleared. -/
def execHostDpcStatusClear (p : Port) (v : Fin 256) (s : State) : Host.Outcome State Fault Refusal :=
  s.hostRow fun t => t.dpcRelease p v

/-- A commit of an HDM decoder (R471): it succeeds when its range lies in one valid HDM window of the host's tenant. -/
def State.hdmCommit (s : State) (p : Nat) (d : HdmDecoder) : State :=
  let t := s.fd (R.PRT_CTX_TENANT p)
  let ver := s.tntVer t
  let last := d.base.toNat + d.size.toNat - 1
  let ok := decide (0 < d.size.toNat) && s.listedWin.any fun w =>
    s.fd (R.WIN_OWN_TENANT w) = t && s.fb (R.WIN_CTL_VALID w ver) && s.fb (R.WIN_CTL_HDM w ver) &&
    decide (s.winBase w ver ≤ d.base.toNat) && decide (last ≤ s.winLast w ver)
  let u := s.up p
  s.setUp p { u with decoders := (u.decoders.filter fun x => x.1 ≠ d.idx.val) ++ [(d.idx.val, d.base, d.size, ok)] }

/-- R471: a host commits an HDM decoder of its upstream bridge. -/
def execHostHdmDecoderCommit (p : Port) (_v : Fin 256) (d : HdmDecoder) (s : State) : Host.Outcome State Fault Refusal :=
  s.hostRow fun t => if t.fb (R.PRT_LSTS_CXL p) then t.hdmCommit p d else t

/-! ### Proxy resets (R489) -/

/-- R489: 100 ms after the FLR write. -/
def execProxyResetWaitExpiry (p : Port) (v : Fin 256) (k : Nat) (s : State) : Host.Outcome State Fault Refusal :=
  s.hostRow fun t => t.proxyWait p v k
/-- R489: the next poll of the Command register. -/
def execProxyResetPoll (p : Port) (v : Fin 256) (k : Nat) (s : State) : Host.Outcome State Fault Refusal :=
  s.hostRow fun t => t.proxyPoll p v k
/-- R489: 1 s without a Successful answer. -/
def execProxyResetTimeout (p : Port) (v : Fin 256) (k : Nat) (s : State) : Host.Outcome State Fault Refusal :=
  s.hostRow fun t => t.proxyTimeout p v k

/-! ### Messages of devices and hosts (R482, R493, R494, R496) -/

/-- The FID of a requester ID behind a downstream port (R177). -/
def State.fidOfRid (s : State) (p rid : Nat) : Option Nat :=
  let lo := s.fd (R.PRT_FIDMAP_RIDBASE p)
  if lo ≤ rid ∧ rid ≤ lo + s.fd (R.PRT_FIDMAP_COUNTM1 p) then some ((s.fd (R.PRT_FIDMAP_FIDBASE p) + (rid - lo)) % 65536) else none

/-- The upstream port of tenant 0 that takes what belongs to no host. -/
def State.tenant0Port (s : State) : Option Nat :=
  match s.mgrFn with
  | some f => some (f - 4096)
  | none => (List.range 128).find? fun p => s.fd (R.PRT_CTX_ROLE p) = 1 && s.fd (R.PRT_CTX_TENANT p) = 0

/-- A message leaves an edge port whose link is up, with a requester ID and a code (log entry 30). -/
def State.sendMessage (s : State) (p rid code : Nat) (data : List Byte) : State :=
  if !s.fb (R.PRT_LSTS_UP p) then s
  else s.emit (.packet p [BitVec.ofNat 64 ((if data = [] then 0x30 else 0x70) * 2 ^ 56 + data.length / 4 % 1024 * 2 ^ 32 +
    rid % 65536 * 2 ^ 16 + code % 256), 0] data)

/-- An error message of a function (R482): to the host of its binding with the host-local ID; a fatal or non-fatal one triggers DPC
there where the host enabled it (R483). -/
def State.errorMessage (s : State) (p rid : Nat) (sev : ErrSev) : State :=
  let code := match sev with | .cor => 0x30 | .nonFatal => 0x31 | .fatal => 0x33
  let b := match s.fidOfRid p rid with
    | none => none
    | some f => (s.bindings.find? fun b => s.binds b f).map fun b => (b, f)
  match b with
  | none => match s.tenant0Port with
    | none => s
    | some q =>
      let ridLocal := (s.fidOfRid p rid).bind fun f => s.hostLocal 0 (s.tntVer 0) f
      s.sendMessage q (ridLocal.getD (s.fd (R.PRT_CTX_OWNRID q))) code []
  | some (b, f) =>
    let t := s.fd (R.PRT_CTX_TENANT b.1)
    let s1 := s.sendMessage b.1 ((s.hostLocal t (s.tntVer t) f).getD (s.fd (R.PRT_CTX_OWNRID b.1))) code []
    let en := natField 0 2 (cfgWord (s.vdp b.1 b.2).cfg 0x166)
    match sev with
    | .cor => s1
    | .nonFatal => if en = 2 then s1.dpcTrigger b.1 b.2 else s1
    | .fatal => if en = 1 ∨ en = 2 then s1.dpcTrigger b.1 b.2 else s1

/-- R482: ERR_COR, ERR_NONFATAL or ERR_FATAL received. -/
def execErrMessage (p : Port) (rid : BitVec 16) (sev : ErrSev) (s : State) : Host.Outcome State Fault Refusal :=
  s.hostRow fun t => t.errorMessage p rid.toNat sev

/-- R493: a PTM Request at a downstream port is answered with fabric time. -/
def State.ptm (s : State) (p : Nat) : State :=
  if s.fd (R.PRT_CTX_ROLE p) = 2 ∧ s.fb (R.PRT_LSTS_UP p) then
    s.sendMessage p (s.fd (R.PRT_CTX_OWNRID p)) 0x53 (bytesBE 8 s.time.toNat)
  else s

/-- R493: a PTM Request. -/
def execPtmRequest (p : Port) (s : State) : Host.Outcome State Fault Refusal := .next (s.ptm p)

/-- The host whose virtual switches bind every function behind a downstream port, if it is one. -/
def State.oneHost (s : State) (q : Nat) : Option Nat :=
  let lo := s.fd (R.PRT_FIDMAP_FIDBASE q)
  match (s.behind q).map fun b => b.1 with
  | [] => none
  | h :: _ =>
    if (List.range (s.fd (R.PRT_FIDMAP_COUNTM1 q) + 1)).all fun i => s.bindings.any fun b => decide (b.1 = h) && s.binds b (lo + i)
    then some h else none

/-- An LTR message (R494): to the host of a KIND 0 port; from a device whose functions are bound to different hosts, or are unbound, to
tenant 0; from a shared device whose functions are all bound to one host, to that host (log entry 111). -/
def State.ltr (s : State) (p : Nat) (v : Word) : State :=
  match (s.oneHost p).or s.tenant0Port with
  | none => s
  | some q => s.sendMessage q (s.fd (R.PRT_CTX_OWNRID q)) 0x10 (bytesBE 4 v.toNat)

/-- R494: an LTR message. -/
def execLtrMessage (p : Port) (v : Word) (s : State) : Host.Outcome State Fault Refusal := .next (s.ltr p v)

/-! ### PRT[p]_RST and GONE (R481, R484) -/

/-- R484: HOTRST. -/
def execPrtRstHotrst (w : Writer) (p : Port) (s : State) : Host.Outcome State Fault Refusal :=
  .next (s.regCommand w (R.PRT_RST p) 1 fun s => (s.slotWatch fun t => t.rstHot p).settle)
/-- R484: LDIS. -/
def execPrtRstLdis (w : Writer) (p : Port) (disable : Bool) (s : State) : Host.Outcome State Fault Refusal :=
  .next (s.regCommand w (R.PRT_RST p) (if disable then 2 else 0) fun s => (s.slotWatch fun t => t.rstLdis p disable).settle)
/-- R484: DPCTRIG. -/
def execPrtRstDpctrig (w : Writer) (p : Port) (s : State) : Host.Outcome State Fault Refusal :=
  .next (s.regCommand w (R.PRT_RST p) 4 fun s => (s.slotWatch fun t => t.rstDpcTrig p).settle)
/-- R484: DPCREL. -/
def execPrtRstDpcrel (w : Writer) (p : Port) (s : State) : Host.Outcome State Fault Refusal :=
  .next (s.regCommand w (R.PRT_RST p) 8 fun s => (s.slotWatch fun t => t.rstDpcRel p).settle)

/-- GONE written (R481, R518): items of the bound FIDs are resolved with reason 0x02. -/
def State.goneWrite (s : State) (p v : Nat) : State :=
  if !s.fb (R.PRT_VDP_B0_VALID p v) || !s.shared (p, v) then s.setFb (R.PRT_VDL_GONE p v) true
  else
    let s1 := s.setGone p v
    s1.resolveWhere (fun e => e.state = 1 && s.binds (p, v) e.dfid) 0x02

/-- R481: GONE set by a write. -/
def execVdlGoneSet (w : Writer) (p : Port) (v : Fin 256) (s : State) : Host.Outcome State Fault Refusal :=
  .next (s.regCommand w (R.PRT_VDL p v) 0x10000 fun s => (s.goneWrite p v).settle)

/-! ### Presence of a slot (R518, R620) -/

/-- Items of the ports behind a slot channel whose presence is lost (R518). -/
def State.slotLost (s : State) (i : Nat) : State :=
  (s.spcBound i).foldl (fun t b =>
    let q := t.fd (R.PRT_VDP_B0_LPORT b.1 b.2)
    (t.portDown q 0x02 true).surpriseDown q) s

/-- R518, R620, R639: presence is lost; during a Vigil hold it ends the hold. -/
def execSpcPresenceLoss (i : Fin 32) (s : State) : Host.Outcome State Fault Refusal :=
  .next (if (s.spc i).heldPs ≠ none then
      (match (s.spc i).holdEnd with
        | 0 => (s.setSpc i { s.spc i with holdEnd := 1 }).emit (.pin "SPC_GATE" i false)
        | 2 => s.setSpc i { s.spc i with holdEnd := 3 }
        | _ => s)
    else if s.live 24 && s.fb (R.SPC_STS_PRSNT i) then
      ((s.spcEvent i (s.fb (R.SPC_STS_PRSNT i)) s.now fun t => t.spcLost i).slotWatch fun t => t.slotLost i).settle
    else s)

end Sys2Proof.Machine
end

