-- ==== Sys2Proof/Machine/HostCfg.lean ====
section
/-! DEFINITION. Machine/HostCfg.lean: configuration requests of a host that end in the device (R473–R480, R483, R544, R548, R549): those to
the upstream bridge, to a virtual downstream port, to a function of the fabric function, and those that R187 answers.  The
capabilities stand where R474 and R549 put them; inside a capability the registers stand where PCI Express puts them (log entry
33), and bytes the model does not keep read as Config.cfgByte. -/

namespace Sys2Proof.Machine

/-- Whom a configuration request addresses on this device; `retry` below a virtual downstream port whose bus numbers no commit has taken up
(R477). -/
inductive CfgTarget where
  | bridge
  | vdp (v : Nat)
  | fn (f : Nat)
  | bound (fid v : Nat)
  | absent
  | retry
  deriving DecidableEq, Repr

/-! ### Targets (R473, R544, R187) -/

/-- The offset of a configuration request, and its byte enables; in flit mode these stand in the last byte of OHC-A. -/
def Pkt.cfgOff (k : Pkt) : Nat := k.hf 3 34 10 * 4
def Pkt.cfgBe (k : Pkt) : Nat := if k.flit then (if k.hdrLen < 20 then 15 else k.hf 4 32 4) else k.hf 2 0 4

/-- The function of the fabric function that a bus and a function number below virtual downstream port `v` name (R544). -/
def State.fnBelow (s : State) (p sec bus devfn : Nat) : Option Nat :=
  let n := (bus - sec) * 256 + devfn
  if !s.pfExists p then none
  else if n = 0 then some (4096 + p)
  else if n ≤ s.vfCount p then some (s.fd (R.FFN_PF_CFG_VFBASE p) + n - 1)
  else none

/-- The virtual downstream port whose bus range holds a bus. -/
def State.vdpOfBus (s : State) (p bus : Nat) : Option Nat :=
  (s.vdps.find? fun e => e.1 / 256 = p && decide (e.2.secBus ≠ 0) && decide (e.2.secBus ≤ bus) &&
    decide (bus ≤ e.2.subBus)).map fun e => e.1 % 256

/-- Whom a configuration request from upstream port `p` addresses on this device; none when it goes on to a bound function. -/
def State.cfgTarget (s : State) (p : Nat) (k : Pkt) : Option CfgTarget :=
  let id := k.hf 3 48 16
  let bus := id / 256
  let devfn := id % 256
  if k.tlpType % 2 = 0 then some (if devfn = 0 then .bridge else .absent)
  else if bus = ((s.up p).cfg.get 0 0x19).toNat then some (.vdp devfn)
  else match s.vdpOfBus p bus with
    | none => none
    | some v =>
      if (s.vdp p v).rrs then some .retry
      else if s.fb (R.PRT_VDP_B0_VALID p v) ∧ s.fd (R.PRT_VDP_B0_KIND p v) = 3 then
        (match s.fnBelow p (s.vdp p v).secBus bus devfn with
         | none => some .absent
         | some f => some (.fn f))
      else if s.fb (R.PRT_VDP_B0_VALID p v) ∧ s.fd (R.PRT_VDP_B0_KIND p v) = 2 then
        let fid := s.fd (R.PRT_VDP_B0_FID p v)
        if devfn ≠ 0 then some .absent
        else if Config.vfFid fid ∧ k.tkind = 0x04 ∧ (k.cfgOff = 0 ∨ Config.vfHidden fid k.cfgOff) then some (.bound fid v)
        else none
      else none

/-! ### Reads -/

/-- Byte `i` of a number. -/
def byteOf (i n : Nat) : Byte := BitVec.ofNat 8 (n / 256 ^ i)

/-- Link Status of a virtual downstream port (R475, R479). -/
def State.linkStatus (s : State) (p v : Nat) : Nat :=
  let kind0 : Bool := s.fb (R.PRT_VDP_B0_VALID p v) && s.fd (R.PRT_VDP_B0_KIND p v) = 0
  let q := s.fd (R.PRT_VDP_B0_LPORT p v)
  let speed := if kind0 then s.fd (R.PRT_LSTS_RATE q) + 1 else max 1 (s.fd (R.PRT_VDL_SPEED p v))
  let width := if kind0 then s.fd (R.PRT_LSTS_WIDTH q) else max 1 (s.fd (R.PRT_VDL_WIDTH p v))
  speed + width * 2 ^ 4 + (if s.dllla p v then 2 ^ 13 else 0)

/-- Max Link Speed and Maximum Link Width in the Link Capabilities of a virtual downstream port (R475): what the real port can take, or VDL. -/
def State.linkCaps (s : State) (p v : Nat) : Nat :=
  let q := s.fd (R.PRT_VDP_B0_LPORT p v)
  if s.fb (R.PRT_VDP_B0_VALID p v) ∧ s.fd (R.PRT_VDP_B0_KIND p v) = 0 then wField 0 3 (s.lctlOf q) + 1 + 2 ^ s.widthLog q * 2 ^ 4
  else max 1 (s.fd (R.PRT_VDL_SPEED p v)) + max 1 (s.fd (R.PRT_VDL_WIDTH p v)) * 2 ^ 4

/-- Slot Status, and Slot Capabilities (R473, R479). -/
def State.slotStatus (s : State) (p v : Nat) : Nat :=
  let x := s.vdp p v
  (if x.powerFault then 2 else 0) + (if x.presChanged then 8 else 0) + (if x.cmdDone then 16 else 0) +
  (if s.slotPresent p v then 64 else 0) + (if x.dllChanged then 256 else 0)

def State.slotCaps (s : State) (p v : Nat) : Nat :=
  let pcp : Bool := s.fb (R.PRT_VDP_B0_VALID p v) && s.fd (R.PRT_VDP_B0_KIND p v) = 0 && s.fb (R.PRT_VDP_B1_SPCV p v)
  (if pcp then 2 else 0) + 2 ^ 5 + 2 ^ 6 + (if pcp then 0 else 2 ^ 18) + v * 2 ^ 19

/-- The capabilities of a bridge, by offset and capability ID (R474; the IDs are those of PCI Express, log entry 33, and the one of the
128 GT/s capability is free). -/
def bridgeCaps (upstream cxl : Bool) : List (Nat × Nat) :=
  let pl128 := (Config.cfgByte 0 0x2C0).toNat + 256 * (Config.cfgByte 0 0x2C1).toNat
  if upstream then
    [(0x40, 0x01), (0x60, 0x10), (0xA0, 0x0D), (0x100, 0x01), (0x1A0, 0x03), (0x1B0, 0x19), (0x1E0, 0x25), (0x200, 0x26),
     (0x240, 0x2A), (0x280, 0x31), (0x2C0, pl128), (0x300, 0x27), (0x340, 0x32), (0x380, 0x2E), (0x3C0, 0x30)] ++
    (if cxl then [(0x400, 0x23), (0x440, 0x23), (0x480, 0x23)] else [])
  else
    [(0x40, 0x01), (0x48, 0x05), (0x60, 0x10), (0xA0, 0x0D), (0x100, 0x01), (0x150, 0x0D), (0x160, 0x1D), (0x190, 0x1F)] ++
    (if cxl then [(0x440, 0x23)] else [])

/-- The capabilities of a PF, and of a VF (R549). -/
def fnCaps (pf : Bool) : List (Nat × Nat) :=
  if pf then [(0x40, 0x01), (0x50, 0x11), (0x70, 0x10), (0x100, 0x01), (0x140, 0x0E), (0x150, 0x10), (0x190, 0x03), (0x1C0, 0x0B)]
  else [(0x50, 0x11), (0x70, 0x10), (0x100, 0x01), (0x140, 0x0E), (0x1C0, 0x0B)]

/-- The header of the capability at an offset: its ID, and the offset of the next of its list; an extended one's version is left out. -/
def capHead (caps : List (Nat × Nat)) (off : Nat) : Option Nat :=
  (caps.find? fun c => c.1 = off).map fun c =>
    let next := ((caps.filter fun d => decide (off < d.1) && decide (d.1 < 256) = decide (off < 256)).map Prod.fst).headD 0
    if off < 256 then c.2 + next * 2 ^ 8 else c.2 + next * 2 ^ 20

/-- A byte of a capability header of a bridge; `b` is what it reads as where the header does not say. -/
def capByte (caps : List (Nat × Nat)) (b : Byte) (off : Nat) : Option Byte :=
  match capHead caps (off / 4 * 4) with
  | none => none
  | some v =>
    if off < 256 then (if off % 4 < 2 then some (byteOf (off % 4) v) else none)
    else if off % 4 = 2 then some ((byteOf 2 v &&& 0xF0) ||| (b &&& 0x0F))
    else some (byteOf (off % 4) v)

/-- The configuration bytes of a bridge that a host writes and reads back. -/
def bridgeRw (off : Nat) : Bool :=
  decide (0x04 ≤ off ∧ off < 0x06) || decide (0x18 ≤ off ∧ off < 0x1B) || decide (0x20 ≤ off ∧ off < 0x30) ||
  decide (0x3C ≤ off ∧ off < 0x40) || decide (0x44 ≤ off ∧ off < 0x46) || decide (0x4A ≤ off ∧ off < 0x60) ||
  decide (0x68 ≤ off ∧ off < 0x6A) || decide (0x70 ≤ off ∧ off < 0x72) || decide (0x78 ≤ off ∧ off < 0x7A) ||
  decide (0x88 ≤ off ∧ off < 0x8A) || decide (0x108 ≤ off ∧ off < 0x10C) || decide (0x156 ≤ off ∧ off < 0x158) ||
  decide (0x166 ≤ off ∧ off < 0x168) || decide (0x198 ≤ off ∧ off < 0x19C)

/-- A byte of the header that the upstream bridge and the virtual downstream ports share; none for the others. -/
def State.bridgeHeader (s : State) (device htype off : Nat) : Option Byte :=
  if off < 2 then some (byteOf off (s.fd R.GLB_ID_VENDOR))
  else if off < 4 then some (byteOf (off - 2) device)
  else if 8 ≤ off ∧ off < 12 then some (byteOf (off - 8) 0x06040000)
  else if off = 0x0E then some (BitVec.ofNat 8 htype)
  else if off = 0x34 then some 0x40
  else none

/-- A byte of the upstream bridge. -/
def State.bridgeByte (s : State) (p off : Nat) : Byte :=
  match (s.bridgeHeader 0x9602 0x01 off).or (capByte (bridgeCaps true (s.fb (R.PRT_LSTS_CXL p))) (Config.cfgByte 0 off) off) with
  | some b => b
  | none =>
    if 0x1A4 ≤ off ∧ off < 0x1AC then byteOf (off - 0x1A4) (s.rg R.GLB_DSN).toNat
    else if 0x38C ≤ off ∧ off < 0x390 then byteOf (off - 0x38C) (if (s.up p).doeOut = [] then 0 else 0x80000000)
    else if 0x394 ≤ off ∧ off < 0x398 then byteOf (off - 0x394) ((s.up p).doeOut.headD 0).toNat
    else if bridgeRw off then (s.up p).cfg.get 0 off
    else Config.cfgByte 0 off

/-- A byte of virtual downstream port `v`. -/
def State.vdpByte (s : State) (p v off : Nat) : Byte :=
  match (s.bridgeHeader 0x9603 (if v % 8 = 0 then 0x81 else 0x01) off).or
      (capByte (bridgeCaps false (s.fb (R.PRT_LSTS_CXL p))) (Config.cfgByte 1 off) off) with
  | some b => b
  | none =>
    let x := s.vdp p v
    if off = 0x19 then BitVec.ofNat 8 x.secBus
    else if off = 0x1A then BitVec.ofNat 8 x.subBus
    else if off = 0x6C then byteOf 0 (s.linkCaps p v)
    else if off = 0x6D then (byteOf 1 (s.linkCaps p v) &&& 3) ||| (Config.cfgByte 1 off &&& 0xFC)
    else if off = 0x106 then (if x.acsViol then 0x20 else 0) ||| (Config.cfgByte 1 off &&& 0xDF)
    else if 0x72 ≤ off ∧ off < 0x74 then byteOf (off - 0x72) (s.linkStatus p v)
    else if 0x74 ≤ off ∧ off < 0x78 then byteOf (off - 0x74) (s.slotCaps p v)
    else if 0x7A ≤ off ∧ off < 0x7C then byteOf (off - 0x7A) (s.slotStatus p v)
    else if 0x168 ≤ off ∧ off < 0x16A then byteOf (off - 0x168) (if x.dpc then 1 else 0)
    else if bridgeRw off then x.cfg.get 0 off
    else Config.cfgByte 1 off

/-- A doubleword of a function's configuration space: the bits that have a value, the bits that a host writes and reads back, and the bits
that the spec leaves to PCI Express. -/
structure CfgDw where
  value : Nat
  rw : Nat
  free : Nat
  deriving DecidableEq, Repr

/-- Bit `i` of a word, set where the condition holds. -/
def bitAt (b : Bool) (i : Nat) : Nat := if b then 2 ^ i else 0

/-- The log of a BAR's size, and the doublewords of a 64-bit non-prefetchable BAR of that size (R550, R552; coding of PCI Express, log entry
33). -/
def barLow (log : Nat) : CfgDw := ⟨4, 2 ^ 32 - 2 ^ log, 0⟩
def barHigh : CfgDw := ⟨0, 0xFFFFFFFF, 0⟩

/-- The log of the size of VF BAR2/3: the greater of 16 KiB and the System Page Size (R552). -/
def vfBarLog (m : SMap Byte) : Nat :=
  let sps := cfgWord m 0x170 % 512
  match (List.range 9).find? fun i => sps = 2 ^ i with
  | none => 14
  | some i => max 14 (12 + i)

/-- What a PF and a VF have alike. The header's other fields, and what lies between the capabilities, read 0. -/
def State.fnDwCommon (s : State) (f off : Nat) : CfgDw :=
  match off with
  | 0x008 => ⟨0x08800000, 0, 0⟩
  | 0x02C => ⟨s.fd R.GLB_ID_VENDOR + 0x9600 * 2 ^ 16, 0, 0⟩
  | 0x074 => ⟨5 + 2 ^ 5 + 2 ^ 28, 0, 0xFFFFFFFF - (7 + 2 ^ 5 + 2 ^ 28)⟩
  | 0x078 => ⟨0, 0x7FFF, 0xFFFF0000⟩
  | 0x094 => ⟨2 ^ 17, 0, 0xFFFFFFFF - (31 + 2 ^ 17)⟩
  | 0x098 => ⟨0, 0xFFFF, 0xFFFF0000⟩
  | 0x144 => ⟨0, 0, 0xFFFF00FF⟩
  | 0x1C4 => ⟨0x01010001, 0, 0⟩
  | 0x1C8 => ⟨f + s.fnTenant f * 2 ^ 16, 0, 0⟩
  | _ =>
    match capHead (fnCaps (decide (4096 ≤ f))) off with
    | some v => ⟨v, 0, if off < 256 then 0xFFFF0000 else 0xF0000⟩
    | none => if (0x74 ≤ off ∧ off < 0xAC) ∨ (0x104 ≤ off ∧ off < 0x148) then ⟨0, 0, 0xFFFFFFFF⟩ else ⟨0, 0, 0⟩

/-- The doubleword at `off` that a function of the fabric function presents (R548–R552), a multiple of 4. -/
def State.fnDw (s : State) (f off : Nat) : CfgDw :=
  let x := s.fn f
  let p := f - 4096
  if 4096 ≤ f then
    match off with
    | 0x000 => ⟨s.fd R.GLB_ID_VENDOR + 0x9600 * 2 ^ 16, 0, 0⟩
    | 0x004 => ⟨bitAt x.mse 1 + bitAt x.bme 2, 0x500, 0xFFFF0000⟩
    | 0x010 => if s.fb (R.PRT_CTX_MGMT p) then barLow 26 else ⟨0, 0, 0⟩
    | 0x014 => if s.fb (R.PRT_CTX_MGMT p) then barHigh else ⟨0, 0, 0⟩
    | 0x018 => barLow 16
    | 0x01C => barHigh
    | 0x030 => if s.fb (R.FFN_PF_CFG_ROMEN p) then ⟨0, 0xFFF00001, 0⟩ else ⟨0, 0, 0⟩
    | 0x034 => ⟨0x40, 0, 0⟩
    | 0x03C => ⟨0, 0xFF, 0⟩
    | 0x044 => ⟨0, 3, 0xFFFFFFFC⟩
    | 0x050 => ⟨(capHead (fnCaps true) 0x50).getD 0 + 63 * 2 ^ 16, 0xC0000000, 0⟩
    | 0x054 => ⟨0xE002, 0, 0⟩
    | 0x058 => ⟨0xF002, 0, 0⟩

    | 0x154 => ⟨0, 0, 0xFFFFFFFE⟩
    | 0x158 => ⟨bitAt x.vfEnable 0, 0x18, 0xFFFF0000⟩
    | 0x15C => ⟨s.fd (R.FFN_PF_CFG_TOTALVF p) * 0x10001, 0, 0⟩
    | 0x160 => ⟨0, 0xFFFF, 0xFFFF0000⟩
    | 0x164 => ⟨0x00010001, 0, 0⟩
    | 0x168 => ⟨0x9601 * 2 ^ 16, 0, 0⟩
    | 0x16C => ⟨0x1FF, 0, 0⟩
    | 0x170 => ⟨bitAt (decide (cfgWord x.cfg 0x170 % 512 = 0)) 0, 0x1FF, 0⟩
    | 0x174 => ⟨0, 0, 0⟩
    | 0x178 => ⟨0, 0, 0⟩
    | 0x17C => barLow (vfBarLog x.cfg)
    | 0x180 => barHigh
    | 0x184 => ⟨0, 0, 0⟩
    | 0x188 => ⟨0, 0, 0⟩
    | 0x18C => ⟨0, 0, 0⟩
    | 0x194 => ⟨(s.rg R.GLB_DSN).toNat % 2 ^ 32, 0, 0⟩
    | 0x198 => ⟨(s.rg R.GLB_DSN).toNat / 2 ^ 32, 0, 0⟩
    | _ => s.fnDwCommon f off
  else
    match off with
    | 0x000 => ⟨0xFFFFFFFF, 0, 0⟩
    | 0x004 => ⟨bitAt x.bme 2, 0x400, 0xFFFF0000⟩
    | 0x034 => ⟨0x50, 0, 0⟩
    | 0x050 => ⟨(capHead (fnCaps false) 0x50).getD 0 + 15 * 2 ^ 16, 0xC0000000, 0⟩
    | 0x054 => ⟨0x3002, 0, 0⟩
    | 0x058 => ⟨0x3802, 0, 0⟩
    | _ => s.fnDwCommon f off

/-- Whether a host's write to a byte of a function is kept. -/
def State.fnRw (s : State) (f off : Nat) : Bool := (s.fnDw f (off / 4 * 4)).rw / 256 ^ (off % 4) % 256 ≠ 0

/-- A byte of a function (R548, R549). -/
def State.fnByte (s : State) (f off : Nat) : Byte :=
  let d := s.fnDw f (off / 4 * 4)
  byteOf (off % 4) d.value ||| ((s.fn f).cfg.get 0 off &&& byteOf (off % 4) d.rw) ||| (Config.cfgByte 2 off &&& byteOf (off % 4) d.free)

/-- A byte of a target's configuration space. -/
def State.cfgRead (s : State) (p : Nat) (t : CfgTarget) (off : Nat) : Byte :=
  match t with
  | .bridge => s.bridgeByte p off
  | .vdp v => s.vdpByte p v off
  | .fn f => s.fnByte f off
  | .bound fid _ => if off < 4 then byteOf off (Config.vfDevice fid).toNat else 0
  | .absent => 0
  | .retry => 0

/-! ### Writes -/

/-- The bytes of a map that a write of four bytes with byte enables leaves, where the register may be written. -/
def cfgStore (m : SMap Byte) (rw : Nat → Bool) (off be : Nat) (data : List Byte) : SMap Byte :=
  (List.range 4).foldl (fun (m : SMap Byte) i =>
    if natField i 1 be = 1 ∧ rw (off + i) then SMap.set 0 m (off + i) (data.getD i 0) else m) m

/-- The bits written at a byte, and whether it is enabled. -/
def written (off be : Nat) (data : List Byte) (at_ : Nat) : Option Nat :=
  if off ≤ at_ ∧ at_ < off + 4 ∧ natField (at_ - off) 1 be = 1 then some (data.getD (at_ - off) 0).toNat else none

/-- Bit `i` of the byte written at `at_`, when it is written. -/
def writtenBit (off be : Nat) (data : List Byte) (at_ i : Nat) : Option Bool :=
  (written off be data at_).map fun b => natField i 1 b = 1

/-- A write to virtual downstream port `v` (R476, R477, R479, R480, R483, R484). -/
def State.vdpCfgWrite (s : State) (p v off be : Nat) (data : List Byte) : State :=
  let x := s.vdp p v
  let sec := (written off be data 0x19).getD x.secBus
  let sub := (written off be data 0x1A).getD x.subBus
  let bit (a i : Nat) : Option Bool := writtenBit off be data a i
  let w1c (b : Bool) (a i : Nat) : Bool := b && bit a i ≠ some true
  let s1 := s.setVdp p v { x with
    cfg := cfgStore x.cfg bridgeRw off be data
    sbr := (bit 0x3E 6).getD x.sbr
    powerFault := w1c x.powerFault 0x7A 1
    presChanged := w1c x.presChanged 0x7A 3
    cmdDone := w1c x.cmdDone 0x7A 4
    dllChanged := w1c x.dllChanged 0x7B 0
    acsViol := w1c x.acsViol 0x106 5 }
  let s2 := s1.busNumbers p v sec sub
  let s3 := if bit 0x3E 6 = some true ∧ !x.sbr then s2.busReset p v
    else if bit 0x3E 6 = some false ∧ x.sbr ∧ s2.fb (R.PRT_VDP_B0_VALID p v) ∧ s2.fd (R.PRT_VDP_B0_KIND p v) = 0 then
      s2.train (s2.fd (R.PRT_VDP_B0_LPORT p v))
    else s2
  let s4 := match bit 0x70 4 with | some b => s3.linkDisable p v b | none => s3
  let s5 := if bit 0x70 5 = some true ∧ s4.fb (R.PRT_VDP_B0_VALID p v) ∧ s4.fd (R.PRT_VDP_B0_KIND p v) = 0 then
      s4.emit (.mgmt "retrain" (s4.fd (R.PRT_VDP_B0_LPORT p v)) 0) else s4
  let s6 := match bit 0x79 2 with | some b => s5.powerControl p v b | none => s5
  let s7 := if bit 0x166 6 = some true then s6.dpcTrigger p v else s6
  if bit 0x168 0 = some true ∧ x.dpc then s7.dpcRelease p v else s7

/-- A write to a function (R548, R569, R571, R573). -/
def State.fnCfgWrite (s : State) (f off be : Nat) (data : List Byte) : State :=
  let bit (a i : Nat) : Option Bool := writtenBit off be data a i
  let x := s.fn f
  let pf := decide (4096 ≤ f)
  let s1 := s.setFn f { x with
    cfg := cfgStore x.cfg (s.fnRw f) off be data
    mse := if pf then (bit 0x04 1).getD x.mse else x.mse }
  let s2 := match bit 0x04 2 with
    | some true => (s1.setFn f { s1.fn f with bme := true }).msixFlush f
    | some false => s1.bmeClear f
    | none => s1
  let s3 := if (bit 0x53 7).isSome then s2.msixFlush f else s2
  let s4 := match pf, bit 0x158 0 with
    | true, some true =>
      let y := s3.fn f
      if y.vfEnable then s3
      else s3.setFn f { y with vfEnable := true, numVfs := min (cfgWord y.cfg 0x160) (s3.fd (R.FFN_PF_CFG_TOTALVF (f - 4096))) }
    | true, some false => s3.vfEnableClear (f - 4096)
    | _, _ => s3
  if bit 0x79 7 = some true then s4.flr f else s4

/-- A write to the upstream bridge's DOE mailbox (R474, R486; places of PCI Express, log entry 107): a word of an object, Abort, GO, which has
the object carried out, or a word of the answer taken. -/
def State.doeWrite (s : State) (p off : Nat) (w : BitVec 32) : State :=
  let x := s.up p
  if off = 0x390 then s.setUp p { x with doeIn := x.doeIn ++ [w] }
  else if off = 0x394 then s.setUp p { x with doeOut := x.doeOut.drop 1 }
  else if off = 0x388 then
    if w.getLsbD 0 then s.setUp p { x with doeIn := [], doeOut := [] }
    else if w.getLsbD 31 then
      let s1 := s.setUp p { x with doeIn := [], doeOut := Config.doeReply x.doeIn s.fv }
      (match Config.ideKey x.doeIn s.fv with
       | none => s1
       | some k => s1.setPort p { s1.port p with ideKey := some k, ideRx := 0 }).bumpFv
    else s
  else s

/-- A write to the upstream bridge is recorded; its DOE mailbox acts on it. -/
def State.bridgeCfgWrite (s : State) (p off be : Nat) (data : List Byte) : State :=
  (s.setUp p { s.up p with cfg := cfgStore (s.up p).cfg bridgeRw off be data }).doeWrite p off
    (BitVec.ofNat 32 (ofBytesLE ((List.range 4).map fun i => if natField i 1 be = 1 then data.getD i 0 else 0)))

/-! ### The request -/

/-- A configuration request that ends in the device is carried out and answered: with Request Retry Status while the function, or
the binding, is being reset (R489, R571), with Unsupported Request where nothing is addressed. -/
def State.cfgAccess (s : State) (p : Nat) (k : Pkt) (t : CfgTarget) : State :=
  let rd := k.tkind = 0x04
  let answer (u : State) (status : Nat) (data : List Byte) : State :=
    u.sendCpl p status (decide (data ≠ [])) data k.reqId k.tlpTag k.tc k.attrs 0
  let bytes := (List.range 4).map fun i => s.cfgRead p t (k.cfgOff + i)
  let done (u : State) : State := answer u 0 (if rd then bytes else [])
  match t with
  | .absent => answer s 1 []
  | .retry => answer s 2 []
  | .bound fid v => if (s.vdp p v).resetting fid then answer s 2 [] else done s
  | .fn f =>
    if (s.fn f).rst.isSome then answer s 2 []
    else done (if rd then s else s.fnCfgWrite f k.cfgOff k.cfgBe k.data)
  | .vdp v => done (if rd then s else s.vdpCfgWrite p v k.cfgOff k.cfgBe k.data)
  | .bridge => done (if rd then s else s.bridgeCfgWrite p k.cfgOff k.cfgBe k.data)

end Sys2Proof.Machine
end

