-- ==== Sys2Proof/Machine/Receive.lean ====
section
/-! DEFINITION. Machine/Receive.lean: what arrives at a PCIe/CXL port: the sheaf header and header window of a packet (R23, R178, R230–R233),
requests that end in the device, completions (R512, R513), requests that enter a pipeline (R502), messages to the device. -/

namespace Sys2Proof

/-- The transaction kind of a TLP or CXL message (R236). -/
def cxlCode : CxlKind → Nat
  | .m2sReq => 0x10 | .m2sRwD => 0x11 | .s2mNdr => 0x12 | .s2mDrs => 0x13 | .biSnp => 0x14 | .biRsp => 0x15 | .cache => 0x18

/-- Fmt and Type of a TLP: its first byte. -/
def Tlp.typ (t : Tlp) : Nat := natField 120 8 t.hdr.toNat

def Tlp.tkind (t : Tlp) : Nat := match t.cxl with
  | some c => cxlCode c.kind
  | none => Machine.tlpKind t.flit t.typ

/-- Whether a memory request has the 32-bit address form (R231). -/
def Tlp.short (t : Tlp) : Bool :=
  t.cxl.isNone && Machine.kindMem t.tkind && (t.typ = 0x03 || natField 5 1 t.typ = 0)

/-- The length in DW that a TLP's header gives. -/
def Tlp.lenDw (t : Tlp) : Nat := natField 96 10 t.hdr.toNat

/-- Whether a TLP or message is one that a link can carry: a known kind, and payload as its header says. -/
def Tlp.ok (t : Tlp) : Bool :=
  decide (t.ext.length < 256) &&
  (match t.cxl with
   | some _ => t.data.length = 0 || t.data.length = 64
   | none => t.tkind ≠ 0 &&
       t.data.length = (if natField 6 1 t.typ = 1 then 4 * (if t.lenDw = 0 then 1024 else t.lenDw) else 0))

/-- A 64-bit word of wire bytes, from byte `8 i` of a list padded with zeros. -/
def wireWord (bs : List Byte) (i : Nat) : Word := BitVec.ofNat 64 (Machine.ofBytesBE ((List.range 8).map fun j => bs.getD (8 * i + j) 0))

/-- h2 and h3: the base header in normalised form (R230, R231). -/
def Tlp.base (t : Tlp) : Word × Word :=
  let hi := natField 64 64 t.hdr.toNat
  let lo := natField 0 64 t.hdr.toNat
  if t.short then
    (setWField 56 8 (BitVec.ofNat 64 hi) (if t.typ = 0x03 then 0x20 else t.typ + 0x20), BitVec.ofNat 64 (lo / 2 ^ 32))
  else (BitVec.ofNat 64 hi, BitVec.ofNat 64 lo)

end Sys2Proof

namespace Sys2Proof.Machine

/-- The packet that a TLP received at port `p` becomes, before its tenant and source FID are known. -/
def State.tlpPkt (s : State) (p : Nat) (t : Tlp) : Pkt :=
  let b := t.base
  let base := if t.cxl.isSome then 16 else baseBytes (wField 56 8 b.1)
  let len := 16 + base + t.ext.length + t.data.length
  { Pkt.blank with
    id := s.pktNext, loc := .credit (octetOf p), origin := .port p, inPort := p,
    m3 := arrivalM3 t.tkind t.flit (decide (t.data ≠ [])) (kindMem t.tkind && !t.short) (if t.cxl.isSome then 0 else t.lenDw) t.ext.length,
    win := [0, 0, b.1, b.2] ++ (List.range 12).map (wireWord t.ext), cxl := t.cxl, data := t.data, hdrLen := 16 + t.ext.length,
    len := len, rcvd := len, cells := cellsOf false len, ide := t.ide, arrivedPs := s.now, sentPs := s.now }

/-- The sheaf header built at an edge (R233). -/
def State.sheafed (s : State) (k : Pkt) (tenant sfid : Nat) : Pkt :=
  let cls := if k.cxl.isSome then 0 else k.tc
  let hd := sheafWords cls (kindOrd k.tkind) 0 0 tenant 0 sfid 0 0 s.birthNow 0
  { (k.setH 0 hd.1).setH 1 hd.2 with pool := .tof k.inPort (kindOrd k.tkind) }

/-- The source FID of a request from a downstream port (R177, R178, R470): by its requester ID; of a CXL message by the logical device
it comes from, which the message's bytes tell. -/
def State.deviceFid (s : State) (k : Pkt) : Option Nat :=
  let p := k.inPort
  if k.cxl.isSome then
    if s.fb (R.PRT_LDMAP_V p) then
      some ((s.fd (R.PRT_LDMAP_LDFID p) + Config.freeChoice s.fv % (s.fd (R.PRT_LDMAP_LDCNTM1 p) + 1)) % 65536)
    else some (s.fd (R.PRT_FIDMAP_FIDBASE p))
  else s.fidOfRid p k.reqId

/-- Tenant and source FID of a request (R178), if it may be forwarded (R179). -/
def State.identity (s : State) (k : Pkt) : Option (Nat × Nat) :=
  let p := k.inPort
  if s.fd (R.PRT_CTX_ROLE p) = 1 then some (s.fd (R.PRT_CTX_TENANT p), s.fd (R.PRT_CTX_PFID p))
  else match s.deviceFid k with
    | none => none
    | some f => if s.fb (R.FIDT_CTL_VALID f s.rver) then some (s.fd (R.FIDT_CTL_OWNER f s.rver), f) else none

/-- A request that names no function known (R179): Unsupported Request or nothing, and an error report, whose code is a free value,
with port and requester ID. -/
def State.refuseRid (s : State) (k : Pkt) : State :=
  let p := k.inPort
  let s1 := if kindNp k.tkind ∧ k.cxl.isNone then s.sendCpl p 1 false [] k.reqId k.tlpTag k.tc k.attrs 0 else s
  (s1.errorReport .prt p (Src.prt.freeQueue 2) 0 ((Config.freeWord s.fv).toNat % 65536) (BitVec.ofNat 64 (p + k.reqId * 2 ^ 16))).bumpFv

/-! ### Completions and responses -/

/-- A completion or response arrives at a port (R512): it is matched by its tag, gets its requester ID and tag back and goes to its
requester, over the pipeline unless that is a channel, a core or a proxy reset of this node; else it is late. -/
def State.completionArrive (s : State) (k : Pkt) : State :=
  let p := k.inPort
  match s.matchTag false p k.reqId k.rspTag with
  | none => s.lateCpl p k.reqId k.rspTag
  | some e =>
    let sfid :=
      if s.fd (R.PRT_CTX_ROLE p) = 1 then s.fd (R.PRT_CTX_PFID p)
      else if k.cxl.isSome then e.dfid
      else (s.fidOfRid p (k.hf 2 16 16)).getD e.dfid
    let k1 := match k.cxl with
      | some c => { k with cxl := some { c with tag := BitVec.ofNat 16 e.tag } }
      | none => if e.ide then k else k.setReq e.rid e.tag
    let tenant := if s.fd (R.PRT_CTX_ROLE p) = 1 then s.fd (R.PRT_CTX_TENANT p)
      else if s.fb (R.FIDT_CTL_VALID sfid s.rver) then s.fd (R.FIDT_CTL_OWNER sfid s.rver) else e.tenant
    let k2 := { s.sheafed k1 tenant sfid with entry := some e.idx, m1 := BitVec.ofNat 64 (k.reqId % 65536 * 2 ^ 40) }
    if e.role = 0 ∧ (e.origin = 1 ∨ e.origin = 2 ∨ e.origin = 4) then
      (s.addPkt { k2 with loc := .held }).ownResponse { k2 with id := s.pktNext, loc := .held } e
    else s.arrive k2

/-! ### Messages -/

/-- Whether a message is an MCTP message for this device (R496): a vendor-defined message of the DMTF at a management-capable upstream
port, not routed by ID to another function. -/
def State.mctpMine (s : State) (k : Pkt) : Bool :=
  (k.tkind = 0x06 || k.tkind = 0x07) && k.hf 2 0 8 = 0x7F && k.hf 3 32 16 = 0x1AB4 &&
  s.fd (R.PRT_CTX_ROLE k.inPort) = 1 && s.fb (R.PRT_CTX_MGMT k.inPort) &&
  (k.tlpType % 8 ≠ 2 || k.hf 3 48 16 = s.fd (R.PRT_CTX_OWNRID k.inPort))

/-- An MCTP message is delivered to resident firmware through a mailbox event; mailbox and queue are free values. -/
def State.mctpEvent (s : State) (bytes : Nat) : State :=
  (s.postEvent .evt (64 + Config.freeChoice s.fv % 16) (some (Config.freeChoice (s.fv + 1) % 64)) 0x06
    (Config.freeChoice s.fv % 16 + 256 * ((bytes + 7) / 8 % 64)) 0).bumpFv.bumpFv

/-- A message that ends in the device: error messages, PTM Requests and LTR from below, MCTP from above; none for the others. -/
def State.ownMessage (s : State) (k : Pkt) : Option State :=
  let code := k.hf 2 0 8
  if k.tkind ≠ 0x06 ∧ k.tkind ≠ 0x07 then none
  else if s.fd (R.PRT_CTX_ROLE k.inPort) = 2 then
    if code = 0x30 then some (s.errorMessage k.inPort k.reqId .cor)
    else if code = 0x31 then some (s.errorMessage k.inPort k.reqId .nonFatal)
    else if code = 0x33 then some (s.errorMessage k.inPort k.reqId .fatal)
    else if code = 0x52 then some (s.ptm k.inPort)
    else if code = 0x10 then some (s.ltr k.inPort (BitVec.ofNat 64 (k.hf 3 0 32)))
    else none
  else if s.mctpMine k then some (s.mctpEvent k.data.length)
  else none

/-! ### Reception -/

/-- Packets and bytes received at a port (R677). -/
def State.countReceived (s : State) (k : Pkt) : State :=
  let i := if k.cls = 15 then 3 else kindOrd k.tkind
  (s.cntPort k.inPort i 1).cntPort k.inPort (4 + i) k.len

/-- A request received at an edge. -/
def State.requestArrive (s : State) (k : Pkt) : State :=
  let p := k.inPort
  match s.ownMessage k with
  | some s1 => s1
  | none =>
    match (if s.fd (R.PRT_CTX_ROLE p) = 1 ∧ (k.tkind = 0x04 ∨ k.tkind = 0x05) then s.cfgTarget p k else none) with
    | some t => s.slotWatch fun u => u.cfgAccess p k t
    | none =>
      match s.identity k with
      | none => s.refuseRid k
      | some (t, f) =>
        let s1 := if k.cxl.isSome ∧ s.fb (R.PRT_LDMAP_V p) then s.bumpFv else s
        s1.arrive (s1.sheafed k t f)

/-- A TLP received on a link whose IDE stream has a key is deciphered (R486); the stream counts it. -/
def State.decipher (s : State) (p : Nat) (t : Tlp) : State × Tlp :=
  let x := s.port p
  match x.ideKey with
  | none => (s, t)
  | some k => (s.setPort p { x with ideRx := x.ideRx + 1 }, { t with data := ideXor k false x.ideRx t.data })

/-- A TLP or CXL message received whole at an edge port that is up. -/
def State.receiveTlp (s : State) (p : Nat) (t : Tlp) : State :=
  let (s, t) := (s.endCut p).decipher p t
  let k := s.tlpPkt p t
  let s1 := s.countReceived k
  if kindCpl k.tkind then s1.completionArrive k else s1.requestArrive k

/-- A TLP that is nullified as it ends (R301, R302): a request's header has entered the pipeline before, and how much of the TLP was
stored when the egress could begin is a free value (log entry 98); what ends in the device has no effect. -/
def State.receiveCut (s : State) (p : Nat) (t : Tlp) : State :=
  let (s, t) := (s.endCut p).decipher p t
  let k := s.tlpPkt p t
  let up : Bool := s.fd (R.PRT_CTX_ROLE p) = 1
  if kindCpl k.tkind || (s.ownMessage k).isSome || (up && (k.tkind = 0x04 || k.tkind = 0x05) && (s.cfgTarget p k).isSome) then s
  else match s.identity k with
    | none => s
    | some (t, f) =>
      let s1 := s.arrive { s.sheafed k t f with complete := false, rcvd := Config.freeChoice s.fv % k.len }
      (s1.setPort p { s1.port p with rxCut := some s.pktNext }).bumpFv

/-- Whether a port receives TLPs: an edge port with its link up. -/
def State.edgeUp (s : State) (p : Nat) : Bool :=
  (s.fd (R.PRT_CTX_ROLE p) = 1 || s.fd (R.PRT_CTX_ROLE p) = 2) && s.fb (R.PRT_LSTS_UP p)

/-- Whether the partner of an edge port has the link credits to send a TLP (R206, R279, R753): its cells fit into what is free of the TOF
reservation of its ordering type. A partner without them does not send it (log entry 97). -/
def State.creditsTlp (s : State) (p : Nat) (t : Tlp) : Bool :=
  s.edgeUp p && decide ((s.tlpPkt p t).cells ≤ s.tofFree p (kindOrd t.tkind))

/-- R23, R301, R302, R502: a TLP or CXL message is received, or one begun is nullified. -/
def execTlpReceive (p : Port) (t : Tlp) (nullified : Bool) (s : State) : Host.Outcome State Fault Refusal :=
  if !t.ok then .refused (.malformed "TLP")
  else .next (if !s.creditsTlp p t then s else (if nullified then s.receiveCut p t else s.receiveTlp p t).settle)

/-- R512, R513: a completion or CXL response is received. -/
def execCompletionArrival (p : Port) (t : Tlp) (s : State) : Host.Outcome State Fault Refusal :=
  if !t.ok || !kindCpl t.tkind then .refused (.malformed "completion")
  else .next (if !s.creditsTlp p t then s else (s.receiveTlp p t).settle)

/-- R496: an MCTP message is received: for the device a mailbox event, else it is routed by ID. -/
def execMctpMessage (p : Port) (t : Tlp) (s : State) : Host.Outcome State Fault Refusal :=
  if !t.ok || !(t.tkind = 0x06 || t.tkind = 0x07) then .refused (.malformed "MCTP message")
  else .next (if !s.creditsTlp p t then s else (s.receiveTlp p t).settle)

end Sys2Proof.Machine
end

