-- ==== Sys2Proof/Machine/LinkOps.lean ====
section
/-! DEFINITION. Machine/LinkOps.lean: the link layer of a native link (R403–R425): frames received, acknowledgement and credits, link-up and
declarations of link-down. -/

namespace Sys2Proof.Machine

/-! ### Acknowledgement (R418, R281) -/

/-- The last frame of a packet is acknowledged: a node that is not its source edge lets it go. -/
def State.frameAcked (s : State) (id : Nat) : State :=
  match s.pkt? id with
  | none => s
  | some k =>
    if k.sctx.isSome then s
    else match k.entry with
      | some e => ((s.itemTraceEnd e 0 0 false).delEntry e).dropPkt id
      | none => (s.pktTraceEnd k 0 false).dropPkt id

/-- Every unacknowledged frame up to and including ACK is acknowledged. -/
def State.ackFrames (s : State) (n a : Nat) : State :=
  let l := s.link n
  match l.unacked.findIdx? fun f => f.seq = a with
  | none => s
  | some j =>
    let gone := l.unacked.take (j + 1)
    let s1 := s.setLink n { l with
      unacked := l.unacked.drop (j + 1), rtimePs := s.now, expiries := 0
      paramAcked := l.paramAcked || gone.any fun f => f.typ = 1 }
    gone.foldl (fun t f => if f.typ = 4 ∨ f.typ = 5 then (match f.pkt with
      | none => t
      | some id => t.frameAcked id) else t) s1

/-- The ACK and the credit count of a good frame are used (R418). -/
def State.useHdr (s : State) (n : Nat) (h : FrameHdr) : State :=
  let s1 := s.ackFrames n h.ack.toNat
  let l := s1.link n
  if 4 ≤ h.cvc.val ∧ h.cvc.val ≠ 7 then s1
  else s1.setLink n { l with ccnt := l.ccnt.set 0 (poolOf h.cvc.val) h.ccnt.toNat }

/-! ### Link-down (R423, R425) -/

/-- The packet being received on a link is given up (R303, R425): ended with CHAFF where its forwarding on a native link has begun. -/
def State.dropRx (s : State) (n : Nat) (notice : Bool) : State :=
  let l := s.link n
  let s1 := s.setLink n { l with rxPkt := none }
  match l.rxPkt with
  | none => s1
  | some id => match s1.pkt? id with
    | none => s1
    | some k =>
      let s1 := s1.growCopies id [] true
      match k.txPort with
      | some p =>
        let s2 := if k.txDone then s1 else s1.chaffOut (octetOf p)
        if notice then s2.evictPkt k 6
        else (match k.entry with
          | none => s2.pktTraceEnd k 0 true
          | some e => (s2.itemTraceEnd e 0 0 true).delEntry e).dropPkt id
      | none => s1.discard k

/-- Whether a packet is queued for a port, or sent on it and not wholly acknowledged. -/
def State.concerns (s : State) (n : Nat) (k : Pkt) : Bool :=
  let p := linkPort n
  (match k.loc with
   | .queue q => s.qPort q = p
   | .classC e => e = p
   | .mirror e => e = p
   | .held => k.txPort = some p
   | _ => false) &&
  (k.txPort ≠ some p || !k.txDone || (s.link n).unacked.any fun f => f.pkt = some k.id)

/-- The link is declared down with a cause (R423, R425). -/
def State.nativeDown (s : State) (n cause : Nat) : State :=
  let p := linkPort n
  let s1 := (((s.setFb (R.LNK_STS_UP n) false).setFd (R.LNK_STS_DCAUSE n) cause).cntPort p 60 1).linkEvent .oct p 9
  let ids := (s1.pkts.filter fun k => s.concerns n k).map fun k => k.id
  let s2 := ((s1.dropRx n true).setLink n Link.reset).creditRestart n
  ids.foldl (fun t id => match t.pkt? id with
    | none => t
    | some k => t.linkDownPkt k) s2

/-! ### Link-up (R409, R410) -/

/-- The own PARAM is sent once no landing cell of an earlier time is held. -/
def State.trySendParam (s : State) (n : Nat) : State :=
  let l := s.link n
  let p := linkPort n
  if l.paramSent ∨ s.phyState n ≠ 6 ∨ ((List.range 5).any fun i => s.landHeld p i ≠ 0) then s
  else
    let w (x : Nat) : List Byte := bytesBE 2 x
    let pay := w (s.fd R.GLB_MODE_NODE) ++ [1, (if s.fabric then 1 else 0) + (if (s.phy n).x16 then 2 else 0)] ++
      w (s.landSize p 4) ++ ((List.range 4).map fun i => w (s.landSize p i)).flatten ++ [BitVec.ofNat 8 p]
    (s.setLink n { l with paramSent := true }).sendSeq n 1 0 239 (framePay pay 0) none

/-- Whether the partner's PARAM passes the first four checks. -/
def State.paramOk (s : State) (q : LinkParams) : Bool :=
  q.version = 1 && q.fabric && s.fabric && decide (q.node.toNat ≠ s.fd R.GLB_MODE_NODE) &&
  ((List.range 4).all fun i => decide (18 ≤ q.size i)) && decide (4 ≤ q.ctl.toNat)

/-- The link is declared up when all of R410 holds. -/
def State.tryUp (s : State) (n : Nat) : State :=
  let l := s.link n
  match l.partner with
  | none => s
  | some q =>
    if s.fb (R.LNK_STS_UP n) ∨ !l.paramAcked ∨ !l.tsyncSeen ∨ !s.paramOk q then s
    else
      let s1 := (s.setFb (R.LNK_STS_UP n) true).setFd (R.PHY_STS_PNODE n) q.node.toNat
      (if (s.phy n).x16 then s1.setFd (R.PHY_STS_PNODE (n + 1)) q.node.toNat else s1).linkEvent .oct (linkPort n) 8

/-! ### Receiving (R414, R417, R432) -/

/-- A frame in sequence consumes a landing cell of its pool. -/
def State.takeCell (s : State) (n dvc : Nat) : State :=
  let l := s.link n
  s.setLink n { l with taken := l.taken.set 0 (poolOf dvc) (l.taken.get 0 (poolOf dvc) + 1) }

/-- Whether a packet is to reach the pipeline only when it is whole: one for a FID of this node, a mirror copy, class C. -/
def State.waitsWhole (s : State) (k : Pkt) : Bool := s.localFid k.dfid || k.mirrored || k.cls = 15

/-- A whole packet, or the head of one in transit, goes on: a message for this node is consumed (R434), any other packet arrives at the
pipeline. -/
def State.nativeArrive (s : State) (k : Pkt) : State :=
  let s1 := if k.complete then s.countReceived k else s
  if k.cls = 15 ∧ s.localFid k.dfid then
    let (typ, m) := k.msg
    s1.consumeMsg typ m
  else s1.arrive k

/-- A packet's first frame. -/
def State.rxFirst (s : State) (n : Nat) (bs : List Byte) (whole : Bool) : State :=
  let s := s.dropRx n false
  if !sheafOk bs then s.addFd (R.LNK_CNT_BADFR n) 1
  else
    let k := s.nativePkt (linkPort n) bs whole
    if whole then s.nativeArrive k
    else
      let id := s.pktNext
      let s1 := if s.waitsWhole k then s.addPkt { k with loc := .held } else s.nativeArrive k
      s1.setLink n { s1.link n with rxPkt := some id }

/-- A further frame of the packet in progress. -/
def State.rxNext (s : State) (n : Nat) (bs : List Byte) (last : Bool) : State :=
  let l := s.link n
  let s1 := if last then s.setLink n { l with rxPkt := none } else s
  match l.rxPkt with
  | none => s1
  | some id => match s1.pkt? id with
    | none => s1
    | some k =>
      let got := k.rcvd + bs.length
      let k1 := { k with data := k.data ++ bs, rcvd := got, complete := last, len := if last then got else max k.len got,
                         cells := if last then cellsOf true got else max k.cells (cellsOf true got) }
      if last ∧ k.loc = .held ∧ k.txPort.isNone then
        ({ s1 with pkts := s1.pkts.filter fun x => x.id ≠ id }).nativeArrive k1
      else
        let s2 := (s1.setPkt k1).growCopies id bs last
        let s3 := if last then s2.countReceived k1 else s2
        match k1.txPort with
        | none => s3
        | some p => if (s3.link (octetOf p)).txPkt = some id then s3.pump (octetOf p) id else s3

/-- Whether a link takes frames: its octet is ACTIVE. -/
def State.takesFrames (s : State) (n : Nat) : Bool := s.linkOctet n && s.phyState n = 6

/-- Whether a sequenced frame is the one expected; it then advances EXPECT. -/
def State.inSeq (s : State) (n : Nat) (h : FrameHdr) : Option State :=
  let l := s.link n
  if h.seq.toNat = l.expect then some (s.setLink n { l with expect := (l.expect + 1) % 4096 }) else none

/-- A good frame: its header is used; link-up and the own PARAM follow where they now may. -/
def State.frameIn (s : State) (n : Nat) (h : FrameHdr) (f : State → State) : State :=
  if !s.takesFrames n then s else ((f ((s.useHdr n h).tryUp n)).trySendParam n).tryUp n

/-- A data frame in sequence; before link-up none is taken. -/
def State.dataFrame (s : State) (n : Nat) (h : FrameHdr) (f : State → State) : State :=
  s.frameIn n h fun t =>
    if !t.fb (R.LNK_STS_UP n) then t
    else match t.inSeq n h with
      | none => t
      | some u => f (u.takeCell n h.dvc.val)

end Sys2Proof.Machine
end

