-- ==== Sys2Proof/Machine/FabTime.lean ====
section
/-! DEFINITION. Machine/FabTime.lean: fabric time over native links (R427–R429): the choice of a reference and the corrections. -/

namespace Sys2Proof.Machine

/-- The links that may serve as a time reference; none in standalone mode, where fabric time runs free. -/
def State.timeCands (s : State) : List (Nat × TsyncBody) :=
  (List.range 32).filterMap fun n =>
    match (s.link n).lastTsync with
    | none => none
    | some b =>
      if s.fabric ∧ s.takesFrames n ∧ b.sync ∧ b.dist.val < 63 ∧ b.root.toNat < s.fd R.GLB_MODE_NODE then some (n, b) else none

/-- Whether a candidate goes before another: root, distance, port. -/
def timeBefore (a b : Nat × TsyncBody) : Bool :=
  decide (a.2.root.toNat * 8192 + a.2.dist.val * 128 + a.1 < b.2.root.toNat * 8192 + b.2.dist.val * 128 + b.1)

/-- The fabric time of now is kept as an offset, and any slew ends. -/
def State.foldSlew (s : State) : State := { s with ftOff := s.ftOff - s.slewed s.now, slew := none }

/-- The reference is selected again (R428). -/
def State.reselectTime (s : State) : State :=
  match s.timeCands.foldl (fun (b : Option (Nat × TsyncBody)) c => match b with
      | none => some c
      | some x => if timeBefore c x then some c else some x) none with
  | none =>
    let s1 := if s.fb R.GLB_TSYNC_ISROOT then s else s.foldSlew
    ((((s1.setFd R.GLB_TSYNC_ROOT (s.fd R.GLB_MODE_NODE)).setFd R.GLB_TSYNC_DIST 0).setFd R.GLB_TSYNC_PORT 0).setFb
      R.GLB_TSYNC_SYNC true).setFb R.GLB_TSYNC_ISROOT true
  | some (n, b) =>
    let held := s.fb R.GLB_TSYNC_SYNC && !s.fb R.GLB_TSYNC_ISROOT && s.fd R.GLB_TSYNC_PORT = linkPort n
    ((((s.setFd R.GLB_TSYNC_ROOT b.root.toNat).setFd R.GLB_TSYNC_DIST (b.dist.val + 1)).setFd R.GLB_TSYNC_PORT
      (linkPort n)).setFb R.GLB_TSYNC_SYNC held).setFb R.GLB_TSYNC_ISROOT false

/-- A signed number saturated to 32 bits. -/
def sat32 (x : Int) : Nat := (BitVec.ofInt 32 (max (-2147483648) (min x 2147483647))).toNat

/-- Fabric time is corrected by theta (R428, R429): a step, with its Almanac record, or a slew at a free rate of up to 200 ppm.  Within
10 ms of a step, a difference that asks for another is left. -/
def State.correctTime (s : State) (theta : Int) : State :=
  let root := s.fd R.GLB_TSYNC_ROOT
  let done (t : State) : State :=
    ({ t with syncRoot := some root }).setFb R.GLB_TSYNC_SYNC true |>.setFd R.GLB_TSYNC_OFFS (sat32 theta)
  if s.syncRoot ≠ some root ∨ 1000 < theta.natAbs then
    match s.stepPs with
    | some p =>
      if s.now < p + 10 * msPs then s.setFd R.GLB_TSYNC_OFFS (sat32 theta)
      else
        let s1 := s.foldSlew
        done (({ s1 with ftOff := s1.ftOff - theta, stepPs := some s.now }).almSource .glb 1)
    | none =>
      let s1 := s.foldSlew
      done (({ s1 with ftOff := s1.ftOff - theta, stepPs := some s.now }).almSource .glb 1)
  else
    let s1 := s.foldSlew
    done ({ s1 with slew := if theta = 0 then none else some (s.now, theta, 1 + Config.freeChoice s.fv % 200) }).bumpFv

/-- A TSYNC received (R427, R428); `div` of R428 rounds down. -/
def State.tsyncIn (s : State) (n : Nat) (b : TsyncBody) : State :=
  let l := s.link n
  let mine := l.t1s.contains b.t3.toNat
  let t4 := s.timeNs
  let s1 := (s.setLink n { l with lastTsync := some b, lastT4 := s.time.toNat, tsyncSeen := l.tsyncSeen || mine }).reselectTime
  if mine ∧ !s1.fb R.GLB_TSYNC_ISROOT ∧ s1.fd R.GLB_TSYNC_PORT = linkPort n then
    s1.correctTime (((t4 - b.t1.toInt) - (b.t2.toInt - b.t3.toInt)) / 2)
  else s1

/-- A TSYNC sent (R427): T1 is kept with the last eight. -/
def State.tsyncOut (s : State) (n : Nat) : State :=
  let l := s.link n
  let t3 := match l.lastTsync with
    | none => 0
    | some b => b.t1.toNat
  let isRoot := s.fb R.GLB_TSYNC_ISROOT || s.timeCands.isEmpty
  let root := if isRoot then s.fd R.GLB_MODE_NODE else s.fd R.GLB_TSYNC_ROOT
  let pay := bytesBE 8 s.time.toNat ++ bytesBE 8 l.lastT4 ++ bytesBE 8 t3 ++ bytesBE 2 root ++
    bytesBE 1 (if isRoot then 0 else s.fd R.GLB_TSYNC_DIST) ++ bytesBE 1 (if isRoot || s.fb R.GLB_TSYNC_SYNC then 1 else 0)
  let t1s := l.t1s ++ [s.time.toNat]
  (s.setLink n { l with t1s := t1s.drop (t1s.length - 8), tsyncDuePs := s.now + 10 * usPs }).txOut n 7 (l.nextSeq + 4095) 0 239
    (framePay pay 0)

end Sys2Proof.Machine
end

