-- ==== Sys2Proof/Machine/PhyOps.lean ====
section
/-! DEFINITION. Machine/PhyOps.lean: the physical layer of an octet in native mode (09_fabric_link_phy.md): training, half width, lane S,
test patterns. -/

namespace Sys2Proof.Machine

/-! ### Training states (R379–R381) -/

/-- Whether octet `n` runs in NX5400 compatibility. -/
def State.compat (s : State) (n : Nat) : Bool := s.fd (R.PHY_CTL_MODE n) = 3

/-- Whether octet `n` offers x16: it is even, and octet `n + 1` has its mode and no port of its own (DEDUCED from R10, R174). -/
def State.offersX16 (s : State) (n : Nat) : Bool :=
  n % 2 = 0 && s.fd (R.PHY_CTL_MODE n) = s.fd (R.PHY_CTL_MODE (n + 1)) && s.fd (R.PRT_CTX_ROLE (linkPort (n + 1))) = 0 &&
  s.nativeRole (linkPort n)

/-- The octet whose link octet `n` belongs to: the even one of a pair that offers x16 (R363, log entry 110). -/
def State.headOctet (s : State) (n : Nat) : Nat := if n % 2 = 1 && s.offersX16 (n - 1) then n - 1 else n

/-- PHY_STS.WIDTH of a link that is not down, by its transmit direction. -/
def State.widthCode (s : State) (n : Nat) : Nat :=
  (if (s.phy n).x16 then 3 else 2) - (if (s.phy n).txHalf then 1 else 0)

/-- A substitution ends without its switch (R390, R394). -/
def State.subAbandon (s : State) (n : Nat) : State :=
  if !s.fb (R.PHY_SUB_BUSY n) then s
  else
    let s1 := ((s.setFd (R.PHY_SUB_STATE n) 4).setFb (R.PHY_SUB_BUSY n) false).cntDev (32 * n + 29) 1
    s1.setPhy n { s1.phy n with subOwn := false, subOwnDone := false, subPeerDone := false, subLane := 15 }

/-- NX5400 compatibility begins or ends: the port's rate mode changes, and its LEN fields are loaded again (R325). -/
def State.setCompat (s : State) (n : Nat) (on : Bool) : State :=
  if s.fb (R.PHY_STS_COMPAT n) = on then s
  else
    let s1 := s.setFb (R.PHY_STS_COMPAT n) on
    s1.setRg (R.SCH_PRT_LEN (linkPort n)) (s1.lenDefault (linkPort n))

/-- The lane-S role that a side offers in CONFIG (R395): the role in force, else the one firmware wrote; none in NX5400 compatibility. -/
def State.offeredRole (s : State) (n : Nat) : Nat :=
  if s.compat n then 15
  else if s.fd (R.PHY_STS_SROLE n) ≠ 15 then s.fd (R.PHY_STS_SROLE n) else s.fd (R.PHY_SUB_TARGET n)

/-- The training frames of a state begin on every lane that carries data (R379, R382, R383, R385): their control words as the state is
entered. -/
def State.sendTraining (s : State) (n st : Nat) : State :=
  s.emit (.training n ((List.range (if s.compat n then 8 else 9)).map fun l =>
    controlWord l n st false (s.compat n) (s.offersX16 n) (s.fb (R.PHY_CTL_PRECODE n)) (s.offeredRole n) 0 0))

/-- What the receivers of octet `n` found in ALIGN (R364, R375–R377): free values, but for the peaking that PKFIX holds and its limit. -/
def State.adaptLanes (s : State) (n : Nat) : State :=
  (List.range 9).foldl (fun t i =>
    let w := (Config.freeWord t.fv).toNat
    let peak := if t.fb (R.LN_EQ_PKFIX n i) then t.fd (R.LN_EQ_PKSET n i) else natField 8 6 w % 37
    ((t.setRg (R.LN_EQ n i) (BitVec.ofNat 64 (natField 0 8 (t.rg (R.LN_EQ n i)).toNat + peak * 2 ^ 8 + natField 14 1 w * 2 ^ 14 +
      natField 16 8 w * 2 ^ 16 + natField 24 4 w % 9 * 2 ^ 24 + natField 32 11 w * 2 ^ 32 + natField 48 16 w * 2 ^ 48))).bumpFv)) s

/-- The odd octet of a pair that trains as x16 stands in the training state of the even one, at its width, precoding and rate; with a x8
partner it is left out (R363, log entry 110). -/
def State.pairState (s : State) (n st : Nat) : State :=
  if n % 2 = 1 ∨ !s.offersX16 n then s
  else
    let own := (s.rg (R.PHY_STS (n + 1))).toNat
    let w := if st ≤ 4 ∨ (s.phy n).x16 then (s.rg (R.PHY_STS n)).toNat else 0
    s.setRg (R.PHY_STS (n + 1)) (BitVec.ofNat 64 (setNatField 24 1 (setNatField 0 8 own (natField 0 8 w)) (natField 24 1 w)))

/-- A training state is entered; entry to and exit from ACTIVE post a link state change event with the code of the state entered. -/
def State.enterState (s : State) (n st : Nat) : State :=
  let old := s.phyState n
  let s1 := (s.setFd (R.PHY_STS_STATE n) st).setFb (R.PHY_STS_LOCK n) (st = 6)
  let s2 := s1.setPhy n { s1.phy n with sincePs := s.now }
  let s3 := if st = 6 ∨ st = 7 then s2.setFd (R.PHY_STS_WIDTH n) (s2.widthCode n)
    else
      let x := s2.phy n
      ((s2.subAbandon n).setPhy n { x with
        txHalf := x.txHalf && st ≠ 0, rxHalf := x.rxHalf && st ≠ 0, txNext := none, rxNext := none, readapting := false
        subOwn := false, subOwnDone := false, subPeerDone := false, subLane := 15, x16 := x.x16 && decide (4 < st)
        sincePs := s.now }).setFd (R.PHY_STS_WIDTH n) 0
  let s3 := if st = 5 then (s3.setPhy n { s3.phy n with txBlocks := [], txCount := Config.freeChoice s3.fv % 2048 * 2 }).bumpFv
    else if 2 ≤ st ∧ st ≤ 4 then s3.sendTraining n st else s3
  let s4 := (if st = 0 then (s3.setFb (R.PHY_STS_PRECODE n) false).setCompat n false else s3).pairState n st
  if old ≠ st ∧ (old = 6 ∨ st = 6) then s4.linkEvent .oct (linkPort n) st else s4

/-- The link is declared down with a cause; the physical layer passes to a state; a time reference is selected again (R423, R428). -/
def State.declareDown (s : State) (n cause st : Nat) : State := ((s.nativeDown n cause).enterState n st).reselectTime

/-- Native training starts from DISABLED when MODE is native, TRAIN is 1 and the landing reservation is placed (R274, R379). The odd octet
of a pair that offers x16 trains with the even one. -/
def State.startTraining (s : State) (n : Nat) : State :=
  if s.phyState n ≠ 0 ∨ s.fd (R.PHY_CTL_MODE n) < 2 ∨ !s.fb (R.PHY_CTL_TRAIN n) ∨ (n % 2 = 1 ∧ s.offersX16 (n - 1)) then s
  else
    let s1 := s.place (linkPort n)
    if s1.nativeRole (linkPort n) ∧ !s1.isPlaced (linkPort n) then s1
    else (s1.setCompat n (s1.compat n)).enterState n 1

/-- Training stops: the link is declared down and the physical layer held in DISABLED (R423). -/
def State.stopTraining (s : State) (n : Nat) : State :=
  if s.phyState n = 0 ∨ s.headOctet n ≠ n then s
  else if s.linkOctet n then s.declareDown n 4 0 else s.enterState n 0

/-- The tap requests of the partner in TXEQ, in order: each is answered in TSTS, and the taps start from preset 0 (R386, R387). -/
def State.tapRequests (s : State) (n : Nat) (l : List (Fin 8 × Byte)) : State :=
  l.foldl (fun t q =>
    let x := t.phy n
    let r := tapRequest (x.taps.get (0, 0) q.1.val) q.2.toNat
    (t.setPhy n { x with taps := x.taps.set (0, 0) q.1.val r.1 }).emit (.order n "TSTS" (256 * q.1.val + r.2)))
    (s.setPhy n { s.phy n with taps := [] })

/-- Entry to ACTIVE after training: the link layer starts afresh and sends its PARAM where it may (R409); in sag stage 4 the link takes
half width at once (R660). -/
def State.enterActive (s : State) (n : Nat) : State :=
  let s0 := if 4 ≤ s.sagStage ∧ !s.compat n then s.setPhy n { s.phy n with txHalf := true } else s
  let s1 := s0.enterState n 6
  if s1.linkOctet n then (s1.setLink n { Link.reset with tsyncDuePs := s1.now }).trySendParam n else s1

/-- CONFIG ends by its time limit. -/
def State.configTimeout (s : State) (n : Nat) : State := (s.waitUntil ((s.phy n).sincePs + 500 * usPs)).enterState n 1

/-- A training state's exit condition is met (R379, R384, R391–R393). -/
def State.trainAdvance (s : State) (n : Nat) (o : TrainObs) : State :=
  match s.phyState n with
  | 0 => s.startTraining n
  | 1 =>
    let s1 := s.waitUntil ((s.phy n).sincePs + 10 * usPs)
    let s2 :=
      if o.clockOnS ∧ !s.compat n then
        let k := s.fd (R.PHY_STS_SROLE n)
        let t := s1.setFd (R.PHY_STS_SROLE n) 8
        if k < 8 then t.setPhy n { t.phy n with txHalf := true, rxHalf := true } else t
      else s1
    s2.enterState n 2
  | 2 => (s.adaptLanes n).enterState n (if s.compat n then 3 else 4)
  | 3 => (s.tapRequests n o.treqs).enterState n 4
  | 4 =>
    let own := s.offeredRole n
    if o.srole.val ≠ own then (s.configTimeout n).setFb (R.PHY_STS_SRMIS n) true
    else
      let x16 := o.wcap16 && s.offersX16 n
      let s1 := (s.setFd (R.PHY_STS_SROLE n) own).setFb (R.PHY_STS_PRECODE n) (o.pre && s.fb (R.PHY_CTL_PRECODE n))
      let s2 := if x16 then s1.setFd (R.PHY_STS_SROLE (n + 1)) (s1.offeredRole (n + 1)) else s1
      (s2.setPhy n { s2.phy n with x16 := x16 }).enterState n 5
  | 5 => s.enterActive n
  | _ => s

/-- A training state's time limit expires. -/
def State.trainTimeout (s : State) (n : Nat) : State :=
  let since := (s.phy n).sincePs
  match s.phyState n with
  | 2 => (s.waitUntil (since + 2 * msPs)).enterState n 1
  | 3 => (s.waitUntil (since + 20 * msPs)).enterState n 1
  | 4 => s.configTimeout n
  | 5 => (s.waitUntil (since + 100 * usPs)).enterState n 2
  | _ => s

/-- Symbol lock is lost in ACTIVE (R380). -/
def State.lockLoss (s : State) (n : Nat) : State :=
  if s.phyState n ≠ 6 then s
  else ((s.addFd (R.PHY_STS_LOCKLOSS n) 1).cntDev (32 * n + 27) 1).enterState (s.headOctet n) 7

/-- LDTIME in ps, as it stood when RECOVER began (R426). -/
def State.ldtimePs (s : State) (n : Nat) : Nat := s.fdAt (R.LNK_CTL_LDTIME n) (s.phy n).sincePs * 10 * nsPs

/-- Four good groups in RECOVER, within LDTIME (R424). -/
def State.relock (s : State) (n : Nat) : State :=
  if s.phyState n = 7 ∧ s.now ≤ (s.phy n).sincePs + s.ldtimePs n then s.enterState n 6 else s

/-- RECOVER lasts LDTIME (R423). -/
def State.ldtimeDown (s : State) (n : Nat) : State :=
  if s.phyState n ≠ 7 then s
  else
    let s1 := s.waitUntil ((s.phy n).sincePs + s.ldtimePs n)
    if s1.linkOctet n then s1.declareDown n 1 2 else s1.enterState n 2

/-! ### Half width (R396, R397) -/

/-- The low 8 bits of the group counter at which an announced width takes effect: a free one, at least 16 groups ahead. -/
def State.groupAhead (s : State) (n : Nat) : Nat := ((s.phy n).txCount + 16 + Config.freeChoice s.fv % 240) % 256

/-- HALF is announced, with the group at which it takes effect; it takes the place of a FULL that has not taken effect. -/
def State.announceHalf (s : State) (n : Nat) : State :=
  let x := s.phy n
  if s.phyState n ≠ 6 ∨ s.headOctet n ≠ n ∨ s.compat n ∨ (x.txHalf ∧ x.txNext ≠ some false) ∨ x.txNext = some true then
    if x.readapting then s.setPhy n { x with readapting := false } else s
  else
    let s1 := s.subAbandon n
    let g := s.groupAhead n
    ((s1.setPhy n { s1.phy n with txNext := some true, txAt := g }).emit (.order n "HALF" g)).bumpFv

/-- Return to full width begins with the re-adaptation of the lanes left out. -/
def State.beginFull (s : State) (n : Nat) : State :=
  let x := s.phy n
  if s.phyState n ≠ 6 ∨ s.headOctet n ≠ n ∨ s.compat n ∨ s.fb (R.PHY_CTL_HALF n) ∨ 4 ≤ s.sagStage ∨ !(x.txHalf || x.txNext = some true) then s
  else s.setPhy n { x with readapting := true }

/-- Every lane has re-adapted: FULL is announced. -/
def State.announceFull (s : State) (n : Nat) : State :=
  let x := s.phy n
  if !x.readapting ∨ !x.txHalf then s
  else
    let g := s.groupAhead n
    ((s.setPhy n { x with readapting := false, txNext := some false, txAt := g }).emit (.order n "FULL" g)).bumpFv

/-- The announced group arrives in a direction. -/
def State.changeWidth (s : State) (n : Nat) (tx : Bool) : State :=
  let x := s.phy n
  if s.phyState n ≠ 6 then s
  else if tx then
    match x.txNext with
    | none => s
    | some b => let s1 := s.setPhy n { x with txHalf := b, txNext := none }
                (s1.setFd (R.PHY_STS_WIDTH n) (s1.widthCode n)).pairState n 6
  else
    match x.rxNext with
    | none => s
    | some b => s.setPhy n { x with rxHalf := b, rxNext := none }

/-- An order of the partner's transmitter: HALF (`half`) or FULL. -/
def State.widthOrder (s : State) (n : Nat) (half : Bool) : State :=
  if s.phyState n ≠ 6 ∨ s.headOctet n ≠ n ∨ s.compat n then s
  else
    let s1 := if half then s.subAbandon n else s
    s1.setPhy n { s1.phy n with rxNext := some half }

/-! ### Lane S (R388–R394) -/

/-- GO in OCT[n]_PHY_SUB (R388): TARGET is written; GO while a substitution runs does nothing. -/
def State.subGo (s : State) (n t : Nat) : State :=
  if s.fb (R.PHY_SUB_BUSY n) then s
  else
    let s1 := s.setFd (R.PHY_SUB_TARGET n) t
    let x := s.phy n
    let w := s.phy (s.headOctet n)
    if s.phyState n = 6 ∧ !s.compat n ∧ !w.txHalf ∧ !w.rxHalf ∧ s.fd (R.PHY_STS_SROLE n) = 15 ∧ t ≤ 8 then
      let s2 := (s1.setFd (R.PHY_SUB_STATE n) 1).setFb (R.PHY_SUB_BUSY n) true
      (s2.setPhy n { x with subOwn := true, subOwnDone := false, subPeerDone := false, subLane := t, subStartPs := s.now }).emit
        (.order n "DUP" t)
    else s1.setFd (R.PHY_SUB_STATE n) 4

/-- The partner's substitution is followed (R389): lane S is powered, the lane duplicated, DUP answered, and adaptation begins. -/
def State.subFollow (s : State) (n lane : Nat) : State :=
  let s1 := s.setFb (R.PHY_SUB_BUSY n) true
  (s1.setPhy n { s1.phy n with subOwn := false, subOwnDone := false, subPeerDone := false, subLane := lane, subStartPs := s.now }).emit
    (.order n "DUP" lane)

/-- A DUP order (R389, R394). -/
def State.dupOrder (s : State) (n lane : Nat) : State :=
  let x := s.phy n
  if s.phyState n ≠ 6 ∨ s.compat n ∨ 8 < lane then s
  else if s.fb (R.PHY_SUB_BUSY n) then
    if !x.subOwn ∨ s.fd (R.PHY_SUB_STATE n) ≠ 1 then s
    else if x.subLane = lane then (s.setFd (R.PHY_SUB_STATE n) 2).setPhy n { x with subStartPs := s.now }
    else if s.fd R.GLB_MODE_NODE < s.fd (R.PHY_STS_PNODE n) then s
    else ((s.setFd (R.PHY_SUB_STATE n) 4).cntDev (32 * n + 29) 1).subFollow n lane
  else if s.fd (R.PHY_STS_SROLE n) ≠ 15 ∨ (s.phy (s.headOctet n)).txHalf ∨ (s.phy (s.headOctet n)).rxHalf then s
  else (s.setFd (R.PHY_SUB_STATE n) 2).subFollow n lane

/-- Both directions are switched: the substitution is complete. The lane replaced (8 the clock) has its wear alarm re-armed (R706). -/
def State.subDone (s : State) (n : Nat) : State :=
  let x := s.phy n
  if x.subOwnDone ∧ x.subPeerDone then
    let s0 := if x.subLane = 8 then s.wearRearm 2 n else s.wearRearm 1 (9 * n + x.subLane)
    let s1 := ((s0.setFd (R.PHY_STS_SROLE n) x.subLane).setFd (R.PHY_SUB_STATE n) 3).setFb (R.PHY_SUB_BUSY n) false
    ((s1.setPhy n { x with subOwn := false, subOwnDone := false, subPeerDone := false, subLane := 15 }).cntPort (linkPort n) 71 1).cntDev
      (32 * n + 28) 1
  else s

/-- Whether the own receiver is adapting lane S. -/
def State.subAdapting (s : State) (n : Nat) : Bool :=
  s.phyState n = 6 && s.fb (R.PHY_SUB_BUSY n) && s.fd (R.PHY_SUB_STATE n) ≠ 1 && !(s.phy n).subOwnDone

/-- The receiver has converged on lane S and switched to it. -/
def State.subConverged (s : State) (n : Nat) : State :=
  if !s.subAdapting n then s
  else ((s.setPhy n { s.phy n with subOwnDone := true }).emit (.order n "SWITCHED" (s.phy n).subLane)).subDone n

/-- The partner has switched. -/
def State.switchedOrder (s : State) (n lane : Nat) : State :=
  if s.phyState n ≠ 6 ∨ !s.fb (R.PHY_SUB_BUSY n) ∨ (s.phy n).subLane ≠ lane then s
  else (s.setPhy n { s.phy n with subPeerDone := true }).subDone n

/-- The receiver has not converged within 1.5 ms. -/
def State.subTimeout (s : State) (n : Nat) : State :=
  if !s.subAdapting n then s
  else ((s.waitUntil ((s.phy n).subStartPs + 1500 * usPs)).emit (.order n "ABANDON" (s.phy n).subLane)).subAbandon n

/-- The partner abandons. -/
def State.abandonOrder (s : State) (n lane : Nat) : State :=
  if s.phyState n = 6 ∧ (s.phy n).subLane = lane then s.subAbandon n else s

/-! ### Registers (R402) -/

/-- Whether any port of octet `n` trains or is up; the ports of an odd octet include the x16 port or link of its pair (R10). -/
def State.octetBusy (s : State) (n : Nat) : Bool :=
  let live (p : Nat) : Bool := s.trains p || s.fb (R.PRT_LSTS_UP p)
  (s.phyState n ≠ 0 || (List.range 4).any fun i => live (4 * n + i)) ||
  (n % 2 = 1 &&
    ((s.pciX16 (4 * (n - 1)) && live (4 * (n - 1))) ||
     (s.phyState (n - 1) ≠ 0 && (s.offersX16 (n - 1) || (s.phy (n - 1)).x16))))

/-- A write of OCT[n]_PHY_CTL: its MODE field is discarded while a port of the octet trains or is up. -/
def State.phyCtlWrite (s : State) (n : Nat) (v : Word) : State :=
  let train := s.fb (R.PHY_CTL_TRAIN n)
  let half := s.fb (R.PHY_CTL_HALF n)
  let s1 := if s.octetBusy n then s else s.setFd (R.PHY_CTL_MODE n) (wField 0 2 v)
  let s2 := ((s1.setFd (R.PHY_CTL_PRECODE n) (wField 2 1 v)).setFd (R.PHY_CTL_TRAIN n) (wField 3 1 v)).setFd (R.PHY_CTL_HALF n) (wField 4 1 v)
  let s3 := if wField 3 1 v = 0 then (if train then s2.stopTraining n else s2) else s2.startTraining n
  let s4 := if wField 4 1 v = 1 ∧ !half then s3.announceHalf n else if wField 4 1 v = 0 ∧ half then s3.beginFull n else s3
  (List.range 4).foldl (fun t i => t.train (4 * n + i)) s4

/-- A write of OCT[n]_PHY_SUB. -/
def State.phySubWrite (s : State) (n : Nat) (v : Word) : State :=
  if wField 4 1 v = 1 then s.subGo n (wField 0 4 v) else s.setFd (R.PHY_SUB_TARGET n) (wField 0 4 v)

/-- A write of OCT[n]_LN[i]_TST (R399–R401): a written CHK clears ERRS and starts the checker again; LOOP changes only while the link is
not ACTIVE; INJGO injects one error of the kind of INJ. -/
def State.lnTstWrite (s : State) (n i : Nat) (v : Word) : State :=
  let s1 := ((((s.setFd (R.LN_TST_GEN n i) (wField 0 3 v)).setFd (R.LN_TST_CHK n i) (wField 4 3 v)).setFd (R.LN_TST_ERRS n i) 0).setFb
    (R.LN_TST_LOCKED n i) false).setFd (R.LN_TST_INJ n i) (wField 8 2 v)
  let s2 := s1.setFd (R.LN_TST_BLEN n i) (wField 12 4 v)
  let s3 := if s.phyState n = 6 then s2 else s2.setFd (R.LN_TST_LOOP n i) (wField 16 2 v)
  if wField 10 1 v = 1 ∧ wField 8 2 v ≠ 0 then s3.emit (.mgmt "inject" (16 * n + i) (wField 8 2 v)) else s3

end Sys2Proof.Machine
end

