-- ==== Sys2Proof/Machine/Sched.lean ====
section
/-! DEFINITION. Machine/Sched.lean: the egress scheduler (08_egress_scheduling.md, R298–R300): eligibility, selection by virtual time,
the calendar, and the start of a packet. -/

namespace Sys2Proof.Machine

/-! ### Rates (R299, R327, R372), in bytes per so many ps -/

/-- R(p), the rate at which a port sends charged bytes: bytes, per so many ps. -/
def State.chargeRate (s : State) (p : Nat) : Nat × Nat :=
  if s.nativeRole p then
    ((if (s.phy (octetOf p)).x16 then 2 else 1), if s.fb (R.PHY_STS_COMPAT (octetOf p)) then 10 else 5)
  else
    let gt10 := [25, 50, 80, 160, 320, 640, 1280].getD (s.fd (R.PRT_LSTS_RATE p)) 0
    let n := gt10 * s.fd (R.PRT_LSTS_WIDTH p)
    if s.fb (R.PRT_LSTS_FLIT p) then (n, 80000)
    else if s.fd (R.PRT_LSTS_RATE p) ≤ 1 then (n * 8, 800000) else (n * 128, 80000 * 130)

/-- The payload rate of a native link in a direction (R372): bytes per 20 ps. -/
def State.payloadRate (s : State) (n : Nat) (half : Bool) : Nat :=
  (if (s.phy n).x16 then 8 else 4) / (if s.fb (R.PHY_STS_COMPAT n) then 2 else 1) / (if half then 2 else 1)

/-- The rate at which a packet is received (R299): bytes, per so many ps. -/
def State.ingressRate (s : State) (k : Pkt) : Nat × Nat :=
  if k.native then (s.payloadRate (octetOf k.inPort) (s.phy (octetOf k.inPort)).rxHalf, 20) else s.chargeRate k.inPort

/-- Whether a packet stored in part may begin on a native link (R299); its storage comes in cells of 240 bytes for a native arrival and of
256 bytes for any other. -/
def State.cutReady (s : State) (p : Nat) (k : Pkt) : Bool :=
  if k.complete then true
  else
    let r := s.ingressRate k
    let rin := r.1 * 20
    let rout := s.payloadRate (octetOf p) (s.phy (octetOf p)).txHalf * r.2
    let cell := if k.native then 240 else 256
    let need := if rin < rout then k.len - k.len * rin / rout else 1
    decide ((need + cell - 1) / cell * cell ≤ k.rcvd)

/-! ### Credits, tags, start condition (R298, R333, R413, R443, R511) -/

/-- The credits a PCIe/CXL partner has granted for an ordering type: headers and data. -/
def Credits.of (c : Credits) (ord : Nat) : Nat × Nat :=
  match ord with
  | 0 => (c.pHdr, c.pData)
  | 1 => (c.npHdr, c.npData)
  | _ => (c.cplHdr, c.cplData)

/-- Credits given (`give`) or taken. -/
def Credits.move (c : Credits) (ord hdr data : Nat) (give : Bool) : Credits :=
  let f (x y : Nat) : Nat := if give then x + y else x - y
  match ord with
  | 0 => { c with pHdr := f c.pHdr hdr, pData := f c.pData data }
  | 1 => { c with npHdr := f c.npHdr hdr, npData := f c.npData data }
  | _ => { c with cplHdr := f c.cplHdr hdr, cplData := f c.cplData data }

/-- The data credits of a packet: one for each 16 bytes. -/
def Pkt.dataCredits (k : Pkt) : Nat := (k.data.length + 15) / 16

/-- Whether the link partner has credits for a packet. -/
def State.creditFor (s : State) (p : Nat) (k : Pkt) : Bool :=
  if s.nativeRole p then
    let f := k.flitForm.frames
    let i := if k.cls = 15 then 4 else k.vc
    (k.cls = 15 || decide (k.vc < 4)) && decide (f ≤ (s.link (octetOf p)).credit i) && s.frameRoom (octetOf p) f
  else
    let c := (s.port p).credits.of k.ord
    decide (1 ≤ c.1) && decide (k.dataCredits ≤ c.2)

/-- Whether a request delivered to a PCIe/CXL port finds a ledger tag (R182, R511). -/
def State.tagFor (s : State) (p : Nat) (k : Pkt) : Bool :=
  if s.nativeRole p || !kindNp k.tkind || k.entry.isNone || k.ide then true
  else (s.allocTag p (s.port p).tagBits k.cxl.isSome).isSome

/-- Whether a source edge's packet lies within 1,024 numbers of the oldest not covered (R443). -/
def State.inWindow (s : State) (k : Pkt) : Bool :=
  match k.sctx with
  | none => true
  | some c => match s.sctx? c with
    | none => true
    | some x => decide (seqDist x.base k.eseq < 1024)

/-- The shaper of a queue context, if it restricts it (R347). -/
def State.shaperOf (s : State) (q : Nat) : Option Nat :=
  let i := s.fd (R.SCH_Q_SHP_SHP q)
  if s.fb (R.SCH_Q_SHP_SHPV q) ∧ natField 24 1 (s.sch.shpCfg.get 0 i).toNat = 1 then some i else none

/-- The CK_CORE cycle of the present time. -/
def State.coreCycle (s : State) : Nat := s.now / 500

/-- Whether a shaper lets port `p` start a packet: its tokens are positive, or were as this cycle began and the port has not started one in
it (R347, R348). -/
def State.shaperLets (s : State) (i p : Nat) : Bool :=
  let c := s.sch.shpCycle.get (0, 0, []) i
  decide (0 < s.sch.tokens.get 0 i) || (c.1 = s.coreCycle + 1 && decide (0 < c.2.1) && !c.2.2.contains p)

/-- A shaper is charged for a packet that port `p` starts. -/
def State.shaperCharge (s : State) (i p len : Nat) : State :=
  let c := s.sch.shpCycle.get (0, 0, []) i
  let t := s.sch.tokens.get 0 i
  let c1 : Nat × Int × List Nat := if c.1 = s.coreCycle + 1 then (c.1, c.2.1, p :: c.2.2) else (s.coreCycle + 1, t, [p])
  { s with sch := { s.sch with tokens := s.sch.tokens.set 0 i (t - len * 256), shpCycle := s.sch.shpCycle.set (0, 0, []) i c1 } }

def State.shaperOk (s : State) (q : Nat) : Bool :=
  match s.shaperOf q with
  | none => true
  | some i => s.shaperLets i (s.qPort q)

/-! ### The calendar (R336–R342) -/

/-- The calendar word in force at a port, and its windows: index 255 holds their number. -/
def State.calWord (s : State) (p : Nat) : Word := s.sch.calNow.get 0 p
def State.slotWord (s : State) (p j : Nat) : Word := s.sch.slotNow.get 0 (p * 256 + j)

/-- Whether a tenant holds a window at a port. -/
def State.holdsWindow (s : State) (p t : Nat) : Bool :=
  (List.range (s.slotWord p 255).toNat).any fun j => wField 15 1 (s.slotWord p j) = 1 && wField 0 13 (s.slotWord p j) = t

/-- Whether a port's calendar is in force and tenant `t` holds a window of it. -/
def State.windowed (s : State) (p t : Nat) : Bool := wField 0 1 (s.calWord p) = 1 && s.holdsWindow p t

/-- Whether a packet of `len` stored bytes that belongs to no queue context may start now under the calendar: in the open interval only,
if it ends before the next window 0 (R337, R338). -/
def State.calendarIdle (s : State) (p len : Nat) : Bool :=
  let w := s.calWord p
  if wField 0 1 w = 0 then true
  else
    let period := wField 32 32 w
    let u := s.time.toNat % period
    let r := s.chargeRate p
    decide ((s.slotWord p 255).toNat * (wField 8 12 w * 10) ≤ u) && decide (u * 1000 * r.1 + s.charged p len * r.2 ≤ period * 1000 * r.1)

/-- Whether a packet of a queue context may start now under the calendar. -/
def State.calendarOk (s : State) (p q : Nat) (k : Pkt) : Bool :=
  let w := s.calWord p
  if wField 0 1 w = 0 then true
  else
    let period := wField 32 32 w
    let width := wField 8 12 w * 10
    let n := (s.slotWord p 255).toNat
    let u := s.time.toNat % period
    let j := u / width
    let t := s.fd (R.SCH_Q_CFG_TENANT q)
    let r := s.chargeRate p
    let endsBy (x : Nat) : Bool := decide (u * 1000 * r.1 + s.charged p k.len * r.2 ≤ x * 1000 * r.1)
    if j < n then wField 15 1 (s.slotWord p j) = 1 && wField 0 13 (s.slotWord p j) = t && endsBy ((j + 1) * width)
    else !s.holdsWindow p t && endsBy period

/-! ### Eligibility (R333, R455) -/

/-- Whether a queued packet could begin but for the ordering rules. -/
def State.startable (s : State) (p : Nat) (k : Pkt) : Bool :=
  s.portUp p && s.creditFor p k && (if s.nativeRole p then s.cutReady p k else k.complete) && s.inWindow k && s.tagFor p k &&
  s.shaperOk k.qctx && s.calendarOk p k.qctx k

/-- Whether two packets belong to one ordering set (R333): one session, known by its send context at its source edge and elsewhere by its
number and class. -/
def sameSet (a b : Pkt) : Bool :=
  if a.ses ≠ 0 ∨ b.ses ≠ 0 then
    (match a.sctx, b.sctx with
     | some x, some y => decide (x = y)
     | _, _ => a.ses = b.ses && a.sesClass = b.sesClass)
  else a.cls = b.cls && (match a.origin, b.origin with
    | .port p, .port q => decide (p = q)
    | .native p, .native q => decide (p = q)
    | .dma p, .dma q => decide (p = q)
    | .core p, .core q => decide (p = q)
    | .proxy p, .proxy q => decide (p = q)
    | _, _ => false)

/-- Whether B may go before an earlier A of its set (R455); `blocked` tells that A cannot begin now. -/
def mayPass (b a : Pkt) (blocked : Bool) : Bool :=
  let id (k : Pkt) : Nat := k.hf 2 16 16
  let rlx := b.cxl.isNone && (b.relaxed || (b.ido && decide (id a ≠ id b)))
  match b.ord, a.ord with
  | 0, 0 => rlx
  | 0, 1 => blocked
  | 1, 0 => rlx
  | 2, 0 => rlx
  | 2, 1 => blocked
  | 2, 2 => !(a.reqId = b.reqId && a.rspTag = b.rspTag)
  | _, _ => true

/-- Packets queued at a port, in order of their queueing. -/
def State.queuedAt (s : State) (p : Nat) : List Pkt :=
  s.pkts.filter fun k => match k.loc with
    | .queue q => s.qPort q = p
    | _ => false

/-- Whether the ordering rules let a packet go before every older one of its set queued at the port. -/
def State.orderOk (s : State) (p : Nat) (k : Pkt) : Bool :=
  ((s.queuedAt p).takeWhile fun a => a.id ≠ k.id).all fun a => !sameSet a k || mayPass k a (!s.startable p a)

/-- Whether a queue head is eligible. -/
def State.headEligible (s : State) (p : Nat) (k : Pkt) : Bool := s.startable p k && s.orderOk p k

/-- The heads of the queue contexts of a port. -/
def State.heads (s : State) (p : Nat) : List (Nat × Pkt) :=
  let l := (s.queuedAt p).map fun k => (k.qctx, k)
  ((l.map fun x => x.1).dedup).filterMap fun q => l.find? fun x => x.1 = q

/-! ### Virtual time (R329–R331) -/

/-- Keys of the nodes: level `l` and class `c` of a port, tenant node, queue context. A tenant that holds a window has level and class
nodes of its own, so that its starts depend on no other tenant's (R342; log entry 96). -/
def levelKey (own : Option Nat) (p l : Nat) : Nat := match own with
  | none => p * 16 + l
  | some t => 2 ^ 30 + (p * 8192 + t) * 16 + l
def classKey (own : Option Nat) (p c : Nat) : Nat := match own with
  | none => p * 16 + 8 + c
  | some t => 2 ^ 30 + (p * 8192 + t) * 16 + 8 + c
def tenantKey (p c t : Nat) : Nat := 4096 + (p * 8 + c) * 8192 + t
def queueKey (q : Nat) : Nat := 2 ^ 24 + q

/-- How far a tag lies ahead of its parent's virtual time, modulo 2^48. -/
def State.tagAheadOf (s : State) (parent child : Nat) : Nat :=
  (s.sch.tag.get 0 child + 2 ^ 48 - s.sch.vtime.get 0 parent % 2 ^ 48) % 2 ^ 48

/-- A child becomes active under its parent, whose key (plus 1) is recorded of it: one that has moved to another parent wakes there. -/
def State.wakeNode (s : State) (parent child : Nat) : State :=
  if s.sch.active.get 0 child = parent + 1 then s
  else
    let d := s.tagAheadOf parent child
    let tag := if 0 < d ∧ d < 2 ^ 46 then s.sch.tag else s.sch.tag.set 0 child (s.sch.vtime.get 0 parent)
    { s with sch := { s.sch with tag := tag, active := s.sch.active.set 0 child (parent + 1) } }

/-- The level of a class at a port. -/
def State.classLevel (s : State) (p c : Nat) : Nat := s.fd (R.SCH_PRT_LVL_LEVEL p c)

/-- The class and tenant node of a queue context. -/
def State.qClass (s : State) (q : Nat) : Nat := s.fd (R.SCH_Q_CFG_CLASS q)
def State.qTenant (s : State) (q : Nat) : Nat := s.fd (R.SCH_Q_CFG_TENANT q)

/-- The tenant whose own level and class nodes serve a queue context of port `p`. -/
def State.nodeOwner (s : State) (p q : Nat) : Option Nat := if s.windowed p (s.qTenant q) then some (s.qTenant q) else none

/-- Whether a node key belongs to port `p`. -/
def State.keyOf (s : State) (p key : Nat) : Bool :=
  if 2 ^ 30 ≤ key then (key - 2 ^ 30) / 131072 = p
  else if 2 ^ 24 ≤ key then s.qPort (key - 2 ^ 24) = p
  else if 4096 ≤ key then (key - 4096) / 65536 = p
  else key / 16 = p

/-- The nodes of a port made active or inactive as its eligible queues say, from the queues up. -/
def State.refresh (s : State) (p : Nat) (qs : List Nat) : State :=
  let tn (q : Nat) : Nat := tenantKey p (s.qClass q) (s.qTenant q)
  let cl (q : Nat) : Nat := classKey (s.nodeOwner p q) p (s.qClass q)
  let on : List Nat := (qs.map fun q => [queueKey q, tn q, cl q]).flatten
  let s1 := { s with sch := { s.sch with active := s.sch.active.filter fun e => !s.keyOf p e.1 || on.contains e.1 } }
  let s2 := qs.foldl (fun t q => t.wakeNode (tn q) (queueKey q)) s1
  let s3 := qs.foldl (fun t q => t.wakeNode (cl q) (tn q)) s2
  qs.foldl (fun t q => t.wakeNode (levelKey (s.nodeOwner p q) p (s.classLevel p (s.qClass q))) (cl q)) s3

/-- The child of least tag, ties to the lowest child number; children come with their numbers. -/
def State.leastTag (s : State) (parent : Nat) (key : Nat → Nat) (cs : List Nat) : Option Nat :=
  cs.foldl (fun b c => match b with
    | none => some c
    | some x =>
      let dx := s.tagAheadOf parent (key x)
      let dc := s.tagAheadOf parent (key c)
      if dc < dx ∨ (dc = dx ∧ c < x) then some c else some x) none

/-- A charge (R329). -/
def State.chargeNode (s : State) (parent child len weight : Nat) : State :=
  let t := s.sch.tag.get 0 child
  { s with sch := { s.sch with
    vtime := s.sch.vtime.set 0 parent t
    tag := s.sch.tag.set 0 child ((t + len * 65536 / max weight 1) % 2 ^ 48) } }

/-- Weights (R319, R320, R325). -/
def State.classWeight (s : State) (p c : Nat) : Nat :=
  if c < 4 then s.fd (R.SCH_PRT_CW0_WEIGHT p c) else s.fd (R.SCH_PRT_CW1_WEIGHT p (c - 4))
def State.tenantWeight (s : State) (t : Nat) : Nat :=
  if s.strict t || s.fbShare t then 1 else s.fd (R.TNT_WGT_SCHW t (s.tntVer t))

/-- Selection among eligible queues (R330): class, tenant, queue. -/
def State.choose (s : State) (p : Nat) (qs : List Nat) : Option Nat :=
  let top := (qs.map fun q => s.classLevel p (s.qClass q)).foldl max 0
  let atTop := qs.filter fun q => s.classLevel p (s.qClass q) = top
  let own := atTop.head?.bind fun q => s.nodeOwner p q
  match s.leastTag (levelKey own p top) (classKey own p) ((atTop.map fun q => s.qClass q).dedup) with
  | none => none
  | some c =>
    let inC := atTop.filter fun q => s.qClass q = c
    match s.leastTag (classKey own p c) (tenantKey p c) ((inC.map fun q => s.qTenant q).dedup) with
    | none => none
    | some t => s.leastTag (tenantKey p c t) queueKey (inC.filter fun q => s.qTenant q = t)

/-- The charges of a packet of queue `q` at its three nodes. -/
def State.chargeQueue (s : State) (p q len : Nat) : State :=
  let c := s.qClass q
  let t := s.qTenant q
  let own := s.nodeOwner p q
  ((s.chargeNode (tenantKey p c t) (queueKey q) len (s.fd (R.SCH_Q_CFG_WEIGHT q))).chargeNode (classKey own p c) (tenantKey p c t) len
    (s.tenantWeight t)).chargeNode (levelKey own p (s.classLevel p c)) (classKey own p c) len (s.classWeight p c)

/-! ### The start of a packet -/

/-- Which of the counters 72–79 a wait of so many ps falls in. -/
def waitBin (ps : Nat) : Nat :=
  let ns := ps / 1000
  if ns < 50 then 0 else if ns < 100 then 1 else if ns < 200 then 2 else if ns < 500 then 3 else if ns < 1000 then 4
  else if ns < 10000 then 5 else if ns < 100000 then 6 else 7

/-- Counters of a packet that starts (R677). -/
def State.countSent (s : State) (p : Nat) (k : Pkt) : State :=
  let i := if k.cls = 15 then 3 else k.ord
  let s1 := (s.cntPort p (8 + i) 1).cntPort p (12 + i) k.len
  if k.cls = 15 then s1
  else
    let s2 := ((s1.cntPort p (16 + k.cls % 8) 1).cntPort p (24 + k.cls % 8) k.len).cntPort p (72 + waitBin (s.now - k.enqPs)) 1
    s2.cntPort p (if k.complete then 81 else 80) 1

/-- The egress mirror of a port (R306). -/
def State.egressMirror (s : State) (p : Nat) (k : Pkt) : State :=
  if s.fb (R.MIR_PSRC_EEN p) then s.mirrorCopy (s.fd (R.MIR_PSRC_ESES p)) k p 0 true false else s

/-- A packet as it begins at a port. -/
def State.beginPkt (s : State) (p : Nat) (k : Pkt) : Pkt :=
  { k with
    loc := .held, txPort := some p, txSent := 0, txDone := false
    sentPs := s.now, copies := if k.sctx.isSome then k.copies + 1 else k.copies
    trace := k.trace.map fun t => { t with selPs := some s.now, txPs := some s.now, outPort := some p } }

/-- A packet begins on a native link: its frames go out as far as its bytes are there. -/
def State.startNative (s : State) (p : Nat) (k : Pkt) : State :=
  ((s.setPkt (s.beginPkt p k)).setLink (octetOf p) { s.link (octetOf p) with txPkt := some k.id }).pump (octetOf p) k.id

/-- The ledger tag of a request at its PCIe/CXL port (R182, R511, R515). -/
def State.tagRequest (s : State) (p : Nat) (k : Pkt) : State × Pkt :=
  match k.entry with
  | none => (s, k)
  | some i =>
    if !kindNp k.tkind then (s, k)
    else if k.ide then (s.updEntry i fun e => { e with tagPort := some p }, k)
    else match s.allocTag p (s.port p).tagBits k.cxl.isSome with
      | none => (s, k)
      | some (idx, gen, tag) =>
        (s.bumpFv.updEntry i fun e => { e with tagPort := some p, tagIdx := idx, gen := gen, xtag := tag },
          match k.cxl with
          | some c => { k with cxl := some { c with tag := BitVec.ofNat 16 tag } }
          | none => k.setReq k.reqId tag)

/-- The requester ID a request carries at its port (R181, R182). -/
def State.egressRid (s : State) (p : Nat) (k : Pkt) : Pkt :=
  if kindCpl k.tkind || k.cxl.isSome || k.ide then k
  else
    let own := s.fd (R.PRT_CTX_OWNRID p)
    let rid := if s.fd (R.PRT_CTX_ROLE p) = 1 then
        (let t := s.fd (R.PRT_CTX_TENANT p)
         (s.hostLocal t (s.tntVer t) k.sfid).getD own)
      else own
    k.setHf 2 16 16 rid

/-- The TLPs of a packet leave a PCIe/CXL port: in the port's header form, a completion split at Max_Payload_Size (R208, R232, R487). -/
def State.emitTlp (s : State) (p : Nat) (k : Pkt) : State :=
  let flit := s.fb (R.PRT_LSTS_FLIT p)
  let form (x : Pkt) : Pkt := (if flit then x.flitForm else x.plainForm).addrForm
  let words (x : Pkt) : List Word := (x.win.drop 2).take ((x.hdrLen + 7) / 8)
  if k.ide then s.emit (.packet p (words k) k.data)
  else
    let w := form k
    if w.tkind = 0x09 ∧ s.mpsOf p < w.data.length then
      let la := w.lowerAddr
      let pieces := splitBytes (s.mpsOf p) w.data.length la w.data.length
      (pieces.foldl (fun (acc : State × Nat) pc =>
        let x := ((w.setHf 2 0 12 (w.cplBytes - acc.2)).setHf 2 32 10 ((pc.2 + 3) / 4)).setHf 3 (if flit then 0 else 32) 7 pc.1
        (acc.1.emit (.packet p (words x) ((w.data.drop acc.2).take pc.2)), acc.2 + pc.2)) (s, 0)).1
    else s.emit (.packet p (words w) w.data)

/-- A packet begins at a PCIe/CXL port and is handed over whole; it is kept until the partner acknowledges it (R18, R281), and a tracked
write's pages are logged (R579). -/
def State.startPcie (s : State) (p : Nat) (k : Pkt) : State :=
  let (s1, k1) := s.tagRequest p k
  let k2 := s1.egressRid p k1
  let x := s1.port p
  let s2 := s1.setPort p { x with credits := x.credits.move k.ord 1 k.dataCredits false, awaitAck := x.awaitAck ++ [k.id] }
  let b := s.beginPkt p k2
  let s3 := s2.setPkt { b with
    txDone := true, pool := if k.rctx.isSome then k.pool else .none, cells := if k.rctx.isSome then k.cells else 0 }
  (s3.emitTlp p k2).dlSent p k2

/-- A queue's head starts: its shaper is charged, its counters and mirror act, and it goes out. -/
def State.startPkt (s : State) (p q : Nat) (k : Pkt) : State :=
  let len := s.charged p k.len
  let s1 := match s.shaperOf q with
    | none => s
    | some i => s.shaperCharge i p len
  let s2 := ((s1.chargeQueue p q len).countSent p k).egressMirror p k
  let s3 := s2.markSent k
  (if s.nativeRole p then s3.startNative p k else s3.startPcie p k).drainCheck

/-- A class C packet starts. -/
def State.startClassC (s : State) (p : Nat) (k : Pkt) : State := ((s.countSent p k).egressMirror p k).startNative p k

/-- A mirror copy starts when the port has nothing else to send (R310); a tenant's NOMIRROR discards it. -/
def State.startMirror (s : State) (p : Nat) (k : Pkt) : State :=
  let ses := match k.origin with | .mirror x => x | _ => 0
  let t := k.m1.toNat
  if s.fb (R.TNT_CFG_NOMIRROR t (s.tntVer t)) then (s.dropPkt k.id).addFd (R.MIR_SES_SKIP_NOMIR ses) 1
  else (s.countSent p k).startNative p k

/-! ### Selection (R330) -/

/-- Whether a port may take a next packet: it is up and the packet before has handed over its last frame. -/
def State.portFree (s : State) (p : Nat) : Bool :=
  s.portUp p && (!s.nativeRole p || (s.link (octetOf p)).txPkt.isNone)

/-- The class C head of a port, when eligible (R358); a message of this node that found no cells draws one now (R276). -/
def State.classCHead (s : State) (p : Nat) : Option (State × Pkt) :=
  match (s.at (.classC p)).head? with
  | none => none
  | some k =>
    if !(s.creditFor p k && s.cutReady p k) then none
    else if k.cells ≠ 0 then some (s, k)
    else (s.drawC p k.id 1).map fun r => (r.1, { k with cells := 1, pool := r.2 })

/-- The mirror copy at the head of a port's copies, when it could start: whole, and in no window of a calendar (R308, R337–R339). -/
def State.mirrorHead (s : State) (p : Nat) : Option Pkt :=
  match (s.at (.mirror p)).head? with
  | none => none
  | some k => if s.nativeRole p && k.complete && s.creditFor p k && s.calendarIdle p k.len then some k else none

/-- A port selects, charges and starts its next packet; a packet found too old as it is to begin is discarded and the port selects
again (R294). -/
def State.select (s : State) (p : Nat) : Nat → State
  | 0 => s
  | n + 1 =>
    if !s.portFree p then s
    else match s.classCHead p with
      | some (s1, k) => s1.startClassC p k
      | none =>
        let hs := (s.heads p).filter fun h => s.headEligible p h.2
        let s1 := s.refresh p (hs.map fun h => h.1)
        match s1.choose p (hs.map fun h => h.1) with
        | none => match s1.mirrorHead p with
          | none => s1
          | some k => s1.startMirror p k
        | some q => match hs.find? fun h => h.1 = q with
          | none => s1
          | some h => if s1.aged h.2 then (s1.ageOut h.2 p).select p n else s1.startPkt p q h.2

/-- Receptions of bad TLPs whose packets wait at a port and cannot begin as they are end first: the egress waits for their ends. -/
def State.endCuts (s : State) (p : Nat) : State :=
  ((s.queuedAt p).filter fun k => !k.complete && !k.native && !(s.nativeRole p && s.cutReady p k)).foldl (fun t k => t.endCut k.inPort) s

/-- SCHEDULER_SELECT at a port. -/
def State.schedule (s : State) (p : Nat) : State := (s.endCuts p).select p (s.pkts.length + 1)

/-! ### Status (R320) -/

/-- SCH_Q[q]_STS as read: cells, packets, ACTIVE, BLOCKED and BCAUSE. -/
def State.qStatus (s : State) (q : Nat) : Word :=
  let ks := s.at (.queue q)
  let p := s.qPort q
  let cells := (ks.map fun k => k.cells).sum
  match ks.head? with
  | none => 0
  | some k =>
    let act := s.headEligible p k
    let cause :=
      if !(s.portUp p && s.creditFor p k && (if s.nativeRole p then s.cutReady p k else k.complete) && s.inWindow k && s.tagFor p k) then 0
      else if !s.orderOk p k then 1 else if !s.shaperOk q then 2 else 3
    BitVec.ofNat 64 (cells % 2 ^ 20 + min ks.length 65535 * 2 ^ 20 + (if act then 2 ^ 36 else 2 ^ 37 + cause * 2 ^ 38))

end Sys2Proof.Machine
end

