-- ==== Sys2Proof/Machine/LedgerRows.lean ====
section
/-! DEFINITION. Machine/LedgerRows.lean: the commands of the transaction ledger: link acknowledgement, deadlines, the entry copy, the
write-page history, tag quarantine, returned credits (R15, R18, R333, R500, R514, R521, R527–R529, R537). -/

namespace Sys2Proof.Machine

/-! ### Link acknowledgement (R15, R18, R444, R505, R527) -/

/-- The write-page history refreshed by a write delivered on port `p` (R527): 16,384 entries, least recently refreshed first. -/
def State.pageRefresh (s : State) (p : Nat) (k : Pkt) : State :=
  if s.fd (R.PRT_CTX_ROLE p) ≠ 2 ∨ k.tkind ≠ 0x02 then s else
  let h : PageHist := ⟨p, k.addr.toNat / 4096, k.tenant, k.sfid⟩
  let l := s.ldg.hist.filter (fun x => x ≠ h) ++ [h]
  { s with ldg := { s.ldg with hist := l.drop (l.length - 16384) } }

/-- The link partner of port `p` has acknowledged a packet (R15, R18): a posted write is delivered, its entry retired; a number of a
receive context becomes coverable. The entry of a non-posted request goes on to its completion. -/
def State.ackPkt (s : State) (p id : Nat) : State :=
  match s.pkt? id with
  | none => s
  | some k =>
    let s0 := s.pageRefresh p k
    let s1 := match k.entry with
      | none => if k.dead then s0 else s0.pktTraceEnd k 0 false
      | some i =>
        if kindNp k.tkind then s0
        else match s0.entry? i with
          | none => s0
          | some e => if e.role = 3 then (s0.itemTraceEnd i 0 0 false).delEntry i else s0.deliverItems i k.item
    let s2 := s1.dropPkt id
    match k.rctx with
    | none => s2
    | some r => s2.coverable r k.eseq

/-- The oldest `n` packets that port `p` has sent and its partner not acknowledged are acknowledged. -/
def State.linkAcks (s : State) (p n : Nat) : State :=
  let x := s.port p
  ((x.awaitAck.take n).foldl (fun t id => t.ackPkt p id) (s.setPort p { x with awaitAck := x.awaitAck.drop n })).storeMark

/-! ### Deadlines (R521, R522) -/

/-- The deadline of an entry passes: reason 0x0B, or 0x0A for a deadline that sag stage 5 has set. A custody entry has none (R521) but
while its header waits in a trap slot (R129). -/
def State.deadline (s : State) (i : Nat) : State :=
  match s.entry? i with
  | none => s
  | some e =>
    if (e.role = 2 ∧ !e.trap) ∨ e.state = 2 then s
    else (s.waitUntil e.deadlinePs).resolve i (if e.forced then 0x0A else 0x0B)

/-! ### The entry copy (R500, R537) -/

/-- The four words of an entry (R500). -/
def Entry.words (e : Entry) : List Word :=
  let w (l : List (Nat × Nat × Nat)) : Word :=
    BitVec.ofNat 64 (l.foldl (fun v f => setNatField f.1 f.2.1 v f.2.2) 0)
  [ w [(0, 2, e.state), (2, 2, e.role), (4, 3, e.kind), (7, 1, if e.trap then 1 else 0), (8, 3, e.origin), (11, 3, e.stamp),
       (14, 13, e.tenant), (27, 7, e.inPort), (34, 7, e.outPort), (41, 4, e.cls), (45, 6, e.runCnt), (51, 6, e.runAck),
       (57, 2, e.gen), (59, 4, e.repl), (63, 1, if e.ageK then 1 else 0)],
    e.addr,
    w [(0, 16, e.rid), (16, 16, e.tag), (32, 16, e.xtag), (48, 11, e.lendw), (59, 5, e.cplc)],
    w [(0, 16, e.dfid), (16, 16, e.sfid), (32, 14, e.ses), (46, 18, e.eseq)] ]

/-- A write to LDG_IDX: the entry's words and its outcome mask are copied in one cycle; a free entry reads as zeros. -/
def State.ldgCopy (s : State) (i : Nat) : State :=
  let (ws, m) := match s.entry? i with
    | none => ([], 0#64)
    | some e => (e.words, e.runout)
  ((List.range 4).foldl (fun t j => t.setRg (R.LDG_EDATA j) (ws.getD j 0)) (s.setFd R.LDG_IDX_INDEX i)).setRg R.LDG_RUNOUT m

/-! ### The write-page history (R527–R529) -/

/-- A write to LDG_AERC: the port and the length, and with GO the search of the history, for the address LDG_AERA holds. -/
def State.aercWrite (s : State) (v : Word) : State :=
  let s1 := (s.setFd R.LDG_AERC_PORT (wField 0 7 v)).setFd R.LDG_AERC_LENDW (wField 8 10 v)
  if wField 24 1 v = 0 ∨ s.fb R.LDG_AERS_BUSY then s1
  else { (s1.setFb R.LDG_AERS_BUSY true) with ldg := { s1.ldg with aerPending := some (s.rg R.LDG_AERA) } }

/-- The record of a matched history entry, or of a search without a match (R529). -/
def State.aerRecord (s : State) (addr : Word) (lendw rid tenant remaining : Nat) : Rec :=
  { time := s.time, addr := addr, rid := rid, lendw := lendw, reason := 0x06, cls := 0, kind := 0, taddr := true,
    remaining := remaining, tenant := tenant }

/-- The search ends: MATCH or NOHIST, and the records. A record for a tenant whose log is on this node carries the ID that the tenant's
host knows (R531); one that leaves as a RECORD carries the source FID, which the home node replaces (R535). -/
def State.aerSearch (s : State) : State :=
  match s.ldg.aerPending with
  | none => s
  | some a =>
    let p := s.fd R.LDG_AERC_PORT
    let l := s.fd R.LDG_AERC_LENDW
    let dw := if l = 0 then 1024 else l
    let hits := s.ldg.hist.filter fun h => h.port = p && decide (a.toNat / 4096 ≤ h.page) &&
      decide (h.page ≤ (a.toNat + 4 * dw - 1) / 4096)
    let n := hits.length
    let s1 := ((({ s with ldg := { s.ldg with aerPending := none } }).setFb R.LDG_AERS_BUSY false).setFd R.LDG_AERS_MATCH
      (min n 255)).setFb R.LDG_AERS_NOHIST (n = 0)
    if n = 0 then s1.putRecord (s1.aerRecord a dw 0xFFFF 0 0) true 0 |>.ldgReport 0 0x06 0
    else (hits.foldl (fun (acc : State × Nat) h =>
      let t := acc.1
      let rest := acc.2 - 1
      let l := if t.fb (R.LDG_TLOG_V h.tenant) then h.tenant else 0
      let here := !t.fb (R.LDG_TLOG_V l) || t.fb (R.LDG_TLOG_LOCAL l)
      let rid := if here then t.hostRid h.tenant (t.tntVer h.tenant) h.sfid else h.sfid
      (t.putRecord (t.aerRecord a dw rid h.tenant rest) false 0, rest)) (s1, n)).1

/-! ### Tag quarantine (R514, R515) and credits (R333) -/

/-- QTIME after a resolution without completion a quarantined index, or RID and TAG, is free again. -/
def State.quarExpire (s : State) (p : Nat) (key : QuarKey) : State :=
  match s.ldg.quar.find? fun q => q.port = p && decide (q.key = key) with
  | none => s
  | some q =>
    let s1 := s.waitUntil q.untilPs
    { s1 with ldg := { s1.ldg with quar := s1.ldg.quar.erase q } }

def State.creditsBack (s : State) (p : Nat) (c : CreditReturn) : State :=
  let x := s.port p
  if !s.fb (R.PRT_LSTS_UP p) then s
  else
    let o := match c.ord with | .p => 0 | .np => 1 | .cpl => 2 | .ctl => 3
    s.setPort p { x with credits := x.credits.move o c.hdr c.data true }

/-! ### Rows -/

/-- R18: the link partner of port `p` acknowledges its oldest `n` packets. -/
def execPcieLinkAck (p : Port) (n : Nat) (s : State) : Host.Outcome State Fault Refusal := .next (s.linkAcks p.val n).settle

/-- R521: an entry reaches its deadline. -/
def execLedgerDeadline (e : Nat) (s : State) : Host.Outcome State Fault Refusal := .next (s.deadline e).settle

/-- R537: a write to LDG_IDX. -/
def execLdgIdxCopy (w : Writer) (i : BitVec 18) (s : State) : Host.Outcome State Fault Refusal :=
  .next (s.regCommand w R.LDG_IDX (BitVec.ofNat 64 i.toNat) fun s => s.ldgCopy i.toNat)

/-- R528: a write to LDG_AERC. -/
def execLdgAercGo (w : Writer) (v : Word) (s : State) : Host.Outcome State Fault Refusal :=
  .next (s.regCommand w R.LDG_AERC v fun s => s.aercWrite v)

/-- R529: the search of the write-page history ends. -/
def execLdgAerSearchComplete (s : State) : Host.Outcome State Fault Refusal := .next s.aerSearch.settle

/-- R514, R515: a quarantine ends. -/
def execTagQuarantineExpiry (p : Port) (q : QuarKey) (s : State) : Host.Outcome State Fault Refusal :=
  .next (s.quarExpire p.val q).settle

/-- R333: credits returned by the partner of a PCIe/CXL port. -/
def execPcieCreditReturn (p : Port) (c : CreditReturn) (s : State) : Host.Outcome State Fault Refusal :=
  .next (s.creditsBack p.val c)

end Sys2Proof.Machine
end

