-- ==== Sys2Proof/Machine/PhyRows.lean ====
section
/-! DEFINITION. Machine/PhyRows.lean: the commands of the native physical layer (R379–R401). -/

namespace Sys2Proof.Machine

/-- A write of OCT[n]_PHY_CTL with one bit set or cleared. -/
def State.phyCtlBit (s : State) (w : Writer) (n bit : Nat) (b : Bool) : State :=
  let v := setWField bit 1 (s.rg (R.PHY_CTL n)) (if b then 1 else 0)
  (s.regCommand w (R.PHY_CTL n) v fun s => s.phyCtlWrite n v).settle

/-- R379: TRAIN set. -/
def execPhyTrainSet (w : Writer) (n : Octet) (s : State) : Host.Outcome State Fault Refusal := .next (s.phyCtlBit w n.val 3 true)

/-- R423: TRAIN cleared. -/
def execPhyTrainClear (w : Writer) (n : Octet) (s : State) : Host.Outcome State Fault Refusal := .next (s.phyCtlBit w n.val 3 false)

/-- R379: the exit condition of the training state is met. -/
def execPhyTrainAdvance (n : Octet) (obs : TrainObs) (s : State) : Host.Outcome State Fault Refusal := .next (s.trainAdvance (s.headOctet n.val) obs)

/-- R379: the time limit of the training state expires. -/
def execPhyTrainTimeout (n : Octet) (s : State) : Host.Outcome State Fault Refusal := .next (s.trainTimeout (s.headOctet n.val))

/-- R380: symbol lock is lost. -/
def execSymbolLockLoss (n : Octet) (s : State) : Host.Outcome State Fault Refusal := .next (s.lockLoss n.val)

/-- R424: RECOVER ends with four good groups. -/
def execPhyRecoverRelock (n : Octet) (s : State) : Host.Outcome State Fault Refusal := .next (s.relock (s.headOctet n.val))

/-- R423: RECOVER lasts LDTIME. -/
def execLinkDownLdtime (n : Octet) (s : State) : Host.Outcome State Fault Refusal := .next (s.ldtimeDown (s.headOctet n.val)).settle

/-- R396: HALF set. -/
def execPhyHalfSet (w : Writer) (n : Octet) (s : State) : Host.Outcome State Fault Refusal := .next (s.phyCtlBit w n.val 4 true)

/-- R397: HALF cleared. -/
def execPhyHalfClear (w : Writer) (n : Octet) (s : State) : Host.Outcome State Fault Refusal := .next (s.phyCtlBit w n.val 4 false)

/-- R397: the lanes to be used have re-adapted. -/
def execPhyFullReadapted (n : Octet) (s : State) : Host.Outcome State Fault Refusal := .next (s.announceFull n.val)

/-- R397: the announced group arrives. -/
def execWidthChange (n : Octet) (tx : Bool) (s : State) : Host.Outcome State Fault Refusal := .next (s.changeWidth (s.headOctet n.val) tx)

/-- R397: a HALF order. -/
def execOrderHalf (n : Octet) (_group : Nat) (s : State) : Host.Outcome State Fault Refusal := .next (s.widthOrder n.val true)

/-- R397: a FULL order. -/
def execOrderFull (n : Octet) (_group : Nat) (s : State) : Host.Outcome State Fault Refusal := .next (s.widthOrder n.val false)

/-- R388: GO in OCT[n]_PHY_SUB. -/
def execPhySubGo (w : Writer) (n : Octet) (target : Fin 16) (s : State) : Host.Outcome State Fault Refusal :=
  let v := BitVec.ofNat 64 (target.val + 16)
  .next (s.regCommand w (R.PHY_SUB n.val) v fun s => s.phySubWrite n.val v)

/-- R389, R394: a DUP order. -/
def execOrderDup (n : Octet) (lane : Fin 16) (s : State) : Host.Outcome State Fault Refusal := .next (s.dupOrder n.val lane.val)

/-- R389: the receiver has adapted lane S. -/
def execLaneSConverged (n : Octet) (s : State) : Host.Outcome State Fault Refusal := .next (s.subConverged n.val)

/-- R389: a SWITCHED order. -/
def execOrderSwitched (n : Octet) (lane : Fin 16) (s : State) : Host.Outcome State Fault Refusal := .next (s.switchedOrder n.val lane.val)

/-- R390: 1.5 ms without convergence. -/
def execSubConvergeTimeout (n : Octet) (s : State) : Host.Outcome State Fault Refusal := .next (s.subTimeout n.val)

/-- R390: an ABANDON order. -/
def execOrderAbandon (n : Octet) (lane : Fin 16) (s : State) : Host.Outcome State Fault Refusal := .next (s.abandonOrder n.val lane.val)

/-- R401: INJGO in OCT[n]_LN[i]_TST. -/
def execPhyInjgo (w : Writer) (n : Octet) (lane : Fin 9) (s : State) : Host.Outcome State Fault Refusal :=
  let v := setWField 10 1 (s.rg (R.LN_TST n.val lane.val)) 1
  .next (s.regCommand w (R.LN_TST n.val lane.val) v fun s => s.lnTstWrite n.val lane.val v)

/-- R399: a checker synchronises to the pattern it is set to. -/
def execCheckerSynchronised (n : Octet) (lane : Fin 9) (s : State) : Host.Outcome State Fault Refusal :=
  .next (if s.fd (R.LN_TST_CHK n.val lane.val) = 0 then s else s.setFb (R.LN_TST_LOCKED n.val lane.val) true)

end Sys2Proof.Machine
end

