-- ==== Sys2Proof/Machine/Image.lean ====
section
/-! DEFINITION. Machine/Image.lean: the flash image (R149–R151): its header, its section table, and the checks of it. -/

namespace Sys2Proof

/-- A little-endian field of an image. -/
def imgField (img : List Byte) (off n : Nat) : Nat := Sys2Proof.Machine.ofBytesLE ((img.drop off).take n)

/-- The ASCII text NARUCIMG. -/
def imgMagic : List Byte := [0x4E, 0x41, 0x52, 0x55, 0x43, 0x49, 0x4D, 0x47]

/-- The header fields of R149. -/
def imgMagicOk (img : List Byte) : Bool := img.take 8 = imgMagic && imgField img 8 4 = 1
def imgLength (img : List Byte) : Nat := imgField img 0x00C 4
def imgSeq (img : List Byte) : Word := BitVec.ofNat 64 (imgField img 0x010 8)
def imgSvn (img : List Byte) : Nat := imgField img 0x018 4
def imgStateVersion (img : List Byte) : Nat := imgField img 0x01C 2
def imgLowestState (img : List Byte) : Nat := imgField img 0x01E 2
/-- Offset and length of the vendor block, and of the owner block: two public keys and two signatures (R150). -/
def imgVendorBlock (img : List Byte) : Nat × Nat := (imgField img 0x050 4, imgField img 0x054 4)
def imgOwnerBlock (img : List Byte) : Nat × Nat := (imgField img 0x058 4, imgField img 0x05C 4)
/-- The sections, 1 to 64 of them. -/
def imgCount (img : List Byte) : Nat := min (imgField img 0x060 2) 64

/-- Whether an image may take over from one of a state version (R154, the handover procedure): firmware's check, from the two headers. -/
def imgAccepts (next running : List Byte) : Bool := decide (imgLowestState next ≤ imgStateVersion running)

/-- An entry of the section table (R150): its type (1 cluster code, 2 cluster data, 3 pipeline program, 4 table initialisation, 5 device
configuration), its EARLY flag, its cluster mask, its destination address, its length and its place in the image. -/
structure Section where
  kind : Nat
  early : Bool
  clusters : Nat
  dest : Nat
  len : Nat
  off : Nat
  deriving DecidableEq, Repr

/-- Entry `i` of the section table. -/
def imgSection (img : List Byte) (i : Nat) : Section :=
  let e := 0x100 + 32 * i
  { kind := imgField img e 1, early := imgField img (e + 1) 1 % 2 = 1, clusters := imgField img (e + 2) 1,
    dest := imgField img (e + 8) 8, len := imgField img (e + 16) 4, off := imgField img (e + 20) 4 }

/-- The section table of an image. -/
def imgSections (img : List Byte) : List Section := (List.range (imgCount img)).map fun i => imgSection img i

/-- Whether a section is copied before core 0 of CC0 is enabled (R153): an EARLY one, or device configuration. -/
def Section.first (x : Section) : Bool := x.early || decide (x.kind = 5)

/-- The bytes of a section. -/
def Section.bytes (x : Section) (img : List Byte) : List Byte := (img.drop x.off).take x.len

/-- The length of all EARLY sections (R151). -/
def imgEarlyBytes (img : List Byte) : Nat := (((imgSections img).filter fun x => x.early).map fun x => x.len).sum

/-- The result of verifying an image (R151, R728): the first check that fails, for a fused anti-rollback value and owner key hash. -/
def ImageCheck.code (k : ImageCheck) (svnf : Nat) (owner : Bool) : Nat :=
  if k.readError then 8 else if !imgMagicOk k.head then 1 else if !k.vendorKeyOk then 2 else if !k.vendorSigOk then 3
  else if imgSvn k.head < svnf then 4 else if !k.hashOk then 5 else if owner ∧ !k.ownerOk then 6
  else if 4194304 < imgEarlyBytes k.head then 7 else 0

/-- The sequence number of an image. -/
def ImageCheck.seq (k : ImageCheck) : Word := imgSeq k.head

end Sys2Proof
end

