-- ==== Sys2Proof/Machine/Security.lean ====
section
/-! DEFINITION. Machine/Security.lean: GLB_MODE (R13, R14, R726) and the security block: verification and flash operations (R151,
R727–R729). -/

namespace Sys2Proof.Machine

/-! ### GLB_MODE -/

/-- Whether any native link is up. -/
def State.anyLinkUp (s : State) : Bool := (List.range 32).any fun n => s.nativeRole (linkPort n) && s.fb (R.LNK_STS_UP n)

/-- SES_ACTIVE: the send and receive contexts in use (R438). -/
def State.sesActive (s : State) : Nat :=
  (s.ses.send.filter fun e => e.2.isSome).length + (s.ses.recv.filter fun e => e.2.isSome).length

/-- A write of GLB_MODE, checked as a whole (R726). A write names NODE, so that NODEV does not remain 0 after one that is accepted. -/
def State.glbMode (s : State) (v : Word) : State :=
  let fabric := wField 0 1 v = 1
  let node := wField 16 12 v
  let old := s.fb R.GLB_MODE_FABRIC
  if (old && !fabric && (s.anyLinkUp || decide (s.sesActive ≠ 0))) || (old && decide (node ≠ s.fd R.GLB_MODE_NODE) && s.anyLinkUp) then
    s.setFb R.GLB_STS_MREJ true
  else
    (((s.setFb R.GLB_MODE_FABRIC fabric).setFb R.GLB_MODE_NODEV true).setFd R.GLB_MODE_NODE node).reselectTime

/-! ### Verification and flash operations (R729) -/

/-- The flash that the verification or operation running on it uses. -/
def State.flashBusy (s : State) (b : Bool) : Bool := s.sec.flashOp.any fun o => o.2.1 = b

/-- GO in SEC_VERIFY: discarded while BUSY; it waits while a flash operation runs on the same flash. -/
def State.verifyGo (s : State) (b : Bool) : State :=
  let s1 := s.setFb R.SEC_VERIFY_SEL b
  if s.fb R.SEC_VERIFY_BUSY then s1
  else { (s1.setFb R.SEC_VERIFY_BUSY true) with sec := { s1.sec with verifyB := some b, verifyWaits := s.flashBusy b } }

/-- The bytes of SEC_FLBUF. -/
def State.flbuf (s : State) : List Byte := ((List.range 32).map fun i => bytesLE 8 (s.rg (R.SEC_FLBUF i)).toNat).flatten

/-- A flash operation starts at its flash. -/
def State.flashStart (s : State) : State :=
  match s.sec.flashOp with
  | none => s
  | some (op, b, a) => s.emit (.flash b op a (if op = 2 then s.flbuf else []))

/-- A verification ends (R728): its result, and with it the wait of a flash operation on the same flash. -/
def State.verifyEnd (s : State) (k : ImageCheck) : State :=
  match s.sec.verifyB with
  | none => s
  | some b =>
    if s.sec.verifyWaits then s
    else
      let c := k.code Config.svnFused.toNat Config.ownerFused
      let r := if c = 0 ∧ k.seq.toNat ≤ (s.rg R.SEC_RUNSEQ).toNat then 9 else c
      let s1 := ((s.setFd R.SEC_VERIFY_RES r).setFb R.SEC_VERIFY_BUSY false).setFb R.SEC_VERIFY_DONE true
      let wake := s.sec.flashWaits && s.flashBusy b
      let s2 := { s1 with sec := { s1.sec with verifyB := none, flashWaits := s.sec.flashWaits && !wake } }
      if wake then s2.flashStart else s2

/-- A write of SEC_FLCTL: programming and erasing the flash of the running image is refused outside recovery. -/
def State.flctl (s : State) (v : Word) : State :=
  let sel : Bool := decide (wField 0 1 v = 1)
  let op := wField 1 2 v
  let s1 := ((s.setFb R.SEC_FLCTL_SEL sel).setFd R.SEC_FLCTL_OP op).setFd R.SEC_FLCTL_ADDR (wField 8 24 v)
  if wField 3 1 v = 0 ∨ s.fb R.SEC_FLCTL_BUSY ∨ op = 0 then s1
  else if 2 ≤ op ∧ decide (sel = s.fb R.SEC_BOOT_STS_RUN) ∧ !s.fb R.SEC_BOOT_STS_RECOV then s1.setFb R.SEC_FLCTL_ERR true
  else
    let waits : Bool := decide (s.sec.verifyB = some sel)
    let s2 := { (s1.setFb R.SEC_FLCTL_BUSY true) with
      sec := { s1.sec with flashOp := some (op, sel, wField 8 24 v * 256), flashWaits := waits } }
    if waits then s2 else s2.flashStart

/-- A flash operation ends: the data of a read, or ERR; the wait of a verification of the same flash ends. -/
def State.flashEnd (s : State) (ok : Bool) (data : List Byte) : State :=
  match s.sec.flashOp with
  | none => s
  | some (op, b, _) =>
    if s.sec.flashWaits then s
    else
      let s1 := if !ok then s.setFb R.SEC_FLCTL_ERR true
        else if op = 1 then
          (List.range 32).foldl (fun t i => t.setRg (R.SEC_FLBUF i) (BitVec.ofNat 64 (ofBytesLE ((data.drop (8 * i)).take 8)))) s
        else s
      { (s1.setFb R.SEC_FLCTL_BUSY false) with
        sec := { s1.sec with flashOp := none, verifyWaits := s.sec.verifyWaits && decide (s.sec.verifyB ≠ some b) } }

/-! ### Rows -/

/-- R726: a write of GLB_MODE. -/
def execGlbModeWrite (w : Writer) (v : Word) (s : State) : Host.Outcome State Fault Refusal :=
  .next (s.regCommand w R.GLB_MODE v fun s => s.glbMode v)

/-- R729: GO in SEC_VERIFY. -/
def execSecVerifyGo (w : Writer) (flashB : Bool) (s : State) : Host.Outcome State Fault Refusal :=
  .next (s.regCommand w R.SEC_VERIFY (if flashB then 3 else 2) fun s => s.verifyGo flashB)

/-- R728: a verification ends. -/
def execSecVerifyComplete (chk : ImageCheck) (s : State) : Host.Outcome State Fault Refusal := .next (s.verifyEnd chk)

/-- The word of SEC_FLCTL that starts an operation. -/
def flctlWord (op : Nat) (v : Word) : Word := setWField 3 1 (setWField 1 2 v op) 1

/-- R729: a read of flash starts. -/
def execSecFlashRead (w : Writer) (v : Word) (s : State) : Host.Outcome State Fault Refusal :=
  .next (s.regCommand w R.SEC_FLCTL (flctlWord 1 v) fun s => s.flctl (flctlWord 1 v))

/-- R729: programming of flash starts, or is refused. -/
def execSecFlashProgram (w : Writer) (v : Word) (s : State) : Host.Outcome State Fault Refusal :=
  .next (s.regCommand w R.SEC_FLCTL (flctlWord 2 v) fun s => s.flctl (flctlWord 2 v))

/-- R729: an erase of flash starts, or is refused. -/
def execSecFlashErase (w : Writer) (v : Word) (s : State) : Host.Outcome State Fault Refusal :=
  .next (s.regCommand w R.SEC_FLCTL (flctlWord 3 v) fun s => s.flctl (flctlWord 3 v))

/-- R729: a flash operation ends. The command carries 256 bytes: what a read delivers. -/
def execSecFlashOpComplete (ok : Bool) (data : List Byte) (s : State) : Host.Outcome State Fault Refusal :=
  if data.length ≠ 256 then .refused (.malformed "flash data")
  else .next (s.flashEnd ok data)

end Sys2Proof.Machine
end

