-- ==== Sys2Proof/Machine/Service.lean ====
section
/-! DEFINITION. Machine/Service.lean: the counter snapshot and the trace seed (R680, R684), the wear gauges (R704–R707), the fallow pool and
intercalation (R708–R715), and the Almanac's commands (R695, R696, R699, R703). -/

namespace Sys2Proof.Machine

/-! ### Counters and tracing (R680–R684) -/

/-- A write of PCN_SNAP: the epoch ends, every counter's value is its snapshot value; a wrong EXP sets SLOST. -/
def State.pcnSnap (s : State) (v : Word) : State :=
  if wField 0 32 v = s.fd R.PCN_EPOCH_EPOCH then
    let s1 := (s.addFd R.PCN_EPOCH_EPOCH 1).setRg R.PCN_STIME s.time
    { s1 with pcn := { s1.pcn with snapshot := s1.pcn.counters } }
  else s.setFb R.PCN_STS_SLOST true

/-- A write of TRC_SEED: every LFSR is loaded anew. -/
def State.trcSeed (s : State) (v : Word) : State :=
  let seed := wField 0 31 v
  let s1 := s.setFd R.TRC_SEED_SEED seed
  let load (m : SMap Nat) (ns : List Nat) : SMap Nat := ns.foldl (fun m n => m.setD (lfsrSeed 1) n (lfsrSeed seed n)) m
  let cores := (List.range 4).flatMap fun c => (List.range 6).map fun k => 8 * c + k
  { s1 with hpl := { s1.hpl with lfsr := load s1.hpl.lfsr (List.range 32), ilfsr := load s1.hpl.ilfsr cores } }

/-! ### Elements (R704, R708) -/

/-- Whether an element index exists for a kind (R704). -/
def elementOk (kind idx : Nat) : Bool :=
  match kind with
  | 1 => decide (idx < 288) | 2 => decide (idx < 32) | 3 => decide (idx < 64) | 4 => decide (idx < 12)
  | 5 => decide (idx < 8) | 6 => decide (idx < 32) | 7 => decide (idx < 32) && decide (idx % 8 < 6) | 8 => decide (idx < 16)
  | 9 => decide (idx < 16) | 10 => decide (idx < 11) | 11 => decide (1 ≤ idx) && decide (idx ≤ 24) | _ => false

/-- The power domain an element lies in (R641); the core and control PLLs are never off while their clocks run. -/
def elementDomain (kind idx : Nat) : Nat :=
  match kind with
  | 1 => 1 + idx / 9 / 4 | 2 => 1 + idx / 4 | 3 => 9 + idx / 16 | 4 => 19 | 5 => 20 | 6 => 9 + idx / 8 | 7 => 13 + idx / 8
  | 8 => 17 | 10 => if idx = 2 then 23 else if idx < 2 then 0 else 1 + (idx - 3) | 11 => idx | _ => 0

/-- Whether an element is in service: it exists and its domain is live. -/
def State.inService (s : State) (kind idx : Nat) : Bool := elementOk kind idx && s.live (elementDomain kind idx)

/-- The kind a spare serves (R708). -/
def spareKind (j : Nat) : Nat :=
  if j < 4 then 3 else if j = 4 then 4 else if j = 5 then 5 else if j < 8 then 6 else if j < 12 then 7 else if j = 12 then 8
  else if j < 15 then 9 else if j < 26 then 10 else 0

/-- Whether spare `j` serves an element (R708). -/
def spareServes (j kind idx : Nat) : Bool :=
  decide (j < 26) && decide (spareKind j = kind) &&
  (if kind = 3 then decide (idx / 16 = j) else if kind = 7 then decide (idx / 8 = j - 8) else if kind = 10 then decide (idx = j - 15)
   else true)

def State.spareInUse (s : State) (j : Nat) : Bool := s.svc.assigned.get 0 j ≠ 0

/-- The physical bank that serves a logical bank of the buffer: its own, or the fallow bank (64–67) intercalated for it, which has taken
over its logical cells (R271, R708, R711). -/
def State.bankServing (s : State) (b : Nat) : Nat := if s.svc.assigned.get 0 (b / 16) = b + 1 then 64 + b / 16 else b

/-- FAL_SPARE[j].AVAIL (R708, R709): built in, not in service, not failed. -/
def State.spareAvail (s : State) (j : Nat) : Bool :=
  decide (j < 26) && Config.spareAvail j && !s.spareInUse j && !s.fb (R.FAL_SPARE_FAILED j)

/-- Whether a kind has no spare left (R715): no AVAIL spare, or for the lanes of an octet no lane S without a role. -/
def State.poolEmpty (s : State) (kind : Nat) : Bool :=
  if kind = 1 ∨ kind = 2 then (List.range 32).all fun n => s.fd (R.PHY_STS_SROLE n) ≠ 15
  else if kind = 11 then false
  else (List.range 26).all fun j => !(spareKind j = kind && s.spareAvail j)

/-! ### Wear (R705–R707) -/

/-- A wear alarm event (R128, R706, R715). -/
def State.wearAlarm (s : State) (kind idx : Nat) (reading : Word) : State :=
  let i := idx % 32768 + (if s.poolEmpty kind then 32768 else 0)
  s.postEvent .wear (elemKey kind idx) (s.evTarget R.WEAR_CFG_EVQV R.WEAR_CFG_EVQ) 0x08 (kind % 256 + 256 * i) reading

/-- The gauges of a kind (R704): ring oscillator, timing margin, corrected errors, eye. -/
def gaugesOf (kind : Nat) : Bool × Bool × Bool × Bool :=
  match kind with
  | 1 => (false, false, false, true) | 2 => (false, false, false, true)
  | 3 => (true, false, true, false) | 4 => (true, false, true, false) | 5 => (true, false, true, false)
  | 6 => (true, true, false, false) | 7 => (true, true, true, false) | 8 => (true, true, false, false)
  | 10 => (true, false, false, false) | 11 => (true, false, false, false) | _ => (false, false, false, false)

/-- The first reading that crosses its threshold (R706). -/
def State.crossed (s : State) (kind : Nat) (g : GaugeReading) : Option Nat :=
  let (ro, tm, ce, eye) := gaugesOf kind
  if ro ∧ s.fd R.WEAR_THR_ROSC ≤ g.rosc.toNat then some g.rosc.toNat
  else if tm ∧ g.tmarg.toNat ≤ s.fd R.WEAR_THR_TMARG then some g.tmarg.toNat
  else if ce ∧ s.fd R.WEAR_THR_CE ≤ g.ce.toNat then some g.ce.toNat
  else if eye ∧ g.eyeh.toNat ≤ s.fd R.WEAR_THR_EYEH then some g.eyeh.toNat
  else if eye ∧ g.eyew.toNat ≤ s.fd R.WEAR_THR_EYEW then some g.eyew.toNat
  else none

/-- An element is measured (R705, R706): every PERIOD, with EN = 1, in no sag stage; eye margins are those of LN_EQ. -/
def State.measure (s : State) (kind idx : Nat) (g : GaugeReading) : State :=
  let key := elemKey kind idx
  if !s.fb R.WEAR_CFG_EN ∨ 1 ≤ s.sagStage ∨ !s.inService kind idx ∨ kind = 9 then s
  else
    let s1 := s.waitUntil (s.svc.measured.get 0 key + s.fd R.WEAR_CFG_PERIOD * 1000 * msPs)
    let s2 := { s1 with svc := { s1.svc with gauges := s1.svc.gauges.set none key (some g), measured := s1.svc.measured.set 0 key s1.now } }
    let s3 := if kind = 1 then (s2.setFd (R.LN_EQ_EYEH (idx / 9) (idx % 9)) g.eyeh.toNat).setFd (R.LN_EQ_EYEW (idx / 9) (idx % 9)) g.eyew.toNat
      else s2
    match s3.crossed kind g with
    | none => s3
    | some r =>
      if s3.svc.alarms.get false key then s3
      else ({ s3 with svc := { s3.svc with alarms := s3.svc.alarms.set false key true } }).wearAlarm kind idx (BitVec.ofNat 64 r)

/-- A write of WEAR_IDX (R707): the element's readings are copied. -/
def State.wearCopy (s : State) (v : Word) : State :=
  let kind := wField 0 8 v
  let idx := wField 8 16 v
  let key := elemKey kind idx
  let s1 := (s.setFd R.WEAR_IDX_KIND kind).setFd R.WEAR_IDX_INDEX idx
  let (ro, tm, ce, _) := gaugesOf kind
  let g := s.svc.gauges.get none key
  let rd (b : Bool) (f : GaugeReading → Nat) : Nat := match g with | some x => if b then f x else 0 | none => 0
  (((s1.setFd R.WEAR_DATA_ROSC (rd ro fun x => x.rosc.toNat)).setFd R.WEAR_DATA_TMARG (rd tm fun x => x.tmarg.toNat)).setFd R.WEAR_DATA_CE
    (rd ce fun x => x.ce.toNat)).setFb R.WEAR_DATA_ALARM (s.svc.alarms.get false key)


/-! ### Spares (R709–R714) -/

/-- Spare `j` fails its self-test (R709). -/
def State.spareFails (s : State) (j : Nat) : State :=
  ((s.setFb (R.FAL_SPARE_FAILED j) true).wearAlarm (spareKind j) (0x7F00 + j) (Config.freeWord s.fv)).bumpFv

/-- A spare's periodic self-test begins (R709). -/
def State.selfTest (s : State) (j : Nat) : State :=
  if !s.spareAvail j ∨ 2 ≤ s.sagStage ∨ s.svc.testing.get false j then s
  else
    let s1 := s.waitUntil (s.svc.testPs.get 0 j + s.fd R.FAL_CFG_STPER * 86400 * 1000 * msPs)
    { s1 with svc := { s1.svc with testing := s1.svc.testing.set false j true, testPs := s1.svc.testPs.set 0 j s1.now } }

def State.selfTestEnd (s : State) (j : Nat) (pass : Bool) : State :=
  if !s.svc.testing.get false j ∨ 2 ≤ s.sagStage then s
  else
    let s1 := { s with svc := { s.svc with testing := s.svc.testing.set false j false } }
    if pass then s1 else s1.spareFails j

/-- PHASE and RCODE of FAL_STS; the phase of a running intercalation. -/
def State.falPhase (s : State) (phase rcode : Nat) : State :=
  let s1 := (s.setFd R.FAL_STS_PHASE phase).setFd R.FAL_STS_RCODE rcode
  { s1 with svc := { s1.svc with fal := s1.svc.fal.map fun f => { f with phase := phase } } }

/-- An intercalation ends (R714): its event and its Almanac record. The event's code holds PHASE and RCODE as FAL_STS places them. -/
def State.falEnd (s : State) (phase rcode : Nat) : State :=
  let s1 := (s.falPhase phase rcode).setFb R.FAL_STS_BUSY false
  let s2 := { s1 with svc := { s1.svc with fal := none } }
  ((s2.errorReport .fal 0 (s2.evTarget R.FAL_CFG_EVQV R.FAL_CFG_EVQ) 0 (phase * 2 + rcode * 16) (Config.freeWord s2.fv)).bumpFv).almSource
    .fal 0

/-- The refusals of R710, in its order. -/
def State.falRefusal (s : State) (j kind idx : Nat) : Nat :=
  if !s.spareAvail j then 1
  else if !spareServes j kind idx then 2
  else if !s.inService kind idx then 3
  else if 2 ≤ s.sagStage then 4
  else if s.fb R.FAL_STS_BUSY then 5 else 0

/-- A write of FAL_CMD (R710). -/
def State.falCmd (s : State) (v : Word) : State :=
  let kind := wField 0 8 v
  let idx := wField 8 16 v
  let j := wField 24 5 v
  let s1 := ((s.setFd R.FAL_CMD_KIND kind).setFd R.FAL_CMD_TARGET idx).setFd R.FAL_CMD_SPARE j
  if wField 32 1 v = 0 then s1
  else
    let busy := s.fb R.FAL_STS_BUSY
    let r := s.falRefusal j kind idx
    if r = 0 then
      ({ s1 with svc := { s1.svc with fal := some { kind := kind, target := idx, spare := j, phase := 1 } } }.falPhase 1 0).setFb
        R.FAL_STS_BUSY true
    else
      let s2 := (s1.setFd R.FAL_STS_PHASE 6).setFd R.FAL_STS_RCODE r
      if busy then s2.setFb R.FAL_STS_LOST true else s2

/-- The spare takes the element's place (R711, R712). A fallow pipeline is loaded with the octet's program copies. -/
def State.falSwitch (s : State) (f : FalJob) : State :=
  let same (j : Nat) : Bool := spareKind j = f.kind && s.svc.assigned.get 0 j = f.target + 1
  let cleared := (List.range 26).foldl (fun (m : SMap Nat) j => if same j then m.set 0 j 0 else m) s.svc.assigned
  let s1 := { s with svc := { s.svc with assigned := cleared.set 0 f.spare (f.target + 1) } }
  let s2 := s1.wearRearm f.kind f.target
  if f.kind = 7 then
    let c := coreOfNum f.target
    let s3 := s2.setCore c.num { Core.reset with fallow := true }
    if s3.coreEnabled c then s3.coreStart c else s3
  else if f.kind = 6 then
    let copies := (List.range 1024).map fun i => s2.rg (R.HPL_PROG f.target (i / 64) (i % 64))
    { s2 with hpl := { s2.hpl with fallow := s2.hpl.fallow.set nopCopies f.spare copies } }
  else if f.kind = 9 then { s2 with alm := { s2.alm with phys := s2.alm.phys.set 0 f.target (16 + (f.spare - 13) + 1) } }
  else s2

/-- Whether the phase of an intercalation can end (R711): a core must have halted before its spare takes over, and the channels of a DMA
engine must have finished their current bursts and reads. -/
def State.falReady (s : State) (f : FalJob) : Bool :=
  if f.kind = 7 ∧ 3 ≤ f.phase then
    let k := s.core f.target
    !k.running && !k.halting && k.draining.isNone
  else if f.kind = 8 ∧ 3 ≤ f.phase then s.engQuiet f.target
  else true

/-- An intercalation phase ends (R711, R713). -/
def State.falNext (s : State) (pass : Bool) : State :=
  match s.svc.fal with
  | none => s
  | some f =>
    if !s.falReady f then s
    else match f.phase with
      | 1 => if pass then s.falPhase 2 0 else s.falEnd 6 6
      | 2 => if pass then s.falPhase 3 0 else (s.spareFails f.spare).falEnd 6 6
      | 3 => s.falPhase 4 0
      | _ => (s.falSwitch f).falEnd 5 0

/-- An intercalation that has not begun its switch is abandoned (R713). -/
def State.falAbandon (s : State) : State :=
  match s.svc.fal with
  | none => s
  | some f => if f.phase < 4 then s.falEnd 6 4 else s

/-! ### Almanac commands (R695, R696, R699, R703) -/

/-- ALM_CMD.SEAL written: a trigger without a triggering record. -/
def State.almCmdSeal (s : State) : State := (s.almTrigger 5 ((Config.freeWord s.fv).toNat % 2 ^ 32)).bumpFv

/-- LOCK of a slot set: refused when fewer than 4 slots would stay unlocked. -/
def State.slotLock (s : State) (i : Nat) : State :=
  let locked := ((List.range 16).filter fun j => s.fb (R.ALM_SLOT_LOCK j) || j = i).length
  if 12 < locked then s.setFb R.ALM_STS_LREJ true else s.setFb (R.ALM_SLOT_LOCK i) true

/-- REL of a slot written: a sealed, unlocked slot is released. -/
def State.slotRelease (s : State) (i : Nat) : State :=
  if s.fd (R.ALM_SLOT_STATE i) = 1 ∧ !s.fb (R.ALM_SLOT_LOCK i) then s.setFd (R.ALM_SLOT_STATE i) 2 else s

/-- Word 2 of a set of ALM_FWREC written: the record is appended. -/
def State.fwRecord (s : State) (x : Nat) (v : Word) : State :=
  let w0 := s.rg (R.ALM_FWREC x 0)
  let w1 := s.rg (R.ALM_FWREC x 1)
  s.almRecord Src.software.code 2 (wField 0 16 w0) w1 v

/-! ### Rows -/

/-- R680: a write of PCN_SNAP. -/
def execPcnSnap (w : Writer) (v : Word) (s : State) : Host.Outcome State Fault Refusal :=
  .next (s.regCommand w R.PCN_SNAP v fun s => s.pcnSnap v)

/-- R684: a write of TRC_SEED. -/
def execTrcSeedWrite (w : Writer) (v : Word) (s : State) : Host.Outcome State Fault Refusal :=
  .next (s.regCommand w R.TRC_SEED v fun s => s.trcSeed v)

/-- R696: ALM_CMD.SEAL is written. -/
def execAlmSeal (w : Writer) (s : State) : Host.Outcome State Fault Refusal :=
  .next (s.regCommand w R.ALM_CMD 1 fun s => s.almCmdSeal)

/-- R695: word 2 of ALM_FWREC[x] is written. -/
def execAlmFwrecAppend (w : Writer) (x : Fin 32) (v : Word) (s : State) : Host.Outcome State Fault Refusal :=
  .next (s.regCommand w (R.ALM_FWREC x.val 2) v fun s => s.fwRecord x.val v)

/-- R699: LOCK of a slot is set. -/
def execAlmSlotLock (w : Writer) (i : Fin 16) (s : State) : Host.Outcome State Fault Refusal :=
  .next (s.regCommand w (R.ALM_SLOT i.val) 4 fun s => s.slotLock i.val)

/-- R703: REL of a slot is written. -/
def execAlmSlotRelease (w : Writer) (i : Fin 16) (s : State) : Host.Outcome State Fault Refusal :=
  .next (s.regCommand w (R.ALM_SLOT i.val) 8 fun s => s.slotRelease i.val)

/-- R705: an element's gauges are measured. -/
def execWearMeasure (kind : Byte) (idx : BitVec 16) (g : GaugeReading) (s : State) : Host.Outcome State Fault Refusal :=
  .next (s.measure kind.toNat idx.toNat g)

/-- R707: a write of WEAR_IDX. -/
def execWearIdxCopy (w : Writer) (v : Word) (s : State) : Host.Outcome State Fault Refusal :=
  .next (s.regCommand w R.WEAR_IDX v fun s => s.wearCopy v)

/-- R706: a write of WEAR_ACK. -/
def execWearAck (w : Writer) (v : Word) (s : State) : Host.Outcome State Fault Refusal :=
  .next (s.regCommand w R.WEAR_ACK v fun s => s.wearRearm (wField 0 8 v) (wField 8 16 v))

/-- R709: a spare's periodic self-test begins. -/
def execFalSelfTest (j : Fin 26) (s : State) : Host.Outcome State Fault Refusal := .next (s.selfTest j.val)

/-- R709: a spare's periodic self-test ends. -/
def execFalSelfTestEnd (j : Fin 26) (pass : Bool) (s : State) : Host.Outcome State Fault Refusal := .next (s.selfTestEnd j.val pass)

/-- R710: a write of FAL_CMD. -/
def execFalGo (w : Writer) (v : Word) (s : State) : Host.Outcome State Fault Refusal :=
  .next (s.regCommand w R.FAL_CMD v fun s => s.falCmd v)

/-- R711: a phase of the intercalation ends. -/
def execFalPhaseComplete (pass : Bool) (s : State) : Host.Outcome State Fault Refusal := .next (s.falNext pass)

end Sys2Proof.Machine
end

