-- ==== Sys2Proof/Machine/PowerOps.lean ====
section
/-! DEFINITION. Machine/PowerOps.lean: PWR_CTL (R641–R646), the reference clocks (R648–R650) and the supply-sag stages
(R658–R668). -/

namespace Sys2Proof.Machine

/-! ### PWR_CTL -/

def pwrOn (d : Nat) : Field := ⟨R.PWR_CTL, d, 1⟩
def pwrOns (d : Nat) : Field := ⟨R.PWR_STS, d, 1⟩
def pwrTrans (d : Nat) : Field := ⟨R.PWR_STS, 32 + d, 1⟩

/-- The domains that only Vigil switches off (R641). -/
def vigilOnly (d : Nat) : Bool := (decide (9 ≤ d) && decide (d ≤ 12)) || (decide (19 ≤ d) && decide (d ≤ 22)) || decide (d = 24)

/-- Whether any DMA channel is in STATE 1–3 (R641). -/
def State.dmaBusy (s : State) : Bool :=
  s.regs.any fun kv => decide (0x1800000 ≤ kv.1) && decide (kv.1 < 0x1840000) && decide (kv.1 % 64 = R.DMA_CH_STS 0 0 % 64) &&
    decide (1 ≤ natField 0 3 kv.2.toNat) && decide (natField 0 3 kv.2.toNat ≤ 3)

/-- Whether a domain may be switched off in service (R641, R643, R646); domains 13 to 16 are the clusters. -/
def State.offAllowed (s : State) (d : Nat) : Bool :=
  if 1 ≤ d ∧ d ≤ 8 then
    ((List.range 4).all fun i => s.fd (R.PHY_CTL_MODE (4 * (d - 1) + i)) = 0) &&
    ((List.range 16).all fun i => s.fd (R.PRT_CTX_ROLE (16 * (d - 1) + i)) ≠ 1)
  else if 13 ≤ d ∧ d ≤ 16 then
    ([13, 14, 15, 16].any fun x => x ≠ d && s.fb (pwrOns x) && s.fb (pwrOn x)) &&
    ((List.range 64).all fun q => !(s.fb (R.EVT_Q_CFG_EN q) && s.fd (R.EVT_Q_CFG_CLUSTER q) = d - 13)) &&
    !(s.fb R.TBL_HB_EN && s.tbl.kickCluster = some (d - 13))
  else if d = 17 then !s.dmaBusy
  else if d = 18 then ((List.range 16).all fun m => !s.fb (R.MIR_SES_CTL_EN m)) && !s.fb R.GLN_CFG_EN
  else if d = 23 then (List.range 32).all fun n => s.fd (R.PHY_CTL_MODE n) < 2
  else false

/-- The cause for which a change of a domain's bit is refused (R642); 0 for none. -/
def State.pwrRefusal (s : State) (d : Nat) (on : Bool) : Nat :=
  if s.fb (pwrTrans d) then 4
  else if on then 0
  else if vigilOnly d then 1
  else if s.offAllowed d then 0
  else if 13 ≤ d ∧ d ≤ 16 then 3 else 2

/-- One changed bit of PWR_CTL (R643, R644). -/
def State.pwrBit (s : State) (d : Nat) (on : Bool) : State :=
  if s.fb (pwrOn d) = on then s
  else
    let r := s.pwrRefusal d on
    if r ≠ 0 then ((s.setFb R.PWR_REJ_REJ true).setFd R.PWR_REJ_DOM d).setFd R.PWR_REJ_CAUSE r
    else
      let s1 := (s.setFb (pwrOn d) on).setFb (pwrTrans d) true
      if !on ∧ 13 ≤ d ∧ d ≤ 16 then (clusterCores (Fin.ofNat 4 (d - 13))).foldl (fun t c => t.coreWarmReset c) s1 else s1

/-- A write of PWR_CTL; in Vigil it is discarded (R662). -/
def State.pwrWrite (s : State) (v : Word) : State :=
  if s.fb R.PWR_STS_VIGIL then s
  else (List.range 24).foldl (fun t i => t.pwrBit (i + 1) (wField (i + 1) 1 v = 1)) s

/-! ### Supply-sag stages (R659–R667) -/

/-- A supply-sag event (R667). -/
def State.sagEvent (s : State) (k : Nat) (entering : Bool) (src reading : Nat) : State :=
  s.postEvent .sag 0 (s.evTarget R.SAG_CFG_EVQV R.SAG_CFG_EVQ) 0x07 (k + if entering then 256 else 0)
    (BitVec.ofNat 64 (src % 16 + reading % 65536 * 65536))

/-- PCIe/CXL ports enter L0p where the partner supports it, which is a free value for each (R660). -/
def State.enterL0p (s : State) : State :=
  (List.range 128).foldl (fun t p =>
    if t.fb (R.PRT_LSTS_UP p) then (t.setFb (R.PRT_LSTS_L0P p) (Config.freeBool t.fv)).bumpFv else t) s

/-- Stage 5 begins (R522, R660, R696): credits are frozen, deadlines forced, the Almanac seals. -/
def State.sagFive (s : State) : State :=
  let held := (List.range 128).foldl (fun (m : SMap Nat) x =>
    if s.linkOctet (x / 4) then m.set 0 x (s.releasedCnt (x / 4) (x % 4) + 1) else m) []
  let lim := s.now + 200 * usPs
  let force (e : Entry) : Entry :=
    if e.role ≠ 2 ∧ lim < e.deadlinePs then { e with deadlinePs := lim, forced := true } else e
  let s1 := { s with pwr := { s.pwr with s5Ps := s.now, sagHeld := held }, ldg := { s.ldg with entries := s.ldg.entries.map force } }
  let seq := s1.alm.seqNext
  (((s1.setFb R.SAG_STS_S5DONE false).almSource .sag 5).almTrigger 2 (seq % 2 ^ 32)).sagDone

/-- The actions of a stage on entry (R660); what a stage only stops, its users read from STAGE. -/
def State.sagAction (s : State) (k : Nat) : State :=
  match k with
  | 2 => s.dlFlush fun _ => true
  | 3 => s.falAbandon
  | 4 => ((List.range 32).foldl (fun t n => t.announceHalf n) s).enterL0p
  | 5 => s.sagFive
  | _ => s

/-- Entry to one stage. -/
def State.sagEnterOne (s : State) (k src reading : Nat) : State :=
  let s1 := ((s.setFd R.SAG_STS_STAGE k).setFd R.SAG_STS_MAX (max k (s.fd R.SAG_STS_MAX))).setFd R.SAG_STS_SRC src
  let s2 := if k = 1 then s1.addFd R.SAG_CNT_ENT1 1 else if k = 5 then s1.addFd R.SAG_CNT_ENT5 1
    else if k = 6 then s1.addFd R.SAG_CNT_ENT6 1 else s1
  (s2.sagEvent k true src reading).sagAction k

/-- Every stage up to `k` that has not been entered is, in order. -/
def State.sagEnter (s : State) (k src reading : Nat) : State :=
  ((List.range k).drop s.sagStage).foldl (fun t j => t.sagEnterOne (j + 1) src reading) s

/-- The actions of a stage undone (R660). -/
def State.sagUndo (s : State) (k : Nat) : State :=
  match k with
  | 5 => let s1 := s.setFb R.SAG_STS_S5DONE false
         { s1 with pwr := { s1.pwr with sagHeld := [] } }
  | 4 => (List.range 128).foldl (fun t p => t.setFb (R.PRT_LSTS_L0P p) false) ((List.range 32).foldl (fun t n => t.beginFull n) s)
  | _ => s

/-- A stage is left; its event names the source of the last entry, with a free reading if that is a rail. -/
def State.sagLeaveOne (s : State) (k : Nat) : State :=
  let src := s.fd R.SAG_STS_SRC
  let rd := if src < 4 then (Config.freeWord s.fv).toNat % 65536 else 0
  (((s.setFd R.SAG_STS_STAGE (k - 1)).sagEvent k false src rd).bumpFv).sagUndo k

/-- Stages from the present one down to `k` are left (R665, R666): none while FORCE or a reference loss holds one of them, or before
S5DONE. -/
def State.sagExit (s : State) (k : Nat) : State :=
  let st := s.sagStage
  if k = 0 ∨ st < k ∨ st = 6 ∨ k ≤ s.fd R.SAG_CFG_FORCE ∨ s.pwr.refLoss ∨ (st = 5 ∧ !s.fb R.SAG_STS_S5DONE) then s
  else
    let s1 := ((List.range (st - k + 1)).map fun i => st - i).foldl (fun t j => t.sagLeaveOne j) s
    if k ≤ 4 then s1.setFb R.SAG_STS_WARN false else s1

/-- The stage-`k` threshold of a rail in mV, halves rounded up (R658): of the fused target of VDD_CORE, 900 mV for VDDA_SD, 1,200 mV for
VDDH_SD. -/
def State.sagLevel (s : State) (r k : Nat) : Nat :=
  let target := match r with | 0 => Config.sagVt.toNat | 1 => 900 | _ => 1200
  (target * wField (10 * (k - 1)) 10 (s.rg (R.SAG_THR r)) + 500) / 1000

/-- A rail or SAG_WARN_N meets the condition of stage `k` (R659); a reading that does not lie below the rail's threshold meets none. A
condition of stage 6 enters stage 5 first (R662). -/
def State.sagCondition (s : State) (k src reading : Nat) : State :=
  let s1 := if src = 4 then s.setFb R.SAG_STS_WARN true else s
  let ok : Bool :=
    if src < 3 then
      decide (1 ≤ k) && decide (k ≤ 6) && decide (reading < s.sagLevel src k) && (decide (5 ≤ k) || s.fb R.SAG_CFG_EN)
    else decide (src = 4) && (decide (k = 4) || decide (k = 5)) && s.fb R.SAG_CFG_WARNEN
  if ok && !s.fb R.PWR_STS_VIGIL then s1.sagEnter (min k 5) src (if src < 3 then reading else 0) else s1

/-- A write of SAG_CFG (R659, R666, R668): a FORCE of 6 or 7 leaves the field; one above the stage in force enters it. -/
def State.sagCfg (s : State) (v : Word) : State :=
  let f := wField 4 3 v
  let s1 := (((s.setFd R.SAG_CFG_EN (wField 0 1 v)).setFd R.SAG_CFG_WARNEN (wField 1 1 v)).setFd R.SAG_CFG_EVQ (wField 8 6 v)).setFd
    R.SAG_CFG_EVQV (wField 14 1 v)
  if 6 ≤ f then s1 else (s1.setFd R.SAG_CFG_FORCE f).sagEnter f 5 0

/-- The forced deadline of stage 5 (R661): every transit packet still held is discarded with an EVICT of kind 3. -/
def State.sagDiscard (s : State) : State :=
  if s.sagStage ≠ 5 then s
  else
    let s1 := s.waitUntil (s.pwr.s5Ps + 200 * usPs)
    let transit (k : Pkt) : Bool := match k.entry with
      | none => false
      | some i => match s1.entry? i with
        | none => false
        | some e => e.role = 2
    ((s1.pkts.filter transit).map fun k => k.id).foldl (fun t id =>
      let t1 := (List.range 32).foldl (fun u n => if (u.link n).txPkt = some id then u.chaffOut n else u) t
      match t1.pkt? id with
      | none => t1
      | some k => t1.evictPkt k 3) s1

/-! ### Reference clocks (R648–R650) -/

/-- Whether a REFCLK_SYS input is valid: A, or B. -/
def State.refOk (s : State) (b : Bool) : Bool := s.fb (if b then R.CLK_STS_REFBOK else R.CLK_STS_REFAOK)

def State.setRefOk (s : State) (b on : Bool) : State := s.setFb (if b then R.CLK_STS_REFBOK else R.CLK_STS_REFAOK) on

/-- The PLLs switch to an input on loss of the other: event, record, count. -/
def State.refSwitch (s : State) (b : Bool) : State :=
  let s1 := (s.setFb R.CLK_STS_REFSEL b).addFd R.CLK_SWCNT_REFSW 1
  (((s1.errorReport .clk 0 (Src.clk.freeQueue 2) 0 ((Config.freeWord s1.fv).toNat % 65536) (Config.freeWord (s1.fv + 1))).bumpFv).bumpFv).almSource .clk 0

/-- The selected input is lost. -/
def State.refLost (s : State) : State :=
  let b := s.fb R.CLK_STS_REFSEL
  if !s.refOk b then s
  else
    let s1 := s.setRefOk b false
    if s.refOk (!b) ∧ s.fb R.CLK_CTL_AUTO then s1.refSwitch (!b)
    else
      let s2 := s1.setFb R.CLK_STS_HOLD true
      if s.refOk (!b) then s2 else { s2 with pwr := { s2.pwr with refLossPs := s.now } }

/-- The PLLs return to the preferred input, valid for 10 ms. -/
def State.refRevert (s : State) : State :=
  let b := s.fb R.CLK_CTL_PREF
  if !s.fb R.CLK_CTL_REVERT ∨ s.fb R.CLK_STS_REFSEL = b ∨ !s.refOk b then s
  else
    let s1 := s.waitUntil (s.pwr.refSincePs.get 0 (if b then 1 else 0) + 10 * msPs)
    ((s1.setFb R.CLK_STS_REFSEL b).setFb R.CLK_STS_HOLD false).addFd R.CLK_SWCNT_REFSW 1

/-- An input becomes valid: it ends a holdover of the PLLs if they use it, or may switch to it. -/
def State.refValid (s : State) (b : Bool) : State :=
  if s.refOk b then s
  else
    let s1 := s.setRefOk b true
    let s2 := { s1 with pwr := { s1.pwr with refSincePs := s1.pwr.refSincePs.set 0 (if b then 1 else 0) s.now, refLoss := false } }
    if !s.fb R.CLK_STS_HOLD then s2
    else if s.fb R.CLK_STS_REFSEL = b then s2.setFb R.CLK_STS_HOLD false
    else if s.fb R.CLK_CTL_AUTO then (s2.setFb R.CLK_STS_HOLD false).refSwitch b
    else s2

/-- 100 µs without a valid input: stage 5, source 6. -/
def State.holdoverEnd (s : State) : State :=
  if s.refOk false ∨ s.refOk true ∨ !s.fb R.CLK_STS_HOLD ∨ s.fb R.PWR_STS_VIGIL then s
  else
    let s1 := s.waitUntil (s.pwr.refLossPs + 100 * usPs)
    ({ s1 with pwr := { s1.pwr with refLoss := true } }).sagEnter 5 6 0

/-! ### Rows -/

/-- R644: a write of PWR_CTL. -/
def execPwrCtlWrite (w : Writer) (v : Word) (s : State) : Host.Outcome State Fault Refusal :=
  .next (s.regCommand w R.PWR_CTL v fun s => s.pwrWrite v)

/-- R648: the selected reference is lost. -/
def execRefclkLoss (s : State) : Host.Outcome State Fault Refusal := .next s.refLost

/-- R648: the PLLs return to the preferred input. -/
def execRefclkRevert (s : State) : Host.Outcome State Fault Refusal := .next s.refRevert

/-- R649: the reference loss reaches 100 µs. -/
def execRefclkHoldoverExpiry (s : State) : Host.Outcome State Fault Refusal := .next s.holdoverEnd.settle

/-- R649: an input becomes valid. -/
def execRefclkInputValid (inputB : Bool) (s : State) : Host.Outcome State Fault Refusal := .next (s.refValid inputB)

/-- R650: XTAL_AO fails. -/
def execXtalAoFail (s : State) : Host.Outcome State Fault Refusal :=
  .next (if s.fb R.CLK_STS_AOXT then (s.setFb R.CLK_STS_AOXT false).almSource .clk 1 else s)

/-- R660: the condition of a sag stage is met. -/
def execSagStageEntry (k : Fin 7) (src : Fin 16) (reading : BitVec 16) (s : State) : Host.Outcome State Fault Refusal :=
  .next (s.sagCondition k.val src.val reading.toNat).settle

/-- R665: the conditions of a stage are clear. -/
def execSagStageExit (k : Fin 7) (s : State) : Host.Outcome State Fault Refusal := .next (s.sagExit k.val).settle

/-- R659: a write of SAG_CFG. -/
def execSagForceWrite (w : Writer) (v : Word) (s : State) : Host.Outcome State Fault Refusal :=
  .next (s.regCommand w R.SAG_CFG v fun s => s.sagCfg v).settle

/-- R668: CLRMAX is written. -/
def execSagClrmax (w : Writer) (s : State) : Host.Outcome State Fault Refusal :=
  .next (s.regCommand w R.SAG_STS 0x40 fun s => s.setFd R.SAG_STS_MAX s.sagStage)

/-- R661: the forced deadline of stage 5. -/
def execSagForcedDeadline (s : State) : Host.Outcome State Fault Refusal := .next s.sagDiscard.settle

end Sys2Proof.Machine
end

