-- ==== Sys2Proof/Machine/SchedRows.lean ====
section
/-! DEFINITION. Machine/SchedRows.lean: the commands of scheduling, shaping and policing (08_egress_scheduling.md), of the shared buffer
(R300–R304) and of the Gleaner (R312–R315). -/

namespace Sys2Proof.Machine

/-! ### Configuration (R321, R322, R343, R346, R352, R755) -/

/-- Packets queued in a queue context. -/
def State.qPkts (s : State) (q : Nat) : Nat := (s.at (.queue q)).length

/-- Enabled queue contexts of a tenant. -/
def State.qctxUsed (s : State) (t : Nat) : Nat :=
  (s.regs.filter fun e => 0x1400000 ≤ e.1 && e.1 < 0x1600000 && e.1 % 0x20 = 0 && wField 0 1 e.2 = 1 && wField 12 13 e.2 = t).length

/-- A write of SCH_Q[q]_CFG. A reserved CLASS leaves that field as it is. -/
def State.schQWrite (s : State) (q : Nat) (v : Word) : State :=
  let v := if 8 ≤ wField 8 4 v then setWField 8 4 v (s.qClass q) else v
  let moved := wField 1 7 v ≠ s.qPort q || wField 8 4 v ≠ s.qClass q || wField 12 13 v ≠ s.qTenant q
  let en := s.fb (R.SCH_Q_CFG_EN q)
  if moved && (en || decide (0 < s.qPkts q)) then s.setFb R.SCH_STS_INUSE true
  else
    let t := wField 12 13 v
    let w := v &&& 0x0000FFFF01FFFFFF#64
    if wField 0 1 v = 1 ∧ !en ∧ (q = 0 ∨ s.quota t R.TBL_PG_CAP1_QCTX R.TNT_QLDG_QCTX ≤ s.qctxUsed t) then
      ((s.setRg (R.SCH_Q_CFG q) (setWField 0 1 w 0)).setFb R.SCH_STS_QREJ true).setFd R.SCH_STS_QREJQ q
    else s.setRg (R.SCH_Q_CFG q) w

/-- A write of SCH_PRT[p]_LEN. -/
def State.schLenSet (s : State) (p : Nat) (v : Word) : State :=
  let bad := if wField 0 1 v = 1 then decide (wField 32 8 v = 0) || decide (wField 40 10 v = 0) else decide (wField 16 16 v = 0)
  if bad then (s.setFb R.SCH_STS_LENREJ true).setFd R.SCH_STS_LENPORT p
  else s.setRg (R.SCH_PRT_LEN p) (v &&& 0x0003FFFFFFFFFF01#64)

/-- The calendar's word and windows taken into force. -/
def State.calLoad (s : State) (p : Nat) : State :=
  let w := s.rg (R.SCH_PRT_CAL p)
  let g := wField 1 6 w
  let n := s.fd (R.TBL_PG_CFG_SLOTS g)
  let s1 := { s with sch := { s.sch with
    calNow := s.sch.calNow.set 0 p w, slotNow := s.sch.slotNow.set 0 (p * 256 + 255) (BitVec.ofNat 64 n) } }
  (List.range 255).foldl (fun (t : State) j =>
    let w : Word := if j < n then s.rg (R.SCH_SLOT g j) &&& 0x9FFF#64 else 0
    { t with sch := { t.sch with slotNow := t.sch.slotNow.set 0 (p * 256 + j) w } }) s1

/-- Whether a calendar word may be enabled at a port (R343). -/
def State.calFits (s : State) (p : Nat) (v : Word) : Bool :=
  let g := wField 1 6 v
  let width := wField 8 12 v * 10
  let r := s.chargeRate p
  decide (s.charged p 4224 * r.2 ≤ width * 1000 * r.1) && decide (0 < r.1) && decide (s.fd (R.TBL_PG_CFG_SLOTS g) * width < wField 32 32 v) &&
  s.fb (R.TBL_PG_CFG_STRICT g)

/-- A write of SCH_PRT[p]_CAL: EN rising puts the calendar in force, EN falling ends it; other changes wait for the next period. -/
def State.calWrite (s : State) (p : Nat) (v : Word) : State :=
  let en := s.fb (R.SCH_PRT_CAL_EN p)
  let w := v &&& 0xFFFFFFFF000FFF7F#64
  if wField 0 1 v = 0 then
    let s1 := s.setRg (R.SCH_PRT_CAL p) w
    { s1 with sch := { s1.sch with calNow := s1.sch.calNow.set 0 p 0 } }
  else if en then s.setRg (R.SCH_PRT_CAL p) w
  else if s.calFits p v then (s.setRg (R.SCH_PRT_CAL p) w).calLoad p
  else ((s.setRg (R.SCH_PRT_CAL p) (setWField 0 1 w 0)).setFb R.SCH_STS_CALREJ true).setFd R.SCH_STS_CALPORT p

/-- A write of SHP[i]_CFG, held until the next tick; a read returns it. -/
def State.shpWrite (s : State) (i : Nat) (v : Word) : State :=
  let w := v &&& 0xFFFFFFFF01FFFFFF#64
  let s1 := s.setRg (R.SHP_CFG i) w
  { s1 with sch := { s1.sch with shpPend := s1.sch.shpPend.set none i (some w) } }

/-- A write of POL[i]_RATE or POL[i]_BURST, taken into force at the next tick. -/
def State.polWrite (s : State) (i : Nat) (burst : Bool) (v : Word) : State :=
  if burst then s.setRg (R.POL_BURST i) v else s.setRg (R.POL_RATE i) (v &&& 0x00FFFFFF01FFFFFF#64)

/-! ### Ticks (R345, R346, R352, R354) -/

/-- Shaper `i` at a tick. -/
def State.shpTick (s : State) (i : Nat) : State :=
  let old := s.sch.shpCfg.get 0 i
  let cfg := (s.sch.shpPend.get none i).getD old
  let on (w : Word) : Bool := wField 24 1 w = 1
  let depth : Int := ((let b := wField 32 32 cfg; if b = 0 then 4608 else b) * 256 : Nat)
  let t0 : Int := if on cfg && !on old then depth else s.sch.tokens.get 0 i
  let t1 : Int := if on cfg then min (t0 + (wField 0 24 cfg : Nat)) depth else t0
  { s with sch := { s.sch with
    shpPend := s.sch.shpPend.set none i none, shpCfg := s.sch.shpCfg.set 0 i cfg, tokens := s.sch.tokens.set 0 i t1 } }

/-- Policer `i` at a tick. -/
def State.polTick (s : State) (i : Nat) : State :=
  let rate := s.rg (R.POL_RATE i)
  let burst := s.rg (R.POL_BURST i)
  let on (w : Word) : Bool := wField 24 1 w = 1
  let cbs := wField 0 32 burst * 256
  let pbs := wField 32 32 burst * 256
  let rise := on rate && !on (s.polRate i)
  let c := if rise then cbs else s.sch.ctok.get 0 i
  let p := if rise then pbs else s.sch.ptok.get 0 i
  { s with sch := { s.sch with
    polCfg := (s.sch.polCfg.set 0 (2 * i) rate).set 0 (2 * i + 1) burst
    ctok := s.sch.ctok.set 0 i (if on rate then min (c + wField 0 24 rate) cbs else c)
    ptok := s.sch.ptok.set 0 i (if on rate then min (p + wField 32 24 rate) pbs else p) } }

/-- Shapers and policers that a tick can change. -/
def State.shpListed (s : State) : List Nat :=
  ((s.sch.shpPend.map fun e => e.1) ++ (s.sch.shpCfg.map fun e => e.1)).dedup
def State.polListed (s : State) : List Nat :=
  ((s.sch.polCfg.map fun (e : Nat × Word) => e.1 / 2) ++ (s.regs.filterMap fun (e : Nat × Word) =>
    if 0x1680000 ≤ e.1 ∧ e.1 < 0x1700000 ∧ (e.1 - 0x1680000) % 0x20 < 0x10 then some ((e.1 - 0x1680000) / 0x20) else none)).dedup

/-- Time passes to the next fabric time that is a multiple of `n` ns: now, when it is one and `again` is not set. -/
def State.toMultiple (s : State) (n : Nat) (again : Bool) : State :=
  let r := s.time.toNat % n
  if r = 0 ∧ !again then s else s.waitUntil ((s.now / 1000 + (n - r)) * 1000)

/-- The tick at a multiple of 128 ns. -/
def State.tick (s : State) : State :=
  let s1 := s.toMultiple 128 (decide (s.sch.lastTick = s.time.toNat / 128 + 1))
  let s2 := { s1 with sch := { s1.sch with lastTick := s1.time.toNat / 128 + 1 } }
  s2.polListed.foldl (fun t i => t.polTick i) (s2.shpListed.foldl (fun t i => t.shpTick i) s2)

/-! ### The shared buffer (R300–R304) -/

/-- UNDR runs out in a cut-through (R300–R302): the packet is ended with CHAFF; a packet in transit is evicted, one of this node's edge is
replayed from its held cells. -/
def State.underrun (s : State) (p : Nat) : State :=
  match (s.link (octetOf p)).txPkt with
  | none => s
  | some id => match s.pkt? id with
    | none => s
    | some k =>
      if k.complete then s
      else
        let s1 := (s.waitUntil (k.sentPs + s.fd R.BUF_CFG_UNDR * 10 * nsPs)).chaffOut (octetOf p)
        if k.native then s1.evictPkt k 6
        else match s1.pkt? id with
          | none => s1
          | some k1 => s1.replayPkt k1 true

/-- An uncorrectable error in a cell of a packet (R301, R302, R304). -/
def State.cellError (s : State) (id : Nat) : State :=
  match s.pkt? id with
  | none => s
  | some k =>
    let e := match k.txPort with
      | some p => p
      | none => s.qPort k.qctx
    let cell := k.cellIx.getD (Config.freeChoice s.fv % k.cellIx.length) 0
    let s1 := (((s.setFb R.BUF_STS_ECCU true).bufReport e 4
      (BitVec.ofNat 64 (cell + e * 2 ^ 32))).almTrigger 1 (s.alm.seqNext % 2 ^ 32)).bumpFv
    let s2 := match k.txPort with
      | some p => if (s1.link (octetOf p)).txPkt = some id then s1.chaffOut (octetOf p) else s1
      | none => s1
    let copy : Bool := match k.origin with | .mirror _ => true | _ => false
    if k.native then s2.evictPkt k 6
    else if k.cls = 15 ∨ copy then s2.dropPkt id
    else match k.entry with
      | some _ => s2.failPktItem k 0x10
      | none => if k.sctx.isSome then s2.skipCopy k else s2.discard k

/-! ### The Gleaner (R311–R315) -/

/-- The ring's size in records; a LOGREC outside its range counts as the nearest limit. -/
def State.glnSize (s : State) : Nat :=
  2 ^ min (if s.fb R.GLN_CFG_HOST then 24 else 17) (max 10 (s.fd R.GLN_CFG_LOGREC))

/-- A write of GLN_CFG (R312): HOST and LOGREC keep their values while EN is 1; EN written 1 zeroes PROD and CONS. -/
def State.glnCfgSet (s : State) (v : Word) : State :=
  let w := v &&& 0x00000000000F1F07#64
  let w := if s.fb R.GLN_CFG_EN then setWField 8 5 (setWField 1 1 w (s.fd R.GLN_CFG_HOST)) (s.fd R.GLN_CFG_LOGREC) else w
  let s1 := s.setRg R.GLN_CFG w
  if wField 0 1 v = 1 then (s1.setFd R.GLN_PROD_PROD 0).setFd R.GLN_CONS_CONS 0 else s1

/-- The address in host memory of a host ring's next record (R190, R311): the fabric address through a window of tenant 0 that permits DMA and
writes and that reaches the host of the manager function's upstream port (log entry 103). -/
def State.glnTarget (s : State) : Option Nat :=
  let a := s.fd R.GLN_HBASE_BASE * 4096 + 64 * (s.fd R.GLN_PROD_PROD % s.glnSize)
  let v := s.tntVer 0
  match s.winHit 0 v a with
  | none => none
  | some w =>
    let f := s.winFid w v a
    if s.ownAllowed 0 a true ∧ s.localFid f ∧ s.fd (R.FIDT_DEST_LPORT f s.rver) = s.fd R.FFN_CFG_MGRPORT then some (s.winTarget w v a)
    else none

/-- Whether the ring has a place for a record: it is enabled, not full under STOPFULL, and a host ring's record reaches its host by a
manager function that may issue it (R311, R314, R561). -/
def State.glnRoom (s : State) : Bool :=
  let used := (s.fd R.GLN_PROD_PROD + 2 ^ 32 - s.fd R.GLN_CONS_CONS) % 2 ^ 32
  s.fb R.GLN_CFG_EN && !(s.fb R.GLN_CFG_STOPFULL && used = s.glnSize) &&
  (!s.fb R.GLN_CFG_HOST ||
    (s.glnTarget.isSome && (match s.mgrFn with | none => false | some f => s.fnIssues f)))

/-- A record written at PROD. -/
def State.glnWrite (s : State) (r : List Byte) : State :=
  let i := s.fd R.GLN_PROD_PROD % s.glnSize
  let s1 :=
    if s.fb R.GLN_CFG_HOST then s.hostWrite (4096 + s.fd R.FFN_CFG_MGRPORT) (BitVec.ofNat 64 (s.glnTarget.getD 0)) r
    else { s with gln := { s.gln with sram := s.gln.sram.set [] i r } }
  s1.addFd R.GLN_PROD_PROD 1

/-- A loss record (R313). -/
def State.lossRecord (s : State) : List Byte :=
  bytesLE 8 s.time.toNat ++ [0x0F] ++ List.replicate 7 0 ++ bytesLE 4 s.gln.lostRun ++ List.replicate 44 0

/-- The tenant and session of a capture record that a NOMIRROR now forbids (R307). -/
def State.captureBarred (s : State) (r : List Byte) : Option Nat :=
  let t := (ofBytesLE ((r.drop 12).take 2)) % 8192
  if r.getD 8 0 = 0x01 ∧ s.fb (R.TNT_CFG_NOMIRROR t (s.tntVer t)) then some ((r.getD 9 0).toNat % 16) else none

/-- The oldest waiting record is written, lost, or preceded by a loss record (R314). -/
def State.glnStep (s : State) : State :=
  match s.gln.pendingRecs with
  | [] => s
  | r :: rest =>
    let popped := { s with gln := { s.gln with pendingRecs := rest } }
    if !s.live 18 then popped
    else match s.captureBarred r with
      | some ses => popped.addFd (R.MIR_SES_SKIP_NOMIR ses) 1
      | none =>
        if !s.glnRoom then
          ({ popped with gln := { popped.gln with lostRun := popped.gln.lostRun + 1 } }).addFd R.GLN_LOST_LOST 1
        else if 0 < s.gln.lostRun then
          let s1 := s.glnWrite s.lossRecord
          { s1 with gln := { s1.gln with lostRun := 0 } }
        else popped.glnWrite r

/-! ### Scrubbing (R65, R542) -/

/-- An uncorrectable error that scrubbing or a write-back finds (R65): an error-report event of the memory's block, with a free code, and
a seal trigger (R696); the spec names no event queue for it (DESIGN CHOICE, log entry 93).  One in a ledger entry produces a record in tenant 0's log (R542), and the entry is retired. -/
def State.scrubError (s : State) (k : ScrubKind) (addr : Word) : State :=
  let report (src : Src) (unit : Nat) : State :=
    ((s.errorReport src unit (src.freeQueue 2) 0 ((Config.freeWord s.fv).toNat % 65536) addr).almTrigger 1 (s.alm.seqNext % 2 ^ 32)).bumpFv
  match k with
  | .clusterMemory c => report .ccl c.val
  | .tableMemory => report .tbl 0
  | .ledger =>
    let s1 := report .ldg 0
    match s1.entry? addr.toNat with
    | none => s1
    | some e =>
      let r : Rec := { time := s.time, addr := addr, rid := 0xFFFF, lendw := e.runCnt + 1, reason := 0x10, cls := 0, kind := 0, taddr := false,
                       remaining := 0, tenant := 0 }
      (s1.putRecord r true e.idx).voidEntry e

/-! ### Rows -/

/-- R330: port `p` selects its next packet. -/
def execSchedulerSelect (p : Port) (s : State) : Host.Outcome State Fault Refusal := .next (s.schedule p.val).settle

/-- R300: the cut-through of port `p` underruns. -/
def execCutThroughUnderrun (p : Port) (s : State) : Host.Outcome State Fault Refusal := .next (s.underrun p.val).settle

/-- R304: an uncorrectable error in a cell of a packet. -/
def execCellUncorrectableError (pkt : Nat) (_place : CellErrorPlace) (s : State) : Host.Outcome State Fault Refusal :=
  .next (s.cellError pkt).settle

/-- R65: scrubbing finds an uncorrectable error. -/
def execMemoryScrubError (k : ScrubKind) (addr : Word) (s : State) : Host.Outcome State Fault Refusal := .next (s.scrubError k addr).settle

/-- R314: the Gleaner takes its next record. -/
def execGleanerRecordWrite (s : State) : Host.Outcome State Fault Refusal := .next s.glnStep

/-- R312: a write to GLN_CFG. -/
def execGlnCfgWrite (w : Writer) (v : Word) (s : State) : Host.Outcome State Fault Refusal :=
  .next (s.regCommand w R.GLN_CFG v fun s => s.glnCfgSet v)

/-- R321, R322: a write to SCH_Q[q]_CFG. -/
def execSchQCfgWrite (w : Writer) (q : BitVec 16) (v : Word) (s : State) : Host.Outcome State Fault Refusal :=
  .next (s.regCommand w (R.SCH_Q_CFG q.toNat) v fun s => s.schQWrite q.toNat v)

/-- R755: a write to SCH_PRT[p]_LEN. -/
def execSchLenWrite (w : Writer) (p : Port) (v : Word) (s : State) : Host.Outcome State Fault Refusal :=
  .next (s.regCommand w (R.SCH_PRT_LEN p.val) v fun s => s.schLenSet p.val v)

/-- R343: a write to SCH_PRT[p]_CAL. -/
def execSchCalEnable (w : Writer) (p : Port) (v : Word) (s : State) : Host.Outcome State Fault Refusal :=
  .next (s.regCommand w (R.SCH_PRT_CAL p.val) v fun s => s.calWrite p.val v)

/-- R346: a write to SHP[i]_CFG. -/
def execShpCfgWrite (w : Writer) (i : Fin 16384) (v : Word) (s : State) : Host.Outcome State Fault Refusal :=
  .next (s.regCommand w (R.SHP_CFG i.val) v fun s => s.shpWrite i.val v)

/-- R352: a write to POL[i]_RATE or POL[i]_BURST. -/
def execPolCfgWrite (w : Writer) (i : Fin 16384) (burst : Bool) (v : Word) (s : State) : Host.Outcome State Fault Refusal :=
  .next (s.regCommand w (if burst then R.POL_BURST i.val else R.POL_RATE i.val) v fun s => s.polWrite i.val burst v)

/-- R345: the tick of shapers and policers. -/
def execRefillTick (s : State) : Host.Outcome State Fault Refusal := .next s.tick

/-- R335: a calendar period begins at port `p`. -/
def execCalendarPeriodStart (p : Port) (s : State) : Host.Outcome State Fault Refusal :=
  .next (if wField 0 1 (s.calWord p.val) = 0 then s
    else (s.toMultiple (wField 32 32 (s.calWord p.val)) false).calLoad p.val)

end Sys2Proof.Machine
end

