-- ==== Sys2Proof/Machine/TableRows.lean ====
section
/-! DEFINITION. Machine/TableRows.lean: the commands of the commit engine (05_tenants_windows_and_routing.md): commits, synchronisations,
the heartbeat and the fall-back. -/

namespace Sys2Proof.Machine

/-- R211, R213: TBL_COMMIT for a tenant. -/
def execTblCommit (w : Writer) (t : TenantId) (s : State) : Host.Outcome State Fault Refusal :=
  .next (s.regCommand w R.TBL_COMMIT (BitVec.ofNat 64 t.val) fun s => (s.tblCommitTenant t false).settle)

/-- R213, R218: TBL_COMMIT with REVOKE. -/
def execTblCommitRevoke (w : Writer) (t : TenantId) (s : State) : Host.Outcome State Fault Refusal :=
  .next (s.regCommand w R.TBL_COMMIT (BitVec.ofNat 64 (t.val + 2 ^ 13)) fun s => (s.tblCommitTenant t true).settle)

/-- R213, R750: TBL_COMMIT with ROUTE. -/
def execTblCommitRoute (w : Writer) (t : TenantId) (revoke : Bool) (s : State) : Host.Outcome State Fault Refusal :=
  .next (s.regCommand w R.TBL_COMMIT (BitVec.ofNat 64 (t.val + 2 ^ 14 + (if revoke then 2 ^ 13 else 0))) fun s =>
    (s.tblCommitRouting t revoke).settle)

/-- R213: the running commit ends. -/
def execTblCommitComplete (s : State) : Host.Outcome State Fault Refusal := .next s.tblFinish.settle

/-- R220: TBL_SYNC for a tenant. -/
def execTblSync (w : Writer) (t : TenantId) (s : State) : Host.Outcome State Fault Refusal :=
  .next (s.regCommand w R.TBL_SYNC (BitVec.ofNat 64 t.val) fun s => (s.tblSyncTenant t).settle)

/-- R220, R750: TBL_SYNC with ROUTE. -/
def execTblSyncRoute (w : Writer) (t : TenantId) (s : State) : Host.Outcome State Fault Refusal :=
  .next (s.regCommand w R.TBL_SYNC (BitVec.ofNat 64 (t.val + 2 ^ 13)) fun s => (s.tblSyncRouting t).settle)

/-- R220: the running synchronisation ends. -/
def execTblSyncComplete (s : State) : Host.Outcome State Fault Refusal := .next s.tblSynced.settle

/-- R171: a write of TBL_HB_KICK. -/
def execTblHbKick (w : Writer) (s : State) : Host.Outcome State Fault Refusal :=
  .next (s.regCommand w R.TBL_HB_KICK 0 fun s => s.hbKick w)

/-- R171, R172: no kick within PERIOD. -/
def execHeartbeatMiss (s : State) : Host.Outcome State Fault Refusal := .next (if s.live 19 then s.hbMiss else s)

/-- R171: TBL_FB.ENTER. -/
def execTblFbEnter (w : Writer) (s : State) : Host.Outcome State Fault Refusal :=
  .next (s.regCommand w R.TBL_FB 2 fun s => s.fbWrite true false)

/-- R173: TBL_FB.EXIT. -/
def execTblFbExit (w : Writer) (s : State) : Host.Outcome State Fault Refusal :=
  .next (s.regCommand w R.TBL_FB 4 fun s => s.fbWrite false true)

end Sys2Proof.Machine
end

