-- ==== Sys2Proof/Machine/RegAccess.lean ====
section
/-! DEFINITION. Machine/RegAccess.lean: what a read of the register space returns and what a write does (R720–R724), for every register
of the spec's tables and for its apertures. A write without an effect of its own applies the fields of R722; one with an effect
calls the operation that the command of that effect calls. -/

namespace Sys2Proof.Machine

/-! ### The Almanac as bytes (R692, R700) -/

/-- The 32 bytes of a record. -/
def AlmRec.bytes (r : AlmRec) : List Byte :=
  bytesLE 8 r.time.toNat ++ bytesLE 1 r.src ++ bytesLE 1 r.flags ++ bytesLE 2 r.code ++ bytesLE 4 r.seq ++ bytesLE 8 r.p0.toNat ++
    bytesLE 8 r.p1.toNat

/-- Word `k` of a snapshot entry of a seal: the offset, with bit 63 set when it is not captured, and the value. -/
def snapWord (e : Nat × Nat × Option Word) (k : Nat) : Nat :=
  match e.2.2 with
  | none => if k = 0 then 2 ^ 63 + e.2.1 else 0
  | some w => if k = 0 then e.2.1 else w.toNat

/-- Byte `o` of a seal's records and snapshot (slot offsets 0x1000 to 0xC_0FFF). -/
def Seal.bodyByte (x : Seal) (o : Nat) : Byte :=
  if o < 0x81000 then
    match x.recs[(o - 0x1000) / 32]? with
    | none => 0
    | some r => r.bytes.getD ((o - 0x1000) % 32) 0
  else
    let i := (o - 0x81000) / 16
    match x.snap.find? fun e => e.1 = i with
    | none => if (o - 0x81000) % 16 = 7 then 0x80 else 0
    | some e => BitVec.ofNat 8 (natField (8 * (o % 8)) 8 (snapWord e ((o - 0x81000) % 16 / 8)))

/-- CRC-32C of bytes. -/
def crc32cOf (bs : List Byte) : Nat := Nat.xor (crcReflected 0x82F63B78 0xFFFFFFFF bs) 0xFFFFFFFF

/-- The header of a seal up to its own CRC, in logical slot `n` (R700). -/
def Seal.header (x : Seal) (n : Nat) : List Byte :=
  let magic := (("ALMSEAL1".toList).map fun c => BitVec.ofNat 8 c.toNat)
  magic ++ bytesLE 4 1 ++ bytesLE 4 x.written ++ bytesLE 8 x.sealSeq ++ bytesLE 1 x.trig.code ++ bytesLE 1 n ++ bytesLE 2 0 ++
    bytesLE 4 x.trig.recSeq ++ bytesLE 8 x.trig.timeNs.toNat ++ bytesLE 8 x.beganNs.toNat ++
    bytesLE 4 (match x.recs.head? with | none => 0 | some r => r.seq) ++ bytesLE 4 x.recs.length ++ bytesLE 4 x.snap.length ++
    bytesLE 4 0 ++ bytesLE 8 (regReset R.GLB_ID).toNat ++ bytesLE 8 x.runSeq.toNat ++
    bytesLE 4 (crc32cOf ((List.range 0xC0000).map fun i => x.bodyByte (0x1000 + i)))

/-- Byte `o` of a sealed slot. -/
def Seal.byteAt (x : Seal) (n o : Nat) : Byte :=
  if o < 0x54 then (x.header n).getD o 0
  else if o < 0x58 then (bytesLE 4 (crc32cOf (x.header n))).getD (o - 0x54) 0
  else if o < 0x1000 then 0
  else if o < 0xC1000 then x.bodyByte o
  else 0

/-- Byte `o` of what ALM_APR shows: the ring, record n at place n mod 65,536, or a slot; an empty slot reads as zeros. -/
def State.almByte (s : State) (o : Nat) : Byte :=
  let a := s.fd R.ALM_APR_PAGE * 0x20000 + o
  if s.fb R.ALM_APR_SRC then
    if 0x100000 ≤ a then 0 else
    match s.alm.slots.get none (s.fd R.ALM_APR_SLOT) with
    | none => 0
    | some x => x.byteAt (s.fd R.ALM_APR_SLOT) a
  else
    match s.alm.ring.find? fun r => r.seq % 65536 = a / 32 with
    | none => 0
    | some r => r.bytes.getD (a % 32) 0

/-! ### Function pages (R551, R556) -/

/-- The register that offset `o` of function `f`'s page names. -/
def State.pageAddr (s : State) (f o : Nat) : Option Nat :=
  let pf : Bool := decide (4096 ≤ f)
  let base := R.FN_ID f
  let ch (j : Nat) : Option Nat :=
    if j < s.fd (R.FFN_FN_CFG_CHCNT f) then
      let g := s.fd (R.FFN_FN_CFG_CHBASE f) + j
      some (R.DMA_CH_SRC (g / 256) (g % 256) + o % 64)
    else none
  if (s.fnPort f).isNone ∨ 4224 ≤ f then none
  else if o < 0x400 then some (base + o)
  else if o < 0x800 then
    if pf ∧ (o - 0x400) / 64 < s.fd (R.FFN_PF_CFG_DLCNT (f - 4096)) then
      some (R.DL_CTL (s.fd (R.FFN_PF_CFG_DLBASE (f - 4096)) + (o - 0x400) / 64) + o % 64)
    else none
  else if 0x1000 ≤ o ∧ o < (if pf then 0x5000 else 0x2000) then ch ((o - 0x1000) / 64)
  else if pf then (if 0xE000 ≤ o ∧ o < 0xE400 ∨ o = 0xF000 then some (base + o) else none)
  else if 0x3000 ≤ o ∧ o < 0x3100 then some (R.FN_MSIX f 0 + (o - 0x3000))
  else if o = 0x3800 then some (R.FN_PBA f)
  else none

/-- FN_ID. -/
def State.fnIdWord (s : State) (f : Nat) : Nat :=
  f + s.fnTenant f * 2 ^ 16 + s.fd (R.FFN_FN_CFG_CHBASE f) * 2 ^ 32 + s.fd (R.FFN_FN_CFG_CHCNT f) * 2 ^ 48 +
    (if 4096 ≤ f then 2 ^ 57 else 0) + (if s.mgrFn = some f then 2 ^ 58 else 0)

/-- FN_STS. -/
def State.fnStsWord (s : State) (f : Nat) : Nat :=
  s.fnLdg f % 2 ^ 18 + s.fnDma f % 2 ^ 9 * 2 ^ 18 + s.fd (R.FFN_FN_CFG_HOLD f) * 2 ^ 27 + (if (s.fn f).rst.isSome then 2 ^ 28 else 0)

/-- FFN_FN[f]_MAP. -/
def State.fnMapWord (s : State) (f : Nat) : Nat :=
  match s.fnPort f with
  | none => 0
  | some p => 1 + 2 * p + 2 ^ 16 * (s.fnRid f % 65536)

/-! ### Reads -/

/-- Bits that report what a part measures of itself and no command tells; they read as free values (log entry 7). -/
def measuredBits : RegClass → Nat
  | .FEC_CW => 0xFFFFFFFFFFFFFFFF
  | .FEC_SYM => 0xFFFFFFFF
  | .LN_EQ => 0x000007FF0FFF7F00
  | .LN_TST => 0xFFFFFFFF00000000
  | .SAG_MEAS => 0xFFFFFFFFFFFFFFFF
  | _ => 0

/-- Whether counter `k` counts elapsed time, cycles, or corrected errors, which no command tells (log entry 7). -/
def elapsedCounter (k : Nat) : Bool :=
  if k < 0x800 then
    if k < 1024 then decide (k % 32 = 11) || decide (k % 32 = 12) || (decide (16 ≤ k % 32) && decide (k % 32 ≤ 26))
    else if k < 1280 then decide (k % 16 = 5)
    else if k < 1472 then decide (k % 8 = 0) || decide (k % 8 = 2) || decide (k % 8 = 7)
    else decide (k = 1539) || decide (k = 1548) || (decide (1600 ≤ k) && decide (k < 1664))
  else if k < 0x4000 then
    let j := (k - 0x800) % 0x60
    (decide (66 ≤ j) && decide (j ≤ 70)) || (decide (82 ≤ j) && decide (j ≤ 84)) || decide (j = 58) || decide (j = 59)
  else decide (k % 16 = 8) || decide (k % 16 = 9)

/-- Whether a counter has the number `k` (R674). -/
def counterOk (k : Nat) : Bool := decide (k < 0x800 + 0x60 * 128) || (decide (0x4000 ≤ k) && decide (k < 0x4000 + 16 * 8192))

/-- The value a read of counter `k` returns, live or of the snapshot. -/
def State.counterWord (s : State) (m : SMap Word) (k : Nat) : Word :=
  if !counterOk k then 0 else if elapsedCounter k then Config.freeWord s.fv else m.get 0 k

/-- A bit of a status word for each of the 6 cores of a cluster. -/
def State.coreBits (s : State) (c : Fin 4) (f : Core → Bool) : Nat :=
  ((List.finRange 6).map fun k => if f (s.core (⟨c, k⟩ : CoreId).num) then 2 ^ k.val else 0).sum

/-- The occupied trap slots of an octet from slot `lo` on. -/
def State.trapBits (s : State) (n lo : Nat) : Nat :=
  ((List.range 32).map fun j => if (s.trapped n (lo + j)).isSome then 2 ^ j else 0).sum

/-- The items of the drain that TBL_DRAIN selects. -/
def State.drainSel (s : State) : Nat :=
  s.drainCount (s.tbl.drain.get [] (drainKey (if s.fb R.TBL_DRAIN_ROUTE then none else some (s.fd R.TBL_DRAIN_TENANT))))

/-- Ledger tags in use and quarantined at a port (R538). -/
def State.tagSts (s : State) (p : Nat) : Nat :=
  (s.ldg.entries.filter fun e => e.tagPort = some p).length % 65536 +
    2 ^ 16 * ((s.ldg.quar.filter fun q => decide (q.port = p) && (match q.key with | .index _ => true | _ => false)).length % 65536)

/-- Use marks of the group that HPL_UMSEL selects (R247). -/
def State.markWord (s : State) : Nat :=
  let t := s.fd R.HPL_UMSEL_TABLE
  let g := s.fd R.HPL_UMSEL_GROUP
  ((List.range 64).map fun i => if s.hpl.marks.get false (markKey t (64 * g + i)) then 2 ^ i else 0).sum

/-- What a status register made from the rest of the state reads as; none for one that is stored. -/
def State.computed (s : State) (w : Writer) (h : RegHit) : Option Word :=
  let st (off : Nat) : Nat := (s.rg off).toNat
  let put (lo width v : Nat) (x : Nat) : Nat := setNatField lo width x v
  let i := h.i
  let j := h.j
  let val : Option Nat := match h.row.cls with
    | .CCL_STS =>
      let c := Fin.ofNat 4 i
      some (s.coreBits c (fun k => k.running && k.waitUntil.isNone) + 2 ^ 8 * s.coreBits c (fun k => k.waitUntil.isSome) +
        2 ^ 16 * s.coreBits c (fun k => k.faulted) + (if s.coreBits c (fun k => k.fallow) = 0 then 0 else 2 ^ 24))
    | .EVT_Q_STS => some (put 0 11 (s.evq i).length (put 12 1 (if s.evqActive i then 1 else 0) (put 16 16
        ((s.evt.held.filter fun e => e.queue = i).map fun e => e.src).dedup.length (st (R.EVT_Q_STS i)))))
    | .EVT_SELF_DET => match w with
      | .core c => some (match (s.ctx c).handler with | none => 0 | some x => x.event.detail.toNat)
      | _ => some 0
    | .TBL_DRAIN => some (put 14 1 (if s.drainSel = 0 then 1 else 0) (put 32 19 s.drainSel (st R.TBL_DRAIN)))
    | .PRT_TAGSTS => some (s.tagSts i)
    | .HPL_PSTS => some (put 32 16 (min (s.progDrain i) 65535) (st (R.HPL_PSTS i)))
    | .HPL_TSTS => some (put 0 32 (s.trapBits i 0) (st (R.HPL_TSTS i)))
    | .HPL_TSTS2 => some (s.trapBits i 32)
    | .HPL_TMETA => some (match s.trapped i j with
      | none => 0
      | some k => match h.k with
        | 0 => k.m0.toNat | 1 => k.m1.toNat | 2 => k.m3.toNat
        | _ => k.m2.toNat)
    | .HPL_UMDATA => some s.markWord
    | .ALM_FWREC => some 0
    | .BUF_STS => some (put 0 20 s.sharedFree (put 20 20 s.sharedSize (st R.BUF_STS)))
    | .BUF_RSV => some (s.portRsv % 2 ^ 20 + 2 ^ 20 * (s.tntRsvTotal % 2 ^ 20))
    | .SCH_Q_STS => some (s.qStatus i).toNat
    | .SCH_PRT_CSTS => some ((s.at (.classC i)).length % 65536)
    | .SHP_TOK => some (BitVec.ofInt 64 (s.sch.tokens.get 0 i)).toNat
    | .SHP_STS => some (if (s.sch.shpPend.get none i).isSome then 1 else 0)
    | .LNK_STS =>
      let u := (s.link i).unacked.length
      some (put 16 12 u (put 32 13 (u - s.imageStore i) (st (R.LNK_STS i))))
    | .SES_ACTIVE => some s.sesActive
    | .LDG_STS => some (put 0 19 s.ldgFree (put 20 19 (s.ldgUsed fun e => e.state = 2) (put 39 1 (if 4096 ≤ s.ldg.overflow.length then 1 else 0)
        (put 48 13 s.ldg.overflow.length (st R.LDG_STS)))))
    | .FN_ID => some (s.fnIdWord i)
    | .FN_STS => some (s.fnStsWord i)
    | .FFN_FN_CFG => some (s.fnCfgWord i).toNat
    | .FFN_FN_STS => some (s.fnStsWord i + (if s.quiet i then 2 ^ 29 else 0))
    | .FFN_FN_MAP => some (s.fnMapWord i)
    | .CLK_TWIN => some ((List.range 11).map fun k => if s.spareInUse (15 + k) then 2 ^ k else 0).sum
    | .SAG_VT => some Config.sagVt.toNat
    | .FAL_SPARE => some ((if s.spareAvail i then 1 else 0) + (if s.spareInUse i then 2 else 0) + 4 * s.fd (R.FAL_SPARE_FAILED i) +
        2 ^ 8 * spareKind i + 2 ^ 16 * (s.svc.assigned.get 0 i - 1))
    | .GLB_TIME => some s.time.toNat
    | .GLB_DSN => some (Config.dsnUnit.toNat + 2 ^ 48 * 0x9600)
    | .SEC_BOOT_STS => some (put 3 1 (if Config.ownerFused then 1 else 0) (put 16 6 Config.svnFused.toNat (st R.SEC_BOOT_STS)))
    | _ => none
  val.map fun v => BitVec.ofNat 64 v

/-- What a register of the map reads as. -/
def State.hitWord (s : State) (w : Writer) (h : RegHit) (off : Nat) : Word :=
  let v := match s.computed w h with | none => s.rg off | some v => v
  let m := BitVec.ofNat 64 (measuredBits h.row.cls)
  (v &&& ~~~m) ||| (Config.freeWord s.fv &&& m)

/-- The word of cluster memory that a Device address of R80 names. -/
def State.clusterWord (s : State) (a : Nat) : Word :=
  BitVec.ofNat 64 (ofBytesLE (s.cBytes (a / cmemSize) (a % cmemSize) 8))

/-- A word with its bytes in the opposite order. -/
def swapBytes (w : Word) : Word := BitVec.ofNat 64 (ofBytesBE (bytesLE 8 w.toNat))

/-- Eight bytes of a trap window (R257), in wire order at ascending addresses (log entry 94); an empty slot keeps what was last written
to it (log entry 40). -/
def State.windowWord (s : State) (a : Nat) : Word :=
  match s.trapped (a / 0x2000) (a % 0x2000 / 0x80) with
  | none => s.rg (0x680000 + a)
  | some k => swapBytes (k.h (a % 0x80 / 8))

/-- A read of 8 bytes at an aligned offset: the value, and the state after it (R720, R721). -/
def State.regLoad (s : State) (w : Writer) (off : Nat) : Word × State :=
  let s' := s.bumpFv
  let bad : Word × State := (0, s'.badAccess off)
  if s.inRecovery && !recoveryReads off then bad
  else if 0x3C0000 ≤ off ∧ off < 0x3D0000 then
    match s.pageAddr (s.fd R.FFN_APR_FN) (off - 0x3C0000) with
    | none => bad
    | some a => match findReg a with
      | none => bad
      | some h => (s.hitWord w h a, s')
  else if 0x680000 ≤ off ∧ off < 0x6C0000 then (s.windowWord (off - 0x680000), s')
  else if 0x6F0000 ≤ off ∧ off < 0x700000 then
    let a := s.fd R.HPL_TAPR_BASE * 0x10000 + (off - 0x6F0000)
    (if a < tmemSize then s.tWord a else 0, s')
  else if 0x1840000 ≤ off ∧ off < 0x1850000 ∧ s.spareInUse 12 then bad
  else if 0x1C00000 ≤ off ∧ off < 0x1D20000 then (s.counterWord s.pcn.counters ((off - 0x1C00000) / 8), s')
  else if 0x1D80000 ≤ off ∧ off < 0x1E00000 then
    (s.counterWord s.pcn.snapshot (s.fd R.PCN_SAPR_PAGE * 0x10000 + (off - 0x1D80000) / 8), s')
  else if 0x1E80000 ≤ off ∧ off < 0x1F00000 then
    let a := s.fd R.GLN_CFG_APR * 0x80000 + (off - 0x1E80000)
    (BitVec.ofNat 64 (ofBytesLE (((s.gln.sram.get [] (a / 64)).drop (a % 64)).take 8)), s')
  else if 0x1F90000 ≤ off ∧ off < 0x1FA0000 then (s.rg off, s')
  else if 0x1FA0000 ≤ off ∧ off < 0x1FC0000 then
    (BitVec.ofNat 64 (ofBytesLE ((List.range 8).map fun k => s.almByte (off - 0x1FA0000 + k))), s')
  else if 0x2000000 ≤ off ∧ off < 0x4000000 then (s.clusterWord (off - 0x2000000), s')
  else match findReg off with
    | none => bad
    | some h => (s.hitWord w h off, s')

/-! ### Writes -/

/-- The word left by a write under the access codes of R722: fields with RW take the value, W1C and W1S bits clear and set, and an RWL
bit once set stays. -/
def RegRow.apply (r : RegRow) (old v : Word) : Word :=
  let m (n : Nat) : Word := BitVec.ofNat 64 n
  ((((old &&& ~~~m r.rw) ||| (v &&& m r.rw)) &&& ~~~(v &&& m r.w1c)) ||| (v &&& m r.w1s)) ||| (v &&& m r.rwl)

/-- A write that only changes the register's fields; one of a table register follows R161. -/
def State.fieldWrite (s : State) (h : RegHit) (off : Nat) (v : Word) : State :=
  match tableView off with
  | some t => s.tblStore t (bytesLE 8 v.toNat)
  | none => s.setRg off (h.row.apply (s.rg off) v)

/-- The fields of a word of `n` fields of `width` bits, each raised to its minimum. -/
def raiseFields (width n : Nat) (least : Nat → Nat) (v : Word) : Word :=
  (List.range n).foldl (fun x k => setWField (width * k) width x (max (least k) (wField (width * k) width v))) v

/-- A reservation register of a port, writable only while its link is down (R283, R538). -/
def State.downWrite (s : State) (p off : Nat) (v : Word) : State :=
  if s.portUp p then s.setFb (R.PRT_LSTS_WERR p) true else s.setRg off v

/-- PRT[p]_LCTL (R465): TRAIN set trains the port, TRAIN cleared holds its link in Detect. -/
def State.lctlWrite (s : State) (p : Nat) (v : Word) : State :=
  let s1 := s.setRg (R.PRT_LCTL p) (v &&& 0x7FFF#64)
  if v.getLsbD 3 then s1.train p else ((s1.dlDown p false).untrain p).settle

/-- CCL[c]_CTL (R121): each changed enable bit, then each WRST bit. -/
def State.cclCtl (s : State) (c : Fin 4) (v : Word) : State :=
  let s1 := (s.setFd (R.CCL_CTL_FLTQ c) (wField 16 6 v)).setFd (R.CCL_CTL_FLTQV c) (wField 22 1 v)
  let s2 := (clusterCores c).foldl (fun t k => if v.getLsbD k.core.val then t.coreEnable k else t.coreDisable k) s1
  (clusterCores c).foldl (fun t k => if v.getLsbD (8 + k.core.val) then t.coreWrst k else t) s2

/-- CCL[c]_WDT (R147): the period starts when EN is first set and at each KICK. -/
def State.wdtWrite (s : State) (h : RegHit) (v : Word) : State :=
  let fresh := v.getLsbD 32 && !s.fb (R.CCL_WDT_EN h.i)
  let s1 := s.fieldWrite h (R.CCL_WDT h.i) v
  if fresh || v.getLsbD 33 then s1.wdtKick h.i else s1

/-- HPL_FENCE[i] (R255). -/
def State.fenceWrite (s : State) (i : Nat) (v : Word) : State :=
  (List.range 64).foldl (fun t j => t.setFence (64 * i + j) (v.getLsbD j)) s

/-- HPL_UMDATA (R247). -/
def State.markClear (s : State) (v : Word) : State :=
  let t := s.fd R.HPL_UMSEL_TABLE
  let g := s.fd R.HPL_UMSEL_GROUP
  (List.range 64).foldl (fun u i =>
    if v.getLsbD i then { u with hpl := { u.hpl with marks := u.hpl.marks.set false (markKey t (64 * g + i)) false } } else u) s

/-- HPL_HSEED (R248): only the first write. -/
def State.seedWrite (s : State) (v : Word) : State :=
  if s.hpl.seedLocked then s else { (s.setRg R.HPL_HSEED v) with hpl := { s.hpl with seedLocked := true } }

/-- A mailbox buffer that its sender may write while it is not BUSY (R144, R567). -/
def State.boxWrite (s : State) (busy ovw : Field) (off : Nat) (v : Word) : State :=
  if s.fb busy then s.setFb ovw true else s.setRg off v

/-- A register of a slot power channel that may be written only while EN = 0 (R617). -/
def State.spcWrite (s : State) (h : RegHit) (off : Nat) (v : Word) : State :=
  if s.fb (R.SPC_CTL_EN h.i) then s.setFb (R.SPC_STS_WERR h.i) true else s.fieldWrite h off v

/-- SPC[i]_TM (R617, R636). -/
def State.spcTm (s : State) (h : RegHit) (off : Nat) (v : Word) : State :=
  if s.fb (R.SPC_CTL_EN h.i) then s.setFb (R.SPC_STS_WERR h.i) true else (s.fieldWrite h off v).spcTmSet h.i

/-- SPC[i]_CTL (R617, R624, R628, R630, R635). -/
def State.spcCtl (s : State) (i : Nat) (v : Word) : State :=
  let s1 := (((s.setFd (R.SPC_CTL_VPOL i) (wField 1 1 v)).setFd (R.SPC_CTL_TMODE i) (wField 4 2 v)).setFd (R.SPC_CTL_EVQ i)
    (wField 6 6 v)).setFd (R.SPC_CTL_EVQV i) (wField 12 1 v)
  let s2 := if v.getLsbD 0 then s1.spcEn i else s1.spcDis i
  let s3 := if v.getLsbD 3 then s2.spcPerstf i else s2.setFb (R.SPC_CTL_PERSTF i) false
  if v.getLsbD 2 then s3.spcDclr i else s3

/-- SAG_THR (R659): thresholds out of order are discarded with WERR. -/
def State.sagThr (s : State) (off : Nat) (v : Word) : State :=
  if (List.range 5).any fun k => decide (wField (10 * k) 10 v < wField (10 * (k + 1)) 10 v) then s.setFb R.SAG_STS_WERR true
  else s.setRg off (v &&& 0x0FFFFFFFFFFFFFFF#64)

/-- TRC_CFG (R690): K and IK are clamped. -/
def State.trcCfg (s : State) (v : Word) : State :=
  let clamp (n : Nat) : Nat := min 24 (max 4 n)
  s.setRg R.TRC_CFG (setWField 9 5 (setWField 1 5 (v &&& 0x3FFFF#64) (clamp (wField 1 5 v))) (clamp (wField 9 5 v)))

/-- POL[i]_ACT (R352): a reserved code of an action leaves that field as it is. -/
def State.polAct (s : State) (i : Nat) (v : Word) : State :=
  let s1 := s.setFd (R.POL_ACT_RSN i) (wField 8 8 v)
  let s2 := if wField 0 2 v = 3 then s1 else s1.setFd (R.POL_ACT_YACT i) (wField 0 2 v)
  if wField 2 2 v = 3 then s2 else s2.setFd (R.POL_ACT_RACT i) (wField 2 2 v)

/-- PRT[p]_BUFDT (R283): a reserved code leaves its field as it is. -/
def State.bufdt (s : State) (p : Nat) (v : Word) : State :=
  (List.range 8).foldl (fun t k =>
    let a := wField (4 * k) 4 v
    if 12 ≤ a ∧ a ≤ 14 then t else t.setFd (R.PRT_BUFDT_ALPHA p k) a) s

/-- ALM_SLOT[i] (R699, R703). -/
def State.almSlot (s : State) (i : Nat) (v : Word) : State :=
  let s1 := if v.getLsbD 2 then (if s.fb (R.ALM_SLOT_LOCK i) then s else s.slotLock i) else s.setFb (R.ALM_SLOT_LOCK i) false
  if v.getLsbD 3 then s1.slotRelease i else s1

/-- A write of a register of the map. `fw` tells that it came through the function-page aperture. -/
def State.hitWrite (s : State) (w : Writer) (fw : Bool) (h : RegHit) (off : Nat) (v : Word) : State :=
  let i := h.i
  let j := h.j
  let fields := s.fieldWrite h off v
  match h.row.cls with
  | .CCL_CTL => s.cclCtl (Fin.ofNat 4 i) v
  | .CCL_WDT => s.wdtWrite h v
  | .EVT_Q_CFG => s.evtQCfg i v
  | .EVT_MBX_IN => s.boxWrite (R.EVT_MBX_STS_BUSY i) (R.EVT_MBX_STS_OVW i) off v
  | .EVT_MBX_DB => s.mbxDb i v
  | .EVT_MBX_RSP => s.mbxRsp i v
  | .TBL_COMMIT =>
    (if v.getLsbD 14 then s.tblCommitRouting (wField 0 13 v) (v.getLsbD 13) else s.tblCommitTenant (wField 0 13 v) (v.getLsbD 13)).settle
  | .TBL_SYNC => (if v.getLsbD 13 then s.tblSyncRouting (wField 0 13 v) else s.tblSyncTenant (wField 0 13 v)).settle
  | .TBL_HB => s.hbWrite v
  | .TBL_HB_KICK => s.hbKick w
  | .TBL_FB => s.fbWrite (v.getLsbD 1) (v.getLsbD 2)
  | .PRT_LCTL => s.lctlWrite i v
  | .PRT_RST => (s.slotWatch fun t => t.prtRst i v).settle
  | .PRT_CTX => (s.slotWatch fun t => t.prtCtx i v).settle
  | .PRT_BRG_TOF => s.setRg off (raiseFields 16 4 (fun k => if k = 3 then 4 else 17) v)
  | .PRT_BRG_FRF => s.setRg off (raiseFields 16 4 (fun k => if k = 3 then 4 else 18) v)
  | .PRT_BUFDT => s.bufdt i v
  | .PRT_NRSV => s.downWrite i off (setWField 48 8 (raiseFields 12 4 (fun _ => 18) (v &&& 0x00FFFFFFFFFFFFFF#64)) (max 4 (wField 48 8 v)))
  | .PRT_LDGRSV => s.downWrite i off (raiseFields 16 2 (fun _ => 1) (v &&& 0xFFFFFFFF#64))
  | .PRT_VDP_B0 => (s.slotWatch fun t => t.vdpB0 i j v).settle
  | .PRT_VDP_B1 => s.vdpB1 i j v
  | .PRT_VDL =>
    let s1 := (s.setFd (R.PRT_VDL_SPEED i j) (wField 0 4 v)).setFd (R.PRT_VDL_WIDTH i j) (wField 4 6 v)
    if v.getLsbD 16 then (s1.goneWrite i j).settle else s1
  | .HPL_CTXSEL => s.ctxselWrite i j (wField 0 4 v) (v.getLsbD 9)
  | .HPL_CTXCNT => if s.pairedOdd i then s else fields
  | .HPL_PCOMMIT => s.pcommitWrite i (wField 0 32 v)
  | .HPL_PSTS => if s.pairedOdd i then s else fields
  | .HPL_TSTS => if s.pairedOdd i then s else fields
  | .HPL_TVERD => s.tverdWrite i (verdictOf v).1 (verdictOf v).2
  | .HPL_PROG => s.progWrite i j h.k v
  | .HPL_HASHK => s.hashkWrite v
  | .HPL_HSEED => s.seedWrite v
  | .HPL_FTBL => s.ftblWrite (16 + i) v
  | .HPL_FENCE => (s.fenceWrite i v).settle
  | .HPL_UMDATA => s.markClear v
  | .GLN_CFG => s.glnCfgSet v
  | .GLN_HBASE => if s.fb R.GLN_CFG_EN then s else fields
  | .SCH_Q_CFG => s.schQWrite i v
  | .SCH_PRT_LEN => s.schLenSet i v
  | .SCH_PRT_CAL => s.calWrite i v
  | .SHP_CFG => s.shpWrite i v
  | .POL_RATE => s.polWrite i false v
  | .POL_BURST => s.polWrite i true v
  | .POL_ACT => s.polAct i v
  | .PHY_CTL => (s.phyCtlWrite i v).settle
  | .PHY_SUB => s.phySubWrite i v
  | .SES_CFG => (s.keepPast off).fieldWrite h off v
  | .LNK_CTL => (s.keepPast off).fieldWrite h off v
  | .OCT_BIF => if s.octetBusy i then s else (List.range 8).foldl (fun t k => t.train (8 * (i / 2) + k)) fields
  | .LN_TST => s.lnTstWrite i j v
  | .LDG_IDX => s.ldgCopy (wField 0 18 v)
  | .LDG_AERC => s.aercWrite v
  | .FN_LOG_BASE => if s.fb (R.FN_LOG_CFG_EN i) then s else fields
  | .FN_LOG_CFG => (s.logCfg i v).settle
  | .FN_MBX_IN => s.boxWrite (R.FN_MBX_STS_BUSY i) (R.FN_MBX_STS_OVW i) off v
  | .FN_MBX_OUT => if fw then s.setRg off v else s
  | .FN_MBX_DB => (s.fnDoorbell i (wField 0 6 v)).settle
  | .FN_MBX_RSP => if fw then (s.fnReply i (wField 0 6 v)).settle else s
  | .FN_MSIX => fields.msixFlush i
  | .FFN_CFG => (s.ffnCfg w v).settle
  | .FFN_PF_CFG => (s.ffnPfCfg i v).settle
  | .FFN_FN_CFG => (s.ffnFnCfg i v).settle
  | .DL_CTL => (s.dlCtl i v).settle
  | .DL_RBASE => if s.fb (R.DL_CTL_EN i) then s else fields
  | .DL_RCFG => if s.fb (R.DL_CTL_EN i) then s else fields
  | .DL_SYNC => (s.dlSyncStart i (wField 0 32 v)).settle
  | .DMA_CH_SRC => s.dmaChanWrite (256 * i + j) off v
  | .DMA_CH_DST => s.dmaChanWrite (256 * i + j) off v
  | .DMA_CH_CNT => s.dmaChanWrite (256 * i + j) off (v &&& 0xFFFFFFFF#64)
  | .DMA_CH_LIST => s.dmaChanWrite (256 * i + j) off (v &&& ~~~0x1F#64)
  | .DMA_CH_CTL => if i = 16 then s.setRg off (v &&& dmaCtlMask) else (s.dmaCtl (256 * i + j) v).settle
  | .SPC_CTL => s.spcCtl i v
  | .SPC_VTH => s.spcWrite h off v
  | .SPC_TMR0 => s.spcWrite h off v
  | .SPC_TMR1 => s.spcWrite h off v
  | .SPC_ILIM => s.spcWrite h off v
  | .SPC_TM => s.spcTm h off v
  | .PWR_CTL => s.pwrWrite v
  | .SAG_CFG => (s.sagCfg v).settle
  | .SAG_STS => if v.getLsbD 6 then fields.setFd R.SAG_STS_MAX s.sagStage else fields
  | .SAG_THR => s.sagThr off v
  | .PCN_SNAP => s.pcnSnap v
  | .TRC_CFG => s.trcCfg v
  | .TRC_SEED => s.trcSeed v
  | .ALM_CMD => if v.getLsbD 0 then s.almCmdSeal else s
  | .ALM_SLOT => s.almSlot i v
  | .ALM_FWREC => if j = 2 then s.fwRecord i v else s.setRg off v
  | .WEAR_IDX => s.wearCopy v
  | .WEAR_ACK => s.wearRearm (wField 0 8 v) (wField 8 16 v)
  | .FAL_CMD => s.falCmd v
  | .GLB_MODE => s.glbMode v
  | .SEC_VERIFY =>
    let s1 := (if v.getLsbD 3 then s.setFb R.SEC_VERIFY_DONE false else s).setFd R.SEC_VERIFY_SEL (wField 0 1 v)
    if v.getLsbD 1 then s1.verifyGo (v.getLsbD 0) else s1
  | .SEC_FLCTL => (if v.getLsbD 5 then s.setFb R.SEC_FLCTL_ERR false else s).flctl v
  | _ => fields

/-- Eight bytes of a trap window written (R257). -/
def State.windowWrite (s : State) (a : Nat) (v : Word) : State :=
  if s.pairedOdd (a / 0x2000) then s
  else match s.trapped (a / 0x2000) (a % 0x2000 / 0x80) with
    | none => s.setRg (0x680000 + a) v
    | some k => s.setPkt (k.setH (a % 0x80 / 8) (swapBytes v))

/-- A write of 8 bytes at an aligned offset (R720–R722); what only reads discards it. -/
def State.regWrite (s : State) (w : Writer) (off : Nat) (v : Word) : State :=
  if s.inRecovery && !recoveryWrites off then s.badAccess off
  else if 0x3C0000 ≤ off ∧ off < 0x3D0000 then
    match s.pageAddr (s.fd R.FFN_APR_FN) (off - 0x3C0000) with
    | none => s.badAccess off
    | some a => match findReg a with
      | none => s.badAccess off
      | some h => s.hitWrite w true h a v
  else if 0x680000 ≤ off ∧ off < 0x6C0000 then s.windowWrite (off - 0x680000) v
  else if 0x6F0000 ≤ off ∧ off < 0x700000 then
    let a := s.fd R.HPL_TAPR_BASE * 0x10000 + (off - 0x6F0000)
    if a < tmemSize then s.tblStore a (bytesLE 8 v.toNat) else s
  else if 0x1840000 ≤ off ∧ off < 0x1850000 ∧ s.spareInUse 12 then s.badAccess off
  else if 0x1C00000 ≤ off ∧ off < 0x1D20000 then s
  else if 0x1D80000 ≤ off ∧ off < 0x1E00000 then s
  else if 0x1E80000 ≤ off ∧ off < 0x1F00000 then s
  else if 0x1F90000 ≤ off ∧ off < 0x1FA0000 then s.setRg off (v &&& 0x83FFFFFF83FFFFFF#64)
  else if 0x1FA0000 ≤ off ∧ off < 0x1FC0000 then s
  else if 0x2000000 ≤ off ∧ off < 0x4000000 then s.storeCluster ((off - 0x2000000) / cmemSize) (off % cmemSize) (bytesLE 8 v.toNat)
  else match findReg off with
    | none => if off < 0x4000000 then s.badAccess off else s
    | some h => s.hitWrite w false h off v

/-! ### Rows -/

/-- R722: a write to a register that has no command of its own. An offset that is not a multiple of 8 breaks R720. -/
def execRegisterWrite (w : Writer) (off : Nat) (v : Word) (s : State) : Host.Outcome State Fault Refusal :=
  .next (s.regCommand w off v fun s => if off % 8 ≠ 0 then s.badAccess off else s.regWrite w off v)

/-- R720, R721: an access of a wrong size or alignment, or at an offset that no block defines, is turned away. -/
def execRegisterBadAccess (w : Writer) (a : BadAccess) (s : State) : Host.Outcome State Fault Refusal :=
  .next (s.regCommand w a.off 0 fun s =>
    if a.size ≠ 8 ∨ a.off % 8 ≠ 0 ∨ (findReg a.off).isNone then s.badAccess a.off else s)

end Sys2Proof.Machine
end

