-- ==== Sys2Proof/Machine/AlmRows.lean ====
section
/-! DEFINITION. Machine/AlmRows.lean: the beginning and the end of an Almanac seal (R697–R702). -/

namespace Sys2Proof.Machine

/-- The physical slot under a logical one; 16 and 17 are the spares. -/
def State.almPhys (s : State) (i : Nat) : Nat := if s.alm.phys.get 0 i = 0 then i else s.alm.phys.get 0 i - 1

/-- The writes made to the physical slot under a logical one. -/
def State.almWrites (s : State) (i : Nat) : Nat := s.alm.writes.get 0 (s.almPhys i)

/-- The element of a list with the least key, the first of several. -/
def leastBy (key : Nat → Nat) : List Nat → Option Nat
  | [] => none
  | i :: l => match leastBy key l with
    | none => some i
    | some j => if key j < key i then some j else some i

/-- The sequence number of the seal that a slot holds. -/
def State.almAge (s : State) (i : Nat) : Nat := match s.alm.slots.get none i with | none => 0 | some x => x.sealSeq

/-- The slot that a seal goes to (R699): the empty or released one written least, else the sealed one with the oldest seal; no locked
slot. -/
def State.almTarget (s : State) : Option Nat :=
  let open_ := (List.range 16).filter fun i => !s.fb (R.ALM_SLOT_LOCK i)
  match leastBy s.almWrites (open_.filter fun i => s.fd (R.ALM_SLOT_STATE i) ≠ 1) with
  | some i => some i
  | none => leastBy s.almAge open_

/-- The entries of ALM_SLIST with something written: index, offset, V (R703). -/
def State.slist (s : State) : List (Nat × Nat × Bool) :=
  (s.regs.filter fun kv => decide (0x1F90000 ≤ kv.1) && decide (kv.1 < 0x1FA0000)).flatMap fun kv =>
    let i := (kv.1 - 0x1F90000) / 4
    [(i, wField 0 26 kv.2, kv.2.getLsbD 31), (i + 1, wField 32 26 kv.2, kv.2.getLsbD 63)]

/-- The snapshot of R701 and the state after its reads: an invalid entry, one of a domain that is not live, and for code 4 one outside
AO, is not captured. -/
def State.almSnapshot (s : State) (code : Nat) : List (Nat × Nat × Option Word) × State :=
  s.slist.foldl (fun (r : List (Nat × Nat × Option Word) × State) e =>
    let d := domainOf e.2.1
    if !e.2.2 ∨ e.2.1 % 8 ≠ 0 ∨ !r.2.live d ∨ (code = 4 ∧ d ≠ 0) then (r.1 ++ [(e.1, e.2.1, none)], r.2)
    else
      let x := r.2.regLoad .sideband e.2.1
      (r.1 ++ [(e.1, e.2.1, some x.1)], x.2)) ([], s)

/-- One more write of the physical slot under a logical one. -/
def State.almWritten (s : State) (i : Nat) : State :=
  { s with alm := { s.alm with writes := s.alm.writes.set 0 (s.almPhys i) (s.almWrites i + 1) } }

/-- The sequence number of the running image, also while PD22 is off. -/
def State.runningSeq (s : State) : Word := match s.pwr.vigilBoot with | some r => r.2 | none => s.rg R.SEC_RUNSEQ

/-- A seal begins in a slot. -/
def State.sealStart (s : State) (t : Trigger) (i : Nat) : State :=
  let r := s.almSnapshot t.code
  let s1 := r.2.almWritten i
  let body : Seal :=
    { trig := t, sealSeq := s.alm.sealSeq + 1, beganNs := s.time, recs := s.alm.ring.drop (s.alm.ring.length - 16384),
      snap := r.1, runSeq := s.runningSeq, written := s1.almWrites i }
  let recent := s.alm.recent24.filter fun b => decide (s.now < b + 10000 * msPs)
  ({ s1 with alm := { s1.alm with
      running := some { slot := i, again := false, body := body }, waiting := [], lastBeganPs := some s.now,
      recent24 := if t.code = 2 ∨ t.code = 4 then recent ++ [s.now] else recent, sealSeq := s.alm.sealSeq + 1 } }.setFb
    R.ALM_STS_SEALING true).setFb R.ALM_STS_PEND false

/-- The pending trigger's seal begins (R696, R698, R713): at once for codes 2 and 4, else after POST records or 100 µs. -/
def State.sealBegin (s : State) : State :=
  match s.alm.waiting with
  | [] => s
  | t :: _ =>
    if s.alm.running.isSome ∨ (s.svc.fal.any fun f => f.kind = 9) then s
    else
      let s1 := if t.code = 2 ∨ t.code = 4 ∨ t.recSeq + 1 + s.fd R.ALM_CFG_POST ≤ s.alm.seqNext then s
        else s.waitUntil (t.atPs + 100 * usPs)
      match s1.almTarget with
      | none => ({ s1 with alm := { s1.alm with waiting := [] } }.setFb R.ALM_STS_PEND false).almSuppress t
      | some i => s1.sealStart t i

/-- The Almanac intercalates a spare slot under a logical slot by itself, and records it (R702); none without a spare. -/
def State.almReplace (s : State) (i : Nat) : Option State :=
  ([13, 14].find? fun j => s.spareAvail j).map fun j =>
    let freed := (List.range 26).foldl (fun (m : SMap Nat) k =>
      if spareKind k = 9 ∧ s.svc.assigned.get 0 k = i + 1 then m.set 0 k 0 else m) s.svc.assigned
    let s1 := { s with
      svc := { s.svc with assigned := freed.set 0 j (i + 1) }
      alm := { s.alm with phys := s.alm.phys.set 0 i (16 + (j - 13) + 1) } }
    ((s1.almRecord Src.alm.code 0 0x0005 (Config.freeWord s.fv) (Config.freeWord (s.fv + 1))).bumpFv).bumpFv

/-- The seal that ran is over; the ring is cleared if a boot waits for that (R153). -/
def State.sealOver (s : State) : State :=
  let clear := s.alm.clearRing && s.alm.waiting.isEmpty
  ({ s with alm := { s.alm with
      running := none, ring := if clear then [] else s.alm.ring, clearRing := s.alm.clearRing && !clear } }).setFb
    R.ALM_STS_SEALING false

/-- A seal has been written and read back (R702): it is the slot's content; a failed one is repeated once in a spare slot. -/
def State.sealEnd (s : State) (good : Bool) : State :=
  match s.alm.running with
  | none => s
  | some r =>
    let i := r.slot
    if good then
      let s1 := { s with alm := { s.alm with slots := s.alm.slots.set none i (some r.body) } }
      let s2 := (((s1.setFd (R.ALM_SLOT_STATE i) 1).setFd (R.ALM_SLOT_SSEQ i) r.body.sealSeq).setFd R.ALM_STS_LAST i).addFd
        R.ALM_STS_SEALS 1
      let s3 := if 900000000 ≤ s2.almWrites i then (match s2.almReplace i with
          | none => s2
          | some t => t.almWritten i) else s2
      s3.sealOver
    else
      match (if r.again then none else s.almReplace i) with
      | some t =>
        let t1 := t.almWritten i
        { t1 with alm := { t1.alm with
            running := some { slot := i, again := true, body := { r.body with written := t1.almWrites i } } } }
      | none =>
        let s1 := { s with alm := { s.alm with slots := s.alm.slots.set none i none } }
        ((s1.setFd (R.ALM_SLOT_STATE i) 0).setFd (R.ALM_SLOT_SSEQ i) 0).sealOver

/-- R696–R701: a seal begins. -/
def execAlmSealBegin (s : State) : Host.Outcome State Fault Refusal := .next (if s.pwr.aoOn then s.sealBegin else s)

/-- R702: a seal has been written and is read back. -/
def execAlmSealComplete (readBackGood : Bool) (s : State) : Host.Outcome State Fault Refusal := .next (s.sealEnd readBackGood)

end Sys2Proof.Machine
end

