-- ==== Sys2Proof/Machine/CoreAlu.lean ====
section
/-! DEFINITION. Machine/CoreAlu.lean: the integer, compare and field instructions of a control core (R46, R47, R747, R748). -/

namespace Sys2Proof.Machine

/-- A format A instruction of major opcode 0x01 that writes its result to dst (R46). -/
def State.aluExec (s : State) (c : CoreId) (f : FmtA) (fn : Nat) (legal : Bool) (res : Word → Word → Word) : State :=
  s.coreExec c (encA 0x01 fn f) legal (s.guardA c f) fun s =>
    (s.setGreg c f.dst.toNat (res (s.greg c f.srcA.toNat) (s.greg c f.srcB.toNat))).advance c

/-- A format I instruction that writes its result to dst (R46). -/
def State.immExec (s : State) (c : CoreId) (maj : Nat) (f : FmtI) (legal : Bool) (v : Word) : State :=
  s.coreExec c (encI maj f) legal true fun s => (s.setGreg c f.dst.toNat v).advance c

/-- R46: ADD (function 0x00). -/
def execAdd (c : CoreId) (f : FmtA) (s : State) : Host.Outcome State Fault Refusal :=
  .next (s.aluExec c f 0x00 true (aluOp 0x00))

/-- R46: SUB (function 0x01). -/
def execSub (c : CoreId) (f : FmtA) (s : State) : Host.Outcome State Fault Refusal :=
  .next (s.aluExec c f 0x01 true (aluOp 0x01))

/-- R46: AND (function 0x02). -/
def execAnd (c : CoreId) (f : FmtA) (s : State) : Host.Outcome State Fault Refusal :=
  .next (s.aluExec c f 0x02 true (aluOp 0x02))

/-- R46: OR (function 0x03). -/
def execOr (c : CoreId) (f : FmtA) (s : State) : Host.Outcome State Fault Refusal :=
  .next (s.aluExec c f 0x03 true (aluOp 0x03))

/-- R46: XOR (function 0x04). -/
def execXor (c : CoreId) (f : FmtA) (s : State) : Host.Outcome State Fault Refusal :=
  .next (s.aluExec c f 0x04 true (aluOp 0x04))

/-- R46: SHL (function 0x05). -/
def execShl (c : CoreId) (f : FmtA) (s : State) : Host.Outcome State Fault Refusal :=
  .next (s.aluExec c f 0x05 true (aluOp 0x05))

/-- R46: SHR (function 0x06). -/
def execShr (c : CoreId) (f : FmtA) (s : State) : Host.Outcome State Fault Refusal :=
  .next (s.aluExec c f 0x06 true (aluOp 0x06))

/-- R46: SAR (function 0x07). -/
def execSar (c : CoreId) (f : FmtA) (s : State) : Host.Outcome State Fault Refusal :=
  .next (s.aluExec c f 0x07 true (aluOp 0x07))

/-- R46: MUL (function 0x08). -/
def execMul (c : CoreId) (f : FmtA) (s : State) : Host.Outcome State Fault Refusal :=
  .next (s.aluExec c f 0x08 true (aluOp 0x08))

/-- R46: MULH (function 0x09). -/
def execMulh (c : CoreId) (f : FmtA) (s : State) : Host.Outcome State Fault Refusal :=
  .next (s.aluExec c f 0x09 true (aluOp 0x09))

/-- R46: MULHU (function 0x0A). -/
def execMulhU (c : CoreId) (f : FmtA) (s : State) : Host.Outcome State Fault Refusal :=
  .next (s.aluExec c f 0x0A true (aluOp 0x0A))

/-- R46: DIV (function 0x0B). -/
def execDiv (c : CoreId) (f : FmtA) (s : State) : Host.Outcome State Fault Refusal :=
  .next (s.aluExec c f 0x0B true (aluOp 0x0B))

/-- R46: DIVU (function 0x0C). -/
def execDivU (c : CoreId) (f : FmtA) (s : State) : Host.Outcome State Fault Refusal :=
  .next (s.aluExec c f 0x0C true (aluOp 0x0C))

/-- R46: REM (function 0x0D). -/
def execRem (c : CoreId) (f : FmtA) (s : State) : Host.Outcome State Fault Refusal :=
  .next (s.aluExec c f 0x0D true (aluOp 0x0D))

/-- R46: REMU (function 0x0E). -/
def execRemU (c : CoreId) (f : FmtA) (s : State) : Host.Outcome State Fault Refusal :=
  .next (s.aluExec c f 0x0E true (aluOp 0x0E))

/-- R46: MIN (function 0x0F). -/
def execMin (c : CoreId) (f : FmtA) (s : State) : Host.Outcome State Fault Refusal :=
  .next (s.aluExec c f 0x0F true (aluOp 0x0F))

/-- R46: MINU (function 0x10). -/
def execMinU (c : CoreId) (f : FmtA) (s : State) : Host.Outcome State Fault Refusal :=
  .next (s.aluExec c f 0x10 true (aluOp 0x10))

/-- R46: MAX (function 0x11). -/
def execMax (c : CoreId) (f : FmtA) (s : State) : Host.Outcome State Fault Refusal :=
  .next (s.aluExec c f 0x11 true (aluOp 0x11))

/-- R46: MAXU (function 0x12). -/
def execMaxU (c : CoreId) (f : FmtA) (s : State) : Host.Outcome State Fault Refusal :=
  .next (s.aluExec c f 0x12 true (aluOp 0x12))

/-- R46, R40: SEL; pred is its selector and it always executes. -/
def execSel (c : CoreId) (f : FmtA) (s : State) : Host.Outcome State Fault Refusal :=
  .next (s.coreExec c (encA 0x01 0x13 f) true true fun s =>
    (s.setGreg c f.dst.toNat (if s.guardA c f then s.greg c f.srcA.toNat else s.greg c f.srcB.toNat)).advance c)

/-- R46: CLZ; srcB must be 0. -/
def execClz (c : CoreId) (f : FmtA) (s : State) : Host.Outcome State Fault Refusal :=
  .next (s.aluExec c f 0x14 (f.srcB = 0) (aluOp 0x14))

/-- R46: POP; srcB must be 0. -/
def execPop (c : CoreId) (f : FmtA) (s : State) : Host.Outcome State Fault Refusal :=
  .next (s.aluExec c f 0x15 (f.srcB = 0) (aluOp 0x15))

/-- R747: CRC.8. -/
def execCrc8 (c : CoreId) (f : FmtA) (s : State) : Host.Outcome State Fault Refusal :=
  .next (s.aluExec c f 0x16 true (aluOp 0x16))

/-- R747: CRC.32C. -/
def execCrc32c (c : CoreId) (f : FmtA) (s : State) : Host.Outcome State Fault Refusal :=
  .next (s.aluExec c f 0x17 true (aluOp 0x17))

/-- R747: CRC.64. -/
def execCrc64 (c : CoreId) (f : FmtA) (s : State) : Host.Outcome State Fault Refusal :=
  .next (s.aluExec c f 0x18 true (aluOp 0x18))

/-- R748: HASH under HPL_HSEED. -/
def execHash (c : CoreId) (f : FmtA) (s : State) : Host.Outcome State Fault Refusal :=
  .next (s.aluExec c f 0x19 true (flowHash (s.rg R.HPL_HSEED)))

/-- R46, R45: CMP.cc writes predicate dst[2:0]; dst[4:3] must be 0. -/
def execCmp (c : CoreId) (f : FmtA) (k : Cond) (s : State) : Host.Outcome State Fault Refusal :=
  .next (s.coreExec c (encA 0x02 k.code f) (f.dst.toNat < 8) (s.guardA c f) fun s =>
    (s.setCtx c ((s.ctx c).setPred f.dst.toNat
      (condHolds k (s.greg c f.srcA.toNat) (s.greg c f.srcB.toNat)))).advance c)

/-- R46: ADDI. -/
def execAddi (c : CoreId) (f : FmtI) (s : State) : Host.Outcome State Fault Refusal :=
  .next (s.immExec c 0x03 f true (s.greg c f.srcA.toNat + sextTo 16 f.imm.toNat))

/-- R46: ANDI. -/
def execAndi (c : CoreId) (f : FmtI) (s : State) : Host.Outcome State Fault Refusal :=
  .next (s.immExec c 0x04 f true (s.greg c f.srcA.toNat &&& BitVec.ofNat 64 f.imm.toNat))

/-- R46: ORI. -/
def execOri (c : CoreId) (f : FmtI) (s : State) : Host.Outcome State Fault Refusal :=
  .next (s.immExec c 0x05 f true (s.greg c f.srcA.toNat ||| BitVec.ofNat 64 f.imm.toNat))

/-- R46, R45: LIH writes 16-bit lane srcA[1:0] of d; srcA[4:2] must be 0. -/
def execLih (c : CoreId) (f : FmtI) (s : State) : Host.Outcome State Fault Refusal :=
  .next (s.immExec c 0x06 f (f.srcA.toNat < 4)
    (insertField (s.greg c f.dst.toNat) (BitVec.ofNat 64 f.imm.toNat) (16 * f.srcA.toNat) 16))

/-- R46, R47: EXT. -/
def execExt (c : CoreId) (f : FmtF) (s : State) : Host.Outcome State Fault Refusal :=
  .next (s.coreExec c (encF 0x07 f) (f.pos.toNat + f.width1.toNat + 1 ≤ 64 && f.var.toNat < 2) true fun s =>
    (s.setGreg c f.dst.toNat
      (extractField (s.greg c f.src.toNat) f.pos.toNat (f.width1.toNat + 1) (f.var.toNat = 1))).advance c)

/-- R46, R47: INS. -/
def execIns (c : CoreId) (f : FmtF) (s : State) : Host.Outcome State Fault Refusal :=
  .next (s.coreExec c (encF 0x08 f) (f.pos.toNat + f.width1.toNat + 1 ≤ 64 && f.var.toNat = 0) true fun s =>
    (s.setGreg c f.dst.toNat
      (insertField (s.greg c f.dst.toNat) (s.greg c f.src.toNat) f.pos.toNat (f.width1.toNat + 1))).advance c)

/-- R53: NOP. -/
def execNop (c : CoreId) (s : State) : Host.Outcome State Fault Refusal :=
  .next (s.coreExec c 0x04000003 true true fun s => s.advance c)

end Sys2Proof.Machine
end

