-- ==== Sys2Proof/Machine/CoreCtl.lean ====
section
/-! DEFINITION. Machine/CoreCtl.lean: fences, control transfer, special registers, modes and exceptions of a control core, and
what ends a fence, a wait or a critical section (R33–R37, R53, R58–R68, R90–R95, R107). -/

namespace Sys2Proof.Machine

/-- Whether a format A word uses no register field. -/
def noRegs (f : FmtA) : Bool := f.dst = 0 && f.srcA = 0 && f.srcB = 0

/-! ### Fences (R90–R95) -/

/-- A fence begins: later instructions wait for its completion. -/
def State.fenceExec (s : State) (c : CoreId) (f : FmtA) (fn : Nat) (k : FenceKind) : State :=
  s.coreExec c (encA 0x1C fn f) (noRegs f) (s.guardA c f) fun s => s.setCtx c { s.ctx c with fence := some k }

/-- R90: FENCE.S. -/
def execFenceS (c : CoreId) (f : FmtA) (s : State) : Host.Outcome State Fault Refusal := .next (s.fenceExec c f 0 .s)

/-- R90: FENCE.L. -/
def execFenceL (c : CoreId) (f : FmtA) (s : State) : Host.Outcome State Fault Refusal := .next (s.fenceExec c f 1 .l)

/-- R90: FENCE.F. -/
def execFenceF (c : CoreId) (f : FmtA) (s : State) : Host.Outcome State Fault Refusal := .next (s.fenceExec c f 2 .f)

/-- R90: FENCE.X. -/
def execFenceX (c : CoreId) (f : FmtA) (s : State) : Host.Outcome State Fault Refusal := .next (s.fenceExec c f 3 .x)

/-- Whether the pending fence's conditions hold (R90): no earlier store is buffered, but for FENCE.L; every earlier load of
a core has been performed when its next instruction executes. -/
def Core.fenceDone (k : Core) : Bool :=
  match k.ctx.fence with
  | some .l => true
  | some .s => k.sbuf.isEmpty
  | some .f => k.sbuf.isEmpty
  | some .x => k.sbuf.isEmpty && k.outstanding.isEmpty
  | none => false

/-- The fence ends and the core moves past it. -/
def State.fenceEnd (s : State) (c : CoreId) : State := (s.setCtx c { s.ctx c with fence := none }).advance c

/-- R90: a pending FENCE.S, FENCE.L or FENCE.F completes once its conditions hold. -/
def execFenceComplete (c : CoreId) (s : State) : Host.Outcome State Fault Refusal :=
  .next (if (s.core c.num).fenceDone && (s.ctx c).fence ≠ some .x then s.fenceEnd c else s)

/-- R92, R63: a pending FENCE.X completes; with a pending remote-fault record it raises Remote-Store Fault at the FENCE.X,
and entry to that exception clears the record. -/
def execFenceXComplete (c : CoreId) (s : State) : Host.Outcome State Fault Refusal :=
  .next (if (s.core c.num).fenceDone && (s.ctx c).fence = some .x then
      match (s.core c.num).rfault with
      | none => s.fenceEnd c
      | some (addr, reason) =>
        let s1 := s.setCtx c { s.ctx c with fence := none }
        let s2 := if (s.ctx c).exl then s1 else s1.setCore c.num { s1.core c.num with rfault := none }
        s2.raise c 0x06 reason (BitVec.ofNat 64 addr)
    else s)

/-! ### Control transfer (R53, R41) -/

/-- The target of a format B instruction: its address plus 4 × offset. -/
def State.branchTarget (s : State) (c : CoreId) (f : FmtB) : Word := (s.ctx c).pc + 4 * sextTo 22 f.offset.toNat

/-- Whether a format B instruction takes effect: predicate XOR negate. -/
def State.guardB (s : State) (c : CoreId) (f : FmtB) : Bool := (s.ctx c).pred f.pred.toNat != f.negate

/-- R53: B and BP. -/
def execBp (c : CoreId) (f : FmtB) (s : State) : Host.Outcome State Fault Refusal :=
  .next (s.coreExec c (encB 0x20 f) true (s.guardB c f) fun s =>
    s.goto c (s.branchTarget c f))

/-- R53: CALL. -/
def execCall (c : CoreId) (f : FmtB) (s : State) : Host.Outcome State Fault Refusal :=
  .next (s.coreExec c (encB 0x21 f) true (s.guardB c f) fun s =>
    let x := s.ctx c
    (s.setGreg c 31 (x.pc + 4)).goto c (s.branchTarget c f))

/-- R53: RET. -/
def execRet (c : CoreId) (f : FmtA) (s : State) : Host.Outcome State Fault Refusal :=
  .next (s.coreExec c (encA 0x22 0 f) (f.dst = 0 && f.srcB = 0) (s.guardA c f) fun s =>
    let t := s.greg c f.srcA.toNat
    if t.toNat % 4 ≠ 0 then s.raise c 0x0C 0 t else s.goto c t)

/-! ### SEND and WAIT (R53) -/


/-- A SEND to queue `q` (R127, R128): whether it is accepted, and the state after it. -/
def State.sendEvent (s : State) (c : CoreId) (q : Nat) (v : Word) : Bool × State :=
  if s.evqRoom q then (true, s.setEvq q (s.evq q ++ [⟨0x40, c.cluster.val + 4 * c.core.val, v⟩]))
  else (false, s.addFd (R.EVT_Q_STS_REFUSED q) 1)

/-- R53, R83, R85: SEND; it passes every buffered store. -/
def execSend (c : CoreId) (f : FmtA) (s : State) : Host.Outcome State Fault Refusal :=
  .next (s.coreExec c (encA 0x30 0 f) true (s.guardA c f) fun s =>
    let r := s.sendEvent c ((s.greg c f.srcA.toNat).toNat % 64) (s.greg c f.srcB.toNat)
    (r.2.setGreg c f.dst.toNat (if r.1 then 1 else 0)).advance c)

/-- R53: WAIT; Privilege in handler mode. -/
def execWait (c : CoreId) (f : FmtA) (s : State) : Host.Outcome State Fault Refusal :=
  let word := encA 0x31 0 f
  .next (s.coreExec c word (f.dst = 0 && f.srcB = 0) (s.guardA c f) fun s =>
    if !(s.ctx c).sup then s.raise c 0x02 0 (BitVec.ofNat 64 word)
    else
      let a := s.greg c f.srcA.toNat
      let s1 := s.advance c
      if a ≠ 0 ∧ a.ule (s.cycle c) then s1 else s1.setCore c.num { s1.core c.num with waitUntil := some a })

/-- R53: a WAIT with a nonzero operand ends when CYCLE reaches it. -/
def execWaitTimeout (c : CoreId) (s : State) : Host.Outcome State Fault Refusal :=
  .next (match (s.core c.num).waitUntil with
    | none => s
    | some a =>
      if a = 0 ∨ !s.live (13 + c.cluster.val) then s
      else (s.waitUntil (s.pwr.upPs.get 0 (13 + c.cluster.val) + ctlCyclesPs a.toNat)).setCore c.num
        { s.core c.num with waitUntil := none })

/-! ### Special registers (R33–R37) -/

/-- STATUS of a core (R34). -/
def State.statusWord (s : State) (c : CoreId) : Word :=
  let x := s.ctx c
  let b (v : Bool) (n : Nat) : Nat := if v then 2 ^ n else 0
  BitVec.ofNat 64 (b x.sup 0 + b x.ie 1 + b x.crit 2 + b x.exl 3 + b x.psup 4 + b x.pie 5 + b x.pcrit 6 +
    c.core.val * 2 ^ 16 + c.cluster.val * 2 ^ 20 + x.vbase.toNat * 2 ^ 32)

/-- The value of a special register; none for a number that names none (R33). -/
def State.specialReg (s : State) (c : CoreId) (n : Nat) : Option Word :=
  let x := s.ctx c
  match n with
  | 0 => some (s.statusWord c)
  | 1 => some (BitVec.ofNat 64 (x.cur.toNat + 16 * x.disp.toNat))
  | 2 => some x.epc
  | 3 => some (BitVec.ofNat 64 (x.causeCode.toNat + 256 * x.causeDetail.toNat))
  | 4 => some x.tval
  | 5 => some (if x.handler.isSome then x.evq else 0)
  | 6 => some (s.cycle c)
  | 7 => some s.time
  | _ => none

/-- The writable fields of a special register written (R33–R36); none for one read only in supervisor mode. -/
def Ctx.setSpecial (x : Ctx) (n : Nat) (v : Word) : Option Ctx :=
  match n with
  | 0 => some { x with ie := v.getLsbD 1, psup := v.getLsbD 4, pie := v.getLsbD 5, pcrit := v.getLsbD 6,
                       vbase := BitVec.ofNat 11 (v.toNat / 2 ^ 32) }
  | 1 => some { x with cur := BitVec.ofNat 3 v.toNat }
  | 2 => some { x with epc := v &&& ~~~3#64 }
  | 3 => some { x with causeCode := BitVec.ofNat 8 v.toNat, causeDetail := BitVec.ofNat 8 (v.toNat / 256) }
  | 4 => some { x with tval := v }
  | _ => none

/-- R33: MFS. -/
def execMfs (c : CoreId) (f : FmtI) (s : State) : Host.Outcome State Fault Refusal :=
  .next (s.coreExec c (encI 0x32 f) (f.srcA = 0 && (s.specialReg c f.imm.toNat).isSome) true fun s =>
    (s.setGreg c f.dst.toNat ((s.specialReg c f.imm.toNat).getD 0)).advance c)

/-- R33: MTS; Privilege in handler mode whichever register it names, Illegal Instruction for a register that supervisor
mode may only read. -/
def execMts (c : CoreId) (f : FmtI) (s : State) : Host.Outcome State Fault Refusal :=
  let word := encI 0x33 f
  .next (s.coreExec c word (f.dst = 0) true fun s =>
    if !(s.ctx c).sup then s.raise c 0x02 0 (BitVec.ofNat 64 word)
    else match (s.ctx c).setSpecial f.imm.toNat (s.greg c f.srcA.toNat) with
      | none => s.raise c 0x01 0 (BitVec.ofNat 64 word)
      | some x => (s.setCtx c x).advance c)

/-! ### Traps, exception return, modes (R60, R62, R67, R68) -/

/-- R62: TRAP. -/
def execTrap (c : CoreId) (f : FmtI) (s : State) : Host.Outcome State Fault Refusal :=
  .next (s.coreExec c (encI 0x34 f) (f.dst = 0 && f.srcA = 0) true fun s =>
    s.raise c 0x09 0 (BitVec.ofNat 64 f.imm.toNat))

/-- R60, R134: ERET. -/
def execEret (c : CoreId) (f : FmtA) (s : State) : Host.Outcome State Fault Refusal :=
  .next (s.coreExec c (encA 0x35 0 f) (noRegs f) (s.guardA c f) fun s =>
    if (s.ctx c).exl then
      let s := s.retire c
      let k := s.core c.num
      s.setCore c.num { k with ctx := k.ctx.leave s.now, resv := none, hold := none }
    else s.endHandler c)

/-- R68: PRIO; Privilege for a value below DISP in handler mode. -/
def execPrio (c : CoreId) (f : FmtI) (s : State) : Host.Outcome State Fault Refusal :=
  let word := encI 0x36 f
  .next (s.coreExec c word (f.dst = 0 && f.srcA = 0 && f.imm.toNat < 8) true fun s =>
    let x := s.ctx c
    if !x.sup && decide (f.imm.toNat < x.disp.toNat) then s.raise c 0x02 0 (BitVec.ofNat 64 word)
    else (s.setCtx c { x with cur := BitVec.ofNat 3 f.imm.toNat }).advance c)

/-- R67: CRIT; inside an open section it does not restart the budget. -/
def execCrit (c : CoreId) (f : FmtA) (s : State) : Host.Outcome State Fault Refusal :=
  .next (s.coreExec c (encA 0x37 0 f) (noRegs f) (s.guardA c f) fun s =>
    let x := s.ctx c
    if x.crit then s.advance c
    else (s.setCtx c { x with crit := true, critUsedPs := 0, critStartPs := s.now, critPc := some x.pc }).advance c)

/-- R67: ENDCRIT; outside a section it has no effect. -/
def execEndcrit (c : CoreId) (f : FmtA) (s : State) : Host.Outcome State Fault Refusal :=
  .next (s.coreExec c (encA 0x37 1 f) (noRegs f) (s.guardA c f) fun s =>
    (s.setCtx c { s.ctx c with crit := false }).advance c)

/-- R67: the budget of 512 CK_CTL cycles runs out: the section is closed and Critical Section Overrun is raised at the next
instruction boundary; TVAL is a free value for a section that no CRIT opened (log entry 83). -/
def execCritBudgetExpiry (c : CoreId) (s : State) : Host.Outcome State Fault Refusal :=
  let x := s.ctx c
  .next (if x.crit && s.coreReady c then
      ((s.bumpFv.waitUntil (x.critStartPs + (ctlCyclesPs 512 - x.critUsedPs))).setCtx c { x with crit := false }).raise
        c 0x0A 0 (x.critPc.getD (Config.freeWord s.fv))
    else s)

/-- R53, R51: HALT; Privilege in handler mode. -/
def execHalt (c : CoreId) (f : FmtA) (s : State) : Host.Outcome State Fault Refusal :=
  let word := encA 0x38 0 f
  .next (s.coreExec c word (noRegs f) (s.guardA c f) fun s =>
    if !(s.ctx c).sup then s.raise c 0x02 0 (BitVec.ofNat 64 word)
    else
      let s1 := s.advance c
      s1.setCore c.num { s1.core c.num with halting := true, resv := none, hold := none })

/-- R53: a halting core stops fetching once every earlier access has completed as FENCE.F requires. -/
def execHaltStop (c : CoreId) (s : State) : Host.Outcome State Fault Refusal :=
  let k := s.core c.num
  .next (if k.halting && k.sbuf.isEmpty then s.setCore c.num { k with halting := false, running := false } else s)

/-- R107: the 64-cycle hold of a granule runs out. -/
def execReservationHoldExpiry (c : CoreId) (s : State) : Host.Outcome State Fault Refusal :=
  .next (match (s.core c.num).hold with
    | none => s
    | some (_, t) => (s.waitUntil t).setCore c.num { s.core c.num with hold := none })

/-- Whether a word is one that R42 to R44 reserve: a reserved major opcode or function, the all-zero word, or EMIT. -/
def reservedWord (w : Nat) : Bool :=
  let maj := w / 2 ^ 26 % 64
  let fn := w % 256
  if maj = 0x01 then decide (0x19 < fn)
  else if maj = 0x02 then decide (7 < fn)
  else if maj = 0x16 then decide (7 < fn) || decide (fn % 4 = 3)
  else if maj = 0x1C then decide (3 < fn)
  else if maj = 0x37 then decide (1 < fn)
  else if maj = 0x22 ∨ maj = 0x2C ∨ maj = 0x30 ∨ maj = 0x31 ∨ maj = 0x35 ∨ maj = 0x38 then decide (fn ≠ 0)
  else !([0x03, 0x04, 0x05, 0x06, 0x07, 0x08, 0x10, 0x11, 0x12, 0x13, 0x14, 0x15, 0x20, 0x21, 0x28, 0x29, 0x32, 0x33,
          0x34, 0x36].contains maj)

/-- R42: a reserved word raises Illegal Instruction. -/
def execReservedOpcode (c : CoreId) (word : BitVec 32) (s : State) : Host.Outcome State Fault Refusal :=
  if reservedWord word.toNat then .next (s.coreExec c word.toNat false true fun s => s)
  else .refused (.malformed "the word is not reserved")

end Sys2Proof.Machine
end

