-- ==== Sys2Proof/Machine/CoreMem.lean ====
section
/-! DEFINITION. Machine/CoreMem.lean: a control core's loads, stores, pairs, reservations, atomic operations and lookups, and its store
buffer (R48–R57, R79–R109). -/

namespace Sys2Proof.Machine

/-! ### The physical map and its checks (R79, R99, R101) -/

/-- The memory types of R79. -/
inductive MemType where
  | normal | table | device | remote
  deriving DecidableEq, Repr

/-- The type of a control-core physical address; none outside the four ranges. -/
def memType (a : Nat) : Option MemType :=
  if a < 0x800000 then some .normal
  else if 0x10000000 ≤ a ∧ a < 0x11800000 then some .table
  else if 0x40000000 ≤ a ∧ a < 0x44000000 then some .device
  else if 0x800000000000 ≤ a ∧ a < 0x1000000000000 then some .remote
  else none

/-- The first address above a range. -/
def MemType.limit : MemType → Nat
  | .normal => 0x800000
  | .table => 0x11800000
  | .device => 0x44000000
  | .remote => 0x1000000000000

/-- The alignment an access of `n` bytes must have outside Normal memory (R99): its size, 8 for a pair. -/
def alignOf (n : Nat) : Nat := if n = 16 then 8 else n

/-- The exception that a load or store of `n` bytes at `a` raises before it is performed (R62, R99, R101; log entry 41): code,
DETAIL and TVAL. `det` is 1 for a load and 2 for a store. -/
def accessFault (a n det : Nat) : Option (Nat × Nat × Nat) :=
  match memType a with
  | none => some (0x04, det, a)
  | some t =>
    if t ≠ .normal ∧ a % alignOf n ≠ 0 then some (0x03, 0, a)
    else if t = .device ∧ n < 8 then some (0x04, det, a)
    else if t.limit < a + n then some (0x04, det, t.limit)
    else none

/-- The exception of an LDRV, STCD, AMO or CINC of `n` bytes (R62): `tableOnly` for an AMO or CINC. R62 gives DETAIL for loads and
stores alone; an AMO or CINC has 2 (DESIGN CHOICE, log entry 86). -/
def atomicFault (a n det : Nat) (tableOnly : Bool) : Option (Nat × Nat × Nat) :=
  match memType a with
  | none => some (0x04, det, a)
  | some t =>
    if a % n ≠ 0 then some (0x03, 0, a)
    else if t = .table ∨ (t = .normal ∧ !tableOnly) then none
    else some (0x05, 0, a)

/-- The exception is raised. -/
def State.raiseAccess (s : State) (c : CoreId) (x : Nat × Nat × Nat) : State := s.raise c x.1 x.2.1 (BitVec.ofNat 64 x.2.2)

/-! ### Reading memory through the store buffer (R84) -/

/-- A byte of the newest buffered store that covers an address. -/
def bufByte (l : List BufStore) (a : Nat) : Option Byte :=
  l.foldl (fun r b => if b.addr ≤ a ∧ a < b.addr + b.bytes.length then b.bytes[a - b.addr]? else r) none

/-- A byte of Normal or Table memory as core `c` loads it. -/
def State.loadByte (s : State) (c : CoreId) (a : Nat) : Byte :=
  match bufByte (s.core c.num).sbuf a with
  | some b => b
  | none => if a < 0x800000 then s.cByte c.cluster a else s.tByte (a - 0x10000000)

def State.loadBytes (s : State) (c : CoreId) (a n : Nat) : List Byte := (List.range n).map fun i => s.loadByte c (a + i)

/-- Whether a CINC to one of `n` bytes at `a` is still buffered: a load of them is not performed before it (R85, R109). -/
def State.addBuffered (s : State) (c : CoreId) (a n : Nat) : Bool :=
  (s.core c.num).sbuf.any fun b => b.add && decide (b.addr < a + n) && decide (a < b.addr + b.bytes.length)

/-! ### Requests to Remote memory (R81, R86, R87, R96) -/

/-- The FID that a Remote address reaches through tenant 0's windows. -/
def State.remoteFid (s : State) (a : Nat) : Option Nat :=
  (s.winHit 0 (s.tntVer 0) a).map fun w => s.winFid w (s.tntVer 0) a

/-- Whether a Remote load must wait for a buffered Remote store to the same FID (R85, R86). -/
def State.remoteHeld (s : State) (c : CoreId) (a : Nat) : Bool :=
  (s.core c.num).sbuf.any fun b => decide (memType b.addr = some .remote) && decide (s.remoteFid b.addr = s.remoteFid a)

/-- A request of core `c` at the manager function's upstream port (R222): the state with its entry, its index, and whether tenant 0's
windows admit it (R81); none while it stalls (R268, R279, R509; log entry 34). -/
def State.remoteRequest (s : State) (c : CoreId) (typ a n : Nat) (data : List Byte) : Option (State × Nat × Bool) :=
  if !s.fb R.FFN_CFG_MGRV then none
  else
    (s.ownIssue (s.ownPkt (.core c.num) (s.fd R.FFN_CFG_MGRPORT) 0 typ a n false false data) a (decide (typ = 0x60))).map fun r =>
      (r.1.cntCore c (if typ = 0x60 then 6 else 5), r.2)

/-- A Remote load is issued (R96): the core stalls in it; one that no window admits is resolved at once as an Unsupported Request. -/
def State.remoteLoad (s : State) (c : CoreId) (r : LoadReq) : State :=
  if s.remoteHeld c r.addr then s
  else match s.remoteRequest c 0x20 r.addr r.bytes [] with
    | none => s
    | some (s1, i, ok) =>
      let s2 := s1.setCtx c { s1.ctx c with rload := some { req := r, entry := i, result := none, preempted := false } }
      if ok then s2 else (s2.resolve i 0x0C).settle

/-! ### Device accesses (R49, R88, R89) -/

/-- The bytes of 8-byte registers read one after the other, and the state after them. -/
def State.deviceRead (s : State) (c : CoreId) : Nat → Nat → List Byte × State
  | _, 0 => ([], s)
  | off, n + 1 =>
    let r := s.regLoad (.core c) off
    let q := State.deviceRead r.2 c (off + 8) n
    (bytesLE 8 r.1.toNat ++ q.1, q.2)

/-- Registers written one after the other. -/
def State.deviceWrite (s : State) (c : CoreId) : Nat → List Word → State
  | _, [] => s
  | off, v :: vs => State.deviceWrite (s.regWrite (.core c) off v) c (off + 8) vs

/-- Whether every block that an access of `n` bytes touches is live. -/
def State.deviceLive (s : State) (off n : Nat) : Bool := s.live (domainOf off) && s.live (domainOf (off + n - 8))

/-- The core hangs in an access to a block whose domain is off, and executes it again when the domain is back (R645; log entry 42). -/
def State.coreHang (s : State) (c : CoreId) : State := s.setCore c.num { s.core c.num with hung := true }

/-! ### LD and LDP -/

/-- A load whose address is known and permitted; a load of Table memory waits for a buffered CINC to its bytes. -/
def State.loadAt (s : State) (c : CoreId) (r : LoadReq) (bad : Bool) : State :=
  match memType r.addr with
  | some .device =>
    let off := r.addr - 0x40000000
    if !s.deviceLive off r.bytes then s.coreHang c
    else
      let q := s.deviceRead c off (r.bytes / 8)
      (q.2.loadApply c r q.1).advance c
  | some .remote => s.remoteLoad c r
  | some .table => if s.addBuffered c r.addr r.bytes then s else if bad then s.raise c 0x0B 2 (BitVec.ofNat 64 r.addr) else (s.loadApply c r (s.loadBytes c r.addr r.bytes)).advance c
  | _ => if bad then s.raise c 0x0B 1 (BitVec.ofNat 64 r.addr) else (s.loadApply c r (s.loadBytes c r.addr r.bytes)).advance c

/-- A load instruction (R48, R99, R101). One that was preempted in a Remote load takes that load's result or waits for it again
(R136). -/
def State.loadExec (s : State) (c : CoreId) (dst a n : Nat) (signed bad : Bool) : State :=
  match (s.ctx c).rload with
  | some r => match r.result with
    | some x => s.loadFinish c r.req x
    | none => s.setCtx c { s.ctx c with rload := some { r with preempted := false } }
  | none =>
    let s1 := s.itagAddr c (BitVec.ofNat 64 a)
    match accessFault a n 1 with
    | some x => s1.raiseAccess c x
    | none => s1.loadAt c { dst := dst, bytes := n, signed := signed, addr := a } bad

/-- Bytes and signedness of the size code of LD (R45). -/
def sizeBytes (z : Nat) : Nat := 2 ^ (z % 4)

/-- R48: LD. -/
def execLd (c : CoreId) (f : FmtM) (bad : Bool) (s : State) : Host.Outcome State Fault Refusal :=
  .next (s.coreExec c (encM 0x10 f) (f.size.toNat ≠ 7) true fun s =>
    s.loadExec c f.data.toNat (s.effAddr c f).toNat (sizeBytes f.size.toNat) (4 ≤ f.size.toNat) bad)

/-- R48: LDP. -/
def execLdp (c : CoreId) (f : FmtM) (bad : Bool) (s : State) : Host.Outcome State Fault Refusal :=
  .next (s.coreExec c (encM 0x12 f) (f.size.toNat = 0 && f.data.toNat % 2 = 0) true fun s =>
    s.loadExec c f.data.toNat (s.effAddr c f).toNat 16 false bad)

/-! ### ST and STP -/

/-- The store buffer of a core holds 16 stores (R118). -/
def sbufMax : Nat := 16

/-- The first of the 8-byte pieces of a Device store that a handler may not make (R62, R66). -/
def State.guardedPiece (s : State) (c : CoreId) (off n : Nat) : Option Nat :=
  if (s.ctx c).sup then none
  else ((List.range (n / 8)).map fun k => off + 8 * k).find? fun o => guardedReg o

/-- A store joins the store buffer; on a full buffer the core stalls (R83, R135). -/
def State.storeBuffered (s : State) (c : CoreId) (b : BufStore) : State :=
  let k := s.core c.num
  if sbufMax ≤ k.sbuf.length then s else (s.setCore c.num { k with sbuf := k.sbuf ++ [b] }).advance c

/-- A store whose address is known and permitted: a Device store is made at once, any other is buffered. Of an STP by a handler that
touches a guarded register neither half is performed, and TVAL is the first guarded half's address (DESIGN CHOICE, log entry 87). -/
def State.storeAt (s : State) (c : CoreId) (a : Nat) (bs : List Byte) : State :=
  match memType a with
  | some .device =>
    let off := a - 0x40000000
    match s.guardedPiece c off bs.length with
    | some o => s.raise c 0x04 2 (BitVec.ofNat 64 (0x40000000 + o))
    | none =>
      if !s.deviceLive off bs.length then s.coreHang c
      else (s.advance c).deviceWrite c off
        ((List.range (bs.length / 8)).map fun k => BitVec.ofNat 64 (ofBytesLE ((bs.drop (8 * k)).take 8)))
  | _ => s.storeBuffered c ⟨a, bs, false⟩

/-- A store instruction. -/
def State.storeExec (s : State) (c : CoreId) (a : Nat) (bs : List Byte) : State :=
  let s1 := s.itagAddr c (BitVec.ofNat 64 a)
  match accessFault a bs.length 2 with
  | some x => s1.raiseAccess c x
  | none => s1.storeAt c a bs

/-- R48: ST. -/
def execSt (c : CoreId) (f : FmtM) (s : State) : Host.Outcome State Fault Refusal :=
  .next (s.coreExec c (encM 0x11 f) (f.size.toNat < 4) true fun s =>
    s.storeExec c (s.effAddr c f).toNat (bytesLE (sizeBytes f.size.toNat) (s.greg c f.data.toNat).toNat))

/-- R48: STP. -/
def execStp (c : CoreId) (f : FmtM) (s : State) : Host.Outcome State Fault Refusal :=
  .next (s.coreExec c (encM 0x13 f) (f.size.toNat = 0 && f.data.toNat % 2 = 0) true fun s =>
    s.storeExec c (s.effAddr c f).toNat
      (bytesLE 8 (s.greg c f.data.toNat).toNat ++ bytesLE 8 (s.greg c (f.data.toNat + 1)).toNat))

/-! ### Stores performed (R82, R85, R107, R115) -/

/-- Bytes stored to Normal or Table memory, in 8-byte pieces (R100). -/
def State.storePieces (s : State) (c : CoreId) (a : Nat) (bs : List Byte) : State :=
  if a < 0x800000 then s.storeCluster c.cluster a bs
  else
    let n := min bs.length (8 - a % 8)
    let s1 := s.tblStore (a - 0x10000000) (bs.take n)
    if bs.drop n = [] then s1 else s1.tblStore (a - 0x10000000 + n) (bs.drop n)

/-- The granule of an address in Normal or Table memory (R103). -/
def granuleOf (a : Nat) : Resv :=
  if a < 0x800000 then ⟨false, a / 128⟩ else ⟨true, (a - 0x10000000) / 256⟩

/-- Whether another core of the cluster holds a granule that a store of `n` bytes at `a` touches (R107). -/
def State.granuleHeld (s : State) (c : CoreId) (a n : Nat) : Bool :=
  (clusterCores c.cluster).any fun d => d ≠ c &&
    (match (s.core d.num).hold with
     | none => false
     | some (r, t) => decide (s.now < t) && (decide (r = granuleOf a) || decide (r = granuleOf (a + n - 1))))

/-- The oldest buffered store leaves the buffer. -/
def State.popStore (s : State) (c : CoreId) : State :=
  s.setCore c.num { s.core c.num with sbuf := (s.core c.num).sbuf.tail }

/-- Whether nothing can take a buffered store (R115): table memory is off, or no manager function takes Remote stores (DEDUCED, log
entry 88). -/
def State.storeDead (s : State) (b : BufStore) : Bool :=
  match memType b.addr with
  | some .table => !s.live 19
  | some .remote => !s.fb R.FFN_CFG_MGRV || !s.live (domainOf (R.HPL_TSTS (octetOf (s.fd R.FFN_CFG_MGRPORT))))
  | _ => false

/-- A CINC is performed (R109). -/
def State.addTable (s : State) (a : Nat) (bs : List Byte) : State :=
  s.tblStore (a - 0x10000000) (bytesLE bs.length (ofBytesLE (s.tBytes (a - 0x10000000) bs.length) + ofBytesLE bs))

/-- The oldest buffered store of a core is performed, unless it must wait (R107, R268, R645). One that its core in warm reset finds
refused is dropped (R115). -/
def State.drainStore (s : State) (c : CoreId) : State :=
  match (s.core c.num).sbuf with
  | [] => s
  | b :: _ =>
    if s.storeDead b then (if (s.core c.num).draining.isSome then (s.popStore c).dropRecord c b else s)
    else if memType b.addr = some .remote then
      match s.remoteRequest c 0x60 b.addr b.bytes.length b.bytes with
      | none => s
      | some (s1, i, ok) =>
        let s2 := s1.popStore c
        let k := s2.core c.num
        let s3 := if k.draining.isSome then s2 else s2.setCore c.num { k with outstanding := k.outstanding ++ [⟨i, 0, b.addr⟩] }
        if ok then s3 else (s3.resolve i 0x0C).settle
    else if s.granuleHeld c b.addr b.bytes.length then s
    else if b.add then (s.popStore c).addTable b.addr b.bytes
    else (s.popStore c).storePieces c b.addr b.bytes

/-- R82, R83, R115: the oldest store of a core's store buffer is performed; a core in warm reset whose last one this was restarts or is
held. -/
def execStoreBufferDrain (c : CoreId) (s : State) : Host.Outcome State Fault Refusal :=
  .next (if (s.core c.num).sbuf = [] ∨ !s.live (13 + c.cluster.val) then s
    else
      let s1 := s.drainStore c
      if (s1.core c.num).draining.isSome && (s1.core c.num).sbuf.isEmpty then s1.coreDrained c else s1)

/-! ### LDRV and STCD (R102–R107) -/

/-- R48, R102, R107: LDRV; its address is base plus offset[2:0] (log entry 43). -/
def execLdrv (c : CoreId) (f : FmtM) (s : State) : Host.Outcome State Fault Refusal :=
  .next (s.coreExec c (encM 0x14 f) ((f.size.toNat = 2 || f.size.toNat = 3) && f.offset.toNat < 8) true fun s =>
    let n := sizeBytes f.size.toNat
    let a := (s.effAddr c f).toNat
    let s1 := s.itagAddr c (BitVec.ofNat 64 a)
    match atomicFault a n 1 false with
    | some x => s1.raiseAccess c x
    | none =>
      if s1.addBuffered c a n then s else
      let s2 := s1.loadApply c { dst := f.data.toNat, bytes := n, signed := false, addr := a } (s1.loadBytes c a n)
      let k := s2.core c.num
      let hold := if k.holdNext then some (granuleOf a, s.now + ctlCyclesPs 64) else k.hold
      (s2.setCore c.num { k with resv := some (granuleOf a), hold := hold, holdNext := false }).advance c)

/-- The end of an STCD: the predicate, the cleared reservation and hold, and the count of failures in a row. -/
def State.stcdEnd (s : State) (c : CoreId) (p : Nat) (ok : Bool) : State :=
  let k := s.core c.num
  (s.setCore c.num { k with
    resv := none, hold := none, stcdFails := if ok then 0 else k.stcdFails + 1, holdNext := !ok && decide (3 ≤ k.stcdFails),
    ctx := k.ctx.setPred p ok }).advance c

/-- R48, R105, R106: STCD. With its reservation intact it waits for the stores before it, and then stores (log entry 44). -/
def execStcd (c : CoreId) (f : FmtM) (s : State) : Host.Outcome State Fault Refusal :=
  .next (s.coreExec c (encM 0x15 f) ((f.size.toNat = 2 || f.size.toNat = 3) && f.offset.toNat < 8) true fun s =>
    let n := sizeBytes f.size.toNat
    let a := (s.greg c f.base.toNat).toNat
    let s1 := s.itagAddr c (BitVec.ofNat 64 a)
    let k := s.core c.num
    match atomicFault a n 2 false with
    | some x => s1.raiseAccess c x
    | none =>
      if k.resv ≠ some (granuleOf a) then s1.stcdEnd c f.offset.toNat false
      else if k.sbuf ≠ [] ∨ s.granuleHeld c a n then s
      else (s1.storePieces c a (bytesLE n (s.greg c f.data.toNat).toNat)).stcdEnd c f.offset.toNat true)

/-! ### Atomic operations (R108, R109) -/

/-- An atomic operation on a Table word of `n` bytes: it waits for every earlier store (R108), and then writes `op old`, handing the old
value to register `dst`. -/
def State.amo (s : State) (c : CoreId) (a n dst : Nat) (op : Nat → Nat) : State :=
  let s1 := s.itagAddr c (BitVec.ofNat 64 a)
  match atomicFault a n 2 true with
  | some x => s1.raiseAccess c x
  | none =>
    if (s.core c.num).sbuf ≠ [] then s
    else
      let old := ofBytesLE (s1.tBytes (a - 0x10000000) n)
      ((s1.tblStore (a - 0x10000000) (bytesLE n (op old))).setGreg c dst (BitVec.ofNat 64 old)).advance c

/-- An AMO instruction (R44): `op` of the old value and b. -/
def State.amoExec (s : State) (c : CoreId) (f : FmtA) (code : Nat) (dbl : Bool) (op : Nat → Nat → Nat) : State :=
  s.coreExec c (encA 0x16 (code + if dbl then 4 else 0) f) true (s.guardA c f) fun s =>
    let n := if dbl then 8 else 4
    s.amo c (s.greg c f.srcA.toNat).toNat n f.dst.toNat fun old => op old ((s.greg c f.srcB.toNat).toNat % 2 ^ (8 * n))

/-- R48, R108: AMOADD. -/
def execAmoadd (c : CoreId) (f : FmtA) (dbl : Bool) (s : State) : Host.Outcome State Fault Refusal :=
  .next (s.amoExec c f 0 dbl fun old b => old + b)

/-- R48, R108: AMOSWP. -/
def execAmoswp (c : CoreId) (f : FmtA) (dbl : Bool) (s : State) : Host.Outcome State Fault Refusal :=
  .next (s.amoExec c f 1 dbl fun _ b => b)

/-- R48, R108: AMOMAX. -/
def execAmomax (c : CoreId) (f : FmtA) (dbl : Bool) (s : State) : Host.Outcome State Fault Refusal :=
  .next (s.amoExec c f 2 dbl fun old b => max old b)

/-- R48, R109: a core's CINC adds b to a 64-bit Table word and has no result; it is ordered as a Table store, so that it is buffered. -/
def execCinc (c : CoreId) (f : FmtA) (s : State) : Host.Outcome State Fault Refusal :=
  .next (s.coreExec c (encA 0x2C 0 f) (f.dst = 0) (s.guardA c f) fun s =>
    let a := (s.greg c f.srcA.toNat).toNat
    let s1 := s.itagAddr c (BitVec.ofNat 64 a)
    match atomicFault a 8 2 true with
    | some x => s1.raiseAccess c x
    | none => s1.storeBuffered c ⟨a, bytesLE 8 (s.greg c f.srcB.toNat).toNat, true⟩)

/-! ### LKP and LKPU (R53–R56) -/

/-- A core's lookup under the tenant's active and the routing version. The flow of a FID lookup is a free value: a core has no header
(log entry 45). -/
def State.lkpExec (s : State) (c : CoreId) (f : FmtL) (maj : Nat) (use : Bool) : State :=
  let word := encL maj f
  let n := f.desc.toNat % 16 + 1
  let t := f.table.toNat
  s.coreExec c word (natField 4 1 f.desc.toNat = 0 && (n ≤ 8 || f.key.toNat % 2 = 0)) true fun s =>
    if !s.tableOk t f.kind.toNat n then s.raise c 0x08 t (BitVec.ofNat 64 word)
    else
      let key := lkpKey n (s.greg c f.key.toNat) (s.greg c (f.key.toNat + 1))
      let r := s.lookup t key.1 key.2 s.tntVer s.rver (Config.freeWord s.fv)
      let s1 := s.bumpFv.setGreg c f.dst.toNat r.word
      let s2 := s1.setCtx c ((s1.ctx c).setPred (f.desc.toNat / 32) r.hit)
      (if use then s2.setMark r.mark else s2).advance c

/-- R53: LKP. -/
def execLkp (c : CoreId) (f : FmtL) (s : State) : Host.Outcome State Fault Refusal := .next (s.lkpExec c f 0x28 false)

/-- R53: LKPU. -/
def execLkpu (c : CoreId) (f : FmtL) (s : State) : Host.Outcome State Fault Refusal := .next (s.lkpExec c f 0x29 true)

end Sys2Proof.Machine
end

