-- ==== Sys2Proof/Machine/DmaRows.lean ====
section
/-! DEFINITION. Machine/DmaRows.lean: the commands of the DMA engines (14_dma_engines.md). -/

namespace Sys2Proof.Machine

/-- R589: a CTL write of a channel that sets GO. -/
def execDmaGo (w : Writer) (ch : DmaCh) (v : Word) (s : State) : Host.Outcome State Fault Refusal :=
  .next (s.regCommand w (R.DMA_CH_CTL (ch.val / 256) (ch.val % 256)) (v ||| 1#64) fun s => (s.dmaCtl ch.val (v ||| 1#64)).settle)

/-- R608, R609: a CTL write that sets ABORT and leaves the other fields as they are. -/
def execDmaAbort (w : Writer) (ch : DmaCh) (s : State) : Host.Outcome State Fault Refusal :=
  let a := R.DMA_CH_CTL (ch.val / 256) (ch.val % 256)
  let v := (s.rg a &&& dmaCtlMask) ||| 2#64
  .next (s.regCommand w a v fun s => (s.dmaCtl ch.val v).settle)

/-- R598: an arbitration round; the fallow engine, number 16, has no channels (R587). -/
def execDmaArbitrationRound (e : Fin 17) (s : State) : Host.Outcome State Fault Refusal :=
  .next (if e.val = 16 ∨ !s.live 17 then s else (s.dmaRound e.val).settle)

/-- R591, R592: a descriptor that was fetched is loaded. -/
def execDmaDescriptorFetched (ch : DmaCh) (s : State) : Host.Outcome State Fault Refusal := .next (s.descLoad ch.val).settle

/-- R611: the localisation read limit passes. -/
def execDmaLocalisationTimeout (e : Fin 17) (s : State) : Host.Outcome State Fault Refusal :=
  .next (s.localiseTimeout e.val).settle

/-- R590: a local access of a channel is made. -/
def execDmaLocalAccessComplete (ch : DmaCh) (s : State) : Host.Outcome State Fault Refusal := .next (s.localAccess ch.val).settle

end Sys2Proof.Machine
end

