-- ==== Sys2Proof/Machine/LinkRows.lean ====
section
/-! DEFINITION. Machine/LinkRows.lean: the commands of the native link layer (R403–R432): frames received, replay, fabric time. -/

namespace Sys2Proof.Machine

/-! ### Replay (R419, R420, R422) -/

/-- Every unacknowledged frame is sent again, with its present link fields. -/
def State.replayAll (s : State) (n : Nat) : State :=
  (s.link n).unacked.foldl (fun t f => t.txOut n f.typ f.seq f.dvc f.len f.pay) s

/-- The replay timer of a link expires, at the RPLTMO it started with (R426); after RPLMAX in a row the link is declared down. -/
def State.replayExpiry (s : State) (n : Nat) : State :=
  let l := s.link n
  if !s.linkOctet n ∨ l.unacked = [] ∨ (s.phyState n ≠ 6 ∧ s.phyState n ≠ 7) then s
  else
    let s1 := s.waitUntil (l.rtimePs + s.fdAt (R.LNK_CTL_RPLTMO n) l.rtimePs * 10 * nsPs)
    let s2 := (s1.addFd (R.LNK_CNT_REPLAYS n) 1).cntPort (linkPort n) 56 1
    let l2 := { l with expiries := l.expiries + 1, rtimePs := s1.now }
    if s.fdAt (R.LNK_CTL_RPLMAX n) l.rtimePs ≤ l2.expiries then s2.declareDown n 2 2
    else (s2.setLink n l2).replayAll n

/-- A PARAM received (R409, R410): accepted in sequence, it gives the partner's parameters; one that fails a check has the link declared
down with cause PARAM. -/
def State.paramIn (s : State) (n : Nat) (h : FrameHdr) (q : LinkParams) : State :=
  s.frameIn n h fun t =>
    match t.inSeq n h with
    | none => t
    | some u =>
      if t.fb (R.LNK_STS_UP n) ∨ h.seq ≠ 0 then u
      else if u.paramOk q then u.setLink n { u.link n with partner := some q }
      else u.declareDown n 3 2

/-! ### Rows -/

/-- Whether a frame's payload and DVC are such as a link carries: 240 bytes, a VC of R404. -/
def frameOk (h : FrameHdr) (pay : List Byte) : Bool := decide (pay.length = 240) && (decide (h.dvc.val < 4) || h.dvc.val = 7)

/-- R404, R418: an IDLE frame. -/
def execIdleFrame (n : Octet) (h : FrameHdr) (s : State) : Host.Outcome State Fault Refusal :=
  .next (s.frameIn n.val h fun t => t).settle

/-- R409, R410: a PARAM frame. -/
def execParamFrame (n : Octet) (h : FrameHdr) (prm : LinkParams) (s : State) : Host.Outcome State Fault Refusal :=
  .next (s.paramIn n.val h prm).settle

/-- R417, R432: a HEAD frame. -/
def execHeadFrame (n : Octet) (h : FrameHdr) (pay : List Byte) (s : State) : Host.Outcome State Fault Refusal :=
  if !frameOk h pay then .refused (.malformed "frame")
  else .next (s.dataFrame n.val h fun t => t.rxFirst n.val pay false).settle

/-- R417: a BODY frame. -/
def execBodyFrame (n : Octet) (h : FrameHdr) (pay : List Byte) (s : State) : Host.Outcome State Fault Refusal :=
  if !frameOk h pay then .refused (.malformed "frame")
  else .next (s.dataFrame n.val h fun t => t.rxNext n.val pay false).settle

/-- R417: a TAIL frame. -/
def execTailFrame (n : Octet) (h : FrameHdr) (pay : List Byte) (s : State) : Host.Outcome State Fault Refusal :=
  if !frameOk h pay || decide (240 ≤ h.len.toNat) then .refused (.malformed "frame")
  else .next (s.dataFrame n.val h fun t => t.rxNext n.val (pay.take (h.len.toNat + 1)) true).settle

/-- R417: a SOLE frame. -/
def execSoleFrame (n : Octet) (h : FrameHdr) (pay : List Byte) (s : State) : Host.Outcome State Fault Refusal :=
  if !frameOk h pay || decide (240 ≤ h.len.toNat) then .refused (.malformed "frame")
  else .next (s.dataFrame n.val h fun t => t.rxFirst n.val (pay.take (h.len.toNat + 1)) true).settle

/-- R303: a CHAFF frame ends the packet in progress, which is discarded. -/
def execChaffFrame (n : Octet) (h : FrameHdr) (s : State) : Host.Outcome State Fault Refusal :=
  .next (s.dataFrame n.val h fun t => (t.cntPort (linkPort n.val) 62 1).dropRx n.val false).settle

/-- R427, R428: a TSYNC frame. -/
def execTsyncFrame (n : Octet) (h : FrameHdr) (ts : TsyncBody) (s : State) : Host.Outcome State Fault Refusal :=
  .next (s.frameIn n.val h fun t => t.tsyncIn n.val ts).settle

/-- R407: a frame whose CRC-64 fails, that overlaps a bad block, or of a reserved type. -/
def execFrameCrcFail (n : Octet) (s : State) : Host.Outcome State Fault Refusal :=
  .next (if s.takesFrames n.val then (s.addFd (R.LNK_CNT_BADFR n.val) 1).cntPort (linkPort n.val) 57 1 else s)

/-- R419, R422: the replay timer expires. -/
def execReplayTimeout (n : Octet) (s : State) : Host.Outcome State Fault Refusal := .next (s.replayExpiry n.val).settle

/-- R427: a TSYNC is due. -/
def execTsyncSend (n : Octet) (s : State) : Host.Outcome State Fault Refusal :=
  .next (if s.takesFrames n.val then ((s.waitUntil (s.link n.val).tsyncDuePs).trySendParam n.val).tsyncOut n.val else s)

end Sys2Proof.Machine
end

