-- ==== Sys2Proof/Machine/PowerRows.lean ====
section
/-! DEFINITION. Machine/PowerRows.lean: a domain that has switched (R644), the end of an orderly-off sequence (R624), entry to Vigil and
the restart from it (R662, R663), RESET_N (R671), boot (R152, R153), the image copied at a handover (R157), and VDD_AO (R734). -/

namespace Sys2Proof.Machine

/-! ### What is lost with a domain -/

/-- The status register of a DMA channel. -/
def isChSts (a : Nat) : Bool := decide (0x1800000 ≤ a) && decide (a < 0x1840000) && decide (a % 64 = 0x20)

/-- The registers of the domains of a condition take their reset values. LOST of a DMA channel lies in the always-on domain (R610):
it is kept, and set where the channel is in STATE 1–3. -/
def State.wipeRegs (s : State) (gone : Nat → Bool) : State :=
  { s with regs := s.regs.filterMap fun kv =>
      if !gone (domainOf kv.1) then some kv
      else if isChSts kv.1 then
        (let st := natField 0 3 kv.2.toNat
         if natField 14 1 kv.2.toNat = 1 ∨ (1 ≤ st ∧ st ≤ 3) then some (kv.1, 0x4000#64) else none)
      else none }

/-- The cores of a cluster held at their reset values. -/
def State.wipeCores (s : State) (cl : Fin 4) : State := (clusterCores cl).foldl (fun t c => t.coreHold c) s

/-- Everything that domain `d` holds takes its reset value: the links of a quadrant, a cluster, the DMA engines, or counters and
tracing (R641). -/
def State.wipeDomain (s : State) (d : Nat) : State :=
  let s1 := s.wipeRegs fun x => decide (x = d)
  let outside (n : Nat) : Bool := decide (n / 4 + 1 ≠ d)
  if 1 ≤ d ∧ d ≤ 8 then
    { s1 with
      links := s1.links.filter fun e => outside e.1, phys := s1.phys.filter fun e => outside e.1
      ports := s1.ports.filter fun e => outside (octetOf e.1) }
  else if 13 ≤ d ∧ d ≤ 16 then
    ({ s1 with cmem := s1.cmem.filter fun e => decide (e.1 / cmemSize + 13 ≠ d) }).wipeCores (Fin.ofNat 4 (d - 13))
  else if d = 17 then { s1 with dma := State.reset.dma }
  else if d = 18 then
    { s1 with pcn := State.reset.pcn, gln := State.reset.gln, hpl := { s1.hpl with lfsr := [], ilfsr := [] } }
  else s1

/-! ### A domain has switched (R644, R645) -/

/-- The accesses that waited for a domain now live are made, oldest first, and the cores that hang try again (log entry 42). -/
def State.wake (s : State) : State :=
  let ready := s.hung.filter fun h => s.live (domainOf h.off)
  let s1 := { s with
    hung := s.hung.filter fun h => !s.live (domainOf h.off)
    cores := s.cores.filterMap fun e =>
      let k : Core := { e.2 with hung := false }
      if k = Core.reset then none else some (e.1, k) }
  ready.foldl (fun t h => match h.value with
    | some v => t.regWrite h.writer h.off v
    | none => t) s1

/-- The clocks that run with a domain (R641, R653): LCKn of a quadrant, the forwarded clock. -/
def State.domainClock (s : State) (d : Nat) (on : Bool) : State :=
  if 1 ≤ d ∧ d ≤ 8 then s.setFd R.CLK_STS_LCK (setNatField (4 * (d - 1)) 4 (s.fd R.CLK_STS_LCK) (if on then 15 else 0))
  else if d = 23 then s.setFb R.CLK_STS_FCLK on
  else s

/-- Enabled cores of a cluster that has come up start once the EARLY sections are copied (R119, R153). -/
def State.startCluster (s : State) (cl : Fin 4) : State :=
  if s.pwr.boot < 3 ∨ s.pwr.boot = 5 then s
  else (clusterCores cl).foldl (fun t c => if t.coreEnabled c then t.coreStart c else t) s

/-- A domain has come up. -/
def State.domainUp (s : State) (d : Nat) : State :=
  let s1 := { s with pwr := { s.pwr with upPs := s.pwr.upPs.set 0 d s.now } }.domainClock d true
  (if 13 ≤ d ∧ d ≤ 16 then s1.startCluster (Fin.ofNat 4 (d - 13)) else s1).wake

/-- The stores that a cluster's cores have not performed when it goes off are dropped (R115). -/
def State.endDrains (s : State) (cl : Fin 4) : State :=
  (clusterCores cl).foldl (fun t c => match (t.core c.num).draining with
    | none => t
    | some due => (t.waitUntil due).dropStores c) s

/-- A domain has gone down. -/
def State.domainDown (s : State) (d : Nat) : State :=
  let s1 := if 13 ≤ d ∧ d ≤ 16 then s.endDrains (Fin.ofNat 4 (d - 13)) else s
  (s1.wipeDomain d).domainClock d false

/-- R644: a domain has switched as PWR_CTL asks: ONS follows and TRANS clears. -/
def execPwrDomainSwitched (d : Fin 25) (s : State) : Host.Outcome State Fault Refusal :=
  .next (if d.val = 0 ∨ !s.fb (pwrTrans d.val) then s
    else
      let on := s.fb (pwrOn d.val)
      let s1 := if on then s else s.domainDown d.val
      let s2 := (s1.setFb (pwrOns d.val) on).setFb (pwrTrans d.val) false
      if on then s2.domainUp d.val else s2)

/-! ### Slot power controllers at Vigil (R639, R662) -/

/-- Whether a channel's orderly-off sequence still runs. -/
def State.offSeqRuns (s : State) : Bool := (List.range 32).any fun i => s.spcState i = 5

/-- PD24 goes off: every channel but a held one takes its reset values (R639). -/
def State.slotsOff (s : State) : State :=
  let held (i : Nat) : Bool := (s.spc i).heldPs.isSome
  let s1 := { s with
    regs := s.regs.filter fun kv => decide (domainOf kv.1 ≠ 24) || held ((kv.1 - 0x1F00000) / 0x100)
    spcs := s.spcs.filter fun e => e.2.heldPs.isSome }
  (List.range 32).foldl (fun t i => t.spcPins i (s.rg (R.SPC_STS i)).toNat) (s1.setFb (pwrOns 24) false)

/-- R624, R630: PERSTLEAD after its start an orderly-off sequence ends with GATE low; in Vigil the last one lets PD24 go off (R662). -/
def execSpcOffseqEnd (i : Fin 32) (s : State) : Host.Outcome State Fault Refusal :=
  let s1 := s.spcEvent i (s.spcState i = 5) ((s.spc i).offPs + s.fd (R.SPC_TMR1_PERSTLEAD i) * 10 * usPs) fun s =>
    s.setFd (R.SPC_STS_STATE i) (if s.fb (R.SPC_CTL_EN i) then 2 else 0)
  .next (if s1.fb R.PWR_STS_VIGIL && s1.live 24 && !s1.offSeqRuns then s1.slotsOff else s1)

/-! ### Vigil (R662) -/

/-- Every core's buffered stores are performed as far as they can be (R115). -/
def State.drainCores (s : State) : State :=
  ((List.finRange 4).flatMap fun cl => clusterCores cl).foldl (fun t c => (List.range sbufMax).foldl (fun u _ => u.drainStore c) t) s

/-- The slot channels act on VPOL. -/
def State.slotsVigil (s : State) : State :=
  (List.range 32).foldl (fun t i =>
    if t.spcState i ≠ 4 then t
    else if t.fb (R.SPC_CTL_VPOL i) then t.setSpc i { t.spc i with heldPs := some t.now, holdEnd := 0 }
    else t.spcChange i fun t => t.spcLeave i 5) s

/-- Everything in the domains that Vigil switches off is lost: PD1–PD18 and PD21–PD23. Table memory, its tables, the ledger and the
sessions are retained. -/
def State.vigilWipe (s : State) : State :=
  let s1 := (s.wipeRegs fun d => d ≠ 0 && d ≠ 19 && d ≠ 20 && d ≠ 24).foldSlew
  { s1 with
    stepPs := none, syncRoot := none, hung := s1.hung.filter fun h => (match h.writer with | .core _ => false | _ => true)
    cmem := [], cores := s1.cores.filterMap fun e => if e.2.fallow then some (e.1, { Core.reset with fallow := true }) else none
    evt := State.reset.evt, pkts := [], links := [], phys := [], ports := [], vdps := [], ups := []
    tbl := { s1.tbl with kmask := State.reset.tbl.kmask, rr := [], ternary := [] }
    hpl := State.reset.hpl, sch := State.reset.sch, gln := State.reset.gln, ffn := State.reset.ffn, dma := State.reset.dma
    pwr := { s1.pwr with upPs := [], sagHeld := [], boot := 0 }
    pcn := State.reset.pcn, svc := { s1.svc with testing := [] }, sec := State.reset.sec }

/-- The reading that the sag event of a source shows where the command tells none: 0 for the sources 4–6, a free value for a rail (R667). -/
def State.sagReading (s : State) (src : Nat) : Nat := if src < 4 then (Config.freeWord s.fv).toNat % 65536 else 0

/-- The device enters Vigil. -/
def State.vigil (s : State) (src : Nat) : State :=
  let run : Option (Bool × Word) := if s.fb R.SEC_BOOT_STS_DONE then some (s.fb R.SEC_BOOT_STS_RUN, s.rg R.SEC_RUNSEQ) else none
  let s1 := (((s.sagEnterOne 6 src (s.sagReading src)).bumpFv.almSource .sag 6).drainCores).slotsVigil
  let s2 := (s1.vigilWipe).emit (.mgmt "links to electrical idle" 0 0)
  let s3 := (((s2.setFd R.PWR_STS_ONS (2 ^ 23)).setFd R.PWR_STS_TRANS 0).setFb R.PWR_STS_VIGIL true).setFb R.PWR_STS_RET true
  let s4 := (((s3.setFb R.CLK_STS_CORE false).setFb R.CLK_STS_CTL false).setFb R.CLK_STS_FCLK false).setFd R.CLK_STS_LCK 0
  let s5 := ({ s4 with pwr := { s4.pwr with vigilBoot := run } }).reselectTime.drainCheck
  if s5.offSeqRuns then s5 else s5.slotsOff

/-- R662: the condition of stage 6 holds; stage 5 comes first. A stage 5 that has not finished lasts 600 µs, but VDD_CORE below 640 mV,
before which no stage 5 need have been, enters stage 6 at once. -/
def execVigilEntry (src : Fin 16) (s : State) : Host.Outcome State Fault Refusal :=
  .next (if s.fb R.PWR_STS_VIGIL ∨ s.pwr.resetN then s
    else
      let atOnce : Bool := decide (src.val = 0) && decide (s.sagStage < 5)
      let s1 := (s.sagEnter 5 src.val (s.sagReading src.val)).bumpFv.settle
      let s2 := if s1.fb R.SAG_STS_S5DONE || atOnce then s1 else s1.waitUntil (s1.pwr.s5Ps + 600 * usPs)
      s2.vigil src.val)

/-! ### Restart from Vigil (R663) -/

/-- The PWR_CTL.ON or PWR_STS.ONS field with the given domains. -/
def domainSet (ds : List Nat) : Nat := (ds.map fun d => 2 ^ (d - 1)).sum

/-- Domains are powered, with their clocks. -/
def State.powerUp (s : State) (ds : List Nat) : State :=
  let s1 := ((s.setFd R.PWR_CTL_ON (domainSet ds)).setFd R.PWR_STS_ONS (domainSet ds)).setFd R.PWR_STS_TRANS 0
  let s2 := (s1.setFb R.CLK_STS_CORE true).setFb R.CLK_STS_CTL true
  { s2 with pwr := { s2.pwr with upPs := ds.foldl (fun m d => m.set 0 d s.now) [] } }

/-- R663: the conditions of Vigil exit have held; a reference input must have been valid for 1 ms (R649). Without a running image
kept from before, the restart is a full boot. -/
def execVigilExit (s : State) : Host.Outcome State Fault Refusal :=
  .next (if !s.fb R.PWR_STS_VIGIL ∨ !(s.refOk false || s.refOk true) then s
    else
      let sel := if s.refOk (s.fb R.CLK_STS_REFSEL) then s.fb R.CLK_STS_REFSEL else !s.fb R.CLK_STS_REFSEL
      let s1 := (s.waitUntil (s.pwr.refSincePs.get 0 (if sel then 1 else 0) + msPs)).setFb R.CLK_STS_REFSEL sel
      let s2 := (((s1.powerUp [9, 10, 11, 12, 13, 14, 15, 16, 19, 20, 21, 22, 24]).setFb R.PWR_STS_VIGIL false).setFb
        R.PWR_STS_RET false).sagLeaveOne 6
      let s3 := (List.range 32).foldl (fun t i =>
        if (t.spc i).heldPs.isSome then t.setSpc i { t.spc i with heldPs := some t.now } else t) s2
      let full := s3.pwr.vigilBoot.isNone
      let s4 := ((s3.setFd R.GLB_RSTC_CAUSE (if full then 4 else 3)).setFb R.GLB_RSTC_RECOV false).setFd R.GLB_STS_PHASE
        (if full then 0 else 3)
      let s5 := { s4 with tmem := if full then [] else s4.tmem, pwr := { s4.pwr with boot := 1 } }
      ((s5.resolveWhere (fun _ => true) 0x0A).settle).wake)

/-! ### RESET_N (R671) -/

/-- Whether RESET_N leaves an AO register: GLB_RSTC, SAG_CNT, SPC[i]_CNT, the Almanac, and what CLK_STS tells of the inputs. -/
def keptAtReset (a : Nat) : Bool :=
  decide (a = R.GLB_RSTC) || decide (a = R.SAG_CNT) || (decide (0x1F00000 ≤ a) && decide (a < 0x1FC0000) && decide (domainOf a = 0))

/-- The state that is left when every switched domain and the AO registers are reset: what waits, time, the PERST_N inputs, and what is kept in
nonvolatile memory or by the Almanac. -/
def State.afterReset (s : State) (keep : Nat → Bool) : State :=
  let s1 := s.foldSlew
  { State.reset with
    pending := s1.pending, now := s1.now, ftOff := s1.ftOff, fv := s1.fv, out := s1.out, perstIn := s1.perstIn
    regs := s1.regs.filter fun kv => keep kv.1
    alm := s1.alm, svc := { State.reset.svc with assigned := s1.svc.assigned }
    cores := s1.cores.filterMap fun e => if e.2.fallow then some (e.1, { Core.reset with fallow := true }) else none }

/-- The pins of every slot channel after a reset. -/
def State.slotPins (s old : State) : State := (List.range 32).foldl (fun t i => t.spcPins i (old.rg (R.SPC_STS i)).toNat) s

/-- R671, R640, R696: RESET_N is asserted. -/
def execResetNAssert (s : State) : Host.Outcome State Fault Refusal :=
  .next (if s.pwr.resetN ∨ !s.pwr.aoOn then s
    else
      let t := s.afterReset keptAtReset
      let t1 := { t with pwr := { t.pwr with refSincePs := s.pwr.refSincePs, firstStart := s.pwr.firstStart } }
      let t2 := ((t1.setRefOk false (s.refOk false)).setRefOk true (s.refOk true)).setFb R.CLK_STS_AOXT (s.fb R.CLK_STS_AOXT)
      (((t2.slotPins s).almTrigger 4 ((Config.freeWord s.fv).toNat % 2 ^ 32)).bumpFv))

/-- R153, R652, R162, R671, R712: RESET_N is released: fabric time restarts at 0, the Almanac's ring is cleared once no seal runs or
waits, table memory is zeroed, and the domains of boot are powered. -/
def execResetNRelease (s : State) : Host.Outcome State Fault Refusal :=
  .next (if !s.pwr.resetN ∨ !s.pwr.aoOn then s
    else
      let busy := s.alm.running.isSome || s.alm.waiting ≠ []
      let s1 := { s with
        ftOff := -((s.now / 1000 : Nat) : Int), slew := none, tmem := []
        alm := { s.alm with ring := if busy then s.alm.ring else [], seqNext := 0, clearRing := busy } }
      let s2 := ((s1.setFd R.ALM_HEAD_SEQ 0).setFd R.ALM_STS_SEALS 0).setFd R.GLB_RSTC_CAUSE (if s.pwr.firstStart then 1 else 2)
      let s3 := if s2.refOk false || s2.refOk true then s2 else s2.refValid false
      let pref := s3.fb R.CLK_CTL_PREF
      let s4 := (s3.setFb R.CLK_STS_REFSEL (if s3.refOk pref then pref else !pref)).setFb R.GLB_RSTC_RECOV false
      let s5 := s4.powerUp [13, 14, 15, 16, 19, 21, 22]
      ({ s5 with pwr := { s5.pwr with boot := 1, firstStart := false, resetN := false } }.reselectTime).wake)

/-! ### Boot (R152, R153, R663) -/

/-- The image of a flash is chosen. -/
def State.bootFrom (s : State) (b : Bool) (seq : Word) : State :=
  let s1 := ((s.setFb R.SEC_BOOT_STS_FLASH b).setFb R.SEC_BOOT_STS_RUN b).setRg R.SEC_RUNSEQ seq
  { s1 with pwr := { s1.pwr with boot := 2 }, sec := { s1.sec with clusterImg := [] } }

/-- A boot under R152: the valid image of the higher sequence number, A when they are equal; recovery without one. -/
def State.bootChoose (s : State) (a b : ImageCheck) (ra rb : Nat) : State :=
  let s1 := (s.setFd R.SEC_BOOT_STS_RESA ra).setFd R.SEC_BOOT_STS_RESB rb
  if ra ≠ 0 ∧ rb ≠ 0 then
    let s2 := ((s1.setFb R.SEC_BOOT_STS_RECOV true).setFb R.GLB_RSTC_RECOV true).setFd R.GLB_STS_PHASE 1
    ((List.range 128).filter fun p => s2.mgmtPort p).foldl (fun t p => t.train p) { s2 with pwr := { s2.pwr with boot := 5 } }
  else if rb ≠ 0 ∨ (ra = 0 ∧ b.seq.toNat ≤ a.seq.toNat) then s1.bootFrom false a.seq
  else s1.bootFrom true b.seq

/-- R152, R663, R728: the images are checked and one is chosen. At a restart from Vigil only the image that was running is checked; if
that fails, the restart is a boot under R152. -/
def execBootImageChosen (a b : ImageCheck) (s : State) : Host.Outcome State Fault Refusal :=
  let ra := a.code Config.svnFused.toNat Config.ownerFused
  let rb := b.code Config.svnFused.toNat Config.ownerFused
  .next (if s.pwr.boot ≠ 1 ∨ !s.live 22 then s
    else match s.pwr.vigilBoot with
      | none => s.bootChoose a b ra rb
      | some (flash, seq) =>
        let s1 := if flash then s.setFd R.SEC_BOOT_STS_RESB rb else s.setFd R.SEC_BOOT_STS_RESA ra
        if (if flash then rb else ra) = 0 ∧ (if flash then b.seq else a.seq) = seq then s1.bootFrom flash seq
        else
          let s2 := ((s.setFd R.GLB_RSTC_CAUSE 4).setFd R.GLB_STS_PHASE 0)
          ({ s2 with tmem := [], pwr := { s2.pwr with vigilBoot := none } }).bootChoose a b ra rb)

/-- Bytes copied to a control-core physical address (R150; log entry 46): cluster memory of the clusters of the mask, table memory, or
registers word by word. -/
def State.bootCopy (s : State) (mask : Nat) (dest : Nat) (bs : List Byte) : State :=
  match memType dest with
  | some .normal =>
    (List.range 4).foldl (fun t c => if natField c 1 mask = 1 then t.storeCluster c dest (bs.take (cmemSize - dest)) else t) s
  | some .table => s.storeTable (dest - 0x10000000) (bs.take (0x11800000 - dest))
  | some .device =>
    (List.range ((bs.length + 7) / 8)).foldl (fun t i =>
      t.regWrite .sideband (dest - 0x40000000 + 8 * i) (BitVec.ofNat 64 (ofBytesLE ((bs.drop (8 * i)).take 8)))) s
  | _ => s

/-- A section copied. Device configuration is applied at a boot, and not again at a restart from Vigil (R153, R663). -/
def State.bootSection (s : State) (img : List Byte) (x : Section) : State :=
  if x.kind = 5 ∧ s.pwr.vigilBoot.isSome then s else s.bootCopy x.clusters x.dest (x.bytes img)

/-- R153, R663: the EARLY sections are copied, device configuration is applied and core 0 of CC0 is enabled. -/
def execBootEarlyCopied (image : List Byte) (s : State) : Host.Outcome State Fault Refusal :=
  .next (if s.pwr.boot ≠ 2 then s
    else
      let s1 := ((imgSections image).filter fun x => x.first).foldl (fun t x => t.bootSection image x) s
      let s2 := { s1 with pwr := { s1.pwr with boot := 3 } }
      ((s2.setCen ⟨0, 0⟩ true).coreStart ⟨0, 0⟩).settle)

/-- R153: the other sections are copied; DONE is set and the device is in service. -/
def execBootSectionsCopied (image : List Byte) (s : State) : Host.Outcome State Fault Refusal :=
  .next (if s.pwr.boot ≠ 3 then s
    else
      let s1 := ((imgSections image).filter fun x => !x.first).foldl (fun t x => t.bootSection image x) s
      let s2 := (s1.setFb R.SEC_BOOT_STS_DONE true).setFd R.GLB_STS_PHASE 2
      ({ s2 with pwr := { s2.pwr with boot := 4, vigilBoot := none } }).settle)

/-- The cluster sections of an image for a cluster are copied into its memory (R157). -/
def State.copyCluster (s : State) (cl : Nat) (image : List Byte) : State :=
  ((imgSections image).filter fun x => (x.kind = 1 || x.kind = 2) && natField cl 1 x.clusters = 1 && decide (x.dest < cmemSize)).foldl
    (fun t x => t.storeCluster cl x.dest ((x.bytes image).take (cmemSize - x.dest))) s

/-- An image's cluster sections are copied into a cluster's memory (R157); when all four clusters have one image that way, it is the running
one. -/
def State.handOver (s : State) (cl : Nat) (flashB : Bool) (image : List Byte) : State :=
  if !s.live 22 ∨ !s.live (13 + cl) then s
  else
    let s1 := s.copyCluster cl image
    let held := s1.sec.clusterImg.set none cl (some (flashB, imgSeq image))
    let s2 := { s1 with sec := { s1.sec with clusterImg := held } }
    if (List.range 4).all fun c => held.get none c = some (flashB, imgSeq image) then
      (s2.setRg R.SEC_RUNSEQ (imgSeq image)).setFb R.SEC_BOOT_STS_RUN flashB
    else s2

/-- R157: the security block copies an image's cluster sections into a cluster's memory; the image is its header, its section table and what
follows them (R149, R150). -/
def execClusterImageCopy (cl : Fin 4) (flashB : Bool) (header table contents : List Byte) (s : State) : Host.Outcome State Fault Refusal :=
  .next (s.handOver cl.val flashB (header ++ table ++ contents))

/-! ### VDD_AO (R732, R734) -/

/-- R734: VDD_AO falls below its minimum: everything is reset and every GATE low, the Almanac's ring and a running seal are lost;
nonvolatile memory stays. -/
def execVddAoLoss (s : State) : Host.Outcome State Fault Refusal :=
  .next (if !s.pwr.aoOn then s
    else
      let t := s.afterReset fun a => decide (R.ALM_SLOT 0 ≤ a) && decide (a < R.ALM_SLOT 16)
      let alm := { State.reset.alm with
        slots := (match s.alm.running with | none => s.alm.slots | some r => s.alm.slots.set none r.slot none)
        writes := s.alm.writes, phys := s.alm.phys, sealSeq := s.alm.sealSeq }
      ({ t with alm := alm, pwr := { t.pwr with aoOn := false } }).slotPins s)

/-- R734, R732: VDD_AO and VDD_AO_IO are up again: the AO registers can be read, RESET_N is low, and the next start reports a
power-on. -/
def execVddAoPowerOn (s : State) : Host.Outcome State Fault Refusal :=
  .next (if s.pwr.aoOn then s else ({ s with pwr := { s.pwr with aoOn := true, firstStart := true, resetN := true } }).wake)

end Sys2Proof.Machine
end

