-- ==== Sys2Proof/Machine/SessionRows.lean ====
section
/-! DEFINITION. Machine/SessionRows.lean: the commands of edge transport (R433–R459, R534): a message for this node arrives and is
consumed, or a timer of a session expires. -/

namespace Sys2Proof.Machine

/-- A message of a TYPE arrives for this node (R434); one addressed to a FID that is not LOCAL here is not consumed. A CODE that
its TYPE does not have makes no such message. -/
def State.msgRow (s : State) (typ : Nat) (codes : Nat → Bool) (m : EdgeMsg) : Host.Outcome State Fault Refusal :=
  if !codes m.code.toNat then .refused (.malformed "CODE")
  else .next (if s.localFid m.dfid.toNat then (s.consumeMsg typ m).settle else s)

/-- R439: a source edge's OPEN. -/
def execOpenMsg (m : EdgeMsg) (s : State) : Host.Outcome State Fault Refusal := s.msgRow 0x01 (fun _ => true) m
/-- R439: ACCEPT with CODE 0. -/
def execAccept (m : EdgeMsg) (s : State) : Host.Outcome State Fault Refusal := s.msgRow 0x02 (fun c => decide (c = 0)) m
/-- R439, R440: ACCEPT with a CODE that refuses. -/
def execAcceptRefused (m : EdgeMsg) (s : State) : Host.Outcome State Fault Refusal := s.msgRow 0x02 (fun c => decide (c ≠ 0)) m
/-- R445, R446: RECEIPT of deliveries. -/
def execReceiptDelivery (m : EdgeMsg) (s : State) : Host.Outcome State Fault Refusal := s.msgRow 0x03 (fun c => decide (c = 0)) m
/-- R219, R436: RECEIPT of a REVOKE. -/
def execReceiptRevokeDone (m : EdgeMsg) (s : State) : Host.Outcome State Fault Refusal := s.msgRow 0x03 (fun c => decide (c = 1)) m
/-- R436, R451: RECEIPT of a SKIP. -/
def execReceiptSkipDone (m : EdgeMsg) (s : State) : Host.Outcome State Fault Refusal := s.msgRow 0x03 (fun c => decide (c = 2)) m
/-- R450: RECEIPT of an ABORT. -/
def execReceiptAbortDone (m : EdgeMsg) (s : State) : Host.Outcome State Fault Refusal := s.msgRow 0x03 (fun c => decide (c = 3)) m
/-- R441: RECEIPT of a CLOSE. -/
def execReceiptCloseDone (m : EdgeMsg) (s : State) : Host.Outcome State Fault Refusal := s.msgRow 0x03 (fun c => decide (c = 4)) m
/-- R447, R449: EVICT. -/
def execEvict (m : EdgeMsg) (s : State) : Host.Outcome State Fault Refusal := s.msgRow 0x04 (fun _ => true) m
/-- R519, R520: FAIL. -/
def execFail (m : EdgeMsg) (s : State) : Host.Outcome State Fault Refusal := s.msgRow 0x05 (fun _ => true) m
/-- R219, R454: REVOKE. -/
def execRevoke (m : EdgeMsg) (s : State) : Host.Outcome State Fault Refusal := s.msgRow 0x06 (fun _ => true) m
/-- R444, R451: SKIP. -/
def execSkip (m : EdgeMsg) (s : State) : Host.Outcome State Fault Refusal := s.msgRow 0x07 (fun _ => true) m
/-- R450: ABORT. -/
def execAbort (m : EdgeMsg) (s : State) : Host.Outcome State Fault Refusal := s.msgRow 0x08 (fun _ => true) m
/-- R441: CLOSE. -/
def execClose (m : EdgeMsg) (s : State) : Host.Outcome State Fault Refusal := s.msgRow 0x09 (fun _ => true) m
/-- R359, R457: FENCE with CODE 1. -/
def execFenceSet (m : EdgeMsg) (s : State) : Host.Outcome State Fault Refusal := s.msgRow 0x0A (fun c => decide (c = 1)) m
/-- R359, R457: FENCE with CODE 0. -/
def execFenceClear (m : EdgeMsg) (s : State) : Host.Outcome State Fault Refusal := s.msgRow 0x0A (fun c => decide (c = 0)) m
/-- R534: RECORD. -/
def execRecord (m : EdgeMsg) (s : State) : Host.Outcome State Fault Refusal := s.msgRow 0x0B (fun _ => true) m
/-- R534: RACK. -/
def execRack (m : EdgeMsg) (s : State) : Host.Outcome State Fault Refusal := s.msgRow 0x0C (fun _ => true) m

/-! ### Timers -/

/-- R445: RTIM at a receive context. -/
def execReceiptTimerExpiry (ctx : Fin 16384) (s : State) : Host.Outcome State Fault Refusal := .next (s.rtimExpiry ctx.val).settle
/-- R448: RTMO of a packet. -/
def execReceiptTimeout (ctx : Fin 16384) (s : State) : Host.Outcome State Fault Refusal := .next (s.rtmoExpiry ctx.val).settle
/-- R436: RTMO of a notice. -/
def execNoticeRetransmit (ctx : Fin 16384) (s : State) : Host.Outcome State Fault Refusal := .next (s.noticeRetry ctx.val).settle
/-- R439: an OPEN again. -/
def execOpenRetry (key : OpenKey) (s : State) : Host.Outcome State Fault Refusal := .next (s.openAgain key).settle
/-- R441: an idle session closes. -/
def execSessionIdle (ctx : Fin 16384) (s : State) : Host.Outcome State Fault Refusal := .next (s.idleClose ctx.val).settle
/-- R451: an aged copy's number is skipped. -/
def execSkipAgeExpiry (ctx : Fin 16384) (s : State) : Host.Outcome State Fault Refusal := .next (s.skipAged ctx.val).settle
/-- R534: RECORDs again. -/
def execRecordRetransmit (hfid : BitVec 16) (s : State) : Host.Outcome State Fault Refusal :=
  .next (s.recordsAgain hfid.toNat).settle

end Sys2Proof.Machine
end

