-- ==== Sys2Proof/Machine/SpcRows.lean ====
section
/-! DEFINITION. Machine/SpcRows.lean: the commands of a slot power channel that can trip it (15_slot_power.md, R628, R631–R634, R636, R639): a
trip takes the real links down that the channel feeds. -/

namespace Sys2Proof.Machine

/-- A change of channel `i`. Where it trips the channel, or presence is found lost, the real links of the ports that the channel feeds go
down (R635, R518). -/
def State.tripRow (s : State) (i : Nat) (f : State → State) : State :=
  let t := f s
  let lost : Bool := s.fd (R.SPC_CNT_PLOSS i) ≠ t.fd (R.SPC_CNT_PLOSS i)
  if t.spcBound i = [] ∨ (s.fd (R.SPC_CNT_TRIPS i) = t.fd (R.SPC_CNT_TRIPS i) ∧ !lost) then t
  else
    (s.slotWatch fun _ =>
      if lost then t.slotLost i
      else (t.spcBound i).foldl (fun u b => u.dlDown (u.fd (R.PRT_VDP_B0_LPORT b.1 b.2)) false) t).settle

/-- R628: GRISE elapses in RAMP. -/
def execSpcGriseExpiry (i : Fin 32) (obs : SpcRampObs) (s : State) : Host.Outcome State Fault Refusal :=
  .next (s.tripRow i fun s => s.spcEvent i (s.spcState i = 3) ((s.spc i).rampPs + s.fd (R.SPC_TMR0_GRISE i) * msPs) fun s =>
    if s.fb (R.SPC_STS_INLIM i) then s.spcTrip i 4
    else if !obs.gateHigh then s.spcDamage i 1
    else if !obs.voutHigh then s.spcTrip i 4
    else s.spcOn i)

/-- R631: the fault timer reaches FTMR. -/
def execSpcFaultTimerExpiry (i : Fin 32) (s : State) : Host.Outcome State Fault Refusal :=
  .next (s.tripRow i fun s => s.spcEvent i (s.fb (R.SPC_STS_INLIM i) && (s.spcState i = 3 || s.spcState i = 4))
    ((s.spc i).limPs.getD s.now + s.fd (R.SPC_TMR0_FTMR i) * usPs) fun s => s.spcTrip i 1)

/-- R632, R638 row 5, R639: twice the limit for 200 ns. In OFFSEQ with EN = 0 the trip is recorded, then LATCH is cleared
and the channel is DISABLED; during a Vigil hold it ends the hold. -/
def execSpcFastBreaker (i : Fin 32) (s : State) : Host.Outcome State Fault Refusal :=
  .next (if (s.spc i).heldPs ≠ none ∧ (s.spc i).holdEnd = 0 then
      (s.setSpc i { s.spc i with holdEnd := 2 }).emit (.pin "SPC_GATE" i false)
    else s.tripRow i fun s => s.spcEvent i (spcGate (s.spcState i)) s.now fun s =>
      if s.fb (R.SPC_CTL_EN i) then s.spcTrip i 3
      else ((s.spcTrip i 3).setFb (R.SPC_STS_LATCH i) false).setFd (R.SPC_STS_STATE i) 0)

/-- R618, R633, R636, R637: MEAS is sampled as a whole, the model temperature advances, and a temperature in use of TTRIP or
more trips the channel in RAMP and ON. -/
def execSpcThermalUpdate (i : Fin 32) (m : SpcMeas) (s : State) : Host.Outcome State Fault Refusal :=
  .next (s.tripRow i fun s => s.spcStep i true ((s.spc i).measPs + 10 * usPs) fun s =>
    let s1 := (((s.setFd (R.SPC_MEAS_VIN i) m.vin.toNat).setFd (R.SPC_MEAS_VOUT i) m.vout.toNat).setFd
      (R.SPC_MEAS_IOUT i) m.iout.toNat).setFd (R.SPC_MEAS_TDIO i) m.tdio.toNat
    let t := spcTemp (s.spc i).temp m.vin.toNat m.vout.toNat m.iout.toNat (s.fd (R.SPC_TM_RTH i)) (s.fd (R.SPC_TM_TAU i))
      (s.fd (R.SPC_TM_TAMB i)) (s.fd (R.SPC_TM_RDSON i)) (spcGate (s.spcState i)) s.fv
    let s2 := (s1.setSpc i { s1.spc i with temp := t, measPs := s.now }).bumpFv
    let u := s2.spcInUse i
    let c := u.fdiv 256 + (if u.fmod 256 ≠ 0 && Config.freeBool s2.fv then 1 else 0)
    let s3 := (s2.setFd (R.SPC_MEAS_TEMP i) (BitVec.ofInt 8 c).toNat).bumpFv
    if (s.spc i).heldPs.isNone ∧ (s.spcState i = 3 ∨ s.spcState i = 4) ∧ (s.fd (R.SPC_TM_TTRIP i) : Int) * 256 ≤ u then s3.spcTrip i 2 else s3)

/-- R639: a channel held through Vigil resumes ON after 1 ms of fresh measurement, or enters what its hold ended in. -/
def execSpcHoldResume (i : Fin 32) (s : State) : Host.Outcome State Fault Refusal :=
  .next (s.tripRow i fun s => s.spcStep i (s.spc i).heldPs.isSome ((s.spc i).heldPs.getD 0 + msPs) fun s =>
    let c := s.spc i
    let done := s.setSpc i { c with heldPs := none, holdEnd := 0 }
    if c.holdEnd = 1 then done.spcLost i
    else if c.holdEnd = 2 then done.spcTrip i 5
    else if c.holdEnd = 3 then (done.spcTrip i 5).spcLost i
    else
      let t : Int := if s.fd (R.SPC_CTL_TMODE i) = 0 ∨ s.fd (R.SPC_MEAS_TDIO i) = 0x80
        then (s.fd (R.SPC_TM_TAMB i) : Int) * 256 else signedOf 8 (s.fd (R.SPC_MEAS_TDIO i)) * 256
      ((done.setFd (R.SPC_STS_STATE i) 4).setSpc i { done.spc i with temp := t, pgPs := some s.now }).spcObey i)

end Sys2Proof.Machine
end

