-- ==== Sys2Proof/Machine/Dispatch.lean ====
section
/-! DEFINITION. Machine/Dispatch.lean: one arm per command, each one call of that command's meaning. -/

namespace Sys2Proof.Machine

def exec (i : Instr) (s : State) : Host.Outcome State Fault Refusal :=
  match i with
  | .add c f => Sys2Proof.Machine.execAdd c f s
  | .sub c f => Sys2Proof.Machine.execSub c f s
  | .and c f => Sys2Proof.Machine.execAnd c f s
  | .or c f => Sys2Proof.Machine.execOr c f s
  | .xor c f => Sys2Proof.Machine.execXor c f s
  | .shl c f => Sys2Proof.Machine.execShl c f s
  | .shr c f => Sys2Proof.Machine.execShr c f s
  | .sar c f => Sys2Proof.Machine.execSar c f s
  | .mul c f => Sys2Proof.Machine.execMul c f s
  | .mulh c f => Sys2Proof.Machine.execMulh c f s
  | .mulhU c f => Sys2Proof.Machine.execMulhU c f s
  | .div c f => Sys2Proof.Machine.execDiv c f s
  | .divU c f => Sys2Proof.Machine.execDivU c f s
  | .rem c f => Sys2Proof.Machine.execRem c f s
  | .remU c f => Sys2Proof.Machine.execRemU c f s
  | .min c f => Sys2Proof.Machine.execMin c f s
  | .minU c f => Sys2Proof.Machine.execMinU c f s
  | .max c f => Sys2Proof.Machine.execMax c f s
  | .maxU c f => Sys2Proof.Machine.execMaxU c f s
  | .sel c f => Sys2Proof.Machine.execSel c f s
  | .clz c f => Sys2Proof.Machine.execClz c f s
  | .pop c f => Sys2Proof.Machine.execPop c f s
  | .crc8 c f => Sys2Proof.Machine.execCrc8 c f s
  | .crc32c c f => Sys2Proof.Machine.execCrc32c c f s
  | .crc64 c f => Sys2Proof.Machine.execCrc64 c f s
  | .hash c f => Sys2Proof.Machine.execHash c f s
  | .cmp c f cond => Sys2Proof.Machine.execCmp c f cond s
  | .addi c f => Sys2Proof.Machine.execAddi c f s
  | .andi c f => Sys2Proof.Machine.execAndi c f s
  | .ori c f => Sys2Proof.Machine.execOri c f s
  | .lih c f => Sys2Proof.Machine.execLih c f s
  | .ext c f => Sys2Proof.Machine.execExt c f s
  | .ins c f => Sys2Proof.Machine.execIns c f s
  | .ld c f bad => Sys2Proof.Machine.execLd c f bad s
  | .st c f => Sys2Proof.Machine.execSt c f s
  | .ldp c f bad => Sys2Proof.Machine.execLdp c f bad s
  | .stp c f => Sys2Proof.Machine.execStp c f s
  | .ldrv c f => Sys2Proof.Machine.execLdrv c f s
  | .stcd c f => Sys2Proof.Machine.execStcd c f s
  | .amoadd c f dbl => Sys2Proof.Machine.execAmoadd c f dbl s
  | .amoswp c f dbl => Sys2Proof.Machine.execAmoswp c f dbl s
  | .amomax c f dbl => Sys2Proof.Machine.execAmomax c f dbl s
  | .cinc c f => Sys2Proof.Machine.execCinc c f s
  | .fenceS c f => Sys2Proof.Machine.execFenceS c f s
  | .fenceL c f => Sys2Proof.Machine.execFenceL c f s
  | .fenceF c f => Sys2Proof.Machine.execFenceF c f s
  | .fenceX c f => Sys2Proof.Machine.execFenceX c f s
  | .fenceComplete c => Sys2Proof.Machine.execFenceComplete c s
  | .fenceXComplete c => Sys2Proof.Machine.execFenceXComplete c s
  | .storeBufferDrain c => Sys2Proof.Machine.execStoreBufferDrain c s
  | .bp c f => Sys2Proof.Machine.execBp c f s
  | .call c f => Sys2Proof.Machine.execCall c f s
  | .ret c f => Sys2Proof.Machine.execRet c f s
  | .lkp c f => Sys2Proof.Machine.execLkp c f s
  | .lkpu c f => Sys2Proof.Machine.execLkpu c f s
  | .send c f => Sys2Proof.Machine.execSend c f s
  | .wait c f => Sys2Proof.Machine.execWait c f s
  | .waitTimeout c => Sys2Proof.Machine.execWaitTimeout c s
  | .mfs c f => Sys2Proof.Machine.execMfs c f s
  | .mts c f => Sys2Proof.Machine.execMts c f s
  | .trap c f => Sys2Proof.Machine.execTrap c f s
  | .eret c f => Sys2Proof.Machine.execEret c f s
  | .prio c f => Sys2Proof.Machine.execPrio c f s
  | .crit c f => Sys2Proof.Machine.execCrit c f s
  | .endcrit c f => Sys2Proof.Machine.execEndcrit c f s
  | .halt c f => Sys2Proof.Machine.execHalt c f s
  | .haltStop c => Sys2Proof.Machine.execHaltStop c s
  | .nop c => Sys2Proof.Machine.execNop c s
  | .critBudgetExpiry c => Sys2Proof.Machine.execCritBudgetExpiry c s
  | .reservationHoldExpiry c => Sys2Proof.Machine.execReservationHoldExpiry c s
  | .heldEventRelease q => Sys2Proof.Machine.execHeldEventRelease q s
  | .eventDispatch cl => Sys2Proof.Machine.execEventDispatch cl s
  | .handlerBudgetExceeded c => Sys2Proof.Machine.execHandlerBudgetExceeded c s
  | .evtQCfgWrite w q v => Sys2Proof.Machine.execEvtQCfgWrite w q v s
  | .timerFire n => Sys2Proof.Machine.execTimerFire n s
  | .evtMbxDb w m v => Sys2Proof.Machine.execEvtMbxDb w m v s
  | .evtMbxRsp w m v => Sys2Proof.Machine.execEvtMbxRsp w m v s
  | .coreEnable c => Sys2Proof.Machine.execCoreEnable c s
  | .coreDisable c => Sys2Proof.Machine.execCoreDisable c s
  | .coreWarmReset c => Sys2Proof.Machine.execCoreWarmReset c s
  | .warmResetDrainExpiry c => Sys2Proof.Machine.execWarmResetDrainExpiry c s
  | .watchdogKick w cl => Sys2Proof.Machine.execWatchdogKick w cl s
  | .watchdogExpiry cl => Sys2Proof.Machine.execWatchdogExpiry cl s
  | .resetNRelease => Sys2Proof.Machine.execResetNRelease s
  | .bootImageChosen a b => Sys2Proof.Machine.execBootImageChosen a b s
  | .bootEarlyCopied image => Sys2Proof.Machine.execBootEarlyCopied image s
  | .bootSectionsCopied image => Sys2Proof.Machine.execBootSectionsCopied image s
  | .clusterImageCopy cl flashB header table contents => Sys2Proof.Machine.execClusterImageCopy cl flashB header table contents s
  | .tblCommit w t => Sys2Proof.Machine.execTblCommit w t s
  | .tblCommitRevoke w t => Sys2Proof.Machine.execTblCommitRevoke w t s
  | .tblCommitRoute w t revoke => Sys2Proof.Machine.execTblCommitRoute w t revoke s
  | .tblCommitComplete => Sys2Proof.Machine.execTblCommitComplete s
  | .tblSync w t => Sys2Proof.Machine.execTblSync w t s
  | .tblSyncRoute w t => Sys2Proof.Machine.execTblSyncRoute w t s
  | .tblSyncComplete => Sys2Proof.Machine.execTblSyncComplete s
  | .tblHbKick w => Sys2Proof.Machine.execTblHbKick w s
  | .heartbeatMiss => Sys2Proof.Machine.execHeartbeatMiss s
  | .tblFbEnter w => Sys2Proof.Machine.execTblFbEnter w s
  | .tblFbExit w => Sys2Proof.Machine.execTblFbExit w s
  | .vdpBind w p v b0 => Sys2Proof.Machine.execVdpBind w p v b0 s
  | .vdpUnbind w p v => Sys2Proof.Machine.execVdpUnbind w p v s
  | .prtCtxWrite w p v => Sys2Proof.Machine.execPrtCtxWrite w p v s
  | .tlpReceive p t nullified => Sys2Proof.Machine.execTlpReceive p t nullified s
  | .headerQueueAdmit p ord => Sys2Proof.Machine.execHeaderQueueAdmit p ord s
  | .headerPipelineRun n => Sys2Proof.Machine.execHeaderPipelineRun n s
  | .packetAdmissionRetry p => Sys2Proof.Machine.execPacketAdmissionRetry p s
  | .hplCtxEnable w n c slot => Sys2Proof.Machine.execHplCtxEnable w n c slot s
  | .hplPcommit w n mask => Sys2Proof.Machine.execHplPcommit w n mask s
  | .hplPcommitComplete n => Sys2Proof.Machine.execHplPcommitComplete n s
  | .hplFtblWrite w t v => Sys2Proof.Machine.execHplFtblWrite w t v s
  | .hplHashk w v => Sys2Proof.Machine.execHplHashk w v s
  | .hplHashrReady => Sys2Proof.Machine.execHplHashrReady s
  | .trapVerdictFwd w n v => Sys2Proof.Machine.execTrapVerdictFwd w n v s
  | .trapVerdictDrop w n v => Sys2Proof.Machine.execTrapVerdictDrop w n v s
  | .trapVerdictSynth w n v => Sys2Proof.Machine.execTrapVerdictSynth w n v s
  | .schedulerSelect p => Sys2Proof.Machine.execSchedulerSelect p s
  | .cutThroughUnderrun p => Sys2Proof.Machine.execCutThroughUnderrun p s
  | .cellUncorrectableError pkt place => Sys2Proof.Machine.execCellUncorrectableError pkt place s
  | .memoryScrubError k addr => Sys2Proof.Machine.execMemoryScrubError k addr s
  | .gleanerRecordWrite => Sys2Proof.Machine.execGleanerRecordWrite s
  | .glnCfgWrite w v => Sys2Proof.Machine.execGlnCfgWrite w v s
  | .schQCfgWrite w q v => Sys2Proof.Machine.execSchQCfgWrite w q v s
  | .schLenWrite w p v => Sys2Proof.Machine.execSchLenWrite w p v s
  | .schCalEnable w p v => Sys2Proof.Machine.execSchCalEnable w p v s
  | .shpCfgWrite w ix v => Sys2Proof.Machine.execShpCfgWrite w ix v s
  | .polCfgWrite w ix burst v => Sys2Proof.Machine.execPolCfgWrite w ix burst v s
  | .refillTick => Sys2Proof.Machine.execRefillTick s
  | .calendarPeriodStart p => Sys2Proof.Machine.execCalendarPeriodStart p s
  | .phyTrainSet w n => Sys2Proof.Machine.execPhyTrainSet w n s
  | .phyTrainClear w n => Sys2Proof.Machine.execPhyTrainClear w n s
  | .phyTrainAdvance n obs => Sys2Proof.Machine.execPhyTrainAdvance n obs s
  | .phyTrainTimeout n => Sys2Proof.Machine.execPhyTrainTimeout n s
  | .symbolLockLoss n => Sys2Proof.Machine.execSymbolLockLoss n s
  | .phyRecoverRelock n => Sys2Proof.Machine.execPhyRecoverRelock n s
  | .linkDownLdtime n => Sys2Proof.Machine.execLinkDownLdtime n s
  | .phyHalfSet w n => Sys2Proof.Machine.execPhyHalfSet w n s
  | .phyHalfClear w n => Sys2Proof.Machine.execPhyHalfClear w n s
  | .phyFullReadapted n => Sys2Proof.Machine.execPhyFullReadapted n s
  | .widthChange n tx => Sys2Proof.Machine.execWidthChange n tx s
  | .orderHalf n group => Sys2Proof.Machine.execOrderHalf n group s
  | .orderFull n group => Sys2Proof.Machine.execOrderFull n group s
  | .phySubGo w n target => Sys2Proof.Machine.execPhySubGo w n target s
  | .orderDup n lane => Sys2Proof.Machine.execOrderDup n lane s
  | .laneSConverged n => Sys2Proof.Machine.execLaneSConverged n s
  | .orderSwitched n lane => Sys2Proof.Machine.execOrderSwitched n lane s
  | .subConvergeTimeout n => Sys2Proof.Machine.execSubConvergeTimeout n s
  | .orderAbandon n lane => Sys2Proof.Machine.execOrderAbandon n lane s
  | .phyInjgo w n lane => Sys2Proof.Machine.execPhyInjgo w n lane s
  | .idleFrame n h => Sys2Proof.Machine.execIdleFrame n h s
  | .paramFrame n h prm => Sys2Proof.Machine.execParamFrame n h prm s
  | .headFrame n h pay => Sys2Proof.Machine.execHeadFrame n h pay s
  | .bodyFrame n h pay => Sys2Proof.Machine.execBodyFrame n h pay s
  | .tailFrame n h pay => Sys2Proof.Machine.execTailFrame n h pay s
  | .soleFrame n h pay => Sys2Proof.Machine.execSoleFrame n h pay s
  | .chaffFrame n h => Sys2Proof.Machine.execChaffFrame n h s
  | .tsyncFrame n h ts => Sys2Proof.Machine.execTsyncFrame n h ts s
  | .frameCrcFail n => Sys2Proof.Machine.execFrameCrcFail n s
  | .replayTimeout n => Sys2Proof.Machine.execReplayTimeout n s
  | .tsyncSend n => Sys2Proof.Machine.execTsyncSend n s
  | .openMsg m => Sys2Proof.Machine.execOpenMsg m s
  | .accept m => Sys2Proof.Machine.execAccept m s
  | .acceptRefused m => Sys2Proof.Machine.execAcceptRefused m s
  | .receiptDelivery m => Sys2Proof.Machine.execReceiptDelivery m s
  | .receiptRevokeDone m => Sys2Proof.Machine.execReceiptRevokeDone m s
  | .receiptSkipDone m => Sys2Proof.Machine.execReceiptSkipDone m s
  | .receiptAbortDone m => Sys2Proof.Machine.execReceiptAbortDone m s
  | .receiptCloseDone m => Sys2Proof.Machine.execReceiptCloseDone m s
  | .evict m => Sys2Proof.Machine.execEvict m s
  | .fail m => Sys2Proof.Machine.execFail m s
  | .revoke m => Sys2Proof.Machine.execRevoke m s
  | .skip m => Sys2Proof.Machine.execSkip m s
  | .abort m => Sys2Proof.Machine.execAbort m s
  | .close m => Sys2Proof.Machine.execClose m s
  | .fenceSet m => Sys2Proof.Machine.execFenceSet m s
  | .fenceClear m => Sys2Proof.Machine.execFenceClear m s
  | .record m => Sys2Proof.Machine.execRecord m s
  | .rack m => Sys2Proof.Machine.execRack m s
  | .receiptTimerExpiry ctx => Sys2Proof.Machine.execReceiptTimerExpiry ctx s
  | .receiptTimeout ctx => Sys2Proof.Machine.execReceiptTimeout ctx s
  | .noticeRetransmit ctx => Sys2Proof.Machine.execNoticeRetransmit ctx s
  | .openRetry key => Sys2Proof.Machine.execOpenRetry key s
  | .sessionIdle ctx => Sys2Proof.Machine.execSessionIdle ctx s
  | .skipAgeExpiry ctx => Sys2Proof.Machine.execSkipAgeExpiry ctx s
  | .recordRetransmit hfid => Sys2Proof.Machine.execRecordRetransmit hfid s
  | .pcieLinkAck p n => Sys2Proof.Machine.execPcieLinkAck p n s
  | .completionArrival p t => Sys2Proof.Machine.execCompletionArrival p t s
  | .ledgerDeadline e => Sys2Proof.Machine.execLedgerDeadline e s
  | .logRecordWrite fn => Sys2Proof.Machine.execLogRecordWrite fn s
  | .failureLogVector fn => Sys2Proof.Machine.execFailureLogVector fn s
  | .ldgIdxCopy w ix => Sys2Proof.Machine.execLdgIdxCopy w ix s
  | .ldgAercGo w v => Sys2Proof.Machine.execLdgAercGo w v s
  | .ldgAerSearchComplete => Sys2Proof.Machine.execLdgAerSearchComplete s
  | .pcieDlUp p up => Sys2Proof.Machine.execPcieDlUp p up s
  | .pcieDlDown p presenceLost => Sys2Proof.Machine.execPcieDlDown p presenceLost s
  | .perstAssert ix => Sys2Proof.Machine.execPerstAssert ix s
  | .perstDeassert ix => Sys2Proof.Machine.execPerstDeassert ix s
  | .pcieHotResetReceived p => Sys2Proof.Machine.execPcieHotResetReceived p s
  | .hostRetrainLink p v => Sys2Proof.Machine.execHostRetrainLink p v s
  | .hostLinkDisable p v disable => Sys2Proof.Machine.execHostLinkDisable p v disable s
  | .hostSecondaryBusReset p v => Sys2Proof.Machine.execHostSecondaryBusReset p v s
  | .proxyResetWaitExpiry p v k => Sys2Proof.Machine.execProxyResetWaitExpiry p v k s
  | .proxyResetPoll p v k => Sys2Proof.Machine.execProxyResetPoll p v k s
  | .proxyResetTimeout p v k => Sys2Proof.Machine.execProxyResetTimeout p v k s
  | .hostPowerControllerControl p v off => Sys2Proof.Machine.execHostPowerControllerControl p v off s
  | .hostBusNumberChange p v sec sub => Sys2Proof.Machine.execHostBusNumberChange p v sec sub s
  | .hostDpcTrigger p v => Sys2Proof.Machine.execHostDpcTrigger p v s
  | .hostDpcStatusClear p v => Sys2Proof.Machine.execHostDpcStatusClear p v s
  | .hostHdmDecoderCommit p v d => Sys2Proof.Machine.execHostHdmDecoderCommit p v d s
  | .errMessage p rid sev => Sys2Proof.Machine.execErrMessage p rid sev s
  | .ptmRequest p => Sys2Proof.Machine.execPtmRequest p s
  | .ltrMessage p v => Sys2Proof.Machine.execLtrMessage p v s
  | .mctpMessage p t => Sys2Proof.Machine.execMctpMessage p t s
  | .fmapiBind p v b0 => Sys2Proof.Machine.execFmapiBind p v b0 s
  | .fmapiUnbind p v => Sys2Proof.Machine.execFmapiUnbind p v s
  | .prtRstHotrst w p => Sys2Proof.Machine.execPrtRstHotrst w p s
  | .prtRstLdis w p disable => Sys2Proof.Machine.execPrtRstLdis w p disable s
  | .prtRstDpctrig w p => Sys2Proof.Machine.execPrtRstDpctrig w p s
  | .prtRstDpcrel w p => Sys2Proof.Machine.execPrtRstDpcrel w p s
  | .vdlGoneSet w p v => Sys2Proof.Machine.execVdlGoneSet w p v s
  | .hostBmeClear f => Sys2Proof.Machine.execHostBmeClear f s
  | .hostFlr f => Sys2Proof.Machine.execHostFlr f s
  | .flrComplete f => Sys2Proof.Machine.execFlrComplete f s
  | .hostVfEnableClear p => Sys2Proof.Machine.execHostVfEnableClear p s
  | .fnLogEnable f v => Sys2Proof.Machine.execFnLogEnable f v s
  | .fnMbxDb f v => Sys2Proof.Machine.execFnMbxDb f v s
  | .fnMbxRsp w f v => Sys2Proof.Machine.execFnMbxRsp w f v s
  | .ffnCfgWrite w v => Sys2Proof.Machine.execFfnCfgWrite w v s
  | .ffnPfCfgWrite w p v => Sys2Proof.Machine.execFfnPfCfgWrite w p v s
  | .ffnFnCfgWrite w f v => Sys2Proof.Machine.execFfnFnCfgWrite w f v s
  | .fnHoldSet w f => Sys2Proof.Machine.execFnHoldSet w f s
  | .fnHoldClear w f => Sys2Proof.Machine.execFnHoldClear w f s
  | .fnForce w f => Sys2Proof.Machine.execFnForce w f s
  | .dlEnable k v => Sys2Proof.Machine.execDlEnable k v s
  | .dlEntryAge => Sys2Proof.Machine.execDlEntryAge s
  | .dlSync k token => Sys2Proof.Machine.execDlSync k token s
  | .dlSyncComplete k => Sys2Proof.Machine.execDlSyncComplete k s
  | .dmaGo w ch v => Sys2Proof.Machine.execDmaGo w ch v s
  | .dmaAbort w ch => Sys2Proof.Machine.execDmaAbort w ch s
  | .dmaArbitrationRound e => Sys2Proof.Machine.execDmaArbitrationRound e s
  | .dmaDescriptorFetched ch => Sys2Proof.Machine.execDmaDescriptorFetched ch s
  | .dmaLocalisationTimeout e => Sys2Proof.Machine.execDmaLocalisationTimeout e s
  | .spcEnable w ix => Sys2Proof.Machine.execSpcEnable w ix s
  | .spcDisable w ix => Sys2Proof.Machine.execSpcDisable w ix s
  | .spcDclr w ix => Sys2Proof.Machine.execSpcDclr w ix s
  | .spcPerstfSet w ix => Sys2Proof.Machine.execSpcPerstfSet w ix s
  | .spcPerstfClear w ix => Sys2Proof.Machine.execSpcPerstfClear w ix s
  | .spcPresenceBegin ix => Sys2Proof.Machine.execSpcPresenceBegin ix s
  | .spcPresenceLoss ix => Sys2Proof.Machine.execSpcPresenceLoss ix s
  | .spcVinQualified ix => Sys2Proof.Machine.execSpcVinQualified ix s
  | .spcVinLoss ix => Sys2Proof.Machine.execSpcVinLoss ix s
  | .spcRampStart ix => Sys2Proof.Machine.execSpcRampStart ix s
  | .spcRampComplete ix => Sys2Proof.Machine.execSpcRampComplete ix s
  | .spcGriseExpiry ix obs => Sys2Proof.Machine.execSpcGriseExpiry ix obs s
  | .spcPwrgdQualified ix => Sys2Proof.Machine.execSpcPwrgdQualified ix s
  | .spcPwrgdLoss ix => Sys2Proof.Machine.execSpcPwrgdLoss ix s
  | .spcPerstRelease ix => Sys2Proof.Machine.execSpcPerstRelease ix s
  | .spcOffseqEnd ix => Sys2Proof.Machine.execSpcOffseqEnd ix s
  | .spcCurrentLimit ix => Sys2Proof.Machine.execSpcCurrentLimit ix s
  | .spcLimitRelease ix => Sys2Proof.Machine.execSpcLimitRelease ix s
  | .spcFaultTimerExpiry ix => Sys2Proof.Machine.execSpcFaultTimerExpiry ix s
  | .spcFastBreaker ix => Sys2Proof.Machine.execSpcFastBreaker ix s
  | .spcThermalUpdate ix meas => Sys2Proof.Machine.execSpcThermalUpdate ix meas s
  | .spcCooldownEnd ix => Sys2Proof.Machine.execSpcCooldownEnd ix s
  | .spcDsShort ix => Sys2Proof.Machine.execSpcDsShort ix s
  | .spcHoldResume ix => Sys2Proof.Machine.execSpcHoldResume ix s
  | .pwrCtlWrite w v => Sys2Proof.Machine.execPwrCtlWrite w v s
  | .pwrDomainSwitched d => Sys2Proof.Machine.execPwrDomainSwitched d s
  | .refclkLoss => Sys2Proof.Machine.execRefclkLoss s
  | .refclkRevert => Sys2Proof.Machine.execRefclkRevert s
  | .refclkHoldoverExpiry => Sys2Proof.Machine.execRefclkHoldoverExpiry s
  | .xtalAoFail => Sys2Proof.Machine.execXtalAoFail s
  | .sagStageEntry k src reading => Sys2Proof.Machine.execSagStageEntry k src reading s
  | .sagStageExit k => Sys2Proof.Machine.execSagStageExit k s
  | .sagForceWrite w v => Sys2Proof.Machine.execSagForceWrite w v s
  | .sagClrmax w => Sys2Proof.Machine.execSagClrmax w s
  | .sagForcedDeadline => Sys2Proof.Machine.execSagForcedDeadline s
  | .vigilEntry src => Sys2Proof.Machine.execVigilEntry src s
  | .vigilExit => Sys2Proof.Machine.execVigilExit s
  | .resetNAssert => Sys2Proof.Machine.execResetNAssert s
  | .vddAoLoss => Sys2Proof.Machine.execVddAoLoss s
  | .pcnSnap w v => Sys2Proof.Machine.execPcnSnap w v s
  | .trcSeedWrite w v => Sys2Proof.Machine.execTrcSeedWrite w v s
  | .almSeal w => Sys2Proof.Machine.execAlmSeal w s
  | .almSealBegin => Sys2Proof.Machine.execAlmSealBegin s
  | .almSealComplete readBackGood => Sys2Proof.Machine.execAlmSealComplete readBackGood s
  | .almFwrecAppend w x v => Sys2Proof.Machine.execAlmFwrecAppend w x v s
  | .almSlotLock w ix => Sys2Proof.Machine.execAlmSlotLock w ix s
  | .almSlotRelease w ix => Sys2Proof.Machine.execAlmSlotRelease w ix s
  | .wearMeasure kind idx g => Sys2Proof.Machine.execWearMeasure kind idx g s
  | .wearIdxCopy w v => Sys2Proof.Machine.execWearIdxCopy w v s
  | .wearAck w v => Sys2Proof.Machine.execWearAck w v s
  | .falSelfTest j => Sys2Proof.Machine.execFalSelfTest j s
  | .falSelfTestEnd j pass => Sys2Proof.Machine.execFalSelfTestEnd j pass s
  | .falGo w v => Sys2Proof.Machine.execFalGo w v s
  | .falPhaseComplete pass => Sys2Proof.Machine.execFalPhaseComplete pass s
  | .glbModeWrite w v => Sys2Proof.Machine.execGlbModeWrite w v s
  | .secVerifyGo w flashB => Sys2Proof.Machine.execSecVerifyGo w flashB s
  | .secVerifyComplete chk => Sys2Proof.Machine.execSecVerifyComplete chk s
  | .secFlashRead w v => Sys2Proof.Machine.execSecFlashRead w v s
  | .secFlashProgram w v => Sys2Proof.Machine.execSecFlashProgram w v s
  | .secFlashErase w v => Sys2Proof.Machine.execSecFlashErase w v s
  | .secFlashOpComplete ok data => Sys2Proof.Machine.execSecFlashOpComplete ok data s
  | .registerWrite w off v => Sys2Proof.Machine.execRegisterWrite w off v s
  | .registerBadAccess w a => Sys2Proof.Machine.execRegisterBadAccess w a s
  | .reservedOpcode c word => Sys2Proof.Machine.execReservedOpcode c word s
  | .vddAoPowerOn => Sys2Proof.Machine.execVddAoPowerOn s
  | .refclkInputValid inputB => Sys2Proof.Machine.execRefclkInputValid inputB s
  | .tagQuarantineExpiry p q => Sys2Proof.Machine.execTagQuarantineExpiry p q s
  | .pcieCreditReturn p c => Sys2Proof.Machine.execPcieCreditReturn p c s
  | .dmaLocalAccessComplete ch => Sys2Proof.Machine.execDmaLocalAccessComplete ch s
  | .checkerSynchronised n lane => Sys2Proof.Machine.execCheckerSynchronised n lane s

end Sys2Proof.Machine
end

