-- ==== Sys2Proof/Machine/Step.lean ====
section
/-! DEFINITION. Machine/Step.lean: one step takes the command at the front of the queue; on an empty queue the block idles for
one CK_AO cycle (log entry 1).  `withFetchWord` puts the command a word spells at the front of the queue. -/

namespace Sys2Proof.Machine

/-- The step on an empty queue: 5 ns, one CK_AO cycle, pass (log entry 1). -/
def idle (s : State) : State := { s with now := s.now + 5000 }

/-- One step: the command at the front runs with the queue's rest. -/
def step (s : State) : Host.Outcome State Fault Refusal :=
  match s.pending with
  | [] => .next (idle s)
  | c :: rest => exec c { s with pending := rest }

/-- The state with the command that a word spells at the front of its queue; unchanged when the word spells none. -/
def State.withFetchWord (s : State) (nbits w : Nat) : State :=
  match decodeTableWord nbits w with
  | none => s
  | some c => { s with pending := c :: s.pending }

end Sys2Proof.Machine
end

