-- ==== Sys2Proof/WellFormed.lean ====
section
/-! DEFINITION. WellFormed.lean: which commands name an event that can occur. A command whose operands are only indices, words written or
observations always does; a received word, frame, packet or message must have the form its row is about (R42, R404, R435, R23). -/

namespace Sys2Proof

/-- Whether a command's operands are of the form its row is about. Instruction fields are not checked here: a control core answers a bad
field with Illegal Instruction. -/
def Instr.wellFormed : Instr → Bool
  | .tlpReceive _ t _ => t.ok
  | .headFrame _ h pay => Machine.frameOk h pay
  | .bodyFrame _ h pay => Machine.frameOk h pay
  | .tailFrame _ h pay => Machine.frameOk h pay && decide (h.len.toNat < 240)
  | .soleFrame _ h pay => Machine.frameOk h pay && decide (h.len.toNat < 240)
  | .accept m => decide (m.code.toNat = 0)
  | .acceptRefused m => decide (m.code.toNat ≠ 0)
  | .receiptDelivery m => decide (m.code.toNat = 0)
  | .receiptRevokeDone m => decide (m.code.toNat = 1)
  | .receiptSkipDone m => decide (m.code.toNat = 2)
  | .receiptAbortDone m => decide (m.code.toNat = 3)
  | .receiptCloseDone m => decide (m.code.toNat = 4)
  | .fenceSet m => decide (m.code.toNat = 1)
  | .fenceClear m => decide (m.code.toNat = 0)
  | .completionArrival _ t => t.ok && Machine.kindCpl t.tkind
  | .mctpMessage _ t => t.ok && (t.tkind = 0x06 || t.tkind = 0x07)
  | .secFlashOpComplete _ data => decide (data.length = 256)
  | .reservedOpcode _ w => Machine.reservedWord w.toNat
  | .add .. | .sub .. | .and .. | .or .. | .xor .. | .shl .. | .shr .. | .sar .. | .mul .. | .mulh .. | .mulhU .. | .div ..
  | .divU .. | .rem .. | .remU .. | .min .. | .minU .. | .max .. | .maxU .. | .sel .. | .clz .. | .pop .. | .crc8 ..
  | .crc32c .. | .crc64 .. | .hash .. | .cmp .. | .addi .. | .andi .. | .ori .. | .lih .. | .ext .. | .ins .. | .ld .. | .st ..
  | .ldp .. | .stp .. | .ldrv .. | .stcd .. | .amoadd .. | .amoswp .. | .amomax .. | .cinc .. | .fenceS .. | .fenceL ..
  | .fenceF .. | .fenceX .. | .fenceComplete .. | .fenceXComplete .. | .storeBufferDrain .. | .bp .. | .call .. | .ret ..
  | .lkp .. | .lkpu .. | .send .. | .wait .. | .waitTimeout .. | .mfs .. | .mts .. | .trap .. | .eret .. | .prio .. | .crit ..
  | .endcrit .. | .halt .. | .haltStop .. | .nop .. | .critBudgetExpiry .. | .reservationHoldExpiry .. | .heldEventRelease ..
  | .eventDispatch .. | .handlerBudgetExceeded .. | .evtQCfgWrite .. | .timerFire .. | .evtMbxDb .. | .evtMbxRsp ..
  | .coreEnable .. | .coreDisable .. | .coreWarmReset .. | .warmResetDrainExpiry .. | .watchdogKick .. | .watchdogExpiry ..
  | .resetNRelease .. | .bootImageChosen .. | .bootEarlyCopied .. | .bootSectionsCopied .. | .clusterImageCopy ..
  | .tblCommit .. | .tblCommitRevoke .. | .tblCommitRoute .. | .tblCommitComplete .. | .tblSync .. | .tblSyncRoute ..
  | .tblSyncComplete .. | .tblHbKick .. | .heartbeatMiss .. | .tblFbEnter .. | .tblFbExit .. | .vdpBind .. | .vdpUnbind ..
  | .prtCtxWrite .. | .headerQueueAdmit .. | .headerPipelineRun .. | .packetAdmissionRetry .. | .hplCtxEnable ..
  | .hplPcommit .. | .hplPcommitComplete .. | .hplFtblWrite .. | .hplHashk .. | .hplHashrReady .. | .trapVerdictFwd ..
  | .trapVerdictDrop .. | .trapVerdictSynth .. | .schedulerSelect .. | .cutThroughUnderrun .. | .cellUncorrectableError ..
  | .memoryScrubError .. | .gleanerRecordWrite .. | .glnCfgWrite .. | .schQCfgWrite .. | .schLenWrite .. | .schCalEnable ..
  | .shpCfgWrite .. | .polCfgWrite .. | .refillTick .. | .calendarPeriodStart .. | .phyTrainSet .. | .phyTrainClear ..
  | .phyTrainAdvance .. | .phyTrainTimeout .. | .symbolLockLoss .. | .phyRecoverRelock .. | .linkDownLdtime .. | .phyHalfSet ..
  | .phyHalfClear .. | .phyFullReadapted .. | .widthChange .. | .orderHalf .. | .orderFull .. | .phySubGo .. | .orderDup ..
  | .laneSConverged .. | .orderSwitched .. | .subConvergeTimeout .. | .orderAbandon .. | .phyInjgo .. | .idleFrame ..
  | .paramFrame .. | .chaffFrame .. | .tsyncFrame .. | .frameCrcFail .. | .replayTimeout .. | .tsyncSend .. | .openMsg ..
  | .evict .. | .fail .. | .revoke .. | .skip .. | .abort .. | .close .. | .record .. | .rack .. | .receiptTimerExpiry ..
  | .receiptTimeout .. | .noticeRetransmit .. | .openRetry .. | .sessionIdle .. | .skipAgeExpiry .. | .recordRetransmit ..
  | .pcieLinkAck .. | .ledgerDeadline .. | .logRecordWrite .. | .failureLogVector .. | .ldgIdxCopy .. | .ldgAercGo ..
  | .ldgAerSearchComplete .. | .pcieDlUp .. | .pcieDlDown .. | .perstAssert .. | .perstDeassert .. | .pcieHotResetReceived ..
  | .hostRetrainLink .. | .hostLinkDisable .. | .hostSecondaryBusReset .. | .proxyResetWaitExpiry .. | .proxyResetPoll ..
  | .proxyResetTimeout .. | .hostPowerControllerControl .. | .hostBusNumberChange .. | .hostDpcTrigger ..
  | .hostDpcStatusClear .. | .hostHdmDecoderCommit .. | .errMessage .. | .ptmRequest .. | .ltrMessage .. | .fmapiBind ..
  | .fmapiUnbind .. | .prtRstHotrst .. | .prtRstLdis .. | .prtRstDpctrig .. | .prtRstDpcrel .. | .vdlGoneSet ..
  | .hostBmeClear .. | .hostFlr .. | .flrComplete .. | .hostVfEnableClear .. | .fnLogEnable .. | .fnMbxDb .. | .fnMbxRsp ..
  | .ffnCfgWrite .. | .ffnPfCfgWrite .. | .ffnFnCfgWrite .. | .fnHoldSet .. | .fnHoldClear .. | .fnForce .. | .dlEnable ..
  | .dlEntryAge .. | .dlSync .. | .dlSyncComplete .. | .dmaGo .. | .dmaAbort .. | .dmaArbitrationRound ..
  | .dmaDescriptorFetched .. | .dmaLocalisationTimeout .. | .spcEnable .. | .spcDisable .. | .spcDclr .. | .spcPerstfSet ..
  | .spcPerstfClear .. | .spcPresenceBegin .. | .spcPresenceLoss .. | .spcVinQualified .. | .spcVinLoss .. | .spcRampStart ..
  | .spcRampComplete .. | .spcGriseExpiry .. | .spcPwrgdQualified .. | .spcPwrgdLoss .. | .spcPerstRelease ..
  | .spcOffseqEnd .. | .spcCurrentLimit .. | .spcLimitRelease .. | .spcFaultTimerExpiry .. | .spcFastBreaker ..
  | .spcThermalUpdate .. | .spcCooldownEnd .. | .spcDsShort .. | .spcHoldResume .. | .pwrCtlWrite .. | .pwrDomainSwitched ..
  | .refclkLoss .. | .refclkRevert .. | .refclkHoldoverExpiry .. | .xtalAoFail .. | .sagStageEntry .. | .sagStageExit ..
  | .sagForceWrite .. | .sagClrmax .. | .sagForcedDeadline .. | .vigilEntry .. | .vigilExit .. | .resetNAssert ..
  | .vddAoLoss .. | .pcnSnap .. | .trcSeedWrite .. | .almSeal .. | .almSealBegin .. | .almSealComplete .. | .almFwrecAppend ..
  | .almSlotLock .. | .almSlotRelease .. | .wearMeasure .. | .wearIdxCopy .. | .wearAck .. | .falSelfTest ..
  | .falSelfTestEnd .. | .falGo .. | .falPhaseComplete .. | .glbModeWrite .. | .secVerifyGo .. | .secVerifyComplete ..
  | .secFlashRead .. | .secFlashProgram .. | .secFlashErase .. | .registerWrite .. | .registerBadAccess .. | .vddAoPowerOn ..
  | .refclkInputValid .. | .tagQuarantineExpiry .. | .pcieCreditReturn .. | .dmaLocalAccessComplete ..
  | .checkerSynchronised .. => true

end Sys2Proof
end

