-- ==== Sys2Proof/Safety.lean ====
section
/-! DEFINITION. Safety.lean: the terms the claims use: answers of a step, runs, the canonical form of the state's memories and registers,
and when a control core executes an instruction. -/

namespace Sys2Proof.Machine

/-- A command answers a next state. -/
def Answers (o : Host.Outcome State Fault Refusal) (t : State) : Prop := o = .next t

/-- The canonical form of table memory and of the clusters' memories: addresses strictly rising, no byte listed that reads as an unlisted
one does. -/
def Memory.wf (s : State) : Bool := SMap.wf (fun _ => 0) s.tmem && SMap.wf (fun _ => 0) s.cmem

/-- The canonical form of the registers: offsets strictly rising, none listed at its reset value. -/
def Registers.wf (s : State) : Bool := SMap.wf regReset s.regs

/-- A command is safe in a state: it answers a next state. -/
def Safe (c : Instr) (s : State) : Prop := ∃ t, exec c s = .next t

/-- The state in which an instruction of core `c` has been issued: its sampling has been decided (R688). -/
def State.issued (s : State) (c : CoreId) (word : Nat) : State := s.itagIssue c word

/-- Core `c` can execute its next instruction and fetches inside its cluster's memory (R119, R62). -/
def State.fetches (s : State) (c : CoreId) : Bool := s.coreReady c && decide ((s.ctx c).pc.toNat < 0x800000)

/-- Core `c` executes an instruction whose guard holds. -/
def State.runs (s : State) (c : CoreId) (f : FmtA) : Bool := s.fetches c && s.guardA c f

/-- The state after an instruction of core `c` that writes one register: issued, register written, PC moved on. -/
def State.wrote (s : State) (c : CoreId) (word d : Nat) (v : Word) : State := ((s.issued c word).setGreg c d v).advance c

/-- The state in which a memory instruction has its address. -/
def State.addressed (s : State) (c : CoreId) (word : Nat) (a : Word) : State := (s.issued c word).itagAddr c a

/-- A register command of writer `w` reaches the register at offset `a`: its domain is live, recovery exposes it, and no handler writes a
guarded register (R66, R152, R645). -/
def State.reaches (s : State) (w : Writer) (a : Nat) : Bool :=
  !(guardedReg a && s.inHandler w) && !(s.inRecovery && !recoveryWrites a) && s.live (domainOf a)

/-- No copy of a mirror session is held: a message of this node then finds or waits for its cells without making room (R276, R293). -/
def State.noCopies (s : State) : Bool := s.pkts.all fun k => match k.origin with
  | .mirror _ => false
  | _ => true

end Sys2Proof.Machine
end

