-- ==== Sys2Proof/Certificates/Slice0/Obligations.lean ====
section
/-! DEFINITION. Certificates/Slice0/Obligations.lean: the statements about the model for the provers. -/

open Sys2Proof Sys2Proof.Machine

/-- For every command c and state s, a step of s with c at the front of its queue is exec of c on s with the queue's rest. On an empty queue the block idles for 5 ns and nothing else changes (the model's choice, log entry 1). The spec has no queue of commands: the queue is the model's form of a block. -/
def Obligations.StepRunsFrontCommand : Prop :=
  (∀ (c : Instr) (s : State), step { s with pending := c :: s.pending } = exec c s) ∧
  (∀ (c : Instr) (rest : List Instr) (s : State), s.pending = c :: rest → step s = exec c { s with pending := rest }) ∧
  (∀ s : State, s.pending = [] → step s = .next { s with now := s.now + 5000 })

/-- A core has 32 general registers: register 0 reads as zero and a write to it is discarded; a write to any other register is read back and leaves every other register and every other core's registers as they were. The same of a core's 8 predicates, with p0 always true. -/
def Obligations.RegisterZeroAndRegisters : Prop :=
  (∀ (s : State) (c : CoreId) (v : Word), s.greg c 0 = 0 ∧ (s.ctx c).setReg 0 v = s.ctx c) ∧
  (∀ (s : State) (c : CoreId) (n : Fin 32) (v : Word), n ≠ 0 →
    (s.setGreg c n.val v).greg c n.val = v ∧
    (∀ m : Fin 32, m ≠ n → (s.setGreg c n.val v).greg c m.val = s.greg c m.val) ∧
    (∀ d : CoreId, d ≠ c → (s.setGreg c n.val v).core d.num = s.core d.num)) ∧
  (∀ (x : Ctx) (b : Bool), x.pred 0 = true ∧ x.setPred 0 b = x) ∧
  (∀ (x : Ctx) (n : Fin 8) (b : Bool), n ≠ 0 →
    (x.setPred n.val b).pred n.val = b ∧ ∀ m : Fin 8, m ≠ n → (x.setPred n.val b).pred m.val = x.pred m.val)

/-- A core that fetches inside its cluster's memory and whose guard predicate holds completes ADD, SUB, AND, OR, XOR, SHL, SHR, SAR, MUL, MULH, MULH.u, DIV, DIV.u, REM, REM.u, MIN, MIN.u, MAX, MAX.u, SEL, CLZ, POP, CRC.8, CRC.32C, CRC.64 and HASH: it writes the result of R46 to dst and moves on; SEL takes the guard predicate as its selector and always executes. It completes CMP with its guard true and dst[4:3] zero, writing the condition to predicate dst[2:0]; ADDI, ANDI, ORI, LIH with srcA[4:2] zero, EXT and INS with a field inside the word and permitted variant bits, writing the result of R46 to dst; and NOP, which only moves on. -/
def Obligations.AluResults : Prop :=
  (∀ (s : State) (c : CoreId) (f : FmtA) (a b : Word), a = s.greg c f.srcA.toNat → b = s.greg c f.srcB.toNat →
    (s.fetches c → exec (.sel c f) s = .next (s.wrote c (encA 0x01 0x13 f) f.dst.toNat
      (if (s.ctx c).pred f.pred.toNat then a else b))) ∧
    (s.runs c f →
      exec (.add c f) s = .next (s.wrote c (encA 0x01 0x00 f) f.dst.toNat (a + b)) ∧
      exec (.sub c f) s = .next (s.wrote c (encA 0x01 0x01 f) f.dst.toNat (a - b)) ∧
      exec (.and c f) s = .next (s.wrote c (encA 0x01 0x02 f) f.dst.toNat (a &&& b)) ∧
      exec (.or c f) s = .next (s.wrote c (encA 0x01 0x03 f) f.dst.toNat (a ||| b)) ∧
      exec (.xor c f) s = .next (s.wrote c (encA 0x01 0x04 f) f.dst.toNat (a ^^^ b)) ∧
      exec (.shl c f) s = .next (s.wrote c (encA 0x01 0x05 f) f.dst.toNat (a <<< (b.toNat % 64))) ∧
      exec (.shr c f) s = .next (s.wrote c (encA 0x01 0x06 f) f.dst.toNat (a >>> (b.toNat % 64))) ∧
      exec (.sar c f) s = .next (s.wrote c (encA 0x01 0x07 f) f.dst.toNat (a.sshiftRight (b.toNat % 64))) ∧
      exec (.mul c f) s = .next (s.wrote c (encA 0x01 0x08 f) f.dst.toNat (a * b)) ∧
      exec (.mulh c f) s = .next (s.wrote c (encA 0x01 0x09 f) f.dst.toNat (mulHi a b)) ∧
      exec (.mulhU c f) s = .next (s.wrote c (encA 0x01 0x0A f) f.dst.toNat (mulHiU a b)) ∧
      exec (.div c f) s = .next (s.wrote c (encA 0x01 0x0B f) f.dst.toNat (divS a b)) ∧
      exec (.divU c f) s = .next (s.wrote c (encA 0x01 0x0C f) f.dst.toNat (divU a b)) ∧
      exec (.rem c f) s = .next (s.wrote c (encA 0x01 0x0D f) f.dst.toNat (remS a b)) ∧
      exec (.remU c f) s = .next (s.wrote c (encA 0x01 0x0E f) f.dst.toNat (remU a b)) ∧
      exec (.min c f) s = .next (s.wrote c (encA 0x01 0x0F f) f.dst.toNat (if a.toInt ≤ b.toInt then a else b)) ∧
      exec (.minU c f) s = .next (s.wrote c (encA 0x01 0x10 f) f.dst.toNat (if a.toNat ≤ b.toNat then a else b)) ∧
      exec (.max c f) s = .next (s.wrote c (encA 0x01 0x11 f) f.dst.toNat (if a.toInt ≤ b.toInt then b else a)) ∧
      exec (.maxU c f) s = .next (s.wrote c (encA 0x01 0x12 f) f.dst.toNat (if a.toNat ≤ b.toNat then b else a)) ∧
      (f.srcB = 0 → exec (.clz c f) s =
        .next (s.wrote c (encA 0x01 0x14 f) f.dst.toNat (BitVec.ofNat 64 (leadingZeros a)))) ∧
      (f.srcB = 0 → exec (.pop c f) s =
        .next (s.wrote c (encA 0x01 0x15 f) f.dst.toNat (BitVec.ofNat 64 (onesBelow a 64)))) ∧
      exec (.crc8 c f) s = .next (s.wrote c (encA 0x01 0x16 f) f.dst.toNat (crc8 a b)) ∧
      exec (.crc32c c f) s = .next (s.wrote c (encA 0x01 0x17 f) f.dst.toNat (crc32c a b)) ∧
      exec (.crc64 c f) s = .next (s.wrote c (encA 0x01 0x18 f) f.dst.toNat (crc64 a b)) ∧
      exec (.hash c f) s = .next (s.wrote c (encA 0x01 0x19 f) f.dst.toNat (flowHash (s.rg R.HPL_HSEED) a b)))) ∧
  (∀ (s : State) (c : CoreId), s.fetches c →
    (∀ (f : FmtA) (k : Cond), s.guardA c f = true → f.dst.toNat < 8 →
      exec (.cmp c f k) s = .next (((s.issued c (encA 0x02 k.code f)).setCtx c (((s.issued c (encA 0x02 k.code f)).ctx c).setPred
        f.dst.toNat (condHolds k (s.greg c f.srcA.toNat) (s.greg c f.srcB.toNat)))).advance c)) ∧
    (∀ f : FmtI,
      exec (.addi c f) s = .next (s.wrote c (encI 0x03 f) f.dst.toNat (s.greg c f.srcA.toNat + f.imm.signExtend 64)) ∧
      exec (.andi c f) s = .next (s.wrote c (encI 0x04 f) f.dst.toNat (s.greg c f.srcA.toNat &&& f.imm.setWidth 64)) ∧
      exec (.ori c f) s = .next (s.wrote c (encI 0x05 f) f.dst.toNat (s.greg c f.srcA.toNat ||| f.imm.setWidth 64)) ∧
      (f.srcA.toNat < 4 → exec (.lih c f) s = .next (s.wrote c (encI 0x06 f) f.dst.toNat
        (insertField (s.greg c f.dst.toNat) (f.imm.setWidth 64) (16 * f.srcA.toNat) 16)))) ∧
    (∀ f : FmtF, f.pos.toNat + f.width1.toNat + 1 ≤ 64 →
      (f.var.toNat < 2 → exec (.ext c f) s = .next (s.wrote c (encF 0x07 f) f.dst.toNat
        (extractField (s.greg c f.src.toNat) f.pos.toNat (f.width1.toNat + 1) (f.var.getLsbD 0)))) ∧
      (f.var = 0 → exec (.ins c f) s = .next (s.wrote c (encF 0x08 f) f.dst.toNat
        (insertField (s.greg c f.dst.toNat) (s.greg c f.src.toNat) f.pos.toNat (f.width1.toNat + 1))))) ∧
    exec (.nop c) s = .next ((s.issued c 0x04000003).advance c))

/-- The operations that AluResults names are those of the table of R46: the high halves of the 128-bit products; division rounded toward zero with all ones for a zero divisor, and −2^63 ÷ −1 = −2^63; the remainder with a for a zero divisor and the division identity; CLZ as the length of the longest run of zero bits from the top; POP as the number of one bits; bit-field extraction and insertion bit by bit. -/
def Obligations.ArithmeticAgrees : Prop :=
  (∀ a b : Word, mulHi a b = ((a.signExtend 128 * b.signExtend 128) >>> 64).setWidth 64) ∧
  (∀ a b : Word, mulHiU a b = ((a.setWidth 128 * b.setWidth 128) >>> 64).setWidth 64) ∧
  (∀ a : Word, divS a 0 = BitVec.allOnes 64 ∧ divU a 0 = BitVec.allOnes 64 ∧ remS a 0 = a ∧ remU a 0 = a) ∧
  (∀ a b : Word, b ≠ 0 → divS a b = a.sdiv b ∧ remS a b = a.srem b ∧ divS a b * b + remS a b = a) ∧
  (∀ a b : Word, b ≠ 0 → divU a b * b + remU a b = a ∧ (remU a b).toNat < b.toNat) ∧
  divS (BitVec.intMin 64) (BitVec.allOnes 64) = BitVec.intMin 64 ∧ remS (BitVec.intMin 64) (BitVec.allOnes 64) = 0 ∧
  (∀ a : Word, leadingZeros a ≤ 64 ∧ (∀ i, 64 - leadingZeros a ≤ i → a.getLsbD i = false) ∧
    (a ≠ 0 → a.getLsbD (63 - leadingZeros a) = true)) ∧
  (∀ a : Word, onesBelow a 64 = ((List.range 64).filter fun i => a.getLsbD i).length) ∧
  (∀ (a : Word) (pos width i : Nat), 0 < width → pos + width ≤ 64 → i < 64 →
    (extractField a pos width false).getLsbD i = (decide (i < width) && a.getLsbD (pos + i)) ∧
    (extractField a pos width true).getLsbD i = a.getLsbD (pos + min i (width - 1))) ∧
  (∀ (d a : Word) (pos width i : Nat), pos + width ≤ 64 → i < 64 →
    (insertField d a pos width).getLsbD i =
      if pos ≤ i ∧ i < pos + width then a.getLsbD (i - pos) else d.getLsbD i)

/-- A format A arithmetic instruction whose guard is false only moves on. An instruction with a nonzero unused field (CLZ and POP with srcB, CMP with dst[4:3], LIH with srcA[4:2]), or an EXT or INS whose field leaves the word or whose variant bits are not permitted, raises Illegal Instruction with the instruction word in TVAL, whatever its guard (that the check comes before the guard is the model's reading, log entry 48). -/
def Obligations.GuardAndIllegalForms : Prop :=
  ∀ (s : State) (c : CoreId), s.fetches c →
    (∀ f : FmtA, s.guardA c f = false →
      exec (.add c f) s = .next ((s.issued c (encA 0x01 0x00 f)).advance c) ∧
      exec (.div c f) s = .next ((s.issued c (encA 0x01 0x0B f)).advance c) ∧
      exec (.hash c f) s = .next ((s.issued c (encA 0x01 0x19 f)).advance c)) ∧
    (∀ f : FmtA, f.srcB ≠ 0 →
      exec (.clz c f) s = .next ((s.issued c (encA 0x01 0x14 f)).raise c 0x01 0 (BitVec.ofNat 64 (encA 0x01 0x14 f))) ∧
      exec (.pop c f) s = .next ((s.issued c (encA 0x01 0x15 f)).raise c 0x01 0 (BitVec.ofNat 64 (encA 0x01 0x15 f)))) ∧
    (∀ (f : FmtA) (k : Cond), 8 ≤ f.dst.toNat →
      exec (.cmp c f k) s = .next ((s.issued c (encA 0x02 k.code f)).raise c 0x01 0 (BitVec.ofNat 64 (encA 0x02 k.code f)))) ∧
    (∀ f : FmtI, 4 ≤ f.srcA.toNat →
      exec (.lih c f) s = .next ((s.issued c (encI 0x06 f)).raise c 0x01 0 (BitVec.ofNat 64 (encI 0x06 f)))) ∧
    (∀ f : FmtF, 64 < f.pos.toNat + f.width1.toNat + 1 ∨ 2 ≤ f.var.toNat →
      exec (.ext c f) s = .next ((s.issued c (encF 0x07 f)).raise c 0x01 0 (BitVec.ofNat 64 (encF 0x07 f)))) ∧
    (∀ f : FmtF, 64 < f.pos.toNat + f.width1.toNat + 1 ∨ f.var ≠ 0 →
      exec (.ins c f) s = .next ((s.issued c (encF 0x08 f)).raise c 0x01 0 (BitVec.ofNat 64 (encF 0x08 f))))

/-- When an integer, compare, immediate or field instruction executes normally (the core fetches inside its memory, no ill-formed field), every general register but dst, every special register, every other core, the store buffer and the reservation, every byte of table memory and of the clusters' memories and every device register but the traced-instruction count are unchanged; CMP changes no general register, and the others no predicate. -/
def Obligations.RegisterInstructionFrame : Prop :=
  ∀ (s t : State) (c : CoreId) (f : FmtA) (g : FmtI) (h : FmtF) (k : Cond) (i : Instr) (d : Option Nat), s.fetches c →
    ((i, d) ∈ ([(.add c f, some f.dst.toNat), (.sub c f, some f.dst.toNat), (.mulh c f, some f.dst.toNat),
        (.div c f, some f.dst.toNat), (.rem c f, some f.dst.toNat), (.sel c f, some f.dst.toNat), (.crc64 c f, some f.dst.toNat),
        (.hash c f, some f.dst.toNat), (.addi c g, some g.dst.toNat), (.andi c g, some g.dst.toNat),
        (.ori c g, some g.dst.toNat), (.nop c, none)] : List (Instr × Option Nat)) ∨
      (i = .clz c f ∧ d = some f.dst.toNat ∧ f.srcB = 0) ∨ (i = .pop c f ∧ d = some f.dst.toNat ∧ f.srcB = 0) ∨
      (i = .cmp c f k ∧ d = none ∧ f.dst.toNat < 8) ∨ (i = .lih c g ∧ d = some g.dst.toNat ∧ g.srcA.toNat < 4) ∨
      (i = .ext c h ∧ d = some h.dst.toNat ∧ h.pos.toNat + h.width1.toNat + 1 ≤ 64 ∧ h.var.toNat < 2) ∨
      (i = .ins c h ∧ d = some h.dst.toNat ∧ h.pos.toNat + h.width1.toNat + 1 ≤ 64 ∧ h.var = 0)) →
    exec i s = .next t →
      (∀ n : Fin 32, d ≠ some n.val → t.greg c n.val = s.greg c n.val) ∧
      (i ≠ .cmp c f k → (t.ctx c).p = (s.ctx c).p) ∧
      (∀ n : Fin 8, n.val ≠ f.dst.toNat → (t.ctx c).pred n.val = (s.ctx c).pred n.val) ∧
      { t.ctx c with g := [], p := 0, pc := 0 } = { s.ctx c with g := [], p := 0, pc := 0 } ∧
      (t.ctx c).pc = (s.ctx c).pc + 4 ∧
      (t.core c.num).sbuf = (s.core c.num).sbuf ∧ (t.core c.num).resv = (s.core c.num).resv ∧
      (∀ e : CoreId, e ≠ c → t.core e.num = s.core e.num) ∧
      t.tmem = s.tmem ∧ t.cmem = s.cmem ∧ (∀ a, a ≠ R.TRC_CNT_ITRACED.reg → t.rg a = s.rg a)

/-- With no Remote load in its slot and no access exception at the address, LD of every size completes: from Normal and Table memory without an uncorrectable error it writes the bytes of memory as the core sees them through its store buffer, zero- or sign-extended; an LD.d of Device memory writes the register read; LDP writes the register pair, from Normal and Table memory, and from two Device registers read one after the other. A load of Table memory waits for a buffered CINC to its bytes (R85). A Remote LD or LDP that no buffered store to its FID holds back enters the ledger and stalls the core with the load in its slot; its data come with CompletionArrival. -/
def Obligations.LoadResults : Prop :=
  ∀ (s : State) (c : CoreId) (f : FmtM) (a : Nat), s.fetches c → (s.ctx c).rload = none → a = (s.effAddr c f).toNat →
    (f.size.toNat ≠ 7 → accessFault a (2 ^ (f.size.toNat % 4)) 1 = none →
      ((memType a = some .normal ∨ memType a = some .table ∧ s.addBuffered c a (2 ^ (f.size.toNat % 4)) = false) →
        exec (.ld c f false) s = .next (((s.addressed c (encM 0x10 f) (s.effAddr c f)).setGreg c f.data.toNat
          (if 4 ≤ f.size.toNat then sextTo (8 * 2 ^ (f.size.toNat % 4)) (ofBytesLE (s.loadBytes c a (2 ^ (f.size.toNat % 4))))
           else BitVec.ofNat 64 (ofBytesLE (s.loadBytes c a (2 ^ (f.size.toNat % 4)))))).advance c)) ∧
      (memType a = some .device → s.live (domainOf (a - 0x40000000)) = true →
        exec (.ld c f false) s = .next
          ((((s.addressed c (encM 0x10 f) (s.effAddr c f)).regLoad (.core c) (a - 0x40000000)).2.setGreg c f.data.toNat
            ((s.addressed c (encM 0x10 f) (s.effAddr c f)).regLoad (.core c) (a - 0x40000000)).1).advance c)) ∧
      (memType a = some .remote → s.remoteHeld c a = false →
        ∀ (t : State) (i : Nat),
          (s.addressed c (encM 0x10 f) (s.effAddr c f)).remoteRequest c 0x20 a (2 ^ (f.size.toNat % 4)) [] = some (t, i, true) →
          exec (.ld c f false) s = .next (t.setCtx c { t.ctx c with
            rload := some ⟨⟨f.data.toNat, 2 ^ (f.size.toNat % 4), decide (4 ≤ f.size.toNat), a⟩, i, none, false⟩ }))) ∧
    (f.size = 0 → f.data.toNat % 2 = 0 → accessFault a 16 1 = none →
      ((memType a = some .normal ∨ memType a = some .table ∧ s.addBuffered c a 16 = false) →
        exec (.ldp c f false) s = .next ((((s.addressed c (encM 0x12 f) (s.effAddr c f)).setGreg c f.data.toNat
          (BitVec.ofNat 64 (ofBytesLE (s.loadBytes c a 8)))).setGreg c (f.data.toNat + 1)
          (BitVec.ofNat 64 (ofBytesLE (s.loadBytes c (a + 8) 8)))).advance c)) ∧
      (memType a = some .device → s.live (domainOf (a - 0x40000000)) = true → s.live (domainOf (a - 0x40000000 + 8)) = true →
        ∀ (u v : State) (x y : Word), (s.addressed c (encM 0x12 f) (s.effAddr c f)).regLoad (.core c) (a - 0x40000000) = (x, u) →
          u.regLoad (.core c) (a - 0x40000000 + 8) = (y, v) →
          exec (.ldp c f false) s = .next (((v.setGreg c f.data.toNat x).setGreg c (f.data.toNat + 1) y).advance c)) ∧
      (memType a = some .remote → s.remoteHeld c a = false →
        ∀ (t : State) (i : Nat),
          (s.addressed c (encM 0x12 f) (s.effAddr c f)).remoteRequest c 0x20 a 16 [] = some (t, i, true) →
          exec (.ldp c f false) s = .next (t.setCtx c { t.ctx c with
            rload := some ⟨⟨f.data.toNat, 16, false, a⟩, i, none, false⟩ })))

/-- With no access exception at the address, ST and STP to Normal, Table or Remote memory enter the core's store buffer as its newest entry when the buffer has room, and the core moves on; ST and STP to Device registers whose blocks are live and that the mode may write are made at once. The oldest buffered store of a core that is not in warm reset and whose cluster is live is performed when the command says so: one to Normal memory writes its bytes to the cluster's memory, and one to Table memory inside a doubleword writes them to table memory, a CINC by adding to the word there, unless another core holds its granule; one to Remote memory that the windows admit enters the ledger. -/
def Obligations.StoreResults : Prop :=
  (∀ (s : State) (c : CoreId) (f : FmtM) (a : Nat), s.fetches c → a = (s.effAddr c f).toNat →
    (f.size.toNat < 4 → accessFault a (2 ^ f.size.toNat) 2 = none →
      (memType a ≠ some .device → (s.core c.num).sbuf.length < 16 →
        exec (.st c f) s = .next (((s.addressed c (encM 0x11 f) (s.effAddr c f)).setCore c.num
          { (s.addressed c (encM 0x11 f) (s.effAddr c f)).core c.num with
            sbuf := (s.core c.num).sbuf ++ [⟨a, bytesLE (2 ^ f.size.toNat) (s.greg c f.data.toNat).toNat, false⟩] }).advance c)) ∧
      (memType a = some .device → s.live (domainOf (a - 0x40000000)) = true →
        ((s.ctx c).sup = true ∨ guardedReg (a - 0x40000000) = false) →
        exec (.st c f) s = .next (((s.addressed c (encM 0x11 f) (s.effAddr c f)).advance c).regWrite (.core c) (a - 0x40000000)
          (s.greg c f.data.toNat)))) ∧
    (f.size = 0 → f.data.toNat % 2 = 0 → accessFault a 16 2 = none →
      (memType a ≠ some .device → (s.core c.num).sbuf.length < 16 →
        exec (.stp c f) s = .next (((s.addressed c (encM 0x13 f) (s.effAddr c f)).setCore c.num
          { (s.addressed c (encM 0x13 f) (s.effAddr c f)).core c.num with
            sbuf := (s.core c.num).sbuf ++ [⟨a, bytesLE 8 (s.greg c f.data.toNat).toNat ++
              bytesLE 8 (s.greg c (f.data.toNat + 1)).toNat, false⟩] }).advance c)) ∧
      (memType a = some .device → s.live (domainOf (a - 0x40000000)) = true → s.live (domainOf (a - 0x40000000 + 8)) = true →
        ((s.ctx c).sup = true ∨ guardedReg (a - 0x40000000) = false ∧ guardedReg (a - 0x40000000 + 8) = false) →
        exec (.stp c f) s = .next ((((s.addressed c (encM 0x13 f) (s.effAddr c f)).advance c).regWrite (.core c) (a - 0x40000000)
          (s.greg c f.data.toNat)).regWrite (.core c) (a - 0x40000000 + 8) (s.greg c (f.data.toNat + 1)))))) ∧
  (∀ (s : State) (c : CoreId) (b : BufStore) (rest : List BufStore), s.live (13 + c.cluster.val) = true →
    (s.core c.num).sbuf = b :: rest → (s.core c.num).draining = none →
    (b.addr < 0x800000 → s.granuleHeld c b.addr b.bytes.length = false → b.add = false →
      exec (.storeBufferDrain c) s = .next ((s.setCore c.num { s.core c.num with sbuf := rest }).storeCluster c.cluster b.addr b.bytes)) ∧
    (memType b.addr = some .table → s.live 19 = true → s.granuleHeld c b.addr b.bytes.length = false →
      (b.add = false → b.addr % 8 + b.bytes.length ≤ 8 → exec (.storeBufferDrain c) s =
        .next ((s.setCore c.num { s.core c.num with sbuf := rest }).tblStore (b.addr - 0x10000000) b.bytes)) ∧
      (b.add = true → exec (.storeBufferDrain c) s = .next ((s.setCore c.num { s.core c.num with sbuf := rest }).tblStore
        (b.addr - 0x10000000) (bytesLE b.bytes.length
          (ofBytesLE (s.tBytes (b.addr - 0x10000000) b.bytes.length) + ofBytesLE b.bytes))))) ∧
    (∀ (t : State) (i : Nat), memType b.addr = some .remote → s.storeDead b = false →
      s.remoteRequest c 0x60 b.addr b.bytes.length b.bytes = some (t, i, true) → (t.core c.num).draining = none →
      exec (.storeBufferDrain c) s = .next ((t.popStore c).setCore c.num
        { (t.popStore c).core c.num with outstanding := (t.core c.num).outstanding ++ [⟨i, 0, b.addr⟩] })))

/-- At a naturally aligned address of Normal or Table memory to whose bytes no CINC is buffered, LDRV loads and takes the reservation on the address's granule in place of any other, with a hold of 64 cycles when it is the next LDRV after four failures in a row; STCD whose reservation is on its granule, with the store buffer empty and the granule not held by another core, stores and sets its predicate true; one whose reservation is not on its granule stores nothing and sets it false; both clear the reservation. At an aligned Table address with the store buffer empty, AMOADD, AMOSWP, AMOMAX hand the old value to dst and store the sum, b or the unsigned maximum. CINC at an aligned Table address enters the store buffer when it has room, as the addition of b to the doubleword, which is ordered as a Table store (R109) and is performed when it is drained (StoreResults). -/
def Obligations.ReservedAndAtomicResults : Prop :=
  ∀ (s : State) (c : CoreId), s.fetches c →
    (∀ (f : FmtM) (n a : Nat) (s1 : State), (f.size = 2 ∧ n = 4 ∨ f.size = 3 ∧ n = 8) → f.offset.toNat < 8 →
      (a = (s.effAddr c f).toNat → atomicFault a n 1 false = none → s.addBuffered c a n = false →
        s1 = (s.addressed c (encM 0x14 f) (s.effAddr c f)).setGreg c f.data.toNat (BitVec.ofNat 64 (ofBytesLE (s.loadBytes c a n))) →
        exec (.ldrv c f) s = .next ((s1.setCore c.num { s1.core c.num with
          resv := some (granuleOf a), holdNext := false,
          hold := if (s1.core c.num).holdNext then some (granuleOf a, s.now + ctlCyclesPs 64) else (s1.core c.num).hold }).advance c)) ∧
      (a = (s.greg c f.base.toNat).toNat → atomicFault a n 2 false = none →
        s1 = s.addressed c (encM 0x15 f) (s.greg c f.base.toNat) →
        ((s.core c.num).resv = some (granuleOf a) → (s.core c.num).sbuf = [] →
          (s.issued c (encM 0x15 f)).granuleHeld c a n = false →
          exec (.stcd c f) s = .next ((s1.storePieces c a (bytesLE n (s.greg c f.data.toNat).toNat)).stcdEnd c f.offset.toNat true)) ∧
        ((s.core c.num).resv ≠ some (granuleOf a) →
          exec (.stcd c f) s = .next ((s1.setCore c.num { s1.core c.num with
            resv := none, hold := none, stcdFails := (s1.core c.num).stcdFails + 1,
            holdNext := decide (3 ≤ (s1.core c.num).stcdFails)
            ctx := (s1.ctx c).setPred f.offset.toNat false }).advance c)))) ∧
    (∀ (f : FmtA) (dbl : Bool) (n a old b : Nat), s.guardA c f = true → n = (if dbl then 8 else 4) →
      a = (s.greg c f.srcA.toNat).toNat → 0x10000000 ≤ a → a + n ≤ 0x11800000 → a % n = 0 → (s.core c.num).sbuf = [] →
      old = ofBytesLE (s.tBytes (a - 0x10000000) n) → b = (s.greg c f.srcB.toNat).toNat % 2 ^ (8 * n) →
      exec (.amoadd c f dbl) s = .next ((((s.addressed c (encA 0x16 (if dbl then 4 else 0) f) (BitVec.ofNat 64 a)).tblStore
        (a - 0x10000000) (bytesLE n (old + b))).setGreg c f.dst.toNat (BitVec.ofNat 64 old)).advance c) ∧
      exec (.amoswp c f dbl) s = .next ((((s.addressed c (encA 0x16 (if dbl then 5 else 1) f) (BitVec.ofNat 64 a)).tblStore
        (a - 0x10000000) (bytesLE n b)).setGreg c f.dst.toNat (BitVec.ofNat 64 old)).advance c) ∧
      exec (.amomax c f dbl) s = .next ((((s.addressed c (encA 0x16 (if dbl then 6 else 2) f) (BitVec.ofNat 64 a)).tblStore
        (a - 0x10000000) (bytesLE n (max old b))).setGreg c f.dst.toNat (BitVec.ofNat 64 old)).advance c)) ∧
    (∀ (f : FmtA) (a : Nat) (s1 : State), s.guardA c f = true → f.dst = 0 → a = (s.greg c f.srcA.toNat).toNat → 0x10000000 ≤ a →
      a < 0x11800000 → a % 8 = 0 → (s.core c.num).sbuf.length < 16 → s1 = s.addressed c (encA 0x2C 0 f) (BitVec.ofNat 64 a) →
      exec (.cinc c f) s = .next ((s1.setCore c.num { s1.core c.num with
        sbuf := (s1.core c.num).sbuf ++ [⟨a, bytesLE 8 (s.greg c f.srcB.toNat).toNat, true⟩] }).advance c))

/-- A core holds at most one reservation: after an LDRV that completes (no CINC to its bytes is buffered), it is the granule of its address whatever was reserved before; an STCD whose address lies outside the reserved granule fails (its predicate is false and no byte of table memory, of a cluster's memory or of the store buffer changes) and clears the reservation. -/
def Obligations.ReservationRules : Prop :=
  (∀ (s t : State) (c : CoreId) (f : FmtM) (n : Nat), s.fetches c → (f.size = 2 ∧ n = 4 ∨ f.size = 3 ∧ n = 8) →
    f.offset.toNat < 8 → atomicFault (s.effAddr c f).toNat n 1 false = none → s.addBuffered c (s.effAddr c f).toNat n = false →
    exec (.ldrv c f) s = .next t →
    (t.core c.num).resv = some (granuleOf (s.effAddr c f).toNat)) ∧
  (∀ (s : State) (c : CoreId) (f : FmtM) (n : Nat) (r : Resv), s.fetches c → (f.size = 2 ∧ n = 4 ∨ f.size = 3 ∧ n = 8) →
    f.offset.toNat < 8 → atomicFault (s.greg c f.base.toNat).toNat n 2 false = none → (s.core c.num).resv = some r →
    r ≠ granuleOf (s.greg c f.base.toNat).toNat →
    ∃ t, exec (.stcd c f) s = .next t ∧ (t.core c.num).resv = none ∧ t.tmem = s.tmem ∧ t.cmem = s.cmem ∧
      (t.core c.num).sbuf = (s.core c.num).sbuf ∧
      (f.offset.toNat ≠ 0 → (t.ctx c).pred f.offset.toNat = false))

/-- When ST or STP to Normal, Table or Remote memory executes normally, no byte of any memory changes, nor any general register, predicate, special register or other core. When a buffered store to Normal memory is performed, for every address the byte of its cluster's memory outside the stored bytes reads as before, the stored bytes read as written, every other cluster's memory and table memory are unchanged, and so are every core's registers. -/
def Obligations.StoreFrame : Prop :=
  (∀ (s t : State) (c : CoreId) (f : FmtM) (i : Instr) (n : Nat), s.fetches c →
    (i = .st c f ∧ f.size.toNat < 4 ∧ n = 2 ^ f.size.toNat ∨ i = .stp c f ∧ f.size = 0 ∧ f.data.toNat % 2 = 0 ∧ n = 16) →
    accessFault (s.effAddr c f).toNat n 2 = none → memType (s.effAddr c f).toNat ≠ some .device → exec i s = .next t →
    t.tmem = s.tmem ∧ t.cmem = s.cmem ∧ (∀ m : Fin 32, t.greg c m.val = s.greg c m.val) ∧
    { t.ctx c with pc := 0 } = { s.ctx c with pc := 0 } ∧ (∀ e : CoreId, e ≠ c → t.core e.num = s.core e.num) ∧
    (∀ a, a ≠ R.TRC_CNT_ITRACED.reg → t.rg a = s.rg a)) ∧
  (∀ (s t : State) (c : CoreId) (b : BufStore) (rest : List BufStore), (s.core c.num).sbuf = b :: rest →
    (s.core c.num).draining = none → b.addr + b.bytes.length ≤ 0x800000 → s.live (13 + c.cluster.val) = true →
    s.granuleHeld c b.addr b.bytes.length = false → b.add = false → exec (.storeBufferDrain c) s = .next t →
    (∀ a, a < 0x800000 → (a < b.addr ∨ b.addr + b.bytes.length ≤ a) → t.cByte c.cluster a = s.cByte c.cluster a) ∧
    (∀ k (h : k < b.bytes.length), t.cByte c.cluster (b.addr + k) = b.bytes[k]) ∧
    (∀ (d : Fin 4) (a : Nat), d ≠ c.cluster → a < 0x800000 → t.cByte d a = s.cByte d a) ∧ t.tmem = s.tmem ∧
    (∀ (e : CoreId), t.ctx e = s.ctx e) ∧ (t.core c.num).sbuf = rest ∧ ∀ a, t.rg a = s.rg a)

/-- A core that executes FENCE.S, .L, .F or .X (no register field used, guard true) holds its later instructions with the fence pending. The fence completes, and the core moves past it, once its conditions hold: FENCE.L at once, FENCE.S and FENCE.F with an empty store buffer, FENCE.X when no Remote store is outstanding as well. FENCE.X with a pending remote-fault record raises Remote-Store Fault at itself with the record's address and reason, and clears the record. -/
def Obligations.FenceResults : Prop :=
  (∀ (s : State) (c : CoreId) (f : FmtA), s.runs c f → f.dst = 0 → f.srcA = 0 → f.srcB = 0 →
    exec (.fenceS c f) s = .next ((s.issued c (encA 0x1C 0 f)).setCtx c { (s.issued c (encA 0x1C 0 f)).ctx c with fence := some .s }) ∧
    exec (.fenceL c f) s = .next ((s.issued c (encA 0x1C 1 f)).setCtx c { (s.issued c (encA 0x1C 1 f)).ctx c with fence := some .l }) ∧
    exec (.fenceF c f) s = .next ((s.issued c (encA 0x1C 2 f)).setCtx c { (s.issued c (encA 0x1C 2 f)).ctx c with fence := some .f }) ∧
    exec (.fenceX c f) s = .next ((s.issued c (encA 0x1C 3 f)).setCtx c { (s.issued c (encA 0x1C 3 f)).ctx c with fence := some .x })) ∧
  (∀ (s : State) (c : CoreId),
    ((s.ctx c).fence = some .l ∨ ((s.ctx c).fence = some .s ∨ (s.ctx c).fence = some .f) ∧ (s.core c.num).sbuf = [] →
      exec (.fenceComplete c) s = .next ((s.setCtx c { s.ctx c with fence := none }).advance c)) ∧
    ((s.ctx c).fence = some .x → (s.core c.num).sbuf = [] → (s.core c.num).outstanding = [] →
      ((s.core c.num).rfault = none → exec (.fenceXComplete c) s = .next ((s.setCtx c { s.ctx c with fence := none }).advance c)) ∧
      (∀ addr reason : Nat, (s.core c.num).rfault = some (addr, reason) → (s.ctx c).exl = false →
        exec (.fenceXComplete c) s = .next (((s.setCtx c { s.ctx c with fence := none }).setCore c.num
          { (s.setCtx c { s.ctx c with fence := none }).core c.num with rfault := none }).raise c 0x06 reason (BitVec.ofNat 64 addr)))))

/-- BP and CALL whose predicate XOR negate is 1 go to their address plus 4 × offset, CALL leaving the address after it in g31; RET goes to an aligned register value. In supervisor mode WAIT whose cycle has come, or HALT, completes: WAIT with an operand of 0 or a cycle still to come suspends the core, one whose cycle has come only moves on; HALT keeps the core from its next instruction and clears the reservation. A suspended core with a nonzero operand resumes when CYCLE reaches it, and a halting core with an empty store buffer stops fetching. -/
def Obligations.ControlTransferResults : Prop :=
  (∀ (s : State) (c : CoreId) (f : FmtB), s.fetches c → ((s.ctx c).pred f.pred.toNat != f.negate) = true →
    exec (.bp c f) s = .next ((s.issued c (encB 0x20 f)).goto c ((s.ctx c).pc + 4 * f.offset.signExtend 64)) ∧
    exec (.call c f) s = .next (((s.issued c (encB 0x21 f)).setGreg c 31 ((s.ctx c).pc + 4)).goto c
      ((s.ctx c).pc + 4 * f.offset.signExtend 64))) ∧
  (∀ (s : State) (c : CoreId) (f : FmtA), s.runs c f → f.dst = 0 → f.srcB = 0 →
    ((s.greg c f.srcA.toNat).toNat % 4 = 0 →
      exec (.ret c f) s = .next ((s.issued c (encA 0x22 0 f)).goto c (s.greg c f.srcA.toNat))) ∧
    ((s.ctx c).sup = true → s.greg c f.srcA.toNat ≠ 0 → (s.greg c f.srcA.toNat).toNat ≤ (s.cycle c).toNat →
      exec (.wait c f) s = .next ((s.issued c (encA 0x31 0 f)).advance c)) ∧
    ((s.ctx c).sup = true → (s.greg c f.srcA.toNat = 0 ∨ (s.cycle c).toNat < (s.greg c f.srcA.toNat).toNat) →
      exec (.wait c f) s = .next (((s.issued c (encA 0x31 0 f)).advance c).setCore c.num
        { ((s.issued c (encA 0x31 0 f)).advance c).core c.num with waitUntil := some (s.greg c f.srcA.toNat) })) ∧
    ((s.ctx c).sup = true → f.srcA = 0 →
      exec (.halt c f) s = .next (((s.issued c (encA 0x38 0 f)).advance c).setCore c.num
        { ((s.issued c (encA 0x38 0 f)).advance c).core c.num with halting := true, resv := none, hold := none }))) ∧
  (∀ (s : State) (c : CoreId) (a : Word), (s.core c.num).waitUntil = some a → a ≠ 0 → s.live (13 + c.cluster.val) = true →
    exec (.waitTimeout c) s = .next ((s.waitUntil (s.pwr.upPs.get 0 (13 + c.cluster.val) + ctlCyclesPs a.toNat)).setCore c.num
      { s.core c.num with waitUntil := none })) ∧
  (∀ (s : State) (c : CoreId), (s.core c.num).halting = true → (s.core c.num).sbuf = [] →
    exec (.haltStop c) s = .next (s.setCore c.num { s.core c.num with halting := false, running := false }))

/-- MFS writes the named special register to dst; MTS in supervisor mode writes the writable fields of a register that supervisor mode may write; PRIO sets CUR in supervisor mode, and in handler mode to a value from DISP up; CRIT opens a section with a fresh budget, and inside an open section only moves on; ENDCRIT closes it; ERET with EXL = 1 returns from the exception; SEND appends its event to a queue with room and writes 1, and to a queue without room writes 0 and counts the refusal. -/
def Obligations.SystemInstructionResults : Prop :=
  ∀ (s : State) (c : CoreId), s.fetches c →
    (∀ (f : FmtI) (v : Word), f.srcA = 0 → s.specialReg c f.imm.toNat = some v →
      exec (.mfs c f) s = .next (s.wrote c (encI 0x32 f) f.dst.toNat v)) ∧
    (∀ (f : FmtI) (x : Ctx), f.dst = 0 → (s.ctx c).sup = true →
      ((s.issued c (encI 0x33 f)).ctx c).setSpecial f.imm.toNat (s.greg c f.srcA.toNat) = some x →
      exec (.mts c f) s = .next (((s.issued c (encI 0x33 f)).setCtx c x).advance c)) ∧
    (∀ f : FmtI, f.dst = 0 → f.srcA = 0 → f.imm.toNat < 8 → ((s.ctx c).sup = true ∨ (s.ctx c).disp.toNat ≤ f.imm.toNat) →
      exec (.prio c f) s = .next (((s.issued c (encI 0x36 f)).setCtx c
        { (s.issued c (encI 0x36 f)).ctx c with cur := f.imm.setWidth 3 }).advance c)) ∧
    (∀ f : FmtA, s.guardA c f = true → f.dst = 0 → f.srcA = 0 → f.srcB = 0 →
      ((s.ctx c).crit = false → exec (.crit c f) s = .next (((s.issued c (encA 0x37 0 f)).setCtx c
        { (s.issued c (encA 0x37 0 f)).ctx c with
          crit := true, critUsedPs := 0, critStartPs := s.now, critPc := some (s.ctx c).pc }).advance c)) ∧
      ((s.ctx c).crit = true → exec (.crit c f) s = .next ((s.issued c (encA 0x37 0 f)).advance c)) ∧
      exec (.endcrit c f) s = .next (((s.issued c (encA 0x37 1 f)).setCtx c
        { (s.issued c (encA 0x37 1 f)).ctx c with crit := false }).advance c) ∧
      ((s.ctx c).exl = true → exec (.eret c f) s = .next (((s.issued c (encA 0x35 0 f)).retire c).setCore c.num
        { ((s.issued c (encA 0x35 0 f)).retire c).core c.num with
          ctx := (((s.issued c (encA 0x35 0 f)).retire c).ctx c).leave s.now, resv := none, hold := none }))) ∧
    (∀ (f : FmtA) (q : Nat), s.guardA c f = true →
      q = (s.greg c f.srcA.toNat).toNat % 64 →
      (s.evqRoom q = true → exec (.send c f) s = .next ((((s.issued c (encA 0x30 0 f)).setEvq q
        (s.evq q ++ [⟨0x40, c.cluster.val + 4 * c.core.val, s.greg c f.srcB.toNat⟩])).setGreg c f.dst.toNat 1).advance c)) ∧
      (s.evqRoom q = false → exec (.send c f) s = .next ((((s.issued c (encA 0x30 0 f)).addFd (R.EVT_Q_STS_REFUSED q) 1).setGreg
        c f.dst.toNat 0).advance c)))

/-- For a core that fetches inside its memory: in handler mode PRIO of a value from PRIO.DISP to 7 sets CUR to it and moves on, and one of a lower value raises Privilege and leaves CUR; in supervisor mode every value from 0 to 7 is set. -/
def Obligations.PriorityRule : Prop :=
  ∀ (s : State) (c : CoreId) (n : Fin 8), s.fetches c →
    ∃ t, exec (.prio c ⟨0, 0, BitVec.ofNat 16 n.val⟩) s = .next t ∧
      (((s.ctx c).sup = true ∨ (s.ctx c).disp.toNat ≤ n.val) →
        (t.ctx c).cur = BitVec.ofNat 3 n.val ∧ (t.ctx c).pc = (s.ctx c).pc + 4 ∧ (t.ctx c).exl = (s.ctx c).exl) ∧
      ((s.ctx c).sup = false → n.val < (s.ctx c).disp.toNat →
        (t.ctx c).cur = (s.ctx c).cur ∧
        ((s.ctx c).exl = false → (t.ctx c).causeCode = 0x02 ∧ (t.ctx c).exl = true ∧
          (t.ctx c).tval = BitVec.ofNat 64 (encI 0x36 ⟨0, 0, BitVec.ofNat 16 n.val⟩)))

/-- ERET with EXL = 1 does in one step: PC := EPC; SUP := PSUP, IE := PIE, CRIT := PCRIT; EXL := 0; the reservation is cleared (R51); and a restored critical section has used the time, and names the CRIT, that were kept when the exception was taken (ExceptionEntry says what that keeps), and counts on from now. -/
def Obligations.ExceptionReturn : Prop :=
  ∀ (s : State) (c : CoreId), s.fetches c → (s.ctx c).exl = true →
    ∃ t, exec (.eret c ⟨0, 0, 0, 0⟩) s = .next t ∧ (t.ctx c).pc = (s.ctx c).epc ∧ (t.ctx c).sup = (s.ctx c).psup ∧
      (t.ctx c).ie = (s.ctx c).pie ∧ (t.ctx c).crit = (s.ctx c).pcrit ∧ (t.ctx c).exl = false ∧
      (t.ctx c).critUsedPs = (s.ctx c).pcritUsedPs ∧ (t.ctx c).critPc = (s.ctx c).pcritPc ∧ (t.ctx c).critStartPs = s.now ∧
      (t.core c.num).resv = none ∧
      (∀ n : Fin 32, t.greg c n.val = s.greg c n.val) ∧ (t.core c.num).saved = (s.core c.num).saved ∧
      (∀ e : CoreId, e ≠ c → t.core e.num = s.core e.num)

/-- TRAP, a reserved opcode word, and WAIT, HALT and MTS in handler mode take an exception when EXL is 0: EPC is the address of the instruction, PSUP, PIE and PCRIT are SUP, IE and CRIT, SUP is 1, IE and CRIT are 0, EXL is 1, CAUSE and TVAL are those of R62, execution continues at VBASE × 4,096, the reservation is cleared, the store buffer and the general registers are unchanged; of an open critical section the time it has used up to now and the address of its CRIT are kept for ERET. -/
def Obligations.ExceptionEntry : Prop :=
  ∀ (s : State) (c : CoreId) (f : FmtA) (g : FmtI) (w : BitVec 32) (i : Instr) (code : Nat) (tval : Word),
    s.fetches c → (s.ctx c).exl = false →
    ((i = .trap c g ∧ g.dst = 0 ∧ g.srcA = 0 ∧ code = 0x09 ∧ tval = g.imm.setWidth 64) ∨
     (i = .reservedOpcode c w ∧ reservedWord w.toNat = true ∧ code = 0x01 ∧ tval = w.setWidth 64) ∨
     ((s.ctx c).sup = false ∧ s.guardA c f = true ∧ f.dst = 0 ∧ f.srcB = 0 ∧ code = 0x02 ∧
       (i = .wait c f ∧ tval = BitVec.ofNat 64 (encA 0x31 0 f) ∨
        i = .halt c f ∧ f.srcA = 0 ∧ tval = BitVec.ofNat 64 (encA 0x38 0 f))) ∨
     ((s.ctx c).sup = false ∧ i = .mts c g ∧ g.dst = 0 ∧ code = 0x02 ∧ tval = BitVec.ofNat 64 (encI 0x33 g))) →
    ∃ t, exec i s = .next t ∧ (t.ctx c).epc = (s.ctx c).pc &&& ~~~3#64 ∧ (t.ctx c).psup = (s.ctx c).sup ∧
      (t.ctx c).pie = (s.ctx c).ie ∧ (t.ctx c).pcrit = (s.ctx c).crit ∧ (t.ctx c).sup = true ∧ (t.ctx c).ie = false ∧
      (t.ctx c).crit = false ∧ (t.ctx c).exl = true ∧ (t.ctx c).causeCode = BitVec.ofNat 8 code ∧ (t.ctx c).causeDetail = 0 ∧
      (t.ctx c).tval = tval ∧ (t.ctx c).pc = BitVec.ofNat 64 ((s.ctx c).vbase.toNat * 4096) ∧ (t.core c.num).resv = none ∧
      (t.core c.num).sbuf = (s.core c.num).sbuf ∧ (t.core c.num).rfault = (s.core c.num).rfault ∧
      ((s.ctx c).crit = true → (t.ctx c).pcritPc = (s.ctx c).critPc ∧
        (t.ctx c).pcritUsedPs = (s.ctx c).critUsedPs + (s.now - (s.ctx c).critStartPs)) ∧
      (∀ n : Fin 32, t.greg c n.val = s.greg c n.val) ∧ (t.ctx c).p = (s.ctx c).p

/-- TRAP raises Trap with its immediate, a reserved word Illegal Instruction with itself; when the budget of an open critical section of a core ready for its next instruction runs out, the section closes and Critical Section Overrun is raised with the address of the CRIT (a free value for a section that no CRIT opened, log entry 83), at the end of the 512 CK_CTL cycles at the earliest; when the 64-cycle hold of a granule runs out the hold ends. -/
def Obligations.TrapAndReservedWordsComplete : Prop :=
  (∀ (s : State) (c : CoreId) (g : FmtI), s.fetches c → g.dst = 0 → g.srcA = 0 →
    exec (.trap c g) s = .next ((s.issued c (encI 0x34 g)).raise c 0x09 0 (g.imm.setWidth 64))) ∧
  (∀ (s : State) (c : CoreId) (w : BitVec 32), s.fetches c → reservedWord w.toNat = true →
    exec (.reservedOpcode c w) s = .next ((s.issued c w.toNat).raise c 0x01 0 (w.setWidth 64))) ∧
  (∀ (s : State) (c : CoreId), (s.ctx c).crit = true → s.coreReady c = true →
    exec (.critBudgetExpiry c) s = .next (((s.bumpFv.waitUntil ((s.ctx c).critStartPs + (ctlCyclesPs 512 - (s.ctx c).critUsedPs))).setCtx c
      { s.ctx c with crit := false }).raise c 0x0A 0 ((s.ctx c).critPc.getD (Config.freeWord s.fv)))) ∧
  (∀ (s : State) (c : CoreId) (r : Resv) (t : Nat), (s.core c.num).hold = some (r, t) →
    exec (.reservationHoldExpiry c) s = .next ((s.waitUntil t).setCore c.num { s.core c.num with hold := none }))

/-- TRAP with EXL = 1 is a double fault: the core stops, its context keeps the registers of the first exception, and a record of kind 1 enters its cluster's fault log at the index the log's head names, with the core's EPC, the second exception's TVAL value and cause code; the head moves on. -/
def Obligations.DoubleFaultStops : Prop :=
  ∀ (s : State) (c : CoreId) (g : FmtI), s.fetches c → (s.ctx c).exl = true → g.dst = 0 → g.srcA = 0 →
    ∃ t, exec (.trap c g) s = .next t ∧ (t.core c.num).running = false ∧ (t.core c.num).faulted = true ∧
      (t.ctx c).epc = (s.ctx c).epc ∧ (t.ctx c).tval = (s.ctx c).tval ∧ (t.ctx c).exl = true ∧
      t.fd (R.CCL_FLTHD_IDX c.cluster) = (s.fd (R.CCL_FLTHD_IDX c.cluster) + 1) % 2 ^ (R.CCL_FLTHD_IDX c.cluster).width ∧
      t.rg (R.CCL_FLT c.cluster (4 * s.fd (R.CCL_FLTHD_IDX c.cluster) + 1)) = (s.ctx c).epc ∧
      t.rg (R.CCL_FLT c.cluster (4 * s.fd (R.CCL_FLTHD_IDX c.cluster) + 2)) = g.imm.setWidth 64 ∧
      wField 0 24 (t.rg (R.CCL_FLT c.cluster (4 * s.fd (R.CCL_FLTHD_IDX c.cluster) + 3))) = 1 + 256 * 0x09

/-- A load or store raises its exception before anything is loaded or stored: outside the four ranges Access; misaligned in Table, Device or Remote memory Misaligned; a Device access that is not of 8 bytes Access; one that runs out of its range Access with the first byte outside in TVAL (the order among several causes is the model's reading, log entry 41). A handler-mode ST.d to a SEC, FAL or PWR register raises Access and writes nothing. In each case no memory, no store buffer and no device register but those of the exception's own accounting changes. -/
def Obligations.AccessExceptions : Prop :=
  (∀ a n det : Nat, memType a = none → accessFault a n det = some (0x04, det, a)) ∧
  (∀ (a n det : Nat) (m : MemType), memType a = some m → m ≠ .normal → a % (if n = 16 then 8 else n) ≠ 0 →
    accessFault a n det = some (0x03, 0, a)) ∧
  (∀ a n det : Nat, memType a = some .device → n < 8 → a % n = 0 → accessFault a n det = some (0x04, det, a)) ∧
  (∀ a n det : Nat, memType a = some .normal → 0x800000 < a + n → accessFault a n det = some (0x04, det, 0x800000)) ∧
  (∀ (s t : State) (c : CoreId) (f : FmtM) (i : Instr) (x : Nat × Nat × Nat), s.fetches c → (s.ctx c).exl = false →
    (i = .ld c f false ∧ f.size.toNat ≠ 7 ∧ (s.ctx c).rload = none ∧ accessFault (s.effAddr c f).toNat (2 ^ (f.size.toNat % 4)) 1 = some x ∨
     i = .st c f ∧ f.size.toNat < 4 ∧ accessFault (s.effAddr c f).toNat (2 ^ f.size.toNat) 2 = some x) →
    exec i s = .next t →
      (t.ctx c).causeCode = BitVec.ofNat 8 x.1 ∧ (t.ctx c).causeDetail = BitVec.ofNat 8 x.2.1 ∧
      (t.ctx c).tval = BitVec.ofNat 64 x.2.2 ∧ (∀ n : Fin 32, t.greg c n.val = s.greg c n.val) ∧ t.tmem = s.tmem ∧
      t.cmem = s.cmem ∧ (t.core c.num).sbuf = (s.core c.num).sbuf ∧ ∀ a, a ≠ R.TRC_CNT_ITRACED.reg → t.rg a = s.rg a) ∧
  (∀ (s t : State) (c : CoreId) (f : FmtM), s.fetches c → (s.ctx c).exl = false → (s.ctx c).sup = false → f.size = 3 →
    accessFault (s.effAddr c f).toNat 8 2 = none → memType (s.effAddr c f).toNat = some .device →
    guardedReg ((s.effAddr c f).toNat - 0x40000000) = true → exec (.st c f) s = .next t →
      (t.ctx c).causeCode = 0x04 ∧ (t.ctx c).causeDetail = 2 ∧ (t.ctx c).tval = s.effAddr c f ∧
      ∀ a, a ≠ R.TRC_CNT_ITRACED.reg → t.rg a = s.rg a)

/-- With descriptor bit 4 clear, a key of at most 8 bytes or in an even register, and a table whose kind and key length the instruction names, LKP writes the result word of the lookup under the active versions to dst and the hit to the descriptor's predicate; LKPU also sets the use mark of the entry hit; a table that is not so configured raises Table Fault with the table number in DETAIL. The flow that chooses a next hop is a free value (log entry 45). -/
def Obligations.LookupResults : Prop :=
  ∀ (s : State) (c : CoreId) (f : FmtL) (n : Nat), s.fetches c → n = f.desc.toNat % 16 + 1 → f.desc.getLsbD 4 = false →
    (n ≤ 8 ∨ f.key.toNat % 2 = 0) →
    (∀ (u : State) (r : LkpRes), u = s.issued c (encL 0x28 f) → s.tableOk f.table.toNat f.kind.toNat n = true →
      r = u.lookup f.table.toNat (lkpKey n (s.greg c f.key.toNat) (s.greg c (f.key.toNat + 1))).1
        (lkpKey n (s.greg c f.key.toNat) (s.greg c (f.key.toNat + 1))).2 u.tntVer u.rver (Config.freeWord u.fv) →
      exec (.lkp c f) s = .next (((u.bumpFv.setGreg c f.dst.toNat r.word).setCtx c
        (((u.bumpFv.setGreg c f.dst.toNat r.word).ctx c).setPred (f.desc.toNat / 32) r.hit)).advance c)) ∧
    (∀ (u : State) (r : LkpRes), u = s.issued c (encL 0x29 f) → s.tableOk f.table.toNat f.kind.toNat n = true →
      r = u.lookup f.table.toNat (lkpKey n (s.greg c f.key.toNat) (s.greg c (f.key.toNat + 1))).1
        (lkpKey n (s.greg c f.key.toNat) (s.greg c (f.key.toNat + 1))).2 u.tntVer u.rver (Config.freeWord u.fv) →
      exec (.lkpu c f) s = .next ((((u.bumpFv.setGreg c f.dst.toNat r.word).setCtx c
        (((u.bumpFv.setGreg c f.dst.toNat r.word).ctx c).setPred (f.desc.toNat / 32) r.hit)).setMark r.mark).advance c)) ∧
    (s.tableOk f.table.toNat f.kind.toNat n = false →
      exec (.lkp c f) s = .next ((s.issued c (encL 0x28 f)).raise c 0x08 f.table.toNat (BitVec.ofNat 64 (encL 0x28 f))))

/-- An event of a hardware source that names a queue enters it when the source holds nothing and the queue has room; otherwise the source holds it, unless it already holds one of the same queue, type and argument, when COALESCED counts it. In each case no event that was queued or held is lost, and the Almanac's next sequence number advances. -/
def Obligations.HardwareEventsAreNotLost : Prop :=
  ∀ (s t : State) (src : Src) (unit q typ arg : Nat) (detail : Word) (e : Event) (id : Nat), q < 64 →
    id = src.code * 0x100000 + unit → e = ⟨typ, arg, detail⟩ → t = s.postEvent src unit (some q) typ arg detail →
    ((∀ h ∈ s.evt.held, h.src ≠ id) → s.evqRoom q = true → t.evq q = s.evq q ++ [e] ∧ t.evt.held = s.evt.held) ∧
    ((∀ h ∈ s.evt.held, h.src ≠ id) → s.evqRoom q = false → t.evq q = s.evq q ∧ t.evt.held = s.evt.held ++ [⟨id, q, e⟩]) ∧
    ((∃ h ∈ s.evt.held, h.src = id ∧ h.queue = q ∧ h.event.typ = typ ∧ h.event.arg = arg) →
      t.evq q = s.evq q ∧ t.evt.held = s.evt.held ∧
      t.fd (R.EVT_Q_STS_COALESCED q) = (s.fd (R.EVT_Q_STS_COALESCED q) + 1) % 65536) ∧
    ((∃ h ∈ s.evt.held, h.src = id) → (∀ h ∈ s.evt.held, h.src = id → ¬(h.queue = q ∧ h.event.typ = typ ∧ h.event.arg = arg)) →
      t.evq q = s.evq q ∧ t.evt.held = s.evt.held ++ [⟨id, q, e⟩]) ∧
    (∀ p, p ≠ q → t.evq p = s.evq p) ∧ s.alm.seqNext < t.alm.seqNext

/-- The oldest held event enters its queue when there is room. A handler whose queue had a BUDGET when it was dispatched, not yet exceeded, gets a kind-4 record with its queue and a core-fault event. An enabled timer fires at the first CK_AO cycle at which TIME has reached CMP: a type-0x05 event, FIRED counted, a one-shot timer's EN cleared, a periodic timer's CMP past TIME. A doorbell of a mailbox that is not busy sets BUSY with the message's length and posts the event; on a busy one it sets OVW alone. A reply clears BUSY, sets DONE and sends vector 62 of the manager function. -/
def Obligations.EventRows : Prop :=
  (∀ (s : State) (q : Fin 64) (h : HeldEvent) (rest : List HeldEvent), s.evt.held = h :: rest → h.queue = q.val →
    s.evqRoom q.val = true →
    exec (.heldEventRelease q) s = .next { s.setEvq q.val (s.evq q.val ++ [h.event]) with
      evt := { (s.setEvq q.val (s.evq q.val ++ [h.event])).evt with held := rest } }) ∧
  (∀ (s u : State) (c : CoreId) (h : Handler) (b : Nat), (s.ctx c).handler = some h → h.overBudget = false →
    b = h.budget * 100000 → b ≠ 0 →
    u = (s.waitUntil (h.startPs + (b - h.usedPs))).setCtx c { s.ctx c with handler := some { h with overBudget := true } } →
    exec (.handlerBudgetExceeded c) s = .next ((u.faultRecord c.cluster 4 c.core (some (s.ctx c).epc) none none
      (some h.queue)).coreFaultEvent c.cluster c.core 4 (s.fd (R.CCL_FLTHD_IDX c.cluster)))) ∧
  (∀ (s u : State) (n : Fin 64) (cmp per : Nat), s.live 21 = true → s.fb (R.EVT_TMR_CTL_EN n) = true →
    cmp = s.fd (R.EVT_TMR_CMP_TIME n) → per = s.fd (R.EVT_TMR_PER_PERIOD n) →
    u = s.waitUntil (ckAoCeil (s.now + (cmp - s.time.toNat) * 1000)) →
    (per = 0 → exec (.timerFire n) s = .next (((u.bumpFv.postEvent .evt n (some (s.fd (R.EVT_TMR_CTL_Q n))) 0x05 n
      (BitVec.ofNat 64 cmp)).addFd (R.EVT_TMR_CTL_FIRED n) 1).setFb (R.EVT_TMR_CTL_EN n) false)) ∧
    (per ≠ 0 → (u.time.toNat - cmp) / per < 65536 →
      exec (.timerFire n) s = .next (((u.bumpFv.postEvent .evt n (some (s.fd (R.EVT_TMR_CTL_Q n))) 0x05
        (n + 65536 * ((u.time.toNat - cmp) / per)) (BitVec.ofNat 64 cmp)).addFd (R.EVT_TMR_CTL_FIRED n) 1).setFd
        (R.EVT_TMR_CMP_TIME n) (cmp + per * ((u.time.toNat - cmp) / per + 1))))) ∧
  (∀ (s : State) (w : Writer) (m : Fin 16) (v : Word), s.reaches w (R.EVT_MBX_DB m) →
    (s.fb (R.EVT_MBX_STS_BUSY m) = false → exec (.evtMbxDb w m v) s = .next ((((s.setFd (R.EVT_MBX_DB_LEN m) (wField 0 6 v)).setFd
      (R.EVT_MBX_DB_Q m) (wField 8 6 v)).setFb (R.EVT_MBX_STS_BUSY m) true).postEvent .evt (64 + m) (some (wField 8 6 v)) 0x06
      (m + 256 * wField 0 6 v) 0)) ∧
    (s.fb (R.EVT_MBX_STS_BUSY m) = true → exec (.evtMbxDb w m v) s = .next (s.setFb (R.EVT_MBX_STS_OVW m) true))) ∧
  (∀ (s : State) (w : Writer) (m : Fin 16) (v : Word), s.reaches w (R.EVT_MBX_RSP m) →
    exec (.evtMbxRsp w m v) s = .next ((((s.setFd (R.EVT_MBX_RSP_LEN m) (wField 0 6 v)).setFb (R.EVT_MBX_STS_BUSY m) false).setFb
      (R.EVT_MBX_STS_DONE m) true).mgrVector 62))

/-- When a cluster has a queue that can be served and an eligible core, EVENT_DISPATCH serves a queue of the highest priority among those, on the eligible core of lowest rank, handing it the oldest event: SUP 0, IE 1, CRIT 0, EXL 0, CUR and DISP the queue's priority, EVQ and g30 as R133 gives them, the PC at the handler's address; the other general registers and the predicates keep their values, the preempted context is saved, the event leaves the queue, the reservation is cleared. -/
def Obligations.EventDispatch : Prop :=
  ∀ (s : State) (cl : Fin 4) (q : Nat) (c : CoreId) (e : Event) (rest : List Event),
    s.bestQueue cl ((List.range 64).filter fun q => s.servable q && (clusterCores cl).any fun c => s.eligible c q) = some q →
    s.bestCore ((clusterCores cl).filter fun c => s.eligible c q) = some c → s.evq q = e :: rest →
    (∀ p, p < 64 → s.servable p = true → (∃ d ∈ clusterCores cl, s.eligible d p = true) →
      s.fd (R.EVT_Q_CFG_PRI p) ≤ s.fd (R.EVT_Q_CFG_PRI q)) ∧
    (∀ d ∈ clusterCores cl, s.eligible d q = true → s.coreRank c ≤ s.coreRank d) ∧ s.eligible c q = true ∧
    ∃ t, exec (.eventDispatch cl) s = .next t ∧ (t.ctx c).sup = false ∧ (t.ctx c).ie = true ∧ (t.ctx c).crit = false ∧
      (t.ctx c).exl = false ∧ (t.ctx c).cur = BitVec.ofNat 3 (s.fd (R.EVT_Q_CFG_PRI q)) ∧
      (t.ctx c).disp = BitVec.ofNat 3 (s.fd (R.EVT_Q_CFG_PRI q)) ∧ (t.ctx c).evq = evqWord q (s.fd (R.EVT_Q_CFG_PRI q)) e ∧
      t.greg c 30 = s.rg (R.CCL_STK c.cluster (s.fd (R.EVT_Q_CFG_PRI q))) + BitVec.ofNat 64 (8192 * (c.core.val + 1)) ∧
      (t.ctx c).pc = BitVec.ofNat 64 (s.fd (R.EVT_Q_HND_ADDR q) * 4) ∧
      (∀ n : Fin 32, n ≠ 30 → t.greg c n.val = s.greg c n.val) ∧ (t.ctx c).p = (s.ctx c).p ∧ t.evq q = rest ∧
      (t.core c.num).saved = (s.ctx c).preempt s.now :: (s.core c.num).saved ∧ (t.core c.num).resv = none ∧
      (t.core c.num).waitUntil = none ∧ t.tmem = s.tmem ∧ t.cmem = s.cmem

/-- A write of EVT_Q[q]_CFG with EN = 1 that reaches the register, with the sum of the depths of the other enabled queues and the queue's own depth at most 16,384, enables the queue, and beyond that limit leaves EN at 0 and sets CFGERR. A queue's depth is 2^LOGDEPTH with LOGDEPTH held to 4–10 (the bounds are R123's); LOGDEPTH and PRI take the written value only when EN was 0 and the queue empty (R124), and CLUSTER, MASK, SERIAL and BUDGET always. -/
def Obligations.QueueConfigurationRule : Prop :=
  ∀ (s : State) (w : Writer) (q : Fin 64) (v : Word) (open_ : Bool) (others lg : Nat), s.reaches w (R.EVT_Q_CFG q) →
    open_ = (!s.fb (R.EVT_Q_CFG_EN q) && decide (s.evq q = [])) →
    others = ((List.range 64).map fun i => if i ≠ q.val ∧ s.fb (R.EVT_Q_CFG_EN i) then
      2 ^ min 10 (max 4 (s.fd (R.EVT_Q_CFG_LOGDEPTH i))) else 0).sum →
    lg = (if open_ then wField 16 4 v else s.fd (R.EVT_Q_CFG_LOGDEPTH q)) →
    ∃ t, exec (.evtQCfgWrite w q v) s = .next t ∧
      t.fd (R.EVT_Q_CFG_LOGDEPTH q) = lg ∧
      t.fd (R.EVT_Q_CFG_PRI q) = (if open_ then wField 0 3 v else s.fd (R.EVT_Q_CFG_PRI q)) ∧
      t.fd (R.EVT_Q_CFG_CLUSTER q) = wField 4 2 v ∧ t.fd (R.EVT_Q_CFG_MASK q) = wField 6 6 v ∧
      t.fd (R.EVT_Q_CFG_SERIAL q) = wField 12 1 v ∧ t.fd (R.EVT_Q_CFG_BUDGET q) = wField 32 16 v ∧
      (wField 3 1 v = 0 → t.fb (R.EVT_Q_CFG_EN q) = false) ∧
      (wField 3 1 v = 1 → others + 2 ^ min 10 (max 4 lg) ≤ 16384 → t.fb (R.EVT_Q_CFG_EN q) = true) ∧
      (wField 3 1 v = 1 → 16384 < others + 2 ^ min 10 (max 4 lg) →
        t.fb (R.EVT_Q_CFG_EN q) = false ∧ t.fb (R.EVT_Q_STS_CFGERR q) = true) ∧
      (∀ p, p ≠ R.EVT_Q_CFG q → p ≠ R.EVT_Q_STS q → t.rg p = s.rg p) ∧ t.tmem = s.tmem ∧ t.cmem = s.cmem ∧ t.evt = s.evt

/-- A rising CEN bit of a powered cluster starts the core in supervisor mode with IE = 0 at cluster address 0. A cleared CEN bit, with nothing buffered, holds the core in reset; WRST restarts it, or with stores buffered lets them drain for 256 CK_CTL cycles, after which those left are dropped, one kind-2 record each, and the core restarts or is held. KICK starts the watchdog's period again. An enabled watchdog that runs out warm-resets the enabled cores, writes a kind-3 record that names a core of the cluster (which one is a free value) with its EPC, posts a core-fault event and triggers a seal. -/
def Obligations.CoreLifecycleRows : Prop :=
  (∀ (s : State) (c : CoreId), s.live 21 = true →
    (s.coreEnabled c = false → s.live (13 + c.cluster.val) = true → (s.core c.num).draining = none →
      exec (.coreEnable c) s = .next ((s.setCen c true).setCore c.num
        { Core.reset with running := true, fallow := ((s.setCen c true).core c.num).fallow })) ∧
    (s.coreEnabled c = true → (s.core c.num).draining = none → (s.core c.num).sbuf = [] →
      exec (.coreDisable c) s = .next ((s.setCen c false).setCore c.num
        { Core.reset with fallow := ((s.setCen c false).core c.num).fallow })) ∧
    (s.live (13 + c.cluster.val) = true → (s.core c.num).draining = none →
      ((s.core c.num).sbuf = [] → s.coreEnabled c = true → s.goingOff (13 + c.cluster.val) = false →
        exec (.coreWarmReset c) s = .next (s.setCore c.num { Core.reset with running := true, fallow := (s.core c.num).fallow })) ∧
      ((s.core c.num).sbuf ≠ [] → exec (.coreWarmReset c) s = .next (s.setCore c.num { Core.reset with
        sbuf := (s.core c.num).sbuf, draining := some (s.now + ctlCyclesPs 256), fallow := (s.core c.num).fallow })))) ∧
  (∀ (s : State) (c : CoreId) (t : Nat), (s.core c.num).draining = some t →
    exec (.warmResetDrainExpiry c) s = .next (((s.waitUntil t).dropStores c).coreDrained c)) ∧
  (∀ (s : State) (w : Writer) (cl : Fin 4), s.reaches w (R.CCL_WDT cl) →
    exec (.watchdogKick w cl) s = .next { s with evt := { s.evt with wdtPs := s.evt.wdtPs.set 0 cl s.now } }) ∧
  (∀ (s u : State) (cl : Fin 4), s.live 21 = true → s.fb (R.CCL_WDT_EN cl) = true →
    u = (clusterCores cl).foldl (fun t c => if t.coreEnabled c then t.coreWrst c else t)
      (s.waitUntil (s.evt.wdtPs.get 0 cl + s.fd (R.CCL_WDT_PERIOD cl) * 1000000)).bumpFv →
    exec (.watchdogExpiry cl) s = .next ((((((u.faultRecord cl 3 (Config.freeChoice s.fv % 6)
      (some (s.ctx ⟨cl, Fin.ofNat 6 (Config.freeChoice s.fv % 6)⟩).epc) none none none).coreFaultEvent cl
      (Config.freeChoice s.fv % 6) 3 (s.fd (R.CCL_FLTHD_IDX cl))).wdtKick cl).setFd R.GLB_RSTC_WDT
      (setNatField cl.val 1 (u.fd R.GLB_RSTC_WDT) 1))).almTrigger 3 (u.alm.seqNext % 2 ^ 32)))

/-- A write of PWR_CTL that reaches the register outside Vigil and changes one domain's bit sets ON and TRANS of an accepted change, warm-resetting the cores of a cluster that goes off, and of a refused one sets PWR_REJ with the domain and the cause and leaves ON alone. When a domain finishes switching, ONS follows ON and TRANS clears, what a domain going down holds is lost (registers at reset values, but for LOST of the DMA channels), and what one coming up holds starts from reset. -/
def Obligations.PowerDomainRows : Prop :=
  (∀ (s : State) (w : Writer) (v : Word) (d : Nat) (on : Bool), s.reaches w R.PWR_CTL → s.fb R.PWR_STS_VIGIL = false → 1 ≤ d → d ≤ 24 →
    on = decide (wField d 1 v = 1) → s.fb (pwrOn d) = !on →
    (∀ e, 1 ≤ e → e ≤ 24 → e ≠ d → s.fb (pwrOn e) = decide (wField e 1 v = 1)) →
    (s.pwrRefusal d on ≠ 0 → exec (.pwrCtlWrite w v) s =
      .next (((s.setFb R.PWR_REJ_REJ true).setFd R.PWR_REJ_DOM d).setFd R.PWR_REJ_CAUSE (s.pwrRefusal d on))) ∧
    (s.pwrRefusal d on = 0 → (on = true ∨ d < 13 ∨ 16 < d) →
      exec (.pwrCtlWrite w v) s = .next ((s.setFb (pwrOn d) on).setFb (pwrTrans d) true)) ∧
    (s.pwrRefusal d on = 0 → on = false → ∀ cl : Fin 4, d = 13 + cl.val →
      exec (.pwrCtlWrite w v) s =
        .next ((clusterCores cl).foldl (fun t c => t.coreWarmReset c) ((s.setFb (pwrOn d) false).setFb (pwrTrans d) true)))) ∧
  (∀ (s : State) (d : Fin 25), d.val ≠ 0 → s.fb (pwrTrans d.val) = true →
    (s.fb (pwrOn d.val) = true →
      exec (.pwrDomainSwitched d) s = .next (((s.setFb (pwrOns d.val) true).setFb (pwrTrans d.val) false).domainUp d.val)) ∧
    (s.fb (pwrOn d.val) = false →
      exec (.pwrDomainSwitched d) s = .next (((s.domainDown d.val).setFb (pwrOns d.val) false).setFb (pwrTrans d.val) false)) ∧
    (s.fb (pwrOn d.val) = false → d.val = 17 ∨ d.val = 18 →
      ∃ t, exec (.pwrDomainSwitched d) s = .next t ∧ (∀ a, domainOf a = d.val → isChSts a = false → t.rg a = State.reset.rg a) ∧
        (∀ a, domainOf a ≠ d.val → a ≠ R.PWR_STS → t.rg a = s.rg a) ∧ t.live d.val = false ∧
        (∀ e, e ≤ 24 → e ≠ d.val → t.live e = s.live e) ∧ (d.val = 17 → t.dma = State.reset.dma) ∧
        (d.val = 18 → t.pcn = State.reset.pcn ∧ t.gln = State.reset.gln) ∧ t.tmem = s.tmem ∧ t.cmem = s.cmem))

/-- With AUTO, the loss of the input in use switches the PLLs to the other valid one, with an error report, an Almanac record and CLK_SWCNT; without AUTO, or without a valid input, the PLLs hold over, in the second case from a time remembered. 100 µs later stage 5 is entered with source 6. An input that becomes valid is marked so, and ends a holdover on it. With REVERT the PLLs go back to the preferred input once it has been valid for 10 ms; the model counts that as a switchover (log entry 55). XTAL_AO's failure clears AOXT and is recorded. -/
def Obligations.ReferenceClockRows : Prop :=
  (∀ (s : State) (b : Bool), b = s.fb R.CLK_STS_REFSEL → s.refOk b = true →
    (s.refOk (!b) = true → s.fb R.CLK_CTL_AUTO = true → ∃ u, exec .refclkLoss s = .next u ∧ u.fb R.CLK_STS_REFSEL = (!b) ∧
      u.refOk b = false ∧ u.refOk (!b) = true ∧ u.fd R.CLK_SWCNT_REFSW = (s.fd R.CLK_SWCNT_REFSW + 1) % 65536 ∧
      s.alm.seqNext + 2 ≤ u.alm.seqNext ∧ u.fb R.CLK_STS_HOLD = s.fb R.CLK_STS_HOLD) ∧
    (s.refOk (!b) = true → s.fb R.CLK_CTL_AUTO = false → exec .refclkLoss s = .next ((s.setRefOk b false).setFb R.CLK_STS_HOLD true)) ∧
    (s.refOk (!b) = false → exec .refclkLoss s = .next { (s.setRefOk b false).setFb R.CLK_STS_HOLD true with
      pwr := { ((s.setRefOk b false).setFb R.CLK_STS_HOLD true).pwr with refLossPs := s.now } })) ∧
  (∀ (s : State) (b : Bool), b = s.fb R.CLK_CTL_PREF → s.fb R.CLK_CTL_REVERT = true → s.fb R.CLK_STS_REFSEL = (!b) → s.refOk b = true →
    exec .refclkRevert s = .next ((((s.waitUntil (s.pwr.refSincePs.get 0 (if b then 1 else 0) + 10000000000)).setFb R.CLK_STS_REFSEL
      b).setFb R.CLK_STS_HOLD false).addFd R.CLK_SWCNT_REFSW 1)) ∧
  (∀ (s u : State), s.refOk false = false → s.refOk true = false → s.fb R.CLK_STS_HOLD = true → s.fb R.PWR_STS_VIGIL = false →
    u = s.waitUntil (s.pwr.refLossPs + 100000000) →
    exec .refclkHoldoverExpiry s = .next (({ u with pwr := { u.pwr with refLoss := true } }).sagEnter 5 6 0).settle) ∧
  (∀ (s u : State) (b : Bool), s.refOk b = false → u = { s.setRefOk b true with pwr := { (s.setRefOk b true).pwr with
      refSincePs := (s.setRefOk b true).pwr.refSincePs.set 0 (if b then 1 else 0) s.now, refLoss := false } } →
    (s.fb R.CLK_STS_HOLD = false → exec (.refclkInputValid b) s = .next u) ∧
    (s.fb R.CLK_STS_HOLD = true → s.fb R.CLK_STS_REFSEL = b → exec (.refclkInputValid b) s = .next (u.setFb R.CLK_STS_HOLD false)) ∧
    (s.fb R.CLK_STS_HOLD = true → s.fb R.CLK_STS_REFSEL = (!b) →
      (s.fb R.CLK_CTL_AUTO = true → exec (.refclkInputValid b) s = .next ((u.setFb R.CLK_STS_HOLD false).refSwitch b)) ∧
      (s.fb R.CLK_CTL_AUTO = false → exec (.refclkInputValid b) s = .next u))) ∧
  (∀ s : State, s.fb R.CLK_STS_AOXT = true → exec .xtalAoFail s = .next ((s.setFb R.CLK_STS_AOXT false).almSource .clk 1))

/-- A rail below its stage-1 threshold enters stage 1: STAGE, MAX, SRC, ENT1 and the supply-sag event (one per stage, with the source and the reading). A rail condition of stages 1 to 4 has no effect while EN is 0. Stage 1 is left, and stage 5 once S5DONE is set, with the event of the exit; before S5DONE stage 5 stays. A write of SAG_CFG sets its fields, a FORCE of 6 or 7 leaving FORCE alone. CLRMAX sets MAX to STAGE. At the forced deadline the one transit packet still held is discarded with an EVICT of kind 3. -/
def Obligations.SagStageRows : Prop :=
  (∀ (s u : State) (src : Fin 16) (reading : BitVec 16), src.val < 3 → s.fb R.PWR_STS_VIGIL = false → s.sagStage = 0 →
    reading.toNat < s.sagLevel src.val 1 →
    u = (((s.setFd R.SAG_STS_STAGE 1).setFd R.SAG_STS_MAX (max 1 (s.fd R.SAG_STS_MAX))).setFd R.SAG_STS_SRC src.val).addFd R.SAG_CNT_ENT1 1 →
    (s.fb R.SAG_CFG_EN = true → exec (.sagStageEntry 1 src reading) s = .next (u.postEvent .sag 0 (u.evTarget R.SAG_CFG_EVQV R.SAG_CFG_EVQ)
      0x07 257 (BitVec.ofNat 64 (src.val + reading.toNat * 65536))).settle) ∧
    (s.fb R.SAG_CFG_EN = false → ∀ k : Fin 7, 1 ≤ k.val → k.val ≤ 4 → exec (.sagStageEntry k src reading) s = .next s.settle)) ∧
  (∀ (s u : State), s.fd R.SAG_CFG_FORCE = 0 → s.pwr.refLoss = false →
    (s.sagStage = 1 → 4 ≤ s.fd R.SAG_STS_SRC → u = s.setFd R.SAG_STS_STAGE 0 →
      exec (.sagStageExit 1) s = .next (((u.postEvent .sag 0 (u.evTarget R.SAG_CFG_EVQV R.SAG_CFG_EVQ) 0x07 1
        (BitVec.ofNat 64 (s.fd R.SAG_STS_SRC))).bumpFv.setFb R.SAG_STS_WARN false).settle)) ∧
    (s.sagStage = 5 → s.fb R.SAG_STS_S5DONE = true → 4 ≤ s.fd R.SAG_STS_SRC → u = s.setFd R.SAG_STS_STAGE 4 →
      ∃ t : State, exec (.sagStageExit 5) s = .next t.settle ∧ t.sagStage = 4 ∧ t.fb R.SAG_STS_S5DONE = false ∧ t.pwr.sagHeld = [] ∧
        s.alm.seqNext < t.alm.seqNext) ∧
    (s.sagStage = 5 → s.fb R.SAG_STS_S5DONE = false → ∀ k, exec (.sagStageExit k) s = .next s.settle)) ∧
  (∀ (s u : State) (w : Writer) (v : Word), s.reaches w R.SAG_CFG →
    u = (((s.setFd R.SAG_CFG_EN (wField 0 1 v)).setFd R.SAG_CFG_WARNEN (wField 1 1 v)).setFd R.SAG_CFG_EVQ (wField 8 6 v)).setFd
      R.SAG_CFG_EVQV (wField 14 1 v) →
    (6 ≤ wField 4 3 v → exec (.sagForceWrite w v) s = .next u.settle) ∧
    (wField 4 3 v < 6 → exec (.sagForceWrite w v) s = .next ((u.setFd R.SAG_CFG_FORCE (wField 4 3 v)).sagEnter (wField 4 3 v) 5 0).settle)) ∧
  (∀ (s : State) (w : Writer), s.reaches w R.SAG_STS → exec (.sagClrmax w) s = .next (s.setFd R.SAG_STS_MAX s.sagStage)) ∧
  (∀ (s u : State) (k : Pkt) (i : Nat) (e : Entry), s.sagStage = 5 → u = s.waitUntil (s.pwr.s5Ps + 200000000) → u.pkts = [k] →
    k.entry = some i → u.entry? i = some e → e.role = 2 → (∀ n, (u.link n).txPkt ≠ some k.id) →
    exec .sagForcedDeadline s = .next (u.evictPkt k 3).settle)

/-- With stage 5 finished, stage 6 enters Vigil: VIGIL and RET set, STAGE 6, clusters, links, ports and packets gone; table memory and the ledger kept when no core buffers a store. The restart leaves stage 6, powers the domains of R663 and resolves the kept entries with reason 0x0A. RESET_N asserted leaves every register of a switched domain at its reset value and no core running, keeping SAG_CNT and GLB_RSTC; released, fabric time is 0, CAUSE tells the start, and boot begins. Loss of VDD_AO loses the Almanac's ring and all but nonvolatile slots; VDD_AO back leaves RESET_N low with the next CAUSE a power-on. -/
def Obligations.VigilAndResetRows : Prop :=
  (∀ (s u : State) (src : Fin 16), s.fb R.PWR_STS_VIGIL = false → s.pwr.resetN = false → s.sagStage = 5 → u = s.bumpFv.settle →
    u.sagStage = 5 → u.fb R.SAG_STS_S5DONE = true →
    ∃ t, exec (.vigilEntry src) s = .next t ∧ t.fb R.PWR_STS_VIGIL = true ∧ t.fb R.PWR_STS_RET = true ∧ t.sagStage = 6 ∧ t.cmem = [] ∧
      t.pkts = [] ∧ t.links = [] ∧ t.ports = [] ∧ (∀ d, 1 ≤ d → d ≤ 22 → t.live d = false) ∧
      ((∀ n, (u.core n).sbuf = []) → t.tmem = u.tmem ∧ t.ldg.entries = u.ldg.entries)) ∧
  (∀ (s a b c d e : State), s.fb R.PWR_STS_VIGIL = true → s.refOk false = true → s.fb R.CLK_STS_REFSEL = false →
    a = (s.waitUntil (s.pwr.refSincePs.get 0 0 + 1000000000)).setFb R.CLK_STS_REFSEL false →
    b = (((a.powerUp [9, 10, 11, 12, 13, 14, 15, 16, 19, 20, 21, 22, 24]).setFb R.PWR_STS_VIGIL false).setFb R.PWR_STS_RET
      false).sagLeaveOne 6 →
    c = (List.range 32).foldl (fun t i =>
      if (t.spc i).heldPs.isSome then t.setSpc i { t.spc i with heldPs := some t.now } else t) b →
    (c.pwr.vigilBoot.isSome = true → d = ((c.setFd R.GLB_RSTC_CAUSE 3).setFb R.GLB_RSTC_RECOV false).setFd R.GLB_STS_PHASE 3 →
      e = { d with pwr := { d.pwr with boot := 1 } } →
      exec .vigilExit s = .next ((e.resolveWhere (fun _ => true) 0x0A).settle).wake) ∧
    (c.pwr.vigilBoot = none → d = ((c.setFd R.GLB_RSTC_CAUSE 4).setFb R.GLB_RSTC_RECOV false).setFd R.GLB_STS_PHASE 0 →
      e = { d with tmem := [], pwr := { d.pwr with boot := 1 } } →
      exec .vigilExit s = .next ((e.resolveWhere (fun _ => true) 0x0A).settle).wake)) ∧
  (∀ s : State, s.pwr.resetN = false → s.pwr.aoOn = true → ∃ t, exec .resetNAssert s = .next t ∧
    (∀ a, domainOf a ≠ 0 → t.rg a = State.reset.rg a) ∧ t.rg R.SAG_CNT = s.rg R.SAG_CNT ∧ t.rg R.GLB_RSTC = s.rg R.GLB_RSTC ∧
    (∀ i : Fin 32, t.rg (R.SPC_CNT i) = s.rg (R.SPC_CNT i)) ∧ t.cmem = [] ∧ t.pkts = [] ∧ t.ldg = State.reset.ldg ∧
    t.ses = State.reset.ses ∧ (∀ n, (t.core n).running = false) ∧ t.pwr.resetN = true ∧ t.pending = s.pending) ∧
  (∀ s : State, s.pwr.resetN = true → s.pwr.aoOn = true → s.hung = [] → s.links = [] → ∃ t, exec .resetNRelease s = .next t ∧
    t.time = 0 ∧ t.fd R.GLB_RSTC_CAUSE = (if s.pwr.firstStart then 1 else 2) ∧ t.pwr.resetN = false ∧ t.pwr.boot = 1 ∧ t.tmem = [] ∧
    (∀ d, 1 ≤ d → d ≤ 24 → t.live d = decide (d ∈ [13, 14, 15, 16, 19, 21, 22]))) ∧
  (∀ s : State, s.pwr.aoOn = true → ∃ t, exec .vddAoLoss s = .next t ∧ t.pwr.aoOn = false ∧ t.alm.ring = [] ∧ t.alm.running = none ∧
    (∀ a, domainOf a ≠ 0 → t.rg a = State.reset.rg a) ∧ (∀ i, (∀ r, s.alm.running = some r → r.slot ≠ i) →
      t.alm.slots.get none i = s.alm.slots.get none i)) ∧
  (∀ s : State, s.pwr.aoOn = false →
    exec .vddAoPowerOn s = .next (({ s with pwr := { s.pwr with aoOn := true, firstStart := true, resetN := true } }).wake))

/-- A boot takes the valid image of the higher sequence number, A when they are equal, and enters recovery without a valid one, where the ports of the management functions train. Copying the EARLY sections and the device configuration enables and starts core 0 of CC0; copying the others sets DONE and puts the device in service. A cluster's sections of an image are copied into its memory, and the copy after which all four clusters hold one image names it as running. -/
def Obligations.BootRows : Prop :=
  (∀ (s u : State) (a b : ImageCheck) (ra rb : Nat), s.pwr.boot = 1 → s.live 22 = true → s.pwr.vigilBoot = none →
    ra = a.code Config.svnFused.toNat Config.ownerFused → rb = b.code Config.svnFused.toNat Config.ownerFused →
    u = (s.setFd R.SEC_BOOT_STS_RESA ra).setFd R.SEC_BOOT_STS_RESB rb →
    (ra ≠ 0 → rb ≠ 0 → ∀ v, v = ((u.setFb R.SEC_BOOT_STS_RECOV true).setFb R.GLB_RSTC_RECOV true).setFd R.GLB_STS_PHASE 1 →
      exec (.bootImageChosen a b) s = .next
        (((List.range 128).filter fun p => v.mgmtPort p).foldl (fun t p => t.train p) { v with pwr := { v.pwr with boot := 5 } })) ∧
    (ra = 0 → (rb ≠ 0 ∨ b.seq.toNat ≤ a.seq.toNat) → exec (.bootImageChosen a b) s = .next (u.bootFrom false a.seq)) ∧
    (rb = 0 → (ra ≠ 0 ∨ a.seq.toNat < b.seq.toNat) → exec (.bootImageChosen a b) s = .next (u.bootFrom true b.seq)) ∧
    (∀ (f : Bool) (q : Word) (t : State), t = u.bootFrom f q → t.fb R.SEC_BOOT_STS_FLASH = f ∧ t.fb R.SEC_BOOT_STS_RUN = f ∧
      t.rg R.SEC_RUNSEQ = q ∧ t.pwr.boot = 2 ∧ t.sec.clusterImg = [])) ∧
  (∀ (s u : State) (img : List Byte), s.pwr.boot = 2 →
    u = ((imgSections img).filter fun x => x.early || decide (x.kind = 5)).foldl (fun t x => t.bootSection img x) s →
    exec (.bootEarlyCopied img) s = .next ((({ u with pwr := { u.pwr with boot := 3 } }).setCen ⟨0, 0⟩ true).coreStart ⟨0, 0⟩).settle) ∧
  (∀ (s u : State) (img : List Byte), s.pwr.boot = 3 →
    u = (((imgSections img).filter fun x => !(x.early || decide (x.kind = 5))).foldl (fun t x => t.bootSection img x) s) →
    ∀ v, v = (u.setFb R.SEC_BOOT_STS_DONE true).setFd R.GLB_STS_PHASE 2 →
    exec (.bootSectionsCopied img) s = .next ({ v with pwr := { v.pwr with boot := 4, vigilBoot := none } }).settle) ∧
  (∀ (s u : State) (cl : Fin 4) (b : Bool) (img hdr tbl rest : List Byte) (m : SMap (Option (Bool × Word))), s.live 22 = true →
    s.live (13 + cl.val) = true → img = hdr ++ tbl ++ rest → u = s.copyCluster cl.val img → m = u.sec.clusterImg.set none cl.val (some (b, imgSeq img)) →
    ((∃ c : Fin 4, m.get none c.val ≠ some (b, imgSeq img)) →
      exec (.clusterImageCopy cl b hdr tbl rest) s = .next { u with sec := { u.sec with clusterImg := m } }) ∧
    ((∀ c : Fin 4, m.get none c.val = some (b, imgSeq img)) →
      exec (.clusterImageCopy cl b hdr tbl rest) s =
        .next (({ u with sec := { u.sec with clusterImg := m } }.setRg R.SEC_RUNSEQ (imgSeq img)).setFb R.SEC_BOOT_STS_RUN b))) ∧
  (∀ (s : State) (cl : Fin 4) (img : List Byte) (x : Section), imgSections img = [x] → (x.kind = 1 ∨ x.kind = 2) →
    natField cl.val 1 x.clusters = 1 → x.dest < cmemSize →
    s.copyCluster cl.val img = s.storeCluster cl x.dest ((x.bytes img).take (cmemSize - x.dest)))

/-- A software record enters the ring with source 0x80 and flag 2. LOCK is refused with LREJ when fewer than 4 slots would stay unlocked; REL releases a sealed, unlocked slot. With nothing pending, limited or locked, ALM_CMD.SEAL records trigger 5 and leaves it pending; its record's payload, of which the spec names no triggering record, is a free value. A seal of an urgent trigger begins at once in the slot of R699. A seal that reads back well is its slot's content; one that fails is written once again under a spare, and without one leaves the slot empty. -/
def Obligations.AlmanacRows : Prop :=
  (∀ (s : State) (w : Writer) (x : Fin 32) (v : Word), s.reaches w (R.ALM_FWREC x 2) →
    exec (.almFwrecAppend w x v) s = .next (s.almRecord 0x80 2 (wField 0 16 (s.rg (R.ALM_FWREC x 0))) (s.rg (R.ALM_FWREC x 1)) v)) ∧
  (∀ (s : State) (w : Writer) (i : Fin 16) (n : Nat), s.reaches w (R.ALM_SLOT i) →
    n = ((List.range 16).filter fun j => s.fb (R.ALM_SLOT_LOCK j) || j = i.val).length →
    (n ≤ 12 → exec (.almSlotLock w i) s = .next (s.setFb (R.ALM_SLOT_LOCK i) true)) ∧
    (12 < n → exec (.almSlotLock w i) s = .next (s.setFb R.ALM_STS_LREJ true)) ∧
    (s.fd (R.ALM_SLOT_STATE i) = 1 → s.fb (R.ALM_SLOT_LOCK i) = false →
      exec (.almSlotRelease w i) s = .next (s.setFd (R.ALM_SLOT_STATE i) 2)) ∧
    ((s.fd (R.ALM_SLOT_STATE i) ≠ 1 ∨ s.fb (R.ALM_SLOT_LOCK i) = true) → exec (.almSlotRelease w i) s = .next s)) ∧
  (∀ (s : State) (w : Writer), s.reaches w R.ALM_CMD → natField 4 1 (s.fd R.ALM_CFG_TEN) = 1 → s.almAllLocked = false →
    s.alm.waiting = [] → s.alm.lastBeganPs = none →
    ∃ t r, exec (.almSeal w) s = .next t ∧ t.alm.ring = (s.alm.ring ++ [r]).drop (s.alm.ring.length + 1 - 65536) ∧ r.src = 0x1B ∧
      r.code = 0x15 ∧ r.flags = 0 ∧ r.time = s.time ∧ t.alm.seqNext = s.alm.seqNext + 1 ∧
      t.alm.waiting = [⟨5, s.alm.seqNext, s.time, s.now⟩] ∧ t.fb R.ALM_STS_PEND = true) ∧
  (∀ (s : State) (tr : Trigger) (rest : List Trigger) (i : Nat), s.pwr.aoOn = true → s.alm.waiting = tr :: rest → s.alm.running = none →
    s.svc.fal = none → tr.code = 2 ∨ tr.code = 4 → s.almTarget = some i →
    s.fb (R.ALM_SLOT_LOCK i) = false ∧ ∃ t x, exec .almSealBegin s = .next t ∧ t.alm.running = some x ∧ x.slot = i ∧ x.body.trig = tr ∧
      x.body.recs = s.alm.ring.drop (s.alm.ring.length - 16384) ∧ x.body.beganNs = s.time ∧ x.body.sealSeq = s.alm.sealSeq + 1 ∧
      t.alm.waiting = [] ∧ t.fb R.ALM_STS_SEALING = true ∧ t.fb R.ALM_STS_PEND = false) ∧
  (∀ (s : State) (r : Sealing), s.alm.running = some r → r.slot < 16 →
    (s.almWrites r.slot < 900000000 → ∃ t, exec (.almSealComplete true) s = .next t ∧ t.alm.slots.get none r.slot = some r.body ∧
      t.fd (R.ALM_SLOT_STATE r.slot) = 1 ∧ t.fd R.ALM_STS_LAST = r.slot ∧ t.fb R.ALM_STS_SEALING = false ∧ t.alm.running = none ∧
      t.fd R.ALM_STS_SEALS = (s.fd R.ALM_STS_SEALS + 1) % 2 ^ 32) ∧
    ((r.again = true ∨ (s.spareAvail 13 = false ∧ s.spareAvail 14 = false)) → ∃ t, exec (.almSealComplete false) s = .next t ∧
      t.alm.slots.get none r.slot = none ∧ t.fd (R.ALM_SLOT_STATE r.slot) = 0 ∧ t.alm.running = none))

/-- PCN_SNAP with the present epoch ends it: EPOCH advances, STIME is the fabric time and each counter's value its snapshot; another EXP sets SLOST alone. TRC_SEED loads every octet's LFSR with the seed (0 as 1) rotated. A first measurement that crosses the slowdown threshold sets ALARM and posts the wear alarm; acknowledging re-arms it. WEAR_IDX copies readings. A periodic self-test begins on an available spare, and its failure marks the spare FAILED. A GO is refused with PHASE 6 and the first cause of R710 that holds (the order is the model's, log entry 61), or starts phase 1; phases follow to the switch, which puts the spare in the element's place (a DMA engine's once its channels have nothing under way). -/
def Obligations.WearAndFallowRows : Prop :=
  (∀ (s : State) (w : Writer) (v : Word), s.reaches w R.PCN_SNAP →
    (wField 0 32 v = s.fd R.PCN_EPOCH_EPOCH → ∃ t, exec (.pcnSnap w v) s = .next t ∧ t.pcn.snapshot = s.pcn.counters ∧
      t.pcn.counters = s.pcn.counters ∧ t.fd R.PCN_EPOCH_EPOCH = (s.fd R.PCN_EPOCH_EPOCH + 1) % 2 ^ 32 ∧ t.rg R.PCN_STIME = s.time) ∧
    (wField 0 32 v ≠ s.fd R.PCN_EPOCH_EPOCH → exec (.pcnSnap w v) s = .next (s.setFb R.PCN_STS_SLOST true))) ∧
  (∀ (s : State) (w : Writer) (v : Word), s.reaches w R.TRC_SEED → ∃ t, exec (.trcSeedWrite w v) s = .next t ∧
    t.fd R.TRC_SEED_SEED = wField 0 31 v ∧ (∀ n, n < 32 → t.hpl.lfsr.getD (lfsrSeed 1) n = lfsrSeed (wField 0 31 v) n) ∧
    (∀ c : CoreId, t.hpl.ilfsr.getD (lfsrSeed 1) c.num = lfsrSeed (wField 0 31 v) c.num)) ∧
  (∀ (s u : State) (idx : BitVec 16) (g : GaugeReading), s.fb R.WEAR_CFG_EN = true → s.sagStage = 0 → s.inService 3 idx.toNat = true →
    s.fd R.WEAR_THR_ROSC ≤ g.rosc.toNat → s.svc.alarms.get false (elemKey 3 idx.toNat) = false →
    u = s.waitUntil (s.svc.measured.get 0 (elemKey 3 idx.toNat) + s.fd R.WEAR_CFG_PERIOD * 1000000000000) →
    exec (.wearMeasure 3 idx g) s = .next (({ u with svc := { u.svc with
      gauges := u.svc.gauges.set none (elemKey 3 idx.toNat) (some g), measured := u.svc.measured.set 0 (elemKey 3 idx.toNat) u.now,
      alarms := u.svc.alarms.set false (elemKey 3 idx.toNat) true } }).wearAlarm 3 idx.toNat (BitVec.ofNat 64 g.rosc.toNat))) ∧
  (∀ (s : State) (w : Writer) (v : Word) (g : GaugeReading), s.reaches w R.WEAR_IDX → s.reaches w R.WEAR_ACK →
    (wField 0 8 v = 7 → s.svc.gauges.get none (elemKey 7 (wField 8 16 v)) = some g →
      ∃ t, exec (.wearIdxCopy w v) s = .next t ∧ t.fd R.WEAR_DATA_ROSC = g.rosc.toNat ∧ t.fd R.WEAR_DATA_TMARG = g.tmarg.toNat ∧
        t.fd R.WEAR_DATA_CE = g.ce.toNat ∧ t.fb R.WEAR_DATA_ALARM = s.svc.alarms.get false (elemKey 7 (wField 8 16 v))) ∧
    exec (.wearAck w v) s = .next { s with svc := { s.svc with
      alarms := s.svc.alarms.set false (elemKey (wField 0 8 v) (wField 8 16 v)) false } }) ∧
  (∀ (s u : State) (j : Fin 26), s.sagStage < 2 →
    (s.spareAvail j = true → s.svc.testing.get false j = false →
      u = s.waitUntil (s.svc.testPs.get 0 j + s.fd R.FAL_CFG_STPER * 86400000000000000) →
      exec (.falSelfTest j) s = .next { u with svc := { u.svc with
        testing := u.svc.testing.set false j true, testPs := u.svc.testPs.set 0 j u.now } }) ∧
    (s.svc.testing.get false j = true → u = { s with svc := { s.svc with testing := s.svc.testing.set false j false } } →
      exec (.falSelfTestEnd j true) s = .next u ∧
      exec (.falSelfTestEnd j false) s = .next (((u.setFb (R.FAL_SPARE_FAILED j) true).wearAlarm (spareKind j) (0x7F00 + j)
        (Config.freeWord s.fv)).bumpFv))) ∧
  (∀ (s u : State) (w : Writer) (v : Word) (r : Nat), s.reaches w R.FAL_CMD → wField 32 1 v = 1 →
    u = ((s.setFd R.FAL_CMD_KIND (wField 0 8 v)).setFd R.FAL_CMD_TARGET (wField 8 16 v)).setFd R.FAL_CMD_SPARE (wField 24 5 v) →
    r = s.falRefusal (wField 24 5 v) (wField 0 8 v) (wField 8 16 v) →
    (r ≠ 0 → s.fb R.FAL_STS_BUSY = false → exec (.falGo w v) s = .next ((u.setFd R.FAL_STS_PHASE 6).setFd R.FAL_STS_RCODE r)) ∧
    (r ≠ 0 → s.fb R.FAL_STS_BUSY = true →
      exec (.falGo w v) s = .next (((u.setFd R.FAL_STS_PHASE 6).setFd R.FAL_STS_RCODE r).setFb R.FAL_STS_LOST true)) ∧
    (r = 0 → ∃ t, exec (.falGo w v) s = .next t ∧ t.fb R.FAL_STS_BUSY = true ∧ t.fd R.FAL_STS_PHASE = 1 ∧ t.fd R.FAL_STS_RCODE = 0 ∧
      t.svc.fal = some ⟨wField 0 8 v, wField 8 16 v, wField 24 5 v, 1⟩)) ∧
  (∀ (s : State) (f : FalJob), s.svc.fal = some f → f.kind ≠ 7 →
    (f.phase = 1 ∨ f.phase = 2 → ∃ t, exec (.falPhaseComplete true) s = .next t ∧ t.svc.fal = some { f with phase := f.phase + 1 } ∧
      t.fd R.FAL_STS_PHASE = f.phase + 1 ∧ t.fd R.FAL_STS_RCODE = 0) ∧
    (f.phase = 4 → f.spare < 26 → (f.kind = 8 → s.engQuiet f.target = true) →
      ∃ t, exec (.falPhaseComplete true) s = .next t ∧ t.svc.fal = none ∧ t.fb R.FAL_STS_BUSY = false ∧
      t.fd R.FAL_STS_PHASE = 5 ∧ t.svc.assigned.get 0 f.spare = f.target + 1 ∧
      t.svc.alarms.get false (elemKey f.kind f.target) = false))

/-- GLB_MODE sets FABRIC, NODE and NODEV, or is refused with MREJ where a link that is up or a session in use forbids it. A verification starts unless one is busy, and ends with its code, or 9 for a good image whose sequence number is not above the running one's. A flash operation starts unless one is busy, or is refused with ERR when it would program or erase the running image's flash outside recovery; its end clears BUSY, or sets ERR. A write to a register without a row of its own sets its RW fields and clears W1C bits; an access of a wrong size sets AERR with the offset. -/
def Obligations.ServiceRegisterRows : Prop :=
  (∀ (s : State) (w : Writer) (v : Word), s.reaches w R.GLB_MODE →
    (s.anyLinkUp = false → s.sesActive = 0 → exec (.glbModeWrite w v) s = .next ((((s.setFb R.GLB_MODE_FABRIC
      (decide (wField 0 1 v = 1))).setFb R.GLB_MODE_NODEV true).setFd R.GLB_MODE_NODE (wField 16 12 v)).reselectTime)) ∧
    (s.fb R.GLB_MODE_FABRIC = true → s.anyLinkUp = true → (wField 0 1 v = 0 ∨ wField 16 12 v ≠ s.fd R.GLB_MODE_NODE) →
      exec (.glbModeWrite w v) s = .next (s.setFb R.GLB_STS_MREJ true))) ∧
  (∀ (s u : State) (w : Writer) (b : Bool), s.reaches w R.SEC_VERIFY → u = s.setFb R.SEC_VERIFY_SEL b →
    (s.fb R.SEC_VERIFY_BUSY = true → exec (.secVerifyGo w b) s = .next u) ∧
    (s.fb R.SEC_VERIFY_BUSY = false → s.sec.flashOp = none → exec (.secVerifyGo w b) s =
      .next { (u.setFb R.SEC_VERIFY_BUSY true) with sec := { s.sec with verifyB := some b, verifyWaits := false } })) ∧
  (∀ (s : State) (b : Bool) (k : ImageCheck) (c : Nat), s.sec.verifyB = some b → s.sec.verifyWaits = false → s.sec.flashWaits = false →
    c = k.code Config.svnFused.toNat Config.ownerFused → exec (.secVerifyComplete k) s =
      .next { (((s.setFd R.SEC_VERIFY_RES (if c = 0 ∧ k.seq.toNat ≤ (s.rg R.SEC_RUNSEQ).toNat then 9 else c)).setFb R.SEC_VERIFY_BUSY
        false).setFb R.SEC_VERIFY_DONE true) with sec := { s.sec with verifyB := none } }) ∧
  (∀ (s u : State) (w : Writer) (v : Word) (b : Bool) (op : Nat), s.reaches w R.SEC_FLCTL → s.fb R.SEC_FLCTL_BUSY = false →
    b = decide (wField 0 1 v = 1) →
    u = ((s.setFb R.SEC_FLCTL_SEL b).setFd R.SEC_FLCTL_OP op).setFd R.SEC_FLCTL_ADDR (wField 8 24 v) →
    (s.sec.verifyB ≠ some b → op = 1 → ∃ t, exec (.secFlashRead w v) s = .next t ∧ t.regs = (u.setFb R.SEC_FLCTL_BUSY true).regs ∧
      t.sec = { s.sec with flashOp := some (1, b, wField 8 24 v * 256), flashWaits := false } ∧
      t.out = s.out ++ [.flash b 1 (wField 8 24 v * 256) []]) ∧
    (s.fb R.SEC_BOOT_STS_RECOV = false → s.fb R.SEC_BOOT_STS_RUN = b →
      (op = 2 → exec (.secFlashProgram w v) s = .next (u.setFb R.SEC_FLCTL_ERR true)) ∧
      (op = 3 → exec (.secFlashErase w v) s = .next (u.setFb R.SEC_FLCTL_ERR true))) ∧
    (s.sec.verifyB ≠ some b → s.fb R.SEC_BOOT_STS_RUN = (!b) →
      (op = 2 → ∃ t, exec (.secFlashProgram w v) s = .next t ∧ t.regs = (u.setFb R.SEC_FLCTL_BUSY true).regs ∧
        t.sec = { s.sec with flashOp := some (2, b, wField 8 24 v * 256), flashWaits := false }) ∧
      (op = 3 → ∃ t, exec (.secFlashErase w v) s = .next t ∧ t.regs = (u.setFb R.SEC_FLCTL_BUSY true).regs ∧
        t.sec = { s.sec with flashOp := some (3, b, wField 8 24 v * 256), flashWaits := false }))) ∧
  (∀ (s : State) (o : Nat × Bool × Nat) (data : List Byte), s.sec.flashOp = some o → s.sec.flashWaits = false → data.length = 256 →
    (∃ t, exec (.secFlashOpComplete false data) s = .next t ∧ t.fb R.SEC_FLCTL_ERR = true ∧ t.fb R.SEC_FLCTL_BUSY = false ∧
      t.sec.flashOp = none) ∧
    (o.1 = 1 → ∃ t, exec (.secFlashOpComplete true data) s = .next t ∧ t.fb R.SEC_FLCTL_BUSY = false ∧ t.sec.flashOp = none ∧
      ∀ i : Fin 32, t.rg (R.SEC_FLBUF i) = BitVec.ofNat 64 (ofBytesLE ((data.drop (8 * i)).take 8)))) ∧
  (∀ (s : State) (w : Writer) (v : Word), s.reaches w R.GLB_STS →
    exec (.registerWrite w R.GLB_STS v) s = .next (s.setRg R.GLB_STS (s.rg R.GLB_STS &&& ~~~(v &&& 0xC)))) ∧
  (∀ (s : State) (w : Writer), s.reaches w R.CLK_CTL → ∀ v : Word,
    exec (.registerWrite w R.CLK_CTL v) s = .next (s.setRg R.CLK_CTL ((s.rg R.CLK_CTL &&& ~~~7#64) ||| (v &&& 7)))) ∧
  (∀ (s : State) (w : Writer) (size : Nat) (wr : Bool), size ≠ 8 → s.reaches w 0x4000 →
    exec (.registerBadAccess w ⟨0x4000, size, wr⟩) s = .next ((s.setFb R.GLB_STS_AERR true).setFd R.GLB_STS_AOFF 0x4000))

/-- In a powered PD24, each write of SPC[i]_CTL and each event of a channel that no Vigil hold keeps makes the change that R624 and the rules of that event give, and reports it: EN written 1 leaves DISABLED, EN written 0 clears LATCH and leaves ON through OFFSEQ; presence and VIN are followed; WAIT passes to RAMP under R623 with ONCNT, RAMP to ON, a failed ramp to DAMAGED; PWRGD, PERST_N, current limit and its release are followed; a held channel resumes ON, or notes that its hold has ended by presence loss or the fast breaker. -/
def Obligations.SlotChannelRows : Prop :=
  ∀ (s : State) (i : Fin 32) (rep : State → Host.Outcome State Fault Refusal), s.live 24 = true → s.live 0 = true →
    rep = (fun u => .next (u.spcReport i (s.rg (R.SPC_STS i)))) →
    (∀ w : Writer,
      (s.fb (R.SPC_CTL_EN i) = false → s.spcState i = 0 → exec (.spcEnable w i) s =
        rep ((s.setFb (R.SPC_CTL_EN i) true).setFd (R.SPC_STS_STATE i) (if s.fb (R.SPC_STS_PRSNT i) then 2 else 1))) ∧
      (s.fb (R.SPC_CTL_EN i) = true → s.spcState i = 4 → exec (.spcDisable w i) s =
        rep (((s.setFb (R.SPC_CTL_EN i) false).setFb (R.SPC_STS_LATCH i) false).spcLeave i 5)) ∧
      (s.fb (R.SPC_CTL_EN i) = true → s.spcState i ≠ 4 → s.spcState i ≠ 5 → exec (.spcDisable w i) s =
        rep (((s.setFb (R.SPC_CTL_EN i) false).setFb (R.SPC_STS_LATCH i) false).spcLeave i 0)) ∧
      (s.fb (R.SPC_CTL_EN i) = true → exec (.spcDclr w i) s = rep (s.setFb (R.SPC_STS_WERR i) true)) ∧
      (s.fb (R.SPC_CTL_EN i) = false → s.spcState i = 7 → exec (.spcDclr w i) s =
        rep (((s.setFb (R.SPC_STS_DMG i) false).setFd (R.SPC_STS_DKIND i) 0).setFd (R.SPC_STS_STATE i) 0)) ∧
      exec (.spcPerstfSet w i) s = rep ((s.setFb (R.SPC_CTL_PERSTF i) true).setFb (R.SPC_STS_PERST i) true) ∧
      exec (.spcPerstfClear w i) s = .next (s.setFb (R.SPC_CTL_PERSTF i) false)) ∧
    ((s.spc i).heldPs = none →
      (s.fb (R.SPC_STS_PRSNT i) = false → s.spcBound i = [] → s.spcState i = 1 → exec (.spcPresenceBegin i) s =
        rep (((s.setFb (R.SPC_STS_PRSNT i) true).setSpc i { s.spc i with insertPs := s.now }).setFd (R.SPC_STS_STATE i) 2)) ∧
      (s.fb (R.SPC_STS_PRSNT i) = true → s.spcBound i = [] → s.bindings = [] → s.spcState i = 6 → exec (.spcPresenceLoss i) s =
        .next ((((s.setFb (R.SPC_STS_PRSNT i) false).addFd (R.SPC_CNT_PLOSS i) 1).spcReport i (s.rg (R.SPC_STS i))).settle)) ∧
      (s.fb (R.SPC_STS_VINOK i) = false → exec (.spcVinQualified i) s = rep (s.setFb (R.SPC_STS_VINOK i) true)) ∧
      (s.fb (R.SPC_STS_VINOK i) = true → s.spcState i = 3 ∨ s.spcState i = 4 →
        exec (.spcVinLoss i) s = rep ((s.setFb (R.SPC_STS_VINOK i) false).spcLeave i 2)) ∧
      (∀ u : State, s.spcMayRamp i = true → u = s.waitUntil ((s.spc i).insertPs + s.fd (R.SPC_TMR0_INSDLY i) * 1000000000) →
        exec (.spcRampStart i) s =
          rep (((u.setFd (R.SPC_STS_STATE i) 3).satFd (R.SPC_CNT_ONCNT i)).setSpc i { s.spc i with rampPs := u.now })) ∧
      (∀ u : State, s.spcState i = 3 → u = (s.setFd (R.SPC_STS_STATE i) 4).setSpc i { s.spc i with pgPs := some s.now } →
        (s.spcHostOff i = false → exec (.spcRampComplete i) s = rep u) ∧
        (s.spcHostOff i = true → exec (.spcRampComplete i) s = rep (u.spcLeave i 5))) ∧
      (∀ vout, s.spcState i = 3 → s.fb (R.SPC_STS_INLIM i) = false → exec (.spcGriseExpiry i ⟨false, vout⟩) s =
        rep ((s.waitUntil ((s.spc i).rampPs + s.fd (R.SPC_TMR0_GRISE i) * 1000000000)).spcDamage i 1)) ∧
      (∀ u : State, s.spcState i = 3 → s.fb (R.SPC_STS_INLIM i) = false → s.spcHostOff i = false →
        u = s.waitUntil ((s.spc i).rampPs + s.fd (R.SPC_TMR0_GRISE i) * 1000000000) → exec (.spcGriseExpiry i ⟨true, true⟩) s =
        rep ((u.setFd (R.SPC_STS_STATE i) 4).setSpc i { s.spc i with pgPs := some u.now })) ∧
      (∀ u : State, s.spcState i = 4 → s.fb (R.SPC_STS_PWRGD i) = false → s.fb (R.SPC_STS_INLIM i) = false →
        u = s.waitUntil ((s.spc i).pgPs.getD s.now + s.fd (R.SPC_TMR1_PGQ i) * 1000000) →
        exec (.spcPwrgdQualified i) s = rep ((u.setFb (R.SPC_STS_PWRGD i) true).setSpc i { s.spc i with pwrgdPs := u.now })) ∧
      (s.spcState i = 4 → s.fb (R.SPC_STS_PWRGD i) = true → exec (.spcPwrgdLoss i) s =
        rep (((s.setFb (R.SPC_STS_PWRGD i) false).setFb (R.SPC_STS_PERST i) true).setSpc i { s.spc i with pgPs := some s.now })) ∧
      (s.spcState i = 4 → s.fb (R.SPC_STS_PWRGD i) = true → s.fb (R.SPC_STS_PERST i) = true → s.fb (R.SPC_CTL_PERSTF i) = false →
        exec (.spcPerstRelease i) s = rep ((s.waitUntil ((s.spc i).pwrgdPs + s.fd (R.SPC_TMR1_PERSTDLY i) * 1000000000)).setFb
          (R.SPC_STS_PERST i) false)) ∧
      (∀ u : State, s.spcState i = 5 → s.fb R.PWR_STS_VIGIL = false →
        u = s.waitUntil ((s.spc i).offPs + s.fd (R.SPC_TMR1_PERSTLEAD i) * 10000000) → exec (.spcOffseqEnd i) s =
        rep (u.setFd (R.SPC_STS_STATE i) (if s.fb (R.SPC_CTL_EN i) then 2 else 0))) ∧
      (s.spcState i = 3 ∨ s.spcState i = 4 → s.fb (R.SPC_STS_INLIM i) = false → exec (.spcCurrentLimit i) s =
        rep ((s.setFb (R.SPC_STS_INLIM i) true).setSpc i { s.spc i with limPs := some s.now, pgPs := none })) ∧
      (s.fb (R.SPC_STS_INLIM i) = true → exec (.spcLimitRelease i) s =
        rep ((s.setFb (R.SPC_STS_INLIM i) false).setSpc i { s.spc i with limPs := none, pgPs := some s.now })) ∧
      (s.spcState i = 1 ∨ s.spcState i = 2 → exec (.spcDsShort i) s = rep (s.spcDamage i 2))) ∧
    (∀ (t0 : Nat) (u : State), (s.spc i).heldPs = some t0 → (s.spc i).holdEnd = 0 → s.fd (R.SPC_CTL_TMODE i) = 0 →
      s.spcHostOff i = false → u = s.waitUntil (t0 + 1000000000) → exec (.spcHoldResume i) s =
        .next ((((u.setSpc i { s.spc i with heldPs := none, holdEnd := 0 }).setFd (R.SPC_STS_STATE i) 4).setSpc i
          { s.spc i with heldPs := none, holdEnd := 0, temp := (s.fd (R.SPC_TM_TAMB i) : Int) * 256, pgPs := some u.now }).spcReport i
            (s.rg (R.SPC_STS i)))) ∧
    (∀ t0, (s.spc i).heldPs = some t0 → (s.spc i).holdEnd = 0 →
      exec (.spcFastBreaker i) s = .next ((s.setSpc i { s.spc i with holdEnd := 2 }).emit (.pin "SPC_GATE" i false)) ∧
      exec (.spcPresenceLoss i) s = .next ((s.setSpc i { s.spc i with holdEnd := 1 }).emit (.pin "SPC_GATE" i false)))

/-- The fault timer trips an enabled channel in RAMP or ON with TKIND 1, a temperature in use of TTRIP or more with 2, the fast breaker with 3, a ramp that GRISE ends in current limit, or with GATE up but not VOUT_S, with 4, and a Vigil hold that the breaker ended with 5. Each trip leaves the channel LATCHED with LATCH and COOLACT set, PWRGD deasserted, PERST_N asserted, TRIPS advanced and an Almanac record; tripRow then takes the links of the slots bound to the channel down, and adds nothing where none is bound. A thermal update that does not trip writes MEAS as a whole. COOLACT clears once the temperature in use is below TARM and COOL has elapsed, and nothing else of the channel's status changes then. -/
def Obligations.SlotTrips : Prop :=
  ∀ (s : State) (i : Fin 32), s.live 24 = true →
    (∀ (c : Instr) (k : Nat),
      ((s.spc i).heldPs = none ∧
        (c = .spcFaultTimerExpiry i ∧ s.fb (R.SPC_STS_INLIM i) = true ∧ (s.spcState i = 3 ∨ s.spcState i = 4) ∧ k = 1 ∨
         c = .spcFastBreaker i ∧ (s.spcState i = 3 ∨ s.spcState i = 4) ∧ s.fb (R.SPC_CTL_EN i) = true ∧ k = 3 ∨
         (∃ obs : SpcRampObs, c = .spcGriseExpiry i obs ∧ (s.fb (R.SPC_STS_INLIM i) = true ∨ obs = ⟨true, false⟩)) ∧ s.spcState i = 3 ∧ k = 4 ∨
         (∃ m : SpcMeas, c = .spcThermalUpdate i m ∧ s.fd (R.SPC_CTL_TMODE i) = 1 ∧ m.tdio.toNat < 128 ∧
           s.fd (R.SPC_TM_TTRIP i) ≤ m.tdio.toNat) ∧ (s.spcState i = 3 ∨ s.spcState i = 4) ∧ k = 2) ∨
       (s.spc i).heldPs.isSome = true ∧ (s.spc i).holdEnd = 2 ∧ c = .spcHoldResume i ∧ k = 5) →
      ∃ f t, exec c s = .next (s.tripRow i f) ∧ (s.spcBound i = [] → exec c s = .next t) ∧ t = f s ∧ t.spcState i = 6 ∧ t.fb (R.SPC_STS_LATCH i) = true ∧ t.fb (R.SPC_STS_COOLACT i) = true ∧
        t.fd (R.SPC_STS_TKIND i) = k ∧ t.fb (R.SPC_STS_PWRGD i) = false ∧ t.fb (R.SPC_STS_PERST i) = true ∧
        t.fd (R.SPC_CNT_TRIPS i) = (s.fd (R.SPC_CNT_TRIPS i) + 1) % 65536 ∧ (t.spc i).tripPs = t.now ∧
        (s.spcState i ≠ 6 → s.alm.seqNext < t.alm.seqNext) ∧ (∀ j : Fin 32, j ≠ i → t.rg (R.SPC_STS j) = s.rg (R.SPC_STS j)) ∧
        t.tmem = s.tmem) ∧
    (∀ m : SpcMeas, s.spcState i ≠ 3 → s.spcState i ≠ 4 → s.spcBound i = [] → ∃ t, exec (.spcThermalUpdate i m) s = .next t ∧
      t.fd (R.SPC_MEAS_VIN i) = m.vin.toNat ∧ t.fd (R.SPC_MEAS_VOUT i) = m.vout.toNat ∧ t.fd (R.SPC_MEAS_IOUT i) = m.iout.toNat ∧
      t.fd (R.SPC_MEAS_TDIO i) = m.tdio.toNat ∧ t.rg (R.SPC_STS i) = s.rg (R.SPC_STS i)) ∧
    ((s.spc i).heldPs = none → s.fb (R.SPC_STS_COOLACT i) = true → s.spcInUse i < (s.fd (R.SPC_TM_TARM i) : Int) * 256 →
      ∃ t, exec (.spcCooldownEnd i) s = .next t ∧ t.fb (R.SPC_STS_COOLACT i) = false ∧ t.spcState i = s.spcState i ∧
        t.fb (R.SPC_STS_LATCH i) = s.fb (R.SPC_STS_LATCH i) ∧
        (s.spc i).tripPs + max (s.fd (R.SPC_TMR1_COOL i)) 1000 * 1000000000 ≤ t.now)

/-- GO on a busy channel is discarded with WERR; on an idle one it ends the channel at once with reason 0x0F (BSZ above 4, or a local address of a tenant other than 0) or 0x11 (its function's BME is 0), and otherwise clears DONE, REASON and IREASON and leaves STATE 1, or 2 while its function's HOLD is 1. ABORT is kept for the channel's next slot, where a channel with nothing to write ends in STATE 5 with reason 0x13. A round issues the next burst of the one ready channel, while no spare is taking the engine's place. A fetched descriptor is loaded. A local write stores its bytes and DONE counts them; an address out of range ends the channel with reason 0x0C. Reads that localisation finds unanswered fail with reason 0. What follows at once (settle) is done after each. -/
def Obligations.DmaRows : Prop :=
  (∀ (s : State) (w : Writer) (ch : DmaCh) (v : Word) (g : Nat), g = ch.val → s.reaches w (R.DMA_CH_CTL (g / 256) (g % 256)) →
    (1 ≤ s.chState g → s.chState g ≤ 3 → exec (.dmaGo w ch v) s = .next (s.setFb (chF R.DMA_CH_STS_WERR g) true).settle) ∧
    ((s.chState g = 0 ∨ 4 ≤ s.chState g) → v.getLsbD 1 = false →
      ((4 < wField 13 3 v ∨ (s.chanTenant g ≠ 0 ∧ (v.getLsbD 10 ∨ v.getLsbD 11 ∨ v.getLsbD 12))) → v.getLsbD 9 = false →
        ∃ u : State, exec (.dmaGo w ch v) s = .next u.settle ∧ u.chState g = 7 ∧ u.fd (chF R.DMA_CH_STS_REASON g) = 0x0F) ∧
      (wField 13 3 v ≤ 4 → v.getLsbD 10 = false → v.getLsbD 11 = false → v.getLsbD 12 = false →
        (∀ f, s.fnOfChan g = some f → (s.fn f).bme = false → v.getLsbD 9 = false →
          ∃ u : State, exec (.dmaGo w ch v) s = .next u.settle ∧ u.chState g = 6 ∧ u.fd (chF R.DMA_CH_STS_REASON g) = 0x11) ∧
        (s.fnOfChan g = none → s.chCnt g ≠ 0 → ∃ u : State, exec (.dmaGo w ch v) s = .next u.settle ∧ u.chState g = 1 ∧
          u.fd (chF R.DMA_CH_STS_REASON g) = 0 ∧ u.fd (chF R.DMA_CH_STS_IREASON g) = 0 ∧ u.chDone g = 0 ∧ u.chSrc g = s.chSrc g ∧
          u.chDst g = s.chDst g ∧ u.chCnt g = s.chCnt g ∧ u.tmem = s.tmem ∧ u.cmem = s.cmem)))) ∧
  (∀ (s : State) (w : Writer) (ch : DmaCh) (g : Nat), g = ch.val → s.reaches w (R.DMA_CH_CTL (g / 256) (g % 256)) →
    1 ≤ s.chState g → s.chState g ≤ 3 →
    exec (.dmaAbort w ch) s = .next (s.setChan g { s.chan g with abort := true }).settle) ∧
  (∀ (s : State) (e : Fin 17) (g : Nat), e.val < 16 → s.live 17 = true → s.engStop e = none → s.engChans e = [g] → g < 4096 →
    s.chState g = 1 → (s.chan g).bursts = [] → (s.chan g).phase = 3 → s.sagStage < 3 →
    ((s.chan g).abort = true → s.chFlag R.DMA_CH_CTL_IE g = false → ∃ u : State, exec (.dmaArbitrationRound e) s = .next u.settle ∧
      u.chState g = 5 ∧ u.fd (chF R.DMA_CH_STS_REASON g) = 0x13 ∧ u.chDone g = s.chDone g ∧ u.tmem = s.tmem ∧ u.cmem = s.cmem) ∧
    ((s.chan g).abort = false → (s.chan g).local_ = none → s.chFlag R.DMA_CH_CTL_SLOC g = true → s.fb (R.DMA_ENG_CTL_SGV e) = false →
      s.engMoves e = false →
      (s.chan g).next < s.chCnt g → ∃ (u : State) (n : Nat), exec (.dmaArbitrationRound e) s = .next u.settle ∧ n = s.burstLen g (s.chan g).next ∧
        u.chan g = { s.chan g with
          next := (s.chan g).next + n, local_ := some (0, (s.chan g).next),
          bursts := [⟨(s.chan g).next, n, none, none, false, false, none⟩] } ∧
        s.now ≤ u.now ∧ u.dma.nextRoundPs.get 0 e = u.now + 8000)) ∧
  (∀ (s : State) (ch : DmaCh) (g : Nat) (bs : List Byte), g = ch.val → (s.chan g).fetched = some bs → bs.length = 32 →
    ofBytesLE ((bs.drop 16).take 4) ≠ 0 → ∃ u : State, exec (.dmaDescriptorFetched ch) s = .next u.settle ∧
      u.chSrc g = ofBytesLE (bs.take 8) ∧ u.chDst g = ofBytesLE ((bs.drop 8).take 8) ∧ u.chCnt g = ofBytesLE ((bs.drop 16).take 4) ∧
      (u.chan g).phase = 3 ∧ (u.chan g).descIe = (bs.getD 20 0).getLsbD 0 ∧ (u.chan g).descEnd = (bs.getD 20 0).getLsbD 1 ∧
      (u.chan g).descFlush = (bs.getD 20 0).getLsbD 2 ∧ (u.chan g).descNext = BitVec.ofNat 64 (ofBytesLE (bs.drop 24))) ∧
  (∀ (s : State) (ch : DmaCh) (g : Nat) (b : Burst) (d : List Byte) (a : Nat), g = ch.val → (s.chan g).local_ = some (1, b.off) →
    (s.chan g).bursts = [b] → b.data = some d → b.len = d.length → 0 < d.length → a = (s.chDst g + b.off) % 2 ^ 64 →
    (localOk a b.len = false → s.chFlag R.DMA_CH_CTL_IE g = false → ∃ u : State, exec (.dmaLocalAccessComplete ch) s = .next u.settle ∧
      u.chState g = 7 ∧ u.fd (chF R.DMA_CH_STS_REASON g) = 0x0C ∧ u.tmem = s.tmem ∧ u.cmem = s.cmem) ∧
    (localOk a b.len = true → s.live (localDomain a) = true → s.live (localDomain (a + b.len - 1)) = true →
      (s.chDone g + b.len) % 2 ^ 32 ≠ s.chCnt g → ∃ u : State, exec (.dmaLocalAccessComplete ch) s = .next u.settle ∧
        u.tmem = (s.localWrite a d).tmem ∧ u.cmem = (s.localWrite a d).cmem ∧ u.chDone g = (s.chDone g + b.len) % 2 ^ 32 ∧
        (u.chan g).bursts = [] ∧ (u.chan g).local_ = none)) ∧
  (∀ (s u : State) (e : Fin 17) (l : Localise) (g : Nat), s.engStop e = some l → l.cur = some g →
    u = s.waitUntil (l.sincePs + s.fd R.DMA_CFG_LTMO * 1000000) →
    exec (.dmaLocalisationTimeout e) s = .next ((u.setChan g { s.chan g with
      bursts := (s.chan g).bursts.map fun b =>
        if b.again && b.data.isNone && b.failed.isNone then { b with entry := none, failed := some 0 } else b }).localiseAll e).settle)

/-- Clearing BME ends each running channel of the function in STATE 6 with reason 0x11. An FLR of an existing function begins its reset with BME, the mailbox and the failure log's EN cleared; it ends later. Clearing VF Enable resets every VF of the PF. FORCE ends each running channel in STATE 7 with reason 0x09. HOLD is set and cleared with the rest of FFN_FN[f]_CFG kept; cleared, waiting channels run. The FFN registers are written or the write is refused with its code. Log and mailbox writes have the effect of R555, R567 and R568. What follows at once (settle) is done after each. -/
def Obligations.FunctionRows : Prop :=
  (∀ (s : State) (f : FnIdx) (g : Nat), s.live 21 = true → g < 4096 → g ∈ s.dma.chans.map (fun x => x.1) → s.fnHasChan f g = true →
    1 ≤ s.chState g → s.chState g ≤ 3 →
    ((s.fn f).bme = true → ∃ u : State, exec (.hostBmeClear f) s = .next u.settle ∧ (u.fn f).bme = false ∧ u.chState g = 6 ∧
      u.fd (chF R.DMA_CH_STS_REASON g) = 0x11) ∧
    (∀ w : Writer, s.reaches w (R.FFN_FN_CFG f) → (s.fn f).rst = none → s.fnPort f ≠ none →
      s.fd (R.FFN_FN_CFG_CHBASE f) + s.fd (R.FFN_FN_CFG_CHCNT f) ≤ 4096 →
      s.fd (R.FFN_FN_CFG_CHCNT f) ≤ (if 4096 ≤ f.val then 256 else 64) →
      (∀ h ∈ s.fnCfgs, h ≠ f.val → rangesMeet (s.fd (R.FFN_FN_CFG_CHBASE f)) (s.fd (R.FFN_FN_CFG_CHCNT f))
        (s.fd (R.FFN_FN_CFG_CHBASE h)) (s.fd (R.FFN_FN_CFG_CHCNT h)) = false) →
      (∃ u : State, exec (.fnForce w f) s = .next u.settle ∧ u.chState g = 7 ∧ u.fd (chF R.DMA_CH_STS_REASON g) = 0x09) ∧
      (∃ u : State, exec (.fnHoldSet w f) s = .next u.settle ∧ u.fb (R.FFN_FN_CFG_HOLD f) = true ∧ u.chState g = s.chState g ∧
        u.fd (R.FFN_FN_CFG_CHBASE f) = s.fd (R.FFN_FN_CFG_CHBASE f) ∧ u.fd (R.FFN_FN_CFG_CHCNT f) = s.fd (R.FFN_FN_CFG_CHCNT f) ∧
        u.fnTenant f = s.fnTenant f) ∧
      (∃ u : State, exec (.fnHoldClear w f) s = .next u.settle ∧ u.fb (R.FFN_FN_CFG_HOLD f) = false ∧
        u.chState g = (if s.chState g = 2 then 1 else s.chState g) ∧
        u.fd (R.FFN_FN_CFG_CHBASE f) = s.fd (R.FFN_FN_CFG_CHBASE f) ∧ u.fd (R.FFN_FN_CFG_CHCNT f) = s.fd (R.FFN_FN_CFG_CHCNT f)))) ∧
  (∀ (s : State) (f : FnIdx), s.live 21 = true → s.fnPort f ≠ none → (s.fn f).rst = none →
    ∃ u : State, exec (.hostFlr f) s = .next u.settle ∧ (u.fn f).rst.isSome = true ∧ (u.fn f).bme = false ∧
      u.fb (R.FN_LOG_CFG_EN f) = false ∧ u.fb (R.FN_MBX_STS_BUSY f) = false ∧ u.fd (R.FFN_FN_CFG_CHBASE f) = s.fd (R.FFN_FN_CFG_CHBASE f)) ∧
  (∀ (s : State) (f : FnIdx), s.live 21 = true → (s.fn f).rst.isSome = true →
    ∃ u : State, exec (.flrComplete f) s = .next u.settle ∧ (u.fn f).rst = none ∧ u.regs = s.regs) ∧
  (∀ (s : State) (p : Port), s.live 21 = true → (s.fn (4096 + p)).vfEnable = true →
    ∃ u : State, exec (.hostVfEnableClear p) s = .next u.settle ∧ (u.fn (4096 + p)).vfEnable = false ∧
      ∀ g, g < 4096 → g ∈ s.fnsOf p → (u.fn g).rst.isSome = true) ∧
  (∀ (s : State) (f : FnIdx) (v : Word), s.live 21 = true → s.fnPort f ≠ none → (s.fn f).rst = none →
    (wField 0 1 v = 1 → ∃ u : State, exec (.fnLogEnable f v) s = .next u.settle ∧ u.fb (R.FN_LOG_CFG_EN f) = true ∧
      u.fd (R.FN_LOG_PROD_PROD f) = 0 ∧ u.fd (R.FN_LOG_CONS_CONS f) = 0 ∧
      u.fd (R.FN_LOG_CFG_LOGSZ f) = (if s.fb (R.FN_LOG_CFG_EN f) then s.fd (R.FN_LOG_CFG_LOGSZ f) else wField 8 5 v)) ∧
    (s.fb (R.FN_MBX_STS_BUSY f) = false → s.fb R.FFN_CFG_MBXQV = true → exec (.fnMbxDb f v) s =
      .next ((s.setFb (R.FN_MBX_STS_BUSY f) true).postEvent .ffn f (some (s.fd R.FFN_CFG_MBXQ)) 0x06
        (16 + 256 * wField 0 6 v + 65536 * f) 0).settle) ∧
    ((s.fb (R.FN_MBX_STS_BUSY f) = true ∨ s.fb R.FFN_CFG_MBXQV = false) →
      exec (.fnMbxDb f v) s = .next (s.setFb (R.FN_MBX_STS_OVW f) true).settle)) ∧
  (∀ (s : State) (w : Writer) (f : FnIdx) (v : Word), s.reaches w (R.FN_MBX_RSP f) → exec (.fnMbxRsp w f v) s =
    .next ((((s.setFd (R.FN_MBX_RSP_LEN f) (wField 0 6 v)).setFb (R.FN_MBX_STS_BUSY f) false).setFb (R.FN_MBX_STS_DONE f) true).msix
      f 1).settle) ∧
  (∀ (s u : State) (w : Writer) (v : Word) (p : Nat), s.reaches w R.FFN_CFG → w ≠ .manager → p = wField 0 7 v →
    u = (s.setFd R.FFN_CFG_MBXQ (wField 8 6 v)).setFd R.FFN_CFG_MBXQV (wField 14 1 v) →
    (wField 7 1 v = 1 → ¬(s.fd (R.PRT_CTX_ROLE p) = 1 ∧ s.fb (R.PRT_CTX_MGMT p) = true ∧ s.fd (R.PRT_CTX_TENANT p) = 0) →
      exec (.ffnCfgWrite w v) s = .next (s.ffnRej 7 (4096 + p)).settle) ∧
    (s.fd (R.PRT_CTX_ROLE p) = 1 ∧ s.fb (R.PRT_CTX_MGMT p) = true ∧ s.fd (R.PRT_CTX_TENANT p) = 0 →
      exec (.ffnCfgWrite w v) s = .next ((u.setFd R.FFN_CFG_MGRPORT p).setFd R.FFN_CFG_MGRV (wField 7 1 v)).settle)) ∧
  (∀ (s : State) (w : Writer) (p : Port) (v : Word), s.reaches w (R.FFN_PF_CFG p) →
    ((s.fn (4096 + p)).vfEnable = true → exec (.ffnPfCfgWrite w p v) s = .next (s.setFb R.FFN_STS_INUSE true).settle) ∧
    ((s.fn (4096 + p)).vfEnable = false → s.kind3 p = none → wField 32 13 v = 0 →
      (256 < wField 48 8 v + wField 56 5 v → exec (.ffnPfCfgWrite w p v) s = .next (s.ffnRej 5 (4096 + p)).settle) ∧
      (wField 56 5 v = 0 → exec (.ffnPfCfgWrite w p v) s =
        .next (s.setRg (R.FFN_PF_CFG p) (v &&& 0x1FFF1FFF0FFF0003#64)).settle))) ∧
  (∀ (s : State) (w : Writer) (p : Port) (v : Word), s.reaches w (R.FFN_FN_CFG (4096 + p)) →
    (4096 < wField 32 12 v + wField 48 9 v → ∀ f : FnIdx, f.val = 4096 + p.val →
      exec (.ffnFnCfgWrite w f v) s = .next (s.ffnRej 1 (4096 + p)).settle) ∧
    (s.dma.chans = [] → wField 48 9 v = 0 → wField 17 1 v = 0 → ∀ f : FnIdx, f.val = 4096 + p.val →
      exec (.ffnFnCfgWrite w f v) s = .next (s.setRg (R.FFN_FN_CFG (4096 + p)) (v &&& 0x01FF0FFF00011FFF#64)).settle))

/-- With no record waiting to be produced, the next record of a function's log is written at BASE + 32 × (PROD mod 2^LOGSZ) with PROD as its sequence number, PROD advances and the record leaves the overflow store; a vector that waited is sent 2 µs after the previous one. EN of a tracker is set with PROD and CONS 0 when its range tracks no source FID and BME is 1, and refused with REJ when BME is 0. The one cached page that reaches 16 µs, with no SYNC of its tracker in progress, is written as a record; what leaves on a port whose link IDE stream has a key is enciphered. SYNC is discarded with SLOST while one is in progress; else the tracker's pages are written out and leave the cache. When it completes, LASTTOK is its token. -/
def Obligations.LogAndDirtyRows : Prop :=
  (∀ (s : State) (f : FnIdx) (p : Nat) (w : WaitRec), s.live 21 = true → s.fnPort f = some p → s.logRoom f = true → s.nextRecord f = some w →
    w.r.remaining ≠ 0 → s.ldg.recWait = [] → s.ldg.entries = [] →
    ∃ u : State, exec (.logRecordWrite f) s = .next u.settle ∧
      u.out = s.out ++ [s.enciphered (.hostWrite p (s.fnRid f) (BitVec.ofNat 64 (s.fd (R.FN_LOG_BASE_BASE f) * 4096 +
        32 * (s.fd (R.FN_LOG_PROD_PROD f) % 2 ^ s.fd (R.FN_LOG_CFG_LOGSZ f)))) (w.r.bytes (s.fd (R.FN_LOG_PROD_PROD f))))] ∧
      u.fd (R.FN_LOG_PROD_PROD f) = (s.fd (R.FN_LOG_PROD_PROD f) + 1) % 2 ^ 32 ∧ u.ldg.overflow = s.ldg.overflow.erase w) ∧
  (∀ (s u : State) (f : FnIdx), s.live 21 = true → (s.fn f).vecPending = true →
    u = s.waitUntil ((s.fn f).lastVecPs.getD 0 + 2000000) →
    exec (.failureLogVector f) s = .next ((u.setFn f { s.fn f with lastVecPs := some u.now, vecPending := false }).msix f 0)) ∧
  (∀ (s : State) (k : Fin 256) (v : Word) (p : Nat), s.live 21 = true → s.dlPf k = some p → s.fb (R.DL_CTL_EN k) = false →
    wField 0 1 v = 1 →
    (wField 16 16 v = 0 → wField 32 12 v = 4095 → wField 1 1 v = 0 → (s.fn (4096 + p)).bme = true → ∃ t : State,
      exec (.dlEnable k v) s = .next t ∧ t.fb (R.DL_CTL_EN k) = true ∧ t.fd (R.DL_PROD_PROD k) = 0 ∧ t.fd (R.DL_CONS_CONS k) = 0 ∧
      t.fd (R.DL_CTL_SFID k) = 0 ∧ t.fd (R.DL_CTL_SFCNT k) = 4095) ∧
    ((s.fn (4096 + p)).bme = false → ∃ t : State, exec (.dlEnable k v) s = .next t ∧ t.fb (R.DL_CTL_EN k) = false ∧
      t.fb (R.DL_STS_REJ k) = true ∧ t.fd (R.DL_PROD_PROD k) = s.fd (R.DL_PROD_PROD k))) ∧
  (∀ (s : State) (e : DlEntry) (p q : Nat), s.live 21 = true → s.ffn.cache = [e] → e.k < 256 → (∀ y ∈ s.ffn.syncs, y.k ≠ e.k) → s.dlPf e.k = some p →
    s.fnPort (4096 + p) = some q → s.fnIssues (4096 + p) = true → s.fb (R.DL_STS_OVF e.k) = false →
    (s.fd (R.DL_PROD_PROD e.k) + 2 ^ 32 - s.fd (R.DL_CONS_CONS e.k)) % 2 ^ 32 < 2 ^ s.fd (R.DL_RCFG_LOGSZ e.k) →
    ∃ t : State, exec .dlEntryAge s = .next t ∧ t.ffn.cache = [] ∧ e.madePs + 16000000 ≤ t.now ∧
      t.fd (R.DL_PROD_PROD e.k) = (s.fd (R.DL_PROD_PROD e.k) + 1) % 2 ^ 32 ∧
      t.out = s.out ++ [s.enciphered (.hostWrite q (s.fnRid (4096 + p)) (BitVec.ofNat 64 (s.fd (R.DL_RBASE_BASE e.k) * 4096 +
        8 * (s.fd (R.DL_PROD_PROD e.k) % 2 ^ s.fd (R.DL_RCFG_LOGSZ e.k)))) (bytesLE 8 (BitVec.ofNat 64 (e.page * 4096)).toNat))]) ∧
  (∀ (s : State) (k : Fin 256) (tok : BitVec 32), s.live 21 = true → s.dlPf k ≠ none →
    (s.fb (R.DL_STS_SYNCP k) = true → exec (.dlSync k tok) s = .next (s.setFb (R.DL_STS_SLOST k) true)) ∧
    (s.fb (R.DL_STS_SYNCP k) = false → (∀ y ∈ s.ffn.syncs, y.k ≠ k.val) → ∃ t : State, exec (.dlSync k tok) s = .next t ∧ t.fb (R.DL_STS_SYNCP k) = true ∧
      t.ffn.syncs = s.ffn.syncs ++ [⟨k, tok.toNat⟩] ∧ (∀ e ∈ t.ffn.cache, e.k ≠ k.val) ∧
      (∀ e ∈ s.ffn.cache, e.k ≠ k.val → e ∈ t.ffn.cache))) ∧
  (∀ (s : State) (k : Fin 256) (y : DlSync) (rest : List DlSync), s.live 21 = true → s.ffn.syncs = y :: rest → y.k = k.val →
    y.token < 2 ^ 32 → ∃ t : State, exec (.dlSyncComplete k) s = .next t ∧ t.fd (R.DL_STS_LASTTOK k) = y.token ∧
      t.fb (R.DL_STS_SYNCP k) = false ∧ t.ffn.syncs = rest)

/-- A deadline fails the one posted write of a source entry with reason 0x0B (0x0A where sag set the deadline): it is counted, recorded, and the entry is gone. LDG_IDX copies an entry's words and outcome mask; of a free entry zeros. LDG_AERC starts a search with the address LDG_AERA holds; the search ends with MATCH or NOHIST. A link acknowledgement delivers the write of a destination entry. A quarantine ends. Returned credits are added. A completion for which the partner has no link credits is not sent; one whose tag names no open entry is counted late and has no other effect on entries; one whose tag does goes to its requester with its requester ID and tag back, m1 showing the requester ID as received. What follows at once (settle) is done after each. -/
def Obligations.LedgerRows : Prop :=
  (∀ (s : State) (i : Nat) (e : Entry), s.entry? i = some e → e.role ≤ 1 → e.state = 1 → e.origin = 0 → e.tkind = 0x02 → e.runCnt = 0 →
    e.runout.getLsbD 0 = false → s.recordRoom e.tenant = true → s.ldg.recWait = [] → s.fd R.LDG_CNT_FAILED < 2 ^ 32 - 1 →
    ∃ (u : State) (w : WaitRec), exec (.ledgerDeadline i) s = .next u.settle ∧ u.entry? i = none ∧
      u.fd R.LDG_CNT_FAILED = s.fd R.LDG_CNT_FAILED + 1 ∧ w ∈ u.ldg.overflow ∧ w.r.reason = (if e.forced then 0x0A else 0x0B) ∧
      w.r.addr = e.addr ∧ w.r.tenant = e.tenant ∧ w.r.kind = 0 ∧ u.tmem = s.tmem ∧ u.cmem = s.cmem) ∧
  (∀ (s : State) (w : Writer) (i : BitVec 18), s.reaches w R.LDG_IDX →
    ∃ u : State, exec (.ldgIdxCopy w i) s = .next u.settle ∧ u.fd R.LDG_IDX_INDEX = i.toNat ∧ u.ldg = s.ldg ∧
      (∀ e, s.entry? i.toNat = some e → u.rg R.LDG_RUNOUT = e.runout ∧ u.rg (R.LDG_EDATA 1) = e.addr ∧ u.rg (R.LDG_EDATA 0) = e.words.getD 0 0 ∧
        u.rg (R.LDG_EDATA 2) = e.words.getD 2 0 ∧ u.rg (R.LDG_EDATA 3) = e.words.getD 3 0) ∧
      (s.entry? i.toNat = none → u.rg R.LDG_RUNOUT = 0 ∧ ∀ j, j < 4 → u.rg (R.LDG_EDATA j) = 0)) ∧
  (∀ (s : State) (w : Writer) (v : Word), s.reaches w R.LDG_AERC → s.fb R.LDG_AERS_BUSY = false → v.getLsbD 24 = true →
    ∃ u : State, exec (.ldgAercGo w v) s = .next u.settle ∧ u.fb R.LDG_AERS_BUSY = true ∧ u.ldg.aerPending = some (s.rg R.LDG_AERA) ∧
      u.fd R.LDG_AERC_PORT = wField 0 7 v ∧ u.fd R.LDG_AERC_LENDW = wField 8 10 v ∧ u.ldg.hist = s.ldg.hist) ∧
  (∀ (s : State) (a : Word), s.ldg.aerPending = some a → s.ldg.hist = [] →
    ∃ u : State, exec .ldgAerSearchComplete s = .next u.settle ∧ u.fb R.LDG_AERS_BUSY = false ∧ u.fd R.LDG_AERS_MATCH = 0 ∧
      u.fb R.LDG_AERS_NOHIST = true ∧ u.ldg.aerPending = none) ∧
  (∀ (s : State) (a : Word) (h : PageHist), s.ldg.aerPending = some a → s.ldg.hist = [h] → h.port = s.fd R.LDG_AERC_PORT →
    h.page = a.toNat / 4096 →
    ∃ u : State, exec .ldgAerSearchComplete s = .next u.settle ∧ u.fb R.LDG_AERS_BUSY = false ∧ u.fd R.LDG_AERS_MATCH = 1 ∧
      u.fb R.LDG_AERS_NOHIST = false ∧ u.ldg.aerPending = none) ∧
  (∀ (s : State) (p : Port) (id i : Nat) (k : Pkt) (e : Entry), (s.port p).awaitAck = [id] → s.pkt? id = some k → k.entry = some i →
    kindNp k.tkind = false → s.entry? i = some e → e.role = 3 →
    ∃ u : State, exec (.pcieLinkAck p 1) s = .next u.settle ∧ (u.port p).awaitAck = [] ∧ u.entry? i = none ∧ u.pktNext ≥ s.pktNext ∧
      (s.fd (R.PRT_CTX_ROLE p) = 2 → k.tkind = 0x02 → (⟨p.val, k.addr.toNat / 4096, k.tenant, k.sfid⟩ : PageHist) ∈ u.ldg.hist)) ∧
  (∀ (s : State) (p : Port) (q : Quarantine), s.ldg.quar = [q] → q.port = p.val →
    ∃ u : State, exec (.tagQuarantineExpiry p q.key) s = .next u.settle ∧ u.ldg.quar = [] ∧ q.untilPs ≤ u.now ∧ s.now ≤ u.now ∧
      u.ldg.gens = s.ldg.gens ∧ u.regs = s.regs) ∧
  (∀ (s : State) (p : Port) (c : CreditReturn), exec (.pcieCreditReturn p c) s = .next (if s.fb (R.PRT_LSTS_UP p) then
      s.setPort p { s.port p with credits := match c.ord with
        | .p => { (s.port p).credits with pHdr := (s.port p).credits.pHdr + c.hdr, pData := (s.port p).credits.pData + c.data }
        | .np => { (s.port p).credits with npHdr := (s.port p).credits.npHdr + c.hdr, npData := (s.port p).credits.npData + c.data }
        | _ => { (s.port p).credits with cplHdr := (s.port p).credits.cplHdr + c.hdr, cplData := (s.port p).credits.cplData + c.data } }
      else s)) ∧
  (∀ (s u v : State) (p : Port) (t : Tlp) (k : Pkt), t.ok = true → kindCpl t.tkind = true → (s.port p).ideKey = none →
    v = s.endCut p → k = v.tlpPkt p t → u = v.countReceived k →
    (s.creditsTlp p t = false → exec (.completionArrival p t) s = .next s) ∧
    (s.creditsTlp p t = true → u.matchTag false p k.reqId k.rspTag = none →
      exec (.completionArrival p t) s = .next (u.lateCpl p k.reqId k.rspTag).settle ∧
      (u.lateCpl p k.reqId k.rspTag).ldg.entries = v.ldg.entries ∧ (u.lateCpl p k.reqId k.rspTag).pkts = v.pkts) ∧
    (∀ e, s.creditsTlp p t = true → u.matchTag false p k.reqId k.rspTag = some e → e.role = 0 → e.origin = 0 → e.ide = false →
      t.cxl = none → u.fd (R.PRT_CTX_ROLE p) = 1 →
      exec (.completionArrival p t) s = .next (u.arrive { u.sheafed (k.setReq e.rid e.tag) (u.fd (R.PRT_CTX_TENANT p))
        (u.fd (R.PRT_CTX_PFID p)) with entry := some e.idx, m1 := BitVec.ofNat 64 (k.reqId % 65536 * 2 ^ 40) }).settle))

/-- An uncorrectable error that scrubbing finds in cluster or table memory changes no byte of a memory, no ledger entry and no packet. One in the memory of a ledger entry puts a record of tenant 0 into the overflow store. An uncorrectable error in a cell of a class C packet that no port transmits sets BUF_STS.ECCU, is recorded, and the packet is discarded. What follows at once (settle) is done after each. -/
def Obligations.MemoryErrorRows : Prop :=
  (∀ (s : State) (addr : Word) (k : ScrubKind), k ≠ .ledger → ∃ u : State, exec (.memoryScrubError k addr) s = .next u.settle ∧
    u.tmem = s.tmem ∧ u.cmem = s.cmem ∧ u.ldg = s.ldg ∧ u.pkts = s.pkts ∧ u.cores = s.cores ∧ s.alm.seqNext < u.alm.seqNext) ∧
  (∀ (s : State) (addr : Word) (e : Entry), s.entry? addr.toNat = some e → s.recordRoom 0 = true → s.ldg.recWait = [] →
    ∃ (u : State) (w : WaitRec), exec (.memoryScrubError .ledger addr) s = .next u.settle ∧ w ∈ u.ldg.overflow ∧ w.r.tenant = 0 ∧
      w.r.reason = 0x10 ∧ u.tmem = s.tmem ∧ u.cmem = s.cmem ∧ s.alm.seqNext < u.alm.seqNext) ∧
  (∀ (s : State) (pkt : Nat) (place : CellErrorPlace) (k : Pkt), s.pkt? pkt = some k → k.cls = 15 → k.txPort = none →
    ∃ u : State, exec (.cellUncorrectableError pkt place) s = .next u.settle ∧ u.pkt? pkt = none ∧ u.fb R.BUF_STS_ECCU = true ∧
      s.alm.seqNext < u.alm.seqNext ∧ u.tmem = s.tmem ∧ u.cmem = s.cmem)

/-- A commit or synchronisation written while BUSY sets LOST. Otherwise it sets BUSY, TENANT and ROUTE; with its drain incomplete it is rejected with RCODE 1, with wrong routing fields with RCODE 6. A commit whose checks pass flips the version and sets DONE; one whose checks fail sets DONE, REJ and RCODE and changes neither memory nor version. A tenant synchronisation makes the shadow copy of the tenant's entry equal to the active copy and changes no byte of another tenant's entry. A kick is remembered with its time; a missed heartbeat and TBL_FB.ENTER enter the fall-back; EXIT leaves it if a kick has arrived within the last PERIOD. What follows at once (settle) is done after each request and completion. -/
def Obligations.TableRows : Prop :=
  (∀ (s : State) (w : Writer) (t : TenantId), s.reaches w R.TBL_COMMIT → s.fb R.TBL_STS_BUSY = true →
    exec (.tblCommit w t) s = .next (s.setFb R.TBL_STS_LOST true).settle ∧
    exec (.tblCommitRevoke w t) s = .next (s.setFb R.TBL_STS_LOST true).settle ∧
    (∀ r, exec (.tblCommitRoute w t r) s = .next (s.setFb R.TBL_STS_LOST true).settle) ∧
    exec (.tblSync w t) s = .next (s.setFb R.TBL_STS_LOST true).settle ∧
    exec (.tblSyncRoute w t) s = .next (s.setFb R.TBL_STS_LOST true).settle) ∧
  (∀ (s : State) (w : Writer) (t : TenantId), s.reaches w R.TBL_COMMIT → s.fb R.TBL_STS_BUSY = false →
    s.draining (some t.val) = false → s.draining none = false →
    (∃ u : State, exec (.tblCommit w t) s = .next u.settle ∧ u.tbl.job = some (.commit t false) ∧ u.fb R.TBL_STS_BUSY = true ∧
      u.fd R.TBL_STS_TENANT = t ∧ u.fb R.TBL_STS_ROUTE = false ∧ u.tmem = s.tmem) ∧
    (∃ u : State, exec (.tblCommitRevoke w t) s = .next u.settle ∧ u.tbl.job = some (.commit t true) ∧ u.fb R.TBL_STS_BUSY = true ∧
      u.fd R.TBL_STS_TENANT = t ∧ u.fb R.TBL_STS_ROUTE = false ∧ u.tmem = s.tmem) ∧
    (∃ u : State, exec (.tblSync w t) s = .next u.settle ∧ u.tbl.job = some (.sync t) ∧ u.fb R.TBL_STS_BUSY = true ∧
      u.fd R.TBL_STS_TENANT = t ∧ u.fb R.TBL_STS_ROUTE = false ∧ u.tmem = s.tmem) ∧
    (t.val = 0 → ∃ u : State, exec (.tblCommitRoute w t false) s = .next u.settle ∧ u.tbl.job = some (.route 0 false) ∧
      u.fb R.TBL_STS_BUSY = true ∧ u.fb R.TBL_STS_ROUTE = true ∧ u.tmem = s.tmem) ∧
    (t.val = 0 → ∃ u : State, exec (.tblSyncRoute w t) s = .next u.settle ∧ u.tbl.job = some (.syncRoute 0) ∧
      u.fb R.TBL_STS_BUSY = true ∧ u.fb R.TBL_STS_ROUTE = true ∧ u.tmem = s.tmem)) ∧
  (∀ (s : State) (w : Writer) (t : TenantId) (c : Instr) (code : Nat), s.reaches w R.TBL_COMMIT → s.fb R.TBL_STS_BUSY = false →
    ((s.draining (some t.val) = true ∧ code = 1 ∧ (c = .tblCommit w t ∨ c = .tblCommitRevoke w t ∨ c = .tblSync w t)) ∨
     (s.draining none = true ∧ t.val = 0 ∧ code = 1 ∧ (c = .tblCommitRoute w t false ∨ c = .tblSyncRoute w t)) ∨
     (t.val ≠ 0 ∧ code = 6 ∧ (c = .tblCommitRoute w t false ∨ c = .tblSyncRoute w t)) ∨ (code = 6 ∧ c = .tblCommitRoute w t true)) →
    ∃ u : State, exec c s = .next u.settle ∧ u.tbl.job = none ∧ u.fb R.TBL_STS_BUSY = false ∧ u.fb R.TBL_STS_DONE = true ∧
      u.fb R.TBL_STS_REJ = true ∧ u.fd R.TBL_STS_RCODE = code ∧ u.tmem = s.tmem) ∧
  (∀ (s : State) (t : TenantId) (revoke : Bool), s.tbl.job = some (.commit t revoke) →
    ((s.flipVer (some t.val)).checkTenant t = none → ∃ u : State, exec .tblCommitComplete s = .next u.settle ∧
      u.tntVer t = 1 - s.tntVer t ∧ (∀ x : TenantId, x ≠ t → u.tntVer x = s.tntVer x) ∧ u.rver = s.rver ∧ u.tbl.job = none ∧
      u.fb R.TBL_STS_BUSY = false ∧ u.fb R.TBL_STS_DONE = true ∧ u.tmem = s.tmem) ∧
    (∀ r, (s.flipVer (some t.val)).checkTenant t = some r → ∃ u : State, exec .tblCommitComplete s = .next u.settle ∧
      (∀ x : TenantId, u.tntVer x = s.tntVer x) ∧ u.rver = s.rver ∧ u.tbl.job = none ∧ u.fb R.TBL_STS_BUSY = false ∧
      u.fb R.TBL_STS_DONE = true ∧ u.fb R.TBL_STS_REJ = true ∧ u.fd R.TBL_STS_RCODE = r.code % 16 ∧ u.tmem = s.tmem)) ∧
  (∀ (s : State) (t : Nat), s.tbl.job = some (.route t false) → (s.flipVer none).checkRoute s = none →
    ∃ u : State, exec .tblCommitComplete s = .next u.settle ∧ u.rver = 1 - s.rver ∧ (∀ x : TenantId, u.tntVer x = s.tntVer x) ∧
      u.tbl.kmask = s.rg R.HPL_KMASK ∧ u.fb R.TBL_STS_BUSY = false ∧ u.fb R.TBL_STS_DONE = true ∧ u.tmem = s.tmem) ∧
  (∀ (s : State) (t : TenantId), s.tbl.job = some (.sync t) → Memory.wf s = true →
    ∃ u : State, exec .tblSyncComplete s = .next u.settle ∧ u.tbl.job = none ∧ u.fb R.TBL_STS_BUSY = false ∧ u.fb R.TBL_STS_DONE = true ∧
      u.tntVer t = s.tntVer t ∧
      (∀ o, o < 256 → u.tByte (512 * t + 256 * (1 - s.tntVer t) + o) = s.tByte (512 * t + 256 * s.tntVer t + o) ∧
        u.tByte (512 * t + 256 * s.tntVer t + o) = s.tByte (512 * t + 256 * s.tntVer t + o)) ∧
      (∀ a, a < 0x400000 → a / 512 ≠ t.val → u.tByte a = s.tByte a)) ∧
  (∀ (s : State) (w : Writer), s.reaches w R.TBL_HB_KICK → exec (.tblHbKick w) s = .next { s with tbl := { s.tbl with
    lastKickPs := some s.now
    kickCluster := match w with
      | .core c => some c.cluster.val
      | _ => none } }) ∧
  (∀ (s : State), s.live 19 = true → s.fb R.TBL_HB_EN = true → s.fb R.TBL_FB_ACTIVE = false →
    ∃ u : State, exec .heartbeatMiss s = .next u ∧ u.fb R.TBL_FB_ACTIVE = true ∧ u.fb R.TBL_FB_CAUSE = false ∧ s.now ≤ u.now ∧
      s.tbl.periodPs + s.fd R.TBL_HB_PERIOD * 1000000 ≤ u.now ∧ u.tmem = s.tmem ∧ u.cmem = s.cmem) ∧
  (∀ (s : State) (w : Writer), s.reaches w R.TBL_FB →
    (s.fb R.TBL_FB_ACTIVE = false → ∃ u : State, exec (.tblFbEnter w) s = .next u ∧ u.fb R.TBL_FB_ACTIVE = true ∧
      u.fb R.TBL_FB_CAUSE = true ∧ u.tmem = s.tmem ∧ u.cmem = s.cmem) ∧
    (∀ k, s.tbl.lastKickPs = some k → s.now ≤ k + s.fd R.TBL_HB_PERIOD * 1000000 →
      exec (.tblFbExit w) s = .next (s.setFb R.TBL_FB_ACTIVE false)))

/-- Setting VALID writes the binding's fields and VALID, or is refused with TBL_STS.REJ and RCODE 9; on a valid binding it changes no register. Otherwise no other register changes, but for a slot channel in ON whose host asks for power off. Clearing VALID clears GONE and abandons proxy resets. The Fabric Manager API commands do the same and answer. A change of bus numbers is kept and RRS begins. A decoder commit is kept with whether it succeeded. GONE set by a write stays set and, at a binding of KIND 1 or 2, abandons proxy resets. What follows at once (settle) is done after each. -/
def Obligations.BindingRows : Prop :=
  (∀ (s n : State) (w : Writer) (p : Port) (v : Fin 256) (b0 : Word), s.reaches w (R.PRT_VDP_B0 p v) →
    n = s.setRg (R.PRT_VDP_B0 p v) ((b0 ||| 1#64) &&& 0x000000FFFFFF7F06#64) →
    (s.fb (R.PRT_VDP_B0_VALID p v) = true → ∃ u : State, exec (.vdpBind w p v b0) s = .next u.settle ∧ u.regs = s.regs ∧ u.tmem = s.tmem) ∧
    (s.fb (R.PRT_VDP_B0_VALID p v) = false → n.bindRefused p v = true →
      ∃ u : State, exec (.vdpBind w p v b0) s = .next u.settle ∧ u.fb (R.PRT_VDP_B0_VALID p v) = false ∧ u.fb R.TBL_STS_REJ = true ∧
        u.fd R.TBL_STS_RCODE = 9 ∧ u.tmem = s.tmem) ∧
    (s.fb (R.PRT_VDP_B0_VALID p v) = false → n.bindRefused p v = false →
      ∃ u : State, exec (.vdpBind w p v b0) s = .next u.settle ∧ u.rg (R.PRT_VDP_B0 p v) = (b0 &&& 0x000000FFFFFF7F06#64) ||| 1#64 ∧
        u.tmem = s.tmem ∧ (s.fd (R.SPC_STS_STATE (s.fd (R.PRT_VDP_B1_SPC p v))) ≠ 4 →
          ∀ a, a ≠ R.PRT_VDP_B0 p v → u.regs.getD regReset a = s.regs.getD regReset a))) ∧
  (∀ (s : State) (w : Writer) (p : Port) (v : Fin 256), s.reaches w (R.PRT_VDP_B0 p v) → s.fb (R.PRT_VDP_B0_VALID p v) = true →
    (∃ u : State, exec (.vdpUnbind w p v) s = .next u.settle ∧ u.fb (R.PRT_VDP_B0_VALID p v) = false ∧ u.fb (R.PRT_VDL_GONE p v) = false ∧
      (u.vdp p v).resets = [] ∧ (u.vdp p v).dpc = false ∧ u.tmem = s.tmem ∧
      (∀ a, a ≠ R.PRT_VDP_B0 p v → a ≠ R.PRT_VDL p v → u.regs.getD regReset a = s.regs.getD regReset a)) ∧
    (∃ u : State, exec (.fmapiUnbind p v) s = .next (u.settle.emit (.mgmt "Unbind vPPB" (256 * p + v) 0)) ∧
      u.fb (R.PRT_VDP_B0_VALID p v) = false ∧ u.fb (R.PRT_VDL_GONE p v) = false ∧ (u.vdp p v).resets = [])) ∧
  (∀ (s n : State) (p : Port) (v : Fin 256) (b0 : Word), s.reaches .sideband (R.PRT_VDP_B0 p v) → s.fb (R.PRT_VDP_B0_VALID p v) = false →
    n = s.setRg (R.PRT_VDP_B0 p v) ((b0 ||| 1#64) &&& 0x000000FFFFFF7F06#64) → ∃ u : State,
      exec (.fmapiBind p v b0) s = .next (u.settle.emit (.mgmt "Bind vPPB" (256 * p + v)
        (if u.settle.fb (R.PRT_VDP_B0_VALID p v) then 0 else 1))) ∧ u.fb (R.PRT_VDP_B0_VALID p v) = !n.bindRefused p v) ∧
  (∀ (s : State) (p : Port) (v : Fin 256) (sec sub : Byte), s.live 21 = true → (s.vdp p v).secBus ≠ sec.toNat →
    ∃ u : State, exec (.hostBusNumberChange p v sec sub) s = .next u.settle ∧ (u.vdp p v).secBus = sec.toNat ∧
      (u.vdp p v).subBus = sub.toNat ∧ (u.vdp p v).rrs = true ∧ s.alm.seqNext < u.alm.seqNext ∧ u.tmem = s.tmem) ∧
  (∀ (s : State) (p : Port) (v : Fin 256) (d : HdmDecoder), s.live 21 = true → s.fb (R.PRT_LSTS_CXL p) = true →
    ∃ (u : State) (ok : Bool), exec (.hostHdmDecoderCommit p v d) s = .next u.settle ∧
      (d.idx.val, d.base, d.size, ok) ∈ (u.up p).decoders ∧ u.regs = s.regs ∧ u.tmem = s.tmem ∧ (s.listedWin = [] → ok = false)) ∧
  (∀ (s : State) (w : Writer) (p : Port) (v : Fin 256), s.reaches w (R.PRT_VDL p v) →
    (s.fb (R.PRT_VDP_B0_VALID p v) = true → s.shared (p, v) = true → s.ldg.entries = [] → ∃ u : State, exec (.vdlGoneSet w p v) s = .next u.settle ∧
      u.fb (R.PRT_VDL_GONE p v) = true ∧ (u.vdp p v).resets = [] ∧ u.fb (R.PRT_VDP_B0_VALID p v) = true ∧ u.tmem = s.tmem) ∧
    (s.fb (R.PRT_VDP_B0_VALID p v) = false ∨ s.shared (p, v) = false →
      exec (.vdlGoneSet w p v) s = .next (s.setFb (R.PRT_VDL_GONE p v) true).settle))

/-- Retrain Link reaches the real link of a KIND 0 binding. Link Disable, Secondary Bus Reset and a DPC trigger act on the binding as R476 and R483 say; a second DPC trigger changes nothing. Clearing DPC Trigger Status releases the real link. Power Controller Control is kept, and a KIND 0 binding with a slot channel completes the command. The timers of a proxy reset send the read of its Command register, and end it with GONE. A PTM Request and an LTR message are answered or delivered. An MCTP message for the device is posted as an event. What follows at once (settle) is done after each but PTM and LTR. -/
def Obligations.SlotAndContainmentRows : Prop :=
  (∀ (s : State) (p : Port) (v : Fin 256) (q : Nat), s.live 21 = true → s.fb (R.PRT_VDP_B0_VALID p v) = true →
    s.fd (R.PRT_VDP_B0_KIND p v) = 0 → q = s.fd (R.PRT_VDP_B0_LPORT p v) →
    (∃ u : State, exec (.hostRetrainLink p v) s = .next u.settle ∧ .mgmt "retrain" q 0 ∈ u.out ∧ u.regs = s.regs ∧ u.tmem = s.tmem) ∧
    ((s.vdp p v).dpc = false → ∃ u : State, exec (.hostDpcTrigger p v) s = .next u.settle ∧ (u.vdp p v).dpc = true ∧
      u.fb (R.PRT_LSTS_CONT q) = true ∧ u.fb (R.PRT_LSTS_UP q) = false) ∧
    ((s.vdp p v).dpc = true → s.fb (R.PRT_LCTL_TRAIN q) = false → ∃ u : State, exec (.hostDpcStatusClear p v) s = .next u.settle ∧
      (u.vdp p v).dpc = false ∧ u.fb (R.PRT_LSTS_CONT q) = false ∧ u.tmem = s.tmem) ∧
    ((s.vdp p v).linkDisable = false → ∃ u : State, exec (.hostLinkDisable p v true) s = .next u.settle ∧
      (u.vdp p v).linkDisable = true ∧ (u.port q).disabled = true ∧ u.fb (R.PRT_LSTS_UP q) = false ∧ u.fd (R.PRT_LSTS_LTSSM q) = 6) ∧
    ((s.vdp p v).linkDisable = true → s.fb (R.PRT_LCTL_TRAIN q) = false → ∃ u : State, exec (.hostLinkDisable p v false) s = .next u.settle ∧
      (u.vdp p v).linkDisable = false ∧ (u.port q).disabled = false ∧ u.fd (R.PRT_LSTS_LTSSM q) = 0) ∧
    ((s.vdp p v).dpc = false → s.fb (R.PRT_LCTL_TRAIN q) = false → ∃ u : State, exec (.hostSecondaryBusReset p v) s = .next u.settle ∧
      u.fb (R.PRT_LSTS_UP q) = false ∧ .mgmt "hot reset" q 0 ∈ u.out) ∧
    (∀ off, (s.vdp p v).powerOff = !off → s.fb (R.PRT_VDP_B1_SPCV p v) = true → s.fd (R.SPC_STS_STATE (s.fd (R.PRT_VDP_B1_SPC p v))) ≠ 4 →
      ∃ u : State, exec (.hostPowerControllerControl p v off) s = .next u.settle ∧ (u.vdp p v).powerOff = off ∧
        (u.vdp p v).cmdDone = true ∧ u.regs = s.regs ∧ u.tmem = s.tmem)) ∧
  (∀ (s : State) (p : Port) (v : Fin 256), s.live 21 = true → s.fb (R.PRT_VDP_B0_VALID p v) = true → (s.vdp p v).dpc = true →
    (∃ u : State, exec (.hostDpcTrigger p v) s = .next u.settle ∧ u.regs = s.regs ∧ u.ldg = s.ldg ∧ u.pkts = s.pkts) ∧
    (∃ u : State, exec (.hostSecondaryBusReset p v) s = .next u.settle ∧ u.regs = s.regs ∧ u.ldg = s.ldg ∧ u.pkts = s.pkts)) ∧
  (∀ (s : State) (p : Port) (v : Fin 256) (r : ProxyReset), s.live 21 = true → (s.vdp p v).resets = [r] →
    (r.phase = 0 → ∃ u : State, exec (.proxyResetWaitExpiry p v 0) s = .next (s.slotWatch fun _ => u.proxySend p v r.fid false).settle ∧
      (u.vdp p v).resets = [{ r with phase := 1, lastPs := u.now }] ∧ u.now = max s.now (r.startPs + 100 * 1000000000) ∧ u.regs = s.regs) ∧
    (r.phase = 2 → ∃ u : State, exec (.proxyResetPoll p v 0) s = .next (s.slotWatch fun _ => u.proxySend p v r.fid false).settle ∧
      (u.vdp p v).resets = [{ r with phase := 1, lastPs := u.now }] ∧ u.now = max s.now (r.lastPs + 1000000000) ∧ u.regs = s.regs) ∧
    (∃ u : State, exec (.proxyResetTimeout p v 0) s = .next u.settle ∧ (u.vdp p v).resets = [] ∧ u.fb (R.PRT_VDL_GONE p v) = true ∧
      r.startPs + 1000 * 1000000000 ≤ u.now ∧ u.tmem = s.tmem)) ∧
  (∀ (s : State) (p : Port) (rid : BitVec 16) (q : Nat), s.live 21 = true → s.bindings = [] → s.tenant0Port = some q →
    s.fb (R.PRT_LSTS_UP q) = true → ∃ (u : State) (ws : List Word), exec (.errMessage p rid .cor) s = .next u.settle ∧ .packet q ws [] ∈ u.out ∧ u.regs = s.regs ∧
      u.ldg = s.ldg ∧ u.tmem = s.tmem) ∧
  (∀ (s : State) (p : Port), s.fd (R.PRT_CTX_ROLE p) = 2 → s.fb (R.PRT_LSTS_UP p) = true → ∃ ws : List Word,
    exec (.ptmRequest p) s = .next (s.emit (.packet p ws (bytesBE 8 s.time.toNat)))) ∧
  (∀ (s : State) (p : Port) (x : Word) (q : Nat), s.bindings = [] → s.tenant0Port = some q → s.fb (R.PRT_LSTS_UP q) = true → ∃ ws : List Word,
    exec (.ltrMessage p x) s = .next (s.emit (.packet q ws (bytesBE 4 x.toNat)))) ∧
  (∀ (s : State) (p : Port) (t : Tlp), t.ok = true → t.tkind = 0x07 → s.creditsTlp p t = true → (s.port p).ideKey = none →
    (s.port p).rxCut = none → s.mctpMine (s.tlpPkt p t) = true →
    ∃ u : State, exec (.mctpMessage p t) s = .next u.settle ∧ u.pkts = s.pkts ∧ u.ldg = s.ldg ∧ u.tmem = s.tmem ∧ u.cmem = s.cmem)

/-- A write of PRT[p]_CTX on an up port is discarded with WERR, otherwise it writes the register's bits. DL_Up at a port that trains and whose reservations are placed sets UP and what the partners settled, of what the port offers. DL_Down at a downstream port counts and clears the link state, and remembers a removal; at an upstream port it resets the virtual switch, as a hot reset does. What is sticky in the upstream bridge stays. PERST_N asserted resets the switch of each port it serves and holds it in Detect while it stays asserted. PRT[p]_RST resets, disables, contains and releases a port's real link. What follows at once (settle) is done after each. -/
def Obligations.PortRows : Prop :=
  (∀ (s : State) (w : Writer) (p : Port) (v : Word), s.reaches w (R.PRT_CTX p) →
    (s.portUp p = true → ∃ u : State, exec (.prtCtxWrite w p v) s = .next u.settle ∧ u.fb (R.PRT_LSTS_WERR p) = true ∧
      (∀ a, a ≠ R.PRT_LSTS p → u.regs.getD regReset a = s.regs.getD regReset a) ∧ u.tmem = s.tmem) ∧
    (s.portUp p = false → ∃ u : State, exec (.prtCtxWrite w p v) s = .next u.settle ∧
      u.rg (R.PRT_CTX p) = v &&& 0xFFFFFFFF1FFF7F07#64 ∧ u.rg (R.SCH_PRT_LEN p) = u.lenDefault p ∧
      (wField 0 2 v = 0 → (u.port p).placed = none ∧ (u.port p).placedLdg = none) ∧ u.tmem = s.tmem)) ∧
  (∀ (s : State) (p : Port) (x : DlUp), s.live 21 = true → (s.train p).trains p = true → (s.train p).isPlaced p = true →
    (s.train p).canSettle p x = true →
    ∃ u : State, exec (.pcieDlUp p x) s = .next u.settle ∧ u.fb (R.PRT_LSTS_UP p) = true ∧ u.fd (R.PRT_LSTS_RATE p) = x.rate ∧
      u.fd (R.PRT_LSTS_WIDTH p) = x.width ∧ u.fb (R.PRT_LSTS_FLIT p) = x.flit ∧ u.fb (R.PRT_LSTS_CXL p) = x.cxl ∧
      u.fb (R.PRT_LSTS_REV p) = x.rev ∧ u.fd (R.PRT_LSTS_LTSSM p) = 3 ∧ (u.port p).tagBits = x.tagBits ∧ (u.port p).mps = x.mps ∧
      (u.port p).credits = ⟨x.pHdr, x.pData, x.npHdr, x.npData, x.cplHdr, x.cplData⟩ ∧ (u.port p).awaitAck = [] ∧
      s.alm.seqNext < u.alm.seqNext ∧ u.tmem = s.tmem) ∧
  (∀ (s : State) (p : Port) (lost : Bool), s.live 21 = true → s.fb (R.PRT_LSTS_UP p) = true →
    (s.fd (R.PRT_CTX_ROLE p) = 2 → s.bindings = [] → ∃ u : State, exec (.pcieDlDown p lost) s = .next u.settle ∧ u.fb (R.PRT_LSTS_UP p) = false ∧
      u.fd (R.PRT_LSTS_RATE p) = 0 ∧ u.fd (R.PRT_LSTS_WIDTH p) = 0 ∧ u.fd (R.PRT_LSTS_LTSSM p) = 0 ∧
      u.fd (R.PRT_LSTS_DOWNS p) = (s.fd (R.PRT_LSTS_DOWNS p) + 1) % 65536 ∧ (u.port p).awaitAck = [] ∧
      (lost = true → (u.port p).removed = true)) ∧
    (s.fd (R.PRT_CTX_ROLE p) = 1 →
      (∃ u : State, exec (.pcieDlDown p lost) s = .next u.settle ∧ u.fb (R.PRT_LSTS_UP p) = false ∧
        u.up p = { UpBridge.reset with cfg := stickyCfg (s.up p).cfg }) ∧
      (∃ u : State, exec (.pcieHotResetReceived p) s = .next u.settle ∧ u.fb (R.PRT_LSTS_UP p) = false ∧
        u.up p = { UpBridge.reset with cfg := stickyCfg (s.up p).cfg }))) ∧
  (∀ (s : State) (i : Fin 32) (p : Port), s.live 21 = true → s.fd (R.PRT_CTX_ROLE p) = 1 → (s.lctlOf p).getLsbD 9 = true →
    wField 10 5 (s.lctlOf p) = i →
    (∃ u : State, exec (.perstAssert i) s = .next u.settle ∧ u.perstIn.getLsbD i = true ∧ u.fb (R.PRT_LSTS_UP p) = false ∧
      u.up p = { UpBridge.reset with cfg := stickyCfg (s.up p).cfg }) ∧
    (∃ u : State, exec (.perstDeassert i) s = .next u.settle ∧ u.perstIn.getLsbD i = false ∧ u.tmem = s.tmem)) ∧
  (∀ (s : State) (w : Writer) (p : Port), s.reaches w (R.PRT_RST p) →
    (s.fd (R.PRT_CTX_ROLE p) = 2 → ∃ u : State, exec (.prtRstHotrst w p) s = .next u.settle ∧ u.fb (R.PRT_LSTS_UP p) = false ∧
      .mgmt "hot reset" p 0 ∈ u.out) ∧
    (s.fb (R.PRT_RST_LDIS p) = false → ∃ u : State, exec (.prtRstLdis w p true) s = .next u.settle ∧ u.fb (R.PRT_RST_LDIS p) = true ∧
      u.fb (R.PRT_LSTS_UP p) = false ∧ u.fd (R.PRT_LSTS_LTSSM p) = 6) ∧
    (s.fb (R.PRT_RST_LDIS p) = true → ∃ u : State, exec (.prtRstLdis w p false) s = .next u.settle ∧ u.fb (R.PRT_RST_LDIS p) = false ∧
      u.fd (R.PRT_LSTS_LTSSM p) = 0 ∧ u.tmem = s.tmem) ∧
    (s.fd (R.PRT_CTX_ROLE p) = 2 → ∃ u : State, exec (.prtRstDpctrig w p) s = .next u.settle ∧ u.fb (R.PRT_LSTS_CONT p) = true ∧
      u.fb (R.PRT_LSTS_UP p) = false) ∧
    (s.fd (R.PRT_CTX_ROLE p) ≠ 2 → exec (.prtRstHotrst w p) s = .next s.settle ∧ exec (.prtRstDpctrig w p) s = .next s.settle) ∧
    (s.fb (R.PRT_LSTS_CONT p) = true → ∃ u : State, exec (.prtRstDpcrel w p) s = .next u.settle ∧ u.fb (R.PRT_LSTS_CONT p) = false ∧
      u.tmem = s.tmem))

/-- A memory write received at an upstream port whose partner has link credits becomes a packet with the port's tenant and FID, its payload and a fresh identity; one nullified as it ends begins such a packet, which is not whole; a partner without credits sends none. A completion that waits for credits alone enters the ingress queue. A class C packet in its arrival reservation goes to the class C queue of its native port when cells are to be had, and waits otherwise. What follows at once (settle) is done after reception and admission. That a partner without credits sends nothing, and how much of a nullified TLP was received, are the model's choices (log entries 97 and 98). -/
def Obligations.ArrivalRows : Prop :=
  (∀ (s : State) (p : Port) (t : Tlp) (nullified : Bool), t.ok = true →
    (s.creditsTlp p t = false → exec (.tlpReceive p t nullified) s = .next s) ∧
    (s.creditsTlp p t = true → t.cxl = none → t.tkind = 0x02 → s.fd (R.PRT_CTX_ROLE p) = 1 → (s.port p).rxCut = none → (s.port p).ideKey = none →
      ∃ (u : State) (k : Pkt), exec (.tlpReceive p t nullified) s = .next u.settle ∧ k ∈ u.pkts ∧ k.id = s.pktNext ∧
      k.tenant = s.fd (R.PRT_CTX_TENANT p) ∧ k.sfid = s.fd (R.PRT_CTX_PFID p) ∧ k.origin = .port p ∧ k.inPort = p.val ∧ k.data = t.data ∧
      k.ord = 0 ∧ k.len = 32 + t.ext.length + t.data.length ∧ k.complete = !nullified ∧ (nullified = true → k.rcvd < k.len) ∧
      (u.port p).rxCut = (if nullified then some k.id else none) ∧ u.pktNext = s.pktNext + 1 ∧ u.regs = s.regs)) ∧
  (∀ (s : State) (p : Port) (k : Pkt) (o : Ord), s.pkts = [k] → k.inPort = p.val → k.loc = .credit k.octet → kindCpl k.tkind = true →
    k.ord = (match o with
      | .p => 0
      | .np => 1
      | .cpl => 2
      | .ctl => 3) →
    exec (.headerQueueAdmit p o) s = .next (s.movePkt { k with loc := .ingress k.octet, sentPs := s.now })) ∧
  (∀ (s : State) (p : Port) (k : Pkt) (q : Nat), s.pkts = [k] → k.inPort = p.val → k.loc = .arrival q → k.cls = 15 → k.entry = none →
    s.qOpen q = true → s.nativeRole (s.qPort q) = true →
    (∀ (t : State) (c : Pool), s.drawC p k.id k.cells = some (t, c) → exec (.packetAdmissionRetry p) s =
      .next (t.movePkt { k with loc := .classC (s.qPort q), qctx := q, pool := c }).settle) ∧
    (s.drawC p k.id k.cells = none → exec (.packetAdmissionRetry p) s = .next (s.setPkt { k with loc := .arrival q, qctx := q }).settle))

/-- A header whose program executes EMIT.FWD to a configured queue context leaves with the header window the program left and is forwarded there. A header of a fenced tenant is dropped with reason 0x07. A completion on a context that is not enabled is discarded and no entry changes. A verdict on an empty slot sets BADV; a FWD, DROP or SYNTH verdict frees the slot and has its effect on the header as it stands. The containment that an ACS violation triggers (acsWatch) and what follows at once (settle) are done after each. -/
def Obligations.PipelineRows : Prop :=
  (∀ (s : State) (n : Octet) (k0 k : Pkt), s.live (domainOf (R.HPL_PSTS n)) = true → (s.at (.ingress n)).head? = some k0 → k0.octet = n.val →
    k0.native = false → k = s.stamp k0 (s.sample n).2 → s.fb R.TRC_CFG_EN = false → s.fb (R.MIR_PSRC_IEN k0.inPort) = false →
    (∀ (x : Run) (a b : Word), s.entryRefusal n k.ctxNo k = none → s.fenced k.tenant = false →
      x = s.runProgram n (s.fd (R.HPL_CTXSEL_SLOT n k.ctxNo)) k.progVer k.tver k.rverOf k.toRun → x.emit = some (0, 0, a, b) →
      x.cincs = [] → x.marks = [] → x.sprays = [] → s.qOpen (wField 0 16 a) = true → a.getLsbD 32 = false → (k.ofRun x).cls ≠ 15 →
      ∃ u : State, exec (.headerPipelineRun n) s =
          .next (s.acsWatch fun _ => u.exitFwd { k.ofRun x with trace := none } ⟨0, false, false, false, a, 0⟩).settle ∧
        u.regs = s.regs ∧ u.tmem = s.tmem) ∧
    (∀ x : Run, s.entryRefusal n k.ctxNo k = none → s.fenced k.tenant = true → k0.nativeCtx = false →
      x = s.runProgram n (s.fd (R.HPL_CTXSEL_SLOT n k.ctxNo)) k.progVer k.tver k.rverOf k.toRun →
      x.cincs = [] → x.marks = [] → x.sprays = [] →
      ∃ u : State, exec (.headerPipelineRun n) s = .next (s.acsWatch fun _ => u.exitDrop { k.ofRun x with trace := none } 7).settle ∧
        u.regs = s.regs ∧ u.tmem = s.tmem) ∧
    (s.fb (R.HPL_CTXSEL_EN n k.ctxNo) = false → kindCpl k0.tkind = true → k0.nativeCtx = false →
      ∃ u : State, exec (.headerPipelineRun n) s = .next u.settle ∧ u.pkt? k0.id = none ∧ u.ldg.entries = s.ldg.entries)) ∧
  (∀ (s : State) (w : Writer) (n : Octet) (v : Verdict), s.reaches w (R.HPL_TVERD n) → s.pairedOdd n = false →
    (s.at (.trap n v.slot) = [] →
      exec (.trapVerdictFwd w n v) s = .next (s.setFb (R.HPL_TSTS_BADV n) true).settle ∧
      exec (.trapVerdictDrop w n v) s = .next (s.setFb (R.HPL_TSTS_BADV n) true).settle ∧
      exec (.trapVerdictSynth w n v) s = .next (s.setFb (R.HPL_TSTS_BADV n) true).settle) ∧
    (∀ k : Pkt, s.at (.trap n v.slot) = [k] → k.trace = none → v.mod = 0 → s.fb (R.MIR_PSRC_IEN k.inPort) = false →
      (k.cls ≠ 15 → s.qOpen v.oper.toNat = true → v.polv = false → ∃ u : State, exec (.trapVerdictFwd w n v) s =
        .next (s.acsWatch fun _ => u.exitFwd { k with loc := .ingress n }
          ⟨0, false, false, false, BitVec.ofNat 64 (v.oper.toNat + v.polidx.toNat * 2 ^ 16), v.mses⟩).settle ∧
        u.trapped n v.slot = none ∧ u.tmem = s.tmem) ∧
      (∀ r : Nat, r = v.oper.toNat % 256 → (0 < r ∧ r < 0x14 ∨ 0x40 ≤ r) → ∃ u : State, exec (.trapVerdictDrop w n v) s =
        .next (s.acsWatch fun _ => u.exitDrop { k with loc := .ingress n } r).settle ∧ u.trapped n v.slot = none ∧ u.tmem = s.tmem) ∧
      (kindNp k.tkind = true → k.nativeCtx = false → ∃ u : State, exec (.trapVerdictSynth w n v) s =
        .next (s.acsWatch fun _ => u.synthesise { k with loc := .ingress n } (v.oper.toNat % 8)).settle ∧
        u.trapped n v.slot = none ∧ u.tmem = s.tmem)))

/-- EN is set only when the program copy passes every check, otherwise REJ and RCODE are reported and EN stays 0. A program commit written while BUSY sets LOST, otherwise BUSY; at its end it flips the named contexts and sets DONE, or sets DONE, REJ and RCODE and flips none. HPL_FTBL is written, or the write is discarded with INUSE in every octet; tables 0 to 15 have no such register. HPL_HASHK computes the hash, which HPL_HASHR holds later. -/
def Obligations.ProgramRows : Prop :=
  (∀ (s s1 : State) (w : Writer) (n : Octet) (c : Fin 32) (slot : Fin 16), s.reaches w (R.HPL_CTXSEL n c) → s.pairedOdd n = false →
    s1 = s.setFd (R.HPL_CTXSEL_SLOT n c) slot →
    (s.fb (R.HPL_CTXSEL_EN n c) = false → s1.progCheck n slot (s.fd (R.HPL_CTXSEL_PVER n c)) = none →
      ∃ u : State, exec (.hplCtxEnable w n c slot) s = .next u ∧ u.fb (R.HPL_CTXSEL_EN n c) = true ∧ u.fd (R.HPL_CTXSEL_SLOT n c) = slot ∧
        u.fd (R.HPL_CTXSEL_PVER n c) = s.fd (R.HPL_CTXSEL_PVER n c) ∧
        u.fb (R.HPL_CTXSEL_HALF n c) = s.progHalf n slot (s.fd (R.HPL_CTXSEL_PVER n c)) ∧
        (∀ a, a ≠ R.HPL_CTXSEL n c → u.regs.getD regReset a = s.regs.getD regReset a) ∧ u.tmem = s.tmem) ∧
    (∀ code k i, s.fb (R.HPL_CTXSEL_EN n c) = false → s1.progCheck n slot (s.fd (R.HPL_CTXSEL_PVER n c)) = some (code, k, i) →
      ∃ u : State, exec (.hplCtxEnable w n c slot) s = .next u ∧ u.fb (R.HPL_CTXSEL_EN n c) = false ∧ u.fb (R.HPL_PSTS_REJ n) = true ∧
        u.fd (R.HPL_PSTS_RCODE n) = code ∧ u.fd (R.HPL_PSTS_STAGE n) = k ∧ u.fd (R.HPL_PSTS_BSLOT n) = i ∧ u.fd (R.HPL_PSTS_CTX n) = c) ∧
    (s.fb (R.HPL_CTXSEL_EN n c) = true →
      ∃ u : State, exec (.hplCtxEnable w n c slot) s = .next u ∧ u.fd (R.HPL_CTXSEL_SLOT n c) = s.fd (R.HPL_CTXSEL_SLOT n c) ∧
        u.fb (R.HPL_CTXSEL_EN n c) = true)) ∧
  (∀ (s : State) (w : Writer) (n : Octet) (m : BitVec 32), s.reaches w (R.HPL_PCOMMIT n) → s.pairedOdd n = false →
    (s.fb (R.HPL_PSTS_BUSY n) = true → exec (.hplPcommit w n m) s = .next (s.setFb (R.HPL_PSTS_LOST n) true)) ∧
    (s.fb (R.HPL_PSTS_BUSY n) = false → s.progDrain n = 0 → ∃ u : State, exec (.hplPcommit w n m) s = .next u ∧
      u.fb (R.HPL_PSTS_BUSY n) = true ∧ u.hpl.commitMask.get 0 n = m.toNat ∧ u.tmem = s.tmem ∧ u.pkts = s.pkts)) ∧
  (∀ (s : State) (n : Octet) (m : BitVec 32), s.fb (R.HPL_PSTS_BUSY n) = true → s.hpl.commitMask.get 0 n = m.toNat →
    (s.commitCheck n m.toNat = none → ∃ u : State, exec (.hplPcommitComplete n) s = .next u ∧ u.fb (R.HPL_PSTS_BUSY n) = false ∧
      u.fb (R.HPL_PSTS_DONE n) = true ∧ (∀ c : Fin 32, u.fd (R.HPL_CTXSEL_PVER n c) =
        (if m.getLsbD c then 1 - s.fd (R.HPL_CTXSEL_PVER n c) else s.fd (R.HPL_CTXSEL_PVER n c))) ∧ u.tmem = s.tmem) ∧
    (∀ code k i c, s.commitCheck n m.toNat = some (code, k, i, c) → ∃ u : State, exec (.hplPcommitComplete n) s = .next u ∧
      u.fb (R.HPL_PSTS_BUSY n) = false ∧ u.fb (R.HPL_PSTS_DONE n) = true ∧ u.fb (R.HPL_PSTS_REJ n) = true ∧
      u.fd (R.HPL_PSTS_RCODE n) = code ∧ (∀ c : Fin 32, u.fd (R.HPL_CTXSEL_PVER n c) = s.fd (R.HPL_CTXSEL_PVER n c)) ∧ u.tmem = s.tmem)) ∧
  (∀ (s : State) (w : Writer) (t : Fin 64) (v : Word), s.reaches w (R.HPL_FTBL t) →
    (t.val < 16 → exec (.hplFtblWrite w t v) s = .next (s.badAccess (R.HPL_FTBL t))) ∧
    (16 ≤ t.val → s.tableNamed t = true → ∃ u : State, exec (.hplFtblWrite w t v) s = .next u ∧ u.rg (R.HPL_FTBL t) = s.rg (R.HPL_FTBL t) ∧
      (∀ n : Octet, u.fb (R.HPL_PSTS_INUSE n) = true)) ∧
    (16 ≤ t.val → s.tableNamed t = false →
      (wField 0 3 v = 1 ∨ wField 0 3 v = 2 → wField 16 19 v * 64 + 2 * (2 ^ wField 12 4 v * (if wField 0 3 v = 1 then 128 else 64)) ≤ 0x1800000) →
      ∃ u : State, exec (.hplFtblWrite w t v) s = .next u ∧ u.fd (R.HPL_FTBL_KIND t) = wField 0 3 v ∧
        u.fd (R.HPL_FTBL_KLENM1 t) = wField 4 4 v ∧ u.fd (R.HPL_FTBL_LOGSZ t) = wField 12 4 v ∧ u.fd (R.HPL_FTBL_BASE t) = wField 16 19 v ∧
        u.tmem = s.tmem)) ∧
  (∀ (s : State) (w : Writer) (v : Word), s.reaches w R.HPL_HASHK → exec (.hplHashk w v) s =
    .next { s with hpl := { s.hpl with hashPending := some (flowHash (s.rg R.HPL_HSEED) v (s.rg R.HPL_HASHK2)) } }) ∧
  (∀ (s : State) (r : Word), s.hpl.hashPending = some r → exec .hplHashrReady s =
    .next (({ s with hpl := { s.hpl with hashPending := none } } : State).setRg R.HPL_HASHR r))

/-- A port whose link is down selects nothing. The one eligible packet queued at a PCIe/CXL port is handed over whole, is kept until the partner acknowledges it, and its queue's tag advances by the charged length over its weight. A cut-through that underruns is ended, not before UNDR has run out: a packet in transit is evicted, one of this node's edge is replayed. What follows at once (settle) is done after each. -/
def Obligations.SelectionRows : Prop :=
  (∀ (s : State) (p : Port), s.portUp p = false → (∀ k ∈ s.pkts, k.complete = true) → exec (.schedulerSelect p) s = .next s.settle) ∧
  (∀ (s : State) (p : Port) (k : Pkt), s.pkts = [k] → k.loc = .queue k.qctx → k.qctx < 65536 → s.qPort k.qctx = p.val → s.nativeRole p = false →
    s.headEligible p k = true → s.aged k = false → kindNp k.tkind = false → s.shaperOf k.qctx = none → k.data.length ≤ s.mpsOf p →
    (s.port p).ideKey = none →
    ∃ (u : State) (ws : List Word), exec (.schedulerSelect p) s = .next u.settle ∧ (u.port p).awaitAck = (s.port p).awaitAck ++ [k.id] ∧
      .packet p ws k.data ∈ u.out ∧ u.sch.tag.get 0 (queueKey k.qctx) = ((s.refresh p [k.qctx]).sch.tag.get 0 (queueKey k.qctx) +
        s.charged p k.len * 65536 / max (s.fd (R.SCH_Q_CFG_WEIGHT k.qctx)) 1) % 2 ^ 48 ∧ u.tmem = s.tmem ∧ u.cmem = s.cmem) ∧
  (∀ (s : State) (p : Port) (id : Nat) (k : Pkt), (s.link (octetOf p)).txPkt = some id → s.pkt? id = some k → k.complete = false →
    (k.native = true → ∃ u : State, exec (.cutThroughUnderrun p) s = .next u.settle ∧ u.pkt? id = none ∧ (u.link (octetOf p)).txPkt = none ∧
      k.sentPs + s.fd R.BUF_CFG_UNDR * 10000 ≤ u.now ∧ u.tmem = s.tmem ∧ u.cmem = s.cmem) ∧
    (k.native = false → ∃ (u : State) (k1 : Pkt), exec (.cutThroughUnderrun p) s = .next (u.replayPkt k1 true).settle ∧ u.pkt? id = some k1 ∧
      k1.data = k.data ∧ (u.link (octetOf p)).txPkt = none ∧ k.sentPs + s.fd R.BUF_CFG_UNDR * 10000 ≤ u.now ∧ u.tmem = s.tmem ∧
      u.cmem = s.cmem))

/-- A write of SCH_Q[q]_CFG that moves an enabled queue is discarded with INUSE; EN is refused for queue 0 and beyond the tenant's quota, with QREJ and QREJQ; otherwise the register's bits are written. SCH_PRT[p]_LEN is written or refused with LENREJ. A calendar is enabled when it fits, and refused with CALREJ otherwise; at a period's start the registers come into force. A shaper's write is held until the tick, where tokens grow by RATE up to BURST; a policer's buckets likewise. -/
def Obligations.SchedulerRegisterRows : Prop :=
  (∀ (s : State) (w : Writer) (q : BitVec 16) (v : Word) (n : Nat), n = q.toNat → s.reaches w (R.SCH_Q_CFG n) → wField 8 4 v < 8 →
    (s.fb (R.SCH_Q_CFG_EN n) = true → wField 1 7 v ≠ s.qPort n → exec (.schQCfgWrite w q v) s = .next (s.setFb R.SCH_STS_INUSE true)) ∧
    (s.fb (R.SCH_Q_CFG_EN n) = false → s.at (.queue n) = [] → v.getLsbD 0 = true →
      (n ≠ 0 → s.qctxUsed (wField 12 13 v) < s.quota (wField 12 13 v) R.TBL_PG_CAP1_QCTX R.TNT_QLDG_QCTX →
        exec (.schQCfgWrite w q v) s = .next (s.setRg (R.SCH_Q_CFG n) (v &&& 0x0000FFFF01FFFFFF#64))) ∧
      (n = 0 ∨ s.quota (wField 12 13 v) R.TBL_PG_CAP1_QCTX R.TNT_QLDG_QCTX ≤ s.qctxUsed (wField 12 13 v) →
        ∃ u : State, exec (.schQCfgWrite w q v) s = .next u ∧ u.fb (R.SCH_Q_CFG_EN n) = false ∧ u.fb R.SCH_STS_QREJ = true ∧
          u.fd R.SCH_STS_QREJQ = n ∧ u.fd (R.SCH_Q_CFG_PORT n) = wField 1 7 v ∧ u.fd (R.SCH_Q_CFG_WEIGHT n) = wField 32 16 v))) ∧
  (∀ (s : State) (w : Writer) (p : Port) (v : Word), s.reaches w (R.SCH_PRT_LEN p) →
    (v.getLsbD 0 = true ∧ (wField 32 8 v = 0 ∨ wField 40 10 v = 0) ∨ v.getLsbD 0 = false ∧ wField 16 16 v = 0 →
      exec (.schLenWrite w p v) s = .next ((s.setFb R.SCH_STS_LENREJ true).setFd R.SCH_STS_LENPORT p)) ∧
    (v.getLsbD 0 = true ∧ wField 32 8 v ≠ 0 ∧ wField 40 10 v ≠ 0 ∨ v.getLsbD 0 = false ∧ wField 16 16 v ≠ 0 →
      exec (.schLenWrite w p v) s = .next (s.setRg (R.SCH_PRT_LEN p) (v &&& 0x0003FFFFFFFFFF01#64)))) ∧
  (∀ (s : State) (w : Writer) (p : Port) (v : Word), s.reaches w (R.SCH_PRT_CAL p) → s.fb (R.SCH_PRT_CAL_EN p) = false → v.getLsbD 0 = true →
    (s.calFits p v = true → ∃ u : State, exec (.schCalEnable w p v) s = .next u ∧ u.rg (R.SCH_PRT_CAL p) = v &&& 0xFFFFFFFF000FFF7F#64 ∧
      u.calWord p = v &&& 0xFFFFFFFF000FFF7F#64) ∧
    (s.calFits p v = false → ∃ u : State, exec (.schCalEnable w p v) s = .next u ∧ u.fb (R.SCH_PRT_CAL_EN p) = false ∧
      u.fb R.SCH_STS_CALREJ = true ∧ u.fd R.SCH_STS_CALPORT = p ∧ u.calWord p = s.calWord p)) ∧
  (∀ (s : State) (p : Port) (g : Nat), wField 0 1 (s.calWord p) = 1 → g = s.fd (R.SCH_PRT_CAL_GROUP p) →
    ∃ u : State, exec (.calendarPeriodStart p) s = .next u ∧ u.calWord p = s.rg (R.SCH_PRT_CAL p) ∧ s.now ≤ u.now ∧
      u.slotWord p 255 = BitVec.ofNat 64 (s.fd (R.TBL_PG_CFG_SLOTS g)) ∧
      (∀ j, j < s.fd (R.TBL_PG_CFG_SLOTS g) → j < 255 → u.slotWord p j = s.rg (R.SCH_SLOT g j) &&& 0x9FFF#64) ∧ u.regs = s.regs) ∧
  (∀ (s : State) (w : Writer) (i : Fin 16384) (v : Word), s.reaches w (R.SHP_CFG i) → ∃ u : State, exec (.shpCfgWrite w i v) s = .next u ∧
    u.rg (R.SHP_CFG i) = v &&& 0xFFFFFFFF01FFFFFF#64 ∧ u.sch.shpPend.get none i = some (v &&& 0xFFFFFFFF01FFFFFF#64) ∧
    u.sch.shpCfg = s.sch.shpCfg ∧ u.sch.tokens = s.sch.tokens) ∧
  (∀ (s : State) (w : Writer) (i : Fin 16384) (v : Word), s.reaches w (R.POL_RATE i) →
    exec (.polCfgWrite w i false v) s = .next (s.setRg (R.POL_RATE i) (v &&& 0x00FFFFFF01FFFFFF#64)) ∧
    exec (.polCfgWrite w i true v) s = .next (s.setRg (R.POL_BURST i) v)) ∧
  (∀ s : State, ∃ u : State, exec .refillTick s = .next u ∧ s.now ≤ u.now ∧ u.tmem = s.tmem ∧ u.pkts = s.pkts ∧ u.regs = s.regs ∧
    (∀ (i : Fin 16384) (c : Word), s.sch.shpPend.get none i = none → s.sch.shpCfg.get 0 i = c → c.getLsbD 24 = true → wField 32 32 c ≠ 0 →
      u.sch.tokens.get 0 i = min (s.sch.tokens.get 0 i + (wField 0 24 c : Nat)) ((wField 32 32 c * 256 : Nat) : Int)) ∧
    (∀ (i : Fin 16384) (c : Word), s.sch.shpPend.get none i = some c → c.getLsbD 24 = true → wField 24 1 (s.sch.shpCfg.get 0 i) = 0 →
      wField 32 32 c ≠ 0 → u.sch.tokens.get 0 i = ((wField 32 32 c * 256 : Nat) : Int) ∧ u.sch.shpCfg.get 0 i = c ∧
        u.sch.shpPend.get none i = none) ∧
    (∀ (i : Fin 16384) (c b : Word), s.rg (R.POL_RATE i) = c → s.rg (R.POL_BURST i) = b → c.getLsbD 24 = true → wField 24 1 (s.polRate i) = 1 →
      u.sch.ctok.get 0 i = min (s.sch.ctok.get 0 i + wField 0 24 c) (wField 0 32 b * 256) ∧
      u.sch.ptok.get 0 i = min (s.sch.ptok.get 0 i + wField 32 24 c) (wField 32 32 b * 256)))

/-- Without a waiting record the Gleaner does nothing. A record goes to the analysis SRAM at PROD while there is room, and is counted in GLN_LOST otherwise; after a loss a loss record is written first. A write of GLN_CFG keeps HOST and LOGREC while EN is 1, and EN written 1 zeroes PROD and CONS. -/
def Obligations.GleanerRows : Prop :=
  (∀ s : State, s.gln.pendingRecs = [] → exec .gleanerRecordWrite s = .next s) ∧
  (∀ (s : State) (r : List Byte) (rest : List (List Byte)), s.gln.pendingRecs = r :: rest → s.live 18 = true → s.captureBarred r = none →
    (s.glnRoom = true → s.fb R.GLN_CFG_HOST = false → s.gln.lostRun = 0 → ∃ u : State, exec .gleanerRecordWrite s = .next u ∧
      u.gln.pendingRecs = rest ∧ u.gln.sram.get [] (s.fd R.GLN_PROD_PROD % s.glnSize) = r ∧
      u.fd R.GLN_PROD_PROD = (s.fd R.GLN_PROD_PROD + 1) % 2 ^ 32 ∧ u.tmem = s.tmem ∧ u.cmem = s.cmem ∧ u.pkts = s.pkts) ∧
    (s.glnRoom = true → s.fb R.GLN_CFG_HOST = false → 0 < s.gln.lostRun → ∃ u : State, exec .gleanerRecordWrite s = .next u ∧
      u.gln.pendingRecs = r :: rest ∧ u.gln.lostRun = 0 ∧
      u.gln.sram.get [] (s.fd R.GLN_PROD_PROD % s.glnSize) = bytesLE 8 s.time.toNat ++ [0x0F] ++ List.replicate 7 0 ++
        bytesLE 4 s.gln.lostRun ++ List.replicate 44 0 ∧ u.fd R.GLN_PROD_PROD = (s.fd R.GLN_PROD_PROD + 1) % 2 ^ 32) ∧
    (s.glnRoom = false → ∃ u : State, exec .gleanerRecordWrite s = .next u ∧ u.gln.pendingRecs = rest ∧ u.gln.lostRun = s.gln.lostRun + 1 ∧
      u.fd R.GLN_LOST_LOST = (s.fd R.GLN_LOST_LOST + 1) % 2 ^ 32 ∧ u.gln.sram = s.gln.sram)) ∧
  (∀ (s : State) (w : Writer) (v : Word), s.reaches w R.GLN_CFG → ∃ u : State, exec (.glnCfgWrite w v) s = .next u ∧
    u.fb R.GLN_CFG_EN = v.getLsbD 0 ∧ u.fb R.GLN_CFG_STOPFULL = v.getLsbD 2 ∧ u.fd R.GLN_CFG_APR = wField 16 4 v ∧
    u.fd R.GLN_CFG_LOGREC = (if s.fb R.GLN_CFG_EN then s.fd R.GLN_CFG_LOGREC else wField 8 5 v) ∧
    u.fb R.GLN_CFG_HOST = (if s.fb R.GLN_CFG_EN then s.fb R.GLN_CFG_HOST else v.getLsbD 1) ∧
    (v.getLsbD 0 = true → u.fd R.GLN_PROD_PROD = 0 ∧ u.fd R.GLN_CONS_CONS = 0) ∧ u.gln = s.gln)

/-- TRAIN set writes its bit, and an octet that may train then enters DETECT; TRAIN cleared leaves it in DISABLED. A met exit condition passes DETECT, ALIGN, SPEED, CONFIG and READY on to the state R379 names, CONFIG back to DETECT with SRMIS where the lane-S roles differ; an expired limit takes ALIGN, SPEED and CONFIG to DETECT and READY to ALIGN. Lost symbol lock takes ACTIVE to RECOVER and is counted; a relock within LDTIME takes it back with the link's state kept; LDTIME passed takes it to ALIGN and declares its link down with cause 1. The states are those of the octet m whose link the octet belongs to (headOctet: the even one of a pair that offers x16, log entry 110). The commands that settle nothing leave memory, packets, ledger and cores as they were. -/
def Obligations.TrainingRows : Prop :=
  (∀ (s : State) (w : Writer) (n : Octet), s.reaches w (R.PHY_CTL n) →
    (∃ u : State, exec (.phyTrainSet w n) s = .next u.settle ∧ u.fb (R.PHY_CTL_TRAIN n) = true ∧ u.tmem = s.tmem ∧ u.pkts = s.pkts) ∧
    (∃ u : State, exec (.phyTrainClear w n) s = .next u.settle ∧
      ((s.fb (R.PHY_CTL_TRAIN n) = true ∧ s.headOctet n = n.val ∨ s.phyState n = 0) → u.phyState n = 0) ∧
      (s.pkts = [] → u.fb (R.PHY_CTL_TRAIN n) = false))) ∧
  (∀ (s : State) (n : Octet), s.phyState n = 0 → 2 ≤ s.fd (R.PHY_CTL_MODE n) → s.fb (R.PHY_CTL_TRAIN n) = true →
    ((n.val % 2 = 1) → s.offersX16 (n - 1) = false) → (s.place (linkPort n)).isPlaced (linkPort n) = true →
    (s.startTraining n).phyState n = 1) ∧
  (∀ (s : State) (n : Octet) (m : Nat) (o : TrainObs), m = s.headOctet n → ∃ t : State, exec (.phyTrainAdvance n o) s = .next t ∧
    (s.phyState m = 1 → t.phyState m = 2) ∧ (s.phyState m = 2 → t.phyState m = if s.compat m then 3 else 4) ∧
    (s.phyState m = 3 → t.phyState m = 4) ∧
    (s.phyState m = 4 → o.srole.val = s.offeredRole m → t.phyState m = 5 ∧ t.fd (R.PHY_STS_SROLE m) = o.srole) ∧
    (s.phyState m = 4 → o.srole.val ≠ s.offeredRole m → t.phyState m = 1 ∧ t.fb (R.PHY_STS_SRMIS m) = true) ∧
    (s.phyState m = 5 → t.phyState m = 6 ∧ t.fb (R.PHY_STS_LOCK m) = true) ∧ t.tmem = s.tmem ∧ t.pkts = s.pkts ∧ t.ldg = s.ldg ∧ t.cores = s.cores) ∧
  (∀ (s : State) (n : Octet) (m : Nat), m = s.headOctet n → ∃ t : State, exec (.phyTrainTimeout n) s = .next t ∧
    (s.phyState m = 2 ∨ s.phyState m = 3 ∨ s.phyState m = 4 → t.phyState m = 1) ∧ (s.phyState m = 5 → t.phyState m = 2) ∧
    (s.phyState m = 4 → (s.phy m).sincePs + 500000000 ≤ t.now) ∧
    t.tmem = s.tmem ∧ t.pkts = s.pkts ∧ t.ldg = s.ldg ∧ t.cores = s.cores ∧ t.links = s.links) ∧
  (∀ (s : State) (n : Octet) (m : Nat), m = s.headOctet n → ∃ t : State, exec (.symbolLockLoss n) s = .next t ∧
    (s.phyState n = 6 → t.phyState m = 7 ∧ t.fb (R.PHY_STS_LOCK m) = false ∧
      t.fd (R.PHY_STS_LOCKLOSS n) = (s.fd (R.PHY_STS_LOCKLOSS n) + 1) % 65536) ∧ (s.phyState n ≠ 6 → t = s) ∧
    t.tmem = s.tmem ∧ t.pkts = s.pkts ∧ t.ldg = s.ldg ∧ t.cores = s.cores ∧ t.links = s.links) ∧
  (∀ (s : State) (n : Octet) (m : Nat), m = s.headOctet n → ∃ t : State, exec (.phyRecoverRelock n) s = .next t ∧
    (s.phyState m = 7 → s.now ≤ (s.phy m).sincePs + s.ldtimePs m → t.phyState m = 6 ∧ t.fb (R.PHY_STS_LOCK m) = true) ∧
    t.tmem = s.tmem ∧ t.pkts = s.pkts ∧ t.ldg = s.ldg ∧ t.cores = s.cores ∧ t.links = s.links) ∧
  (∀ (s : State) (n : Octet) (m : Nat), m = s.headOctet n → s.phyState m = 7 → ∃ u : State, exec (.linkDownLdtime n) s = .next u.settle ∧
    u.phyState m = 2 ∧
    (s.linkOctet m = true → s.pkts = [] → u.fb (R.LNK_STS_UP m) = false ∧ u.fd (R.LNK_STS_DCAUSE m) = 1 ∧ u.link m = Link.reset ∧
      (s.phy m).sincePs + s.ldtimePs m ≤ u.now))

/-- HALF raised in ACTIVE announces half width; HALF cleared begins re-adaptation, after which FULL is announced; the announced group changes WIDTH in its direction, and an order of the partner is followed by the receiver. GO starts a substitution in an ACTIVE octet of full width with no lane S in use, and otherwise sets STATE 4; DUP is answered, convergence sends SWITCHED, both sides switched complete the substitution, 1.5 ms or an ABANDON end it with STATE 4. INJGO clears the lane's error count and injects; a checker that is set synchronises. Memory, packets, ledger, cores and links stay as they were. -/
def Obligations.LaneRows : Prop :=
  (∀ (s : State) (w : Writer) (n : Octet), s.reaches w (R.PHY_CTL n) → s.phyState n = 6 → s.headOctet n = n.val → s.compat n = false →
    s.fb (R.PHY_CTL_TRAIN n) = true →
    (s.fb (R.PHY_CTL_HALF n) = false → (s.phy n).txHalf = false → (s.phy n).txNext = none → ∃ u : State,
      exec (.phyHalfSet w n) s = .next u.settle ∧ u.fb (R.PHY_CTL_HALF n) = true ∧ (u.phy n).txNext = some true ∧
      .order n "HALF" (s.groupAhead n) ∈ u.out ∧ u.tmem = s.tmem ∧ u.pkts = s.pkts ∧ u.ldg = s.ldg ∧ u.cores = s.cores) ∧
    (s.fb (R.PHY_CTL_HALF n) = true → (s.phy n).txHalf = true → s.sagStage < 4 → ∃ u : State,
      exec (.phyHalfClear w n) s = .next u.settle ∧ u.fb (R.PHY_CTL_HALF n) = false ∧ (u.phy n).readapting = true ∧ u.tmem = s.tmem ∧
      u.pkts = s.pkts ∧ u.ldg = s.ldg ∧ u.cores = s.cores)) ∧
  (∀ (s : State) (n : Octet), ∃ t : State, exec (.phyFullReadapted n) s = .next t ∧
    ((s.phy n).readapting = true → (s.phy n).txHalf = true → (t.phy n).txNext = some false ∧ (t.phy n).readapting = false ∧
      t.out = s.out ++ [.order n "FULL" (s.groupAhead n)]) ∧
    t.regs = s.regs ∧ t.tmem = s.tmem ∧ t.pkts = s.pkts ∧ t.ldg = s.ldg ∧ t.cores = s.cores ∧ t.links = s.links) ∧
  (∀ (s : State) (n : Octet) (m : Nat) (b : Bool), m = s.headOctet n → s.phyState m = 6 →
    ((s.phy m).txNext = some b → ∃ t : State, exec (.widthChange n true) s = .next t ∧ (t.phy m).txHalf = b ∧ (t.phy m).txNext = none ∧
      t.fd (R.PHY_STS_WIDTH m) = (if (s.phy m).x16 then 3 else 2) - (if b then 1 else 0) ∧
      (∀ a, a ≠ R.PHY_STS m → a ≠ R.PHY_STS (m + 1) → t.rg a = s.rg a) ∧
      t.tmem = s.tmem ∧ t.pkts = s.pkts ∧ t.ldg = s.ldg ∧ t.cores = s.cores ∧ t.links = s.links) ∧
    ((s.phy m).rxNext = some b → ∃ t : State, exec (.widthChange n false) s = .next t ∧ (t.phy m).rxHalf = b ∧ (t.phy m).rxNext = none ∧
      t.regs = s.regs ∧ t.tmem = s.tmem ∧ t.pkts = s.pkts ∧ t.ldg = s.ldg ∧ t.cores = s.cores ∧ t.links = s.links)) ∧
  (∀ (s : State) (n : Octet) (g : Nat), s.headOctet n ≠ n.val →
    exec (.orderHalf n g) s = .next s ∧ exec (.orderFull n g) s = .next s) ∧
  (∀ (s : State) (n : Octet) (g : Nat), s.phyState n = 6 → s.headOctet n = n.val → s.compat n = false →
    (∃ t : State, exec (.orderHalf n g) s = .next t ∧ (t.phy n).rxNext = some true ∧
      (s.fb (R.PHY_SUB_BUSY n) = true → t.fd (R.PHY_SUB_STATE n) = 4 ∧ t.fb (R.PHY_SUB_BUSY n) = false) ∧
      t.tmem = s.tmem ∧ t.pkts = s.pkts ∧ t.ldg = s.ldg ∧ t.cores = s.cores ∧ t.links = s.links) ∧
    (∃ t : State, exec (.orderFull n g) s = .next t ∧ (t.phy n).rxNext = some false ∧ t.regs = s.regs ∧ t.tmem = s.tmem ∧ t.pkts = s.pkts ∧
      t.ldg = s.ldg ∧ t.cores = s.cores ∧ t.links = s.links)) ∧
  (∀ (s : State) (w : Writer) (n : Octet) (k : Fin 16), s.reaches w (R.PHY_SUB n) → s.fb (R.PHY_SUB_BUSY n) = false → ∃ t : State,
    exec (.phySubGo w n k) s = .next t ∧ t.fd (R.PHY_SUB_TARGET n) = k ∧
    (if s.phyState n = 6 ∧ s.compat n = false ∧ (s.phy (s.headOctet n)).txHalf = false ∧ (s.phy (s.headOctet n)).rxHalf = false ∧
        s.fd (R.PHY_STS_SROLE n) = 15 ∧ k.val ≤ 8
     then t.fd (R.PHY_SUB_STATE n) = 1 ∧ t.fb (R.PHY_SUB_BUSY n) = true ∧ t.out = s.out ++ [.order n "DUP" k]
     else t.fd (R.PHY_SUB_STATE n) = 4 ∧ t.fb (R.PHY_SUB_BUSY n) = false ∧ t.out = s.out) ∧
    (∀ a, a ≠ R.PHY_SUB n → t.rg a = s.rg a) ∧ t.tmem = s.tmem ∧ t.pkts = s.pkts ∧ t.ldg = s.ldg ∧ t.cores = s.cores ∧ t.links = s.links) ∧
  (∀ (s : State) (n : Octet) (k : Fin 16), s.phyState n = 6 → s.compat n = false → k.val ≤ 8 → s.fb (R.PHY_SUB_BUSY n) = false →
    s.fd (R.PHY_STS_SROLE n) = 15 → (s.phy (s.headOctet n)).txHalf = false → (s.phy (s.headOctet n)).rxHalf = false →
    ∃ t : State, exec (.orderDup n k) s = .next t ∧
    t.fd (R.PHY_SUB_STATE n) = 2 ∧ t.fb (R.PHY_SUB_BUSY n) = true ∧ t.out = s.out ++ [.order n "DUP" k] ∧ (t.phy n).subLane = k ∧
    (∀ a, a ≠ R.PHY_SUB n → t.rg a = s.rg a) ∧ t.tmem = s.tmem ∧ t.pkts = s.pkts ∧ t.ldg = s.ldg ∧ t.cores = s.cores ∧ t.links = s.links) ∧
  (∀ (s : State) (n : Octet), s.phyState n = 6 → s.fb (R.PHY_SUB_BUSY n) = true → s.fd (R.PHY_SUB_STATE n) ≠ 1 → (s.phy n).subOwnDone = false →
    (∃ t : State, exec (.laneSConverged n) s = .next t ∧ t.out = s.out ++ [.order n "SWITCHED" (s.phy n).subLane] ∧
      ((s.phy n).subPeerDone = false → (t.phy n).subOwnDone = true ∧ t.regs = s.regs) ∧
      ((s.phy n).subPeerDone = true → t.fd (R.PHY_STS_SROLE n) = (s.phy n).subLane % 16 ∧ t.fd (R.PHY_SUB_STATE n) = 3 ∧
        t.fb (R.PHY_SUB_BUSY n) = false) ∧
      t.tmem = s.tmem ∧ t.pkts = s.pkts ∧ t.ldg = s.ldg ∧ t.cores = s.cores ∧ t.links = s.links) ∧
    (∃ t : State, exec (.subConvergeTimeout n) s = .next t ∧ t.out = s.out ++ [.order n "ABANDON" (s.phy n).subLane] ∧
      t.fd (R.PHY_SUB_STATE n) = 4 ∧ t.fb (R.PHY_SUB_BUSY n) = false ∧ (s.phy n).subStartPs + 1500000000 ≤ t.now ∧
      (∀ a, a ≠ R.PHY_SUB n → t.rg a = s.rg a) ∧ t.tmem = s.tmem ∧ t.pkts = s.pkts ∧ t.ldg = s.ldg ∧ t.cores = s.cores ∧ t.links = s.links)) ∧
  (∀ (s : State) (n : Octet) (k : Fin 16), s.phyState n = 6 → s.fb (R.PHY_SUB_BUSY n) = true → (s.phy n).subLane = k →
    (∃ t : State, exec (.orderSwitched n k) s = .next t ∧ ((s.phy n).subOwnDone = false → (t.phy n).subPeerDone = true ∧ t.regs = s.regs) ∧
      ((s.phy n).subOwnDone = true → t.fd (R.PHY_STS_SROLE n) = k ∧ t.fd (R.PHY_SUB_STATE n) = 3 ∧ t.fb (R.PHY_SUB_BUSY n) = false) ∧
      t.out = s.out ∧ t.tmem = s.tmem ∧ t.pkts = s.pkts ∧ t.ldg = s.ldg ∧ t.cores = s.cores ∧ t.links = s.links) ∧
    (∃ t : State, exec (.orderAbandon n k) s = .next t ∧ t.fd (R.PHY_SUB_STATE n) = 4 ∧ t.fb (R.PHY_SUB_BUSY n) = false ∧ t.out = s.out ∧
      (∀ a, a ≠ R.PHY_SUB n → t.rg a = s.rg a) ∧ t.tmem = s.tmem ∧ t.pkts = s.pkts ∧ t.ldg = s.ldg ∧ t.cores = s.cores ∧ t.links = s.links)) ∧
  (∀ (s : State) (w : Writer) (n : Octet) (l : Fin 9), s.reaches w (R.LN_TST n l) → s.fd (R.LN_TST_INJ n l) ≠ 0 → ∃ t : State,
    exec (.phyInjgo w n l) s = .next t ∧ t.fd (R.LN_TST_ERRS n l) = 0 ∧ t.fb (R.LN_TST_LOCKED n l) = false ∧
    t.out = s.out ++ [.mgmt "inject" (16 * n + l) (s.fd (R.LN_TST_INJ n l))] ∧ (∀ a, a ≠ R.LN_TST n l → t.rg a = s.rg a) ∧
    t.tmem = s.tmem ∧ t.pkts = s.pkts ∧ t.ldg = s.ldg ∧ t.cores = s.cores ∧ t.links = s.links) ∧
  (∀ (s : State) (n : Octet) (l : Fin 9), ∃ t : State, exec (.checkerSynchronised n l) s = .next t ∧
    (s.fd (R.LN_TST_CHK n l) ≠ 0 → t.fb (R.LN_TST_LOCKED n l) = true) ∧ (s.fd (R.LN_TST_CHK n l) = 0 → t = s) ∧
    (∀ a, a ≠ R.LN_TST n l → t.rg a = s.rg a) ∧ t.tmem = s.tmem ∧ t.pkts = s.pkts ∧ t.ldg = s.ldg ∧ t.cores = s.cores ∧ t.links = s.links)

/-- An octet that is not ACTIVE takes no frame. On one that is, a good frame's ACK and credit count are used first, and the own PARAM and link-up follow where they now may; a sequenced data frame is taken only on an up link and only with SEQ = EXPECT, consumes a landing cell of its pool and advances EXPECT. HEAD and SOLE start a packet (a bad sheaf header is counted in BADFR), BODY and TAIL continue it, CHAFF ends it. A PARAM that passes its checks gives the partner's parameters, one that fails declares the link down with cause 3; a TSYNC is kept as the link's latest. A frame that fails its CRC-64 is counted in BADFR. -/
def Obligations.FrameRows : Prop :=
  (∀ (s : State) (n : Octet) (h : FrameHdr) (pay : List Byte) (prm : LinkParams) (ts : TsyncBody), s.takesFrames n = false →
    exec (.idleFrame n h) s = .next s.settle ∧ exec (.paramFrame n h prm) s = .next s.settle ∧ exec (.chaffFrame n h) s = .next s.settle ∧
    exec (.tsyncFrame n h ts) s = .next s.settle ∧ exec (.frameCrcFail n) s = .next s ∧
    (frameOk h pay = true → exec (.headFrame n h pay) s = .next s.settle ∧ exec (.bodyFrame n h pay) s = .next s.settle ∧
      (h.len.toNat < 240 → exec (.tailFrame n h pay) s = .next s.settle ∧ exec (.soleFrame n h pay) s = .next s.settle))) ∧
  (∀ (s : State) (n : Octet) (h : FrameHdr) (pay : List Byte), s.takesFrames n = true → frameOk h pay = true → h.len.toNat < 240 →
    ∃ t : State, t = (s.useHdr n h).tryUp n ∧ exec (.idleFrame n h) s = .next ((t.trySendParam n).tryUp n).settle ∧
    (t.fb (R.LNK_STS_UP n) = true → h.seq.toNat = (t.link n).expect → ∃ v : State,
      v = (t.setLink n { t.link n with expect := ((t.link n).expect + 1) % 4096 }).takeCell n h.dvc.val ∧
      exec (.headFrame n h pay) s = .next (((v.rxFirst n pay false).trySendParam n).tryUp n).settle ∧
      exec (.soleFrame n h pay) s = .next (((v.rxFirst n (pay.take (h.len.toNat + 1)) true).trySendParam n).tryUp n).settle ∧
      exec (.bodyFrame n h pay) s = .next (((v.rxNext n pay false).trySendParam n).tryUp n).settle ∧
      exec (.tailFrame n h pay) s = .next (((v.rxNext n (pay.take (h.len.toNat + 1)) true).trySendParam n).tryUp n).settle) ∧
    ((t.fb (R.LNK_STS_UP n) = false ∨ h.seq.toNat ≠ (t.link n).expect) →
      exec (.headFrame n h pay) s = exec (.idleFrame n h) s ∧ exec (.soleFrame n h pay) s = exec (.idleFrame n h) s ∧
      exec (.bodyFrame n h pay) s = exec (.idleFrame n h) s ∧ exec (.tailFrame n h pay) s = exec (.idleFrame n h) s ∧
      exec (.chaffFrame n h) s = exec (.idleFrame n h) s)) ∧
  (∀ (s : State) (n : Octet) (h : FrameHdr) (pay : List Byte), s.takesFrames n = true → frameOk h pay = true → h.len.toNat < 240 →
    s.fb (R.LNK_STS_UP n) = true → (s.link n).paramSent = true → (s.link n).unacked = [] → (s.link n).rxPkt = none →
    (h.cvc.val < 4 ∨ h.cvc.val = 7) → ∃ (l m : Link), l = { s.link n with ccnt := (s.link n).ccnt.set 0 (poolOf h.cvc.val) h.ccnt.toNat } ∧
    m = { l with expect := (l.expect + 1) % 4096, taken := l.taken.set 0 (poolOf h.dvc.val) (l.taken.get 0 (poolOf h.dvc.val) + 1) } ∧
    (∃ u : State, exec (.idleFrame n h) s = .next u.settle ∧ u.link n = l ∧ u.regs = s.regs ∧ u.pkts = s.pkts ∧ u.out = s.out ∧ u.tmem = s.tmem) ∧
    (h.seq.toNat = l.expect →
      (∀ c, c = .bodyFrame n h pay ∨ c = .tailFrame n h pay ∨ c = .chaffFrame n h → ∃ u : State, exec c s = .next u.settle ∧ u.link n = m ∧
        u.regs = s.regs ∧ u.pkts = s.pkts ∧ u.out = s.out ∧ u.tmem = s.tmem) ∧
      (sheafOk pay = false → ∃ u : State, exec (.headFrame n h pay) s = .next u.settle ∧ u.link n = m ∧
        u.fd (R.LNK_CNT_BADFR n) = (s.fd (R.LNK_CNT_BADFR n) + 1) % 2 ^ 32 ∧ u.pkts = s.pkts ∧ u.out = s.out ∧ u.tmem = s.tmem) ∧
      (sheafOk (pay.take (h.len.toNat + 1)) = false → ∃ u : State, exec (.soleFrame n h pay) s = .next u.settle ∧ u.link n = m ∧
        u.fd (R.LNK_CNT_BADFR n) = (s.fd (R.LNK_CNT_BADFR n) + 1) % 2 ^ 32 ∧ u.pkts = s.pkts ∧ u.out = s.out ∧ u.tmem = s.tmem))) ∧
  (∀ (s : State) (n : Octet) (h : FrameHdr) (prm : LinkParams), s.takesFrames n = true → s.fb (R.LNK_STS_UP n) = false →
    (s.link n).unacked = [] → (s.link n).partner = none → (s.link n).expect = 0 → h.seq = 0 → (h.cvc.val < 4 ∨ h.cvc.val = 7) →
    (s.paramOk prm = true → ∃ u v : State, exec (.paramFrame n h prm) s = .next ((v.trySendParam n).tryUp n).settle ∧ v.link n = { u.link n with partner := some prm } ∧
      (u.link n).expect = 1 ∧ v.pkts = s.pkts ∧ v.regs = s.regs) ∧
    (s.paramOk prm = false → ∃ u : State, exec (.paramFrame n h prm) s = .next (((u.declareDown n 3 2).trySendParam n).tryUp n).settle ∧
      u.regs = s.regs ∧ u.pkts = s.pkts)) ∧
  (∀ (s : State) (n : Octet) (h : FrameHdr) (ts : TsyncBody), s.takesFrames n = true →
    exec (.tsyncFrame n h ts) s = .next (((((s.useHdr n h).tryUp n).tsyncIn n ts).trySendParam n).tryUp n).settle ∧
    (s.tsyncIn n ts).link n = { s.link n with
      lastTsync := some ts, lastT4 := s.time.toNat, tsyncSeen := (s.link n).tsyncSeen || (s.link n).t1s.contains ts.t3.toNat }) ∧
  (∀ (s : State) (n : Octet), s.takesFrames n = true → ∃ t : State, exec (.frameCrcFail n) s = .next t ∧
    t.fd (R.LNK_CNT_BADFR n) = (s.fd (R.LNK_CNT_BADFR n) + 1) % 2 ^ 32 ∧ (∀ a, a ≠ R.LNK_CNT n → t.rg a = s.rg a) ∧ t.links = s.links ∧
    t.pkts = s.pkts ∧ t.tmem = s.tmem ∧ t.ldg = s.ldg ∧ t.cores = s.cores)

/-- The replay timer's expiry is counted; short of RPLMAX in a row every unacknowledged frame is sent again, and with RPLMAX the link is declared down with cause 2; with nothing unacknowledged nothing happens. A TSYNC is sent on an ACTIVE octet, and the next is due 10 µs later. -/
def Obligations.LinkTimerRows : Prop :=
  (∀ (s : State) (n : Octet), s.linkOctet n = true → (s.phyState n = 6 ∨ s.phyState n = 7) → (s.link n).unacked ≠ [] →
    (s.fdAt (R.LNK_CTL_RPLMAX n) (s.link n).rtimePs ≤ (s.link n).expiries + 1 → ∃ u : State,
      exec (.replayTimeout n) s = .next (u.declareDown n 2 2).settle ∧
      u.fd (R.LNK_CNT_REPLAYS n) = (s.fd (R.LNK_CNT_REPLAYS n) + 1) % 2 ^ 32 ∧ u.link n = s.link n ∧ u.pkts = s.pkts ∧ u.tmem = s.tmem ∧
      (s.link n).rtimePs + s.fdAt (R.LNK_CTL_RPLTMO n) (s.link n).rtimePs * 10000 ≤ u.now) ∧
    ((s.link n).expiries + 1 < s.fdAt (R.LNK_CTL_RPLMAX n) (s.link n).rtimePs → ∃ u : State, exec (.replayTimeout n) s = .next u.settle ∧
      u.fd (R.LNK_CNT_REPLAYS n) = (s.fd (R.LNK_CNT_REPLAYS n) + 1) % 2 ^ 32 ∧ (u.link n).unacked = (s.link n).unacked ∧
      (u.link n).expiries = (s.link n).expiries + 1 ∧ (u.link n).rtimePs = u.now ∧ (u.link n).nextSeq = (s.link n).nextSeq ∧
      (u.link n).debited = (s.link n).debited ∧ s.out <+: u.out ∧
      ((u.out.drop s.out.length).filter fun o => match o with
        | .frame _ _ _ _ => true
        | _ => false).length = (s.link n).unacked.length ∧ u.pkts = s.pkts ∧ u.tmem = s.tmem ∧
      (s.link n).rtimePs + s.fdAt (R.LNK_CTL_RPLTMO n) (s.link n).rtimePs * 10000 ≤ u.now)) ∧
  (∀ (s : State) (n : Octet), (s.link n).unacked = [] → exec (.replayTimeout n) s = .next s.settle) ∧
  (∀ (s : State) (n : Octet), s.takesFrames n = true → (s.link n).paramSent = true → ∃ t : State, exec (.tsyncSend n) s = .next t ∧
    (s.link n).tsyncDuePs ≤ t.now ∧ (t.link n).tsyncDuePs = t.now + 10000000 ∧ (t.link n).nextSeq = (s.link n).nextSeq ∧
    (t.link n).unacked = (s.link n).unacked ∧ s.out <+: t.out ∧
    ((t.out.drop s.out.length).filter fun o => match o with
      | .frame _ _ _ _ => true
      | _ => false).length = 1 ∧ t.regs = s.regs ∧ t.pkts = s.pkts ∧ t.tmem = s.tmem ∧
    t.ldg = s.ldg ∧ t.cores = s.cores) ∧
  (∀ (s : State) (n : Octet), s.takesFrames n = false → exec (.tsyncSend n) s = .next s)

/-- A message for a FID that is not LOCAL here is not consumed. ACCEPT for an OPEN in progress gives the key a send context: a new one, or the one that already goes to that node, port and class, and CLOSE is then sent on the receive context not used; a refused one leaves the OPEN to be retried. Of the RECEIPTs, a delivery covers the numbers up to SEQ, a done REVOKE or SKIP ends the notice it matches, a done ABORT or CLOSE frees the send context. EVICT sends the packet again or, at RLIM, fails the session; FAIL accounts for the copy it names, or for none. Where a message leaves, registers and ledger stay as they were unless mirror copies make room for it. -/
def Obligations.SourceEdgeRows : Prop :=
  (∀ (s : State) (m : EdgeMsg), s.localFid m.dfid.toNat = false →
    (∀ c, c = .openMsg m ∨ c = .evict m ∨ c = .fail m ∨ c = .revoke m ∨ c = .skip m ∨ c = .abort m ∨ c = .close m ∨ c = .record m ∨
      c = .rack m → exec c s = .next s) ∧
    (m.code = 0 → exec (.accept m) s = .next s ∧ exec (.receiptDelivery m) s = .next s ∧ exec (.fenceClear m) s = .next s) ∧
    (m.code ≠ 0 → exec (.acceptRefused m) s = .next s) ∧ (m.code = 1 → exec (.receiptRevokeDone m) s = .next s ∧ exec (.fenceSet m) s = .next s) ∧
    (m.code = 2 → exec (.receiptSkipDone m) s = .next s) ∧ (m.code = 3 → exec (.receiptAbortDone m) s = .next s) ∧
    (m.code = 4 → exec (.receiptCloseDone m) s = .next s)) ∧
  (∀ (s : State) (m : EdgeMsg), s.localFid m.dfid.toNat = true → m.code = 0 →
    ((s.ses.opening.find? fun o => o.sctx = some m.sctx.toNat) = none → exec (.accept m) s = .next s.settle) ∧
    (∀ o, (s.ses.opening.find? fun o => o.sctx = some m.sctx.toNat) = some o → s.at (.openHold o.key) = [] →
      ((∀ e ∈ s.ses.send, ∀ x, e.2 = some x → x.node ≠ natField 16 12 m.arg.toNat) → ∃ (u : State) (x : SendCtx),
        exec (.accept m) s = .next u.settle ∧ u.sctx? m.sctx.toNat = some x ∧ x.rctx = natField 0 16 m.arg.toNat ∧
        x.node = natField 16 12 m.arg.toNat ∧ x.dport = natField 28 7 m.arg.toNat ∧ x.cls = o.key.cls ∧ x.nextSeq = 0 ∧ x.base = 0 ∧
        u.ses.map = s.ses.map ++ [(o.key, m.sctx.toNat)] ∧ u.ses.opening = s.ses.opening.filter (fun y => y.key ≠ o.key) ∧ u.pkts = s.pkts ∧
        u.regs = s.regs ∧ u.tmem = s.tmem ∧ u.ldg = s.ldg) ∧
      (∀ e, (s.ses.send.find? fun e => match e.2 with
          | none => false
          | some x => x.node = natField 16 12 m.arg.toNat && x.dport = natField 28 7 m.arg.toNat && x.cls = o.key.cls.val && !x.closing &&
              x.aborting.isNone) = some e →
        ∃ u : State, exec (.accept m) s = .next u.settle ∧ u.ses.map = s.ses.map ++ [(o.key, e.1)] ∧ u.ses.send = s.ses.send ∧
          u.ses.stray = s.ses.stray ++ [(natField 0 16 m.arg.toNat, m.sctx.toNat, o.key.dfid.toNat, s.now)] ∧
          u.ses.opening = s.ses.opening.filter (fun y => y.key ≠ o.key) ∧ u.tmem = s.tmem ∧
          (s.noCopies = true → u.regs = s.regs ∧ u.ldg = s.ldg)))) ∧
  (∀ (s : State) (m : EdgeMsg), s.localFid m.dfid.toNat = true → m.code ≠ 0 → ∃ u : State, exec (.acceptRefused m) s = .next u.settle ∧
    (∀ o ∈ u.ses.opening, o.sctx = some m.sctx.toNat → o.refused = true ∧ o.sentPs = s.now) ∧
    u.ses.opening.length = s.ses.opening.length ∧ u.ses.send = s.ses.send ∧ u.pkts = s.pkts ∧ u.regs = s.regs ∧ u.tmem = s.tmem ∧ u.ldg = s.ldg) ∧
  (∀ (s : State) (m : EdgeMsg), s.localFid m.dfid.toNat = true → s.receiptCtx m = none →
    (m.code = 0 → exec (.receiptDelivery m) s = .next s.settle) ∧ (m.code = 1 → exec (.receiptRevokeDone m) s = .next s.settle) ∧
    (m.code = 2 → exec (.receiptSkipDone m) s = .next s.settle) ∧ (m.code = 3 → exec (.receiptAbortDone m) s = .next s.settle)) ∧
  (∀ (s : State) (m : EdgeMsg) (c : Nat) (x : SendCtx), s.localFid m.dfid.toNat = true → s.receiptCtx m = some (c, x) →
    (m.code = 0 → exec (.receiptDelivery m) s = .next ((s.cntPort x.port 91 1).coverUpTo c m.seq.toNat).settle ∧
      (s.pkts = [] → seqDist x.base m.seq.toNat < seqDist x.base x.nextSeq → ∃ u : State, exec (.receiptDelivery m) s = .next u.settle ∧
        u.sctx? c = some { x with base := (m.seq.toNat + 1) % 2 ^ 18, lastPs := s.now, hist := x.hist.drop (x.hist.length - 1024) } ∧
        u.regs = s.regs ∧ u.tmem = s.tmem ∧ u.ldg = s.ldg)) ∧
    (∀ n, (x.notices.find? fun n => n.typ = 0x06 && n.seq = m.seq.toNat) = some n → m.code = 1 → ∃ u : State,
      exec (.receiptRevokeDone m) s = .next u.settle ∧ u.sctx? c = some { x with notices := x.notices.erase n } ∧ u.pkts = s.pkts ∧
      u.regs = s.regs ∧ u.tmem = s.tmem ∧ u.ldg = s.ldg) ∧
    (∀ n, (x.notices.find? fun n => n.typ = 0x07 && (n.seq = m.seq.toNat && n.arg = m.arg)) = some n → m.code = 2 → ∃ u : State,
      exec (.receiptSkipDone m) s = .next u.settle ∧ u.sctx? c = some { x with notices := x.notices.erase n } ∧ u.pkts = s.pkts ∧
      u.regs = s.regs ∧ u.tmem = s.tmem ∧ u.ldg = s.ldg) ∧
    (m.code = 3 → x.aborting.isSome = true → s.pkts = [] → ∃ u : State, exec (.receiptAbortDone m) s = .next u.settle ∧ u.sctx? c = none ∧
      (∀ e ∈ u.ses.map, e.2 ≠ c) ∧ u.regs = s.regs ∧ u.tmem = s.tmem ∧ u.ldg = s.ldg) ∧
    (m.code = 4 → (s.ses.stray.any fun t => t.1 = m.ses.toNat && t.2.1 = m.sctx.toNat) = false → x.closing = true → ∃ u : State,
      exec (.receiptCloseDone m) s = .next u.settle ∧ u.sctx? c = none ∧ (∀ e ∈ u.ses.map, e.2 ≠ c) ∧ u.pkts = s.pkts ∧ u.regs = s.regs ∧
      u.tmem = s.tmem ∧ u.ldg = s.ldg)) ∧
  (∀ (s : State) (m : EdgeMsg), s.localFid m.dfid.toNat = true → s.copyOf m = none → exec (.evict m) s = .next s.settle ∧
    (s.itemOf m = none → exec (.fail m) s = .next (s.lateFail m).settle)) ∧
  (∀ (s : State) (m : EdgeMsg) (k : Pkt) (c : Nat) (x : SendCtx), s.localFid m.dfid.toNat = true → s.copyOf m = some k → k.dead = false →
    k.sctx = some c → s.sctx? c = some x → x.aborting = none → k.loc = .held → k.txDone = true → s.tbl.revoked = [] →
    exec (.evict m) s = .next (((s.setPkt { k with copies := k.copies - 1, ageK := decide (m.code.toNat = 2) }).cntPort k.inPort 64 1).replayPkt
      { k with copies := k.copies - 1, ageK := decide (m.code.toNat = 2) } (decide (m.code.toNat ≠ 4))).settle ∧
    (m.code.toNat ≠ 4 → s.fd R.SES_CFG_RLIM ≤ k.repl → ∃ (u : State) (r : Nat), r = (if m.code.toNat = 2 then 0x03 else 0x04) ∧
      exec (.evict m) s = .next u.settle ∧
      u.sctx? c = some { x with aborting := some r, notices := x.notices ++ [(⟨0x08, r, 0, 0, s.now⟩ : Notice)] } ∧
      u.fd R.SES_CNT_FAILED = (s.fd R.SES_CNT_FAILED + 1) % 65536 ∧ (∀ e ∈ u.ses.map, e.2 ≠ c) ∧ u.tmem = s.tmem ∧ (s.noCopies = true → u.ldg = s.ldg)) ∧
    (s.itemOf m = none → 2 ≤ k.copies →
      exec (.fail m) s = .next (s.setPkt { k with copies := k.copies - 1, dead := true, entry := none }).settle))

/-- OPEN is answered with the receive context that it already has, with a new free one, or refused and counted when none is free. REVOKE keeps its boundary until NEXT has passed it, SKIP of the next number moves NEXT, ABORT and CLOSE free the receive context. FENCE sets or clears its tenant's bit, RECORD enters the overflow store once, RACK for no waiting record does nothing. The timers send a receipt, send a packet, a notice, an OPEN or a RECORD again, close an idle session and skip an aged number, each at its time, by the timer's value as it stood when it started; with nothing to do they change nothing. Where a message leaves, registers and ledger stay as they were unless mirror copies make room for it. What follows at once (settle) is done after each. -/
def Obligations.DestinationAndTimerRows : Prop :=
  (∀ (s : State) (m : EdgeMsg), s.localFid m.dfid.toNat = true → s.ses.recv = [] →
    (pickFree 16384 (0 :: s.ctxUsed) s.fv = none → ∃ u : State, exec (.openMsg m) s = .next u.settle ∧
      u.fd R.SES_CNT_REFUSED = (s.fd R.SES_CNT_REFUSED + 1) % 65536 ∧ u.ses.recv = [] ∧ u.tmem = s.tmem ∧
      (s.noCopies = true → u.ldg = s.ldg)) ∧
    (∀ r, pickFree 16384 (0 :: s.ctxUsed) s.fv = some r → ∃ (u : State) (x : RecvCtx), exec (.openMsg m) s = .next u.settle ∧
      u.rctx? r = some x ∧ x.node = natField 32 12 m.arg.toNat ∧ x.sport = natField 0 8 m.arg.toNat ∧ x.cls = m.code.toNat ∧
      x.replyFid = natField 48 16 m.arg.toNat ∧ x.sctx = m.sctx.toNat ∧ x.next = 0 ∧ x.revokes = [] ∧ u.ses.send = s.ses.send ∧
      u.tmem = s.tmem ∧ (s.noCopies = true → u.regs = s.regs ∧ u.ldg = s.ldg))) ∧
  (∀ (s : State) (m : EdgeMsg), s.localFid m.dfid.toNat = true → s.rctx? m.ses.toNat = none →
    exec (.revoke m) s = .next s.settle ∧ exec (.skip m) s = .next s.settle ∧
    (s.ses.gone.get none m.ses.toNat = none → exec (.abort m) s = .next s.settle ∧ exec (.close m) s = .next s.settle)) ∧
  (∀ (s : State) (m : EdgeMsg) (x : RecvCtx), s.localFid m.dfid.toNat = true → s.rctx? m.ses.toNat = some x →
    (s.pkts = [] → x.consumed = [] → (natField 0 13 m.arg.toNat, m.seq.toNat) ∉ x.revokes → ∃ u : State, exec (.revoke m) s = .next u.settle ∧
      u.rctx? m.ses.toNat = some { x with
        revokes := ((x.revokes ++ [(natField 0 13 m.arg.toNat, m.seq.toNat)]).filter fun b => !decide (seqDist b.2 (x.next + 2 ^ 18 - 1) < 2 ^ 17)) } ∧ u.regs = s.regs ∧ u.tmem = s.tmem ∧ u.ldg = s.ldg) ∧
    (s.pkts = [] → x.consumed = [] → natField 0 10 m.arg.toNat = 0 → m.seq.toNat = x.next → 2 ^ 17 ≤ seqDist x.next x.covered →
      x.next ∉ x.coverable → ∃ (u : State) (y : RecvCtx), exec (.skip m) s = .next u.settle ∧ u.rctx? m.ses.toNat = some y ∧
      y.next = (x.next + 1) % 2 ^ 18 ∧ y.covered = x.covered ∧ y.coverable = x.coverable ∧ u.regs = s.regs ∧ u.tmem = s.tmem ∧ u.ldg = s.ldg) ∧
    (s.pkts = [] → ∃ u : State, exec (.abort m) s = .next u.settle ∧ u.rctx? m.ses.toNat = none ∧
      u.ses.gone.get none m.ses.toNat = some (x.replyFid, x.sctx, x.point) ∧ u.regs = s.regs ∧ u.tmem = s.tmem ∧ u.ldg = s.ldg) ∧
    (∃ u : State, exec (.close m) s = .next u.settle ∧ u.rctx? m.ses.toNat = none ∧
      u.ses.gone.get none m.ses.toNat = some (x.replyFid, x.sctx, 0) ∧ u.tmem = s.tmem ∧
      (s.noCopies = true → u.regs = s.regs ∧ u.ldg = s.ldg))) ∧
  (∀ (s : State) (m : EdgeMsg) (t : Nat), s.localFid m.dfid.toNat = true → t = natField 0 13 m.arg.toNat →
    (m.code = 1 → t ≠ 0 → s.pkts = [] → ∃ u : State, exec (.fenceSet m) s = .next u.settle ∧ u.fenced t = true ∧
      (∀ a, a ≠ R.HPL_FENCE (t / 64) → u.rg a = s.rg a) ∧ (∀ i, i < 64 → i ≠ t % 64 →
        (u.rg (R.HPL_FENCE (t / 64))).getLsbD i = (s.rg (R.HPL_FENCE (t / 64))).getLsbD i) ∧ u.tmem = s.tmem ∧ u.ldg = s.ldg) ∧
    (m.code = 0 → t ≠ 0 → ∃ u : State, exec (.fenceClear m) s = .next u.settle ∧ u.fenced t = false ∧
      (∀ a, a ≠ R.HPL_FENCE (t / 64) → u.rg a = s.rg a) ∧ u.pkts = s.pkts ∧ u.tmem = s.tmem ∧ u.ldg = s.ldg) ∧
    (t = 0 → (m.code = 1 → exec (.fenceSet m) s = .next s.settle) ∧ (m.code = 0 → exec (.fenceClear m) s = .next s.settle))) ∧
  (∀ (s : State) (m : EdgeMsg), s.localFid m.dfid.toNat = true →
    ((s.ldg.seenTokens.get [] m.sfid.toNat).contains m.seq.toNat = true → ∃ u : State, exec (.record m) s = .next u.settle ∧ u.ldg.overflow = s.ldg.overflow ∧
      u.tmem = s.tmem ∧ (s.noCopies = true → u.regs = s.regs ∧ u.ldg = s.ldg)) ∧
    ((s.ldg.seenTokens.get [] m.sfid.toNat).contains m.seq.toNat = false → s.recordRoom m.toRec.tenant = true → ∃ (u : State) (w : WaitRec),
      exec (.record m) s = .next u.settle ∧ u.ldg.overflow = s.ldg.overflow ++ [w] ∧ w.r.tenant = m.toRec.tenant ∧ w.r.reason = m.toRec.reason ∧
      m.seq.toNat ∈ u.ldg.seenTokens.get [] m.sfid.toNat ∧ u.tmem = s.tmem ∧ (s.noCopies = true → u.regs = s.regs)) ∧
    ((s.ldg.overflow.find? fun w => w.sentTok none m.seq.toNat) = none →
      (s.ldg.overflow.find? fun w => w.sentTok (some m.sfid.toNat) m.seq.toNat) = none → exec (.rack m) s = .next s.settle) ∧
    (∀ w, (s.ldg.overflow.find? fun w => w.sentTok (some m.sfid.toNat) m.seq.toNat) = some w → exec (.rack m) s =
      .next ((({ s with ldg := { s.ldg with overflow := s.ldg.overflow.erase w } }).cntDev 1547 1).sendRecords.resumeResolving).settle)) ∧
  (∀ (s : State) (c : Fin 16384),
    (∀ x, s.rctx? c = some x → (x.newCov = 0 → exec (.receiptTimerExpiry c) s = .next s.settle) ∧
      (x.newCov ≠ 0 → ∃ u : State, exec (.receiptTimerExpiry c) s = .next u.settle ∧ u.rctx? c = some x.cover ∧
        x.oldestCovPs + s.fdAt R.SES_CFG_RTIM x.oldestCovPs * 100000 ≤ u.now ∧ u.tmem = s.tmem ∧
        (s.noCopies = true → u.regs = s.regs ∧ u.ldg = s.ldg))) ∧
    (s.rctx? c = none → exec (.receiptTimerExpiry c) s = .next s.settle) ∧
    (s.sctx? c = none → exec (.receiptTimeout c) s = .next s.settle ∧ exec (.sessionIdle c) s = .next s.settle ∧
      ((s.ses.stray.find? fun t => t.2.1 = c.val) = none → exec (.noticeRetransmit c) s = .next s.settle)) ∧
    (∀ x, s.sctx? c = some x →
      (∀ k, x.aborting = none → s.earliest c (fun k => !k.dead && k.loc = .held && k.txDone) = some k → s.tbl.revoked = [] →
        exec (.receiptTimeout c) s = .next ((s.waitUntil (k.sentPs + s.rtmoPs k.sentPs)).replayPkt k true).settle) ∧
      (∀ n, (s.ses.stray.find? fun t => t.2.1 = c.val) = none → x.notices = [n] → ∃ u : State, exec (.noticeRetransmit c) s = .next u.settle ∧
        u.sctx? c = some { x with notices := [{ n with sentPs := u.now }] } ∧ n.sentPs + s.rtmoPs n.sentPs ≤ u.now ∧
        u.tmem = s.tmem ∧ (s.noCopies = true → u.regs = s.regs ∧ u.ldg = s.ldg)) ∧
      (x.closing = false → x.aborting = none → x.notices = [] → (s.pkts.any fun k => k.sctx = some c.val) = false → ∃ u : State,
        exec (.sessionIdle c) s = .next u.settle ∧
        u.sctx? c = some { x with closing := true, notices := [(⟨0x09, 0, 0, 0, u.now⟩ : Notice)] } ∧ (∀ e ∈ u.ses.map, e.2 ≠ c) ∧
        x.lastPs + s.fdAt R.SES_CFG_IDLE x.lastPs * 10000000 ≤ u.now ∧ u.tmem = s.tmem ∧
        (s.noCopies = true → u.regs = s.regs ∧ u.ldg = s.ldg))) ∧
    (s.fb R.BUF_CFG_AGEEN = false → exec (.skipAgeExpiry c) s = .next s.settle) ∧
    (∀ k, s.fb R.BUF_CFG_AGEEN = true → s.earliest c (fun k => k.dead && decide (k.copies ≠ 0) && k.txDone) = some k →
      exec (.skipAgeExpiry c) s = .next ((s.waitUntil (k.sentPs + s.agelimPs + s.rtmoPs k.sentPs)).skipCopy k).settle)) ∧
  (∀ (s : State) (key : OpenKey), ((s.ses.opening.find? fun o => o.key = key) = none → exec (.openRetry key) s = .next s.settle) ∧
    (∀ o, (s.ses.opening.find? fun o => o.key = key) = some o →
      (s.at (.openHold key) = [] → ∃ u : State, exec (.openRetry key) s = .next u.settle ∧
        u.ses.opening = s.ses.opening.filter (fun y => y.key ≠ key) ∧ u.pkts = s.pkts ∧ u.regs = s.regs ∧ u.tmem = s.tmem ∧ u.ldg = s.ldg) ∧
      (s.at (.openHold key) ≠ [] → ∃ u : State, exec (.openRetry key) s = .next u.settle ∧
        (∀ y ∈ u.ses.opening, y.key = key → y.refused = true) ∧ u.ses.opening.length = s.ses.opening.length ∧
        o.sentPs + (if o.refused then 10000000 else s.rtmoPs o.sentPs) ≤ u.now ∧ u.tmem = s.tmem ∧
        (s.noCopies = true → u.regs = s.regs ∧ u.ldg = s.ldg)))) ∧
  (∀ (s : State) (hfid : BitVec 16), ∃ u : State, exec (.recordRetransmit hfid) s = .next u.settle ∧
    u.ldg.overflow.length = s.ldg.overflow.length ∧ (s.ldg.overflow = [] → u = s) ∧ u.tmem = s.tmem ∧ (s.noCopies = true → u.regs = s.regs))

/-- No command faults in any state. A command whose operands are of the form its row is about answers a next state from every state, whatever the mode, the power domains and the data; any other command is refused as malformed and by no other refusal. -/
def Obligations.EveryCommandAnswers : Prop :=
  ∀ (c : Instr) (s : State),
    (c.wellFormed = true → ∃ t : State, exec c s = .next t) ∧
    (c.wellFormed = false → ∃ what : String, exec c s = .refused (.malformed what)) ∧
    (∀ f : Fault, exec c s ≠ .fault f)

/-- From every state in which table memory and the clusters' memories list their bytes at strictly rising addresses and none that reads as an unlisted one, and the registers are listed at strictly rising offsets and none at its reset value, every step that answers a next state answers one of which the same holds. The canonical form is the model's (log entry 2). -/
def Obligations.StepKeepsCanonicalForms : Prop :=
  ∀ s t : State, Memory.wf s = true → Registers.wf s = true → step s = .next t → Memory.wf t = true ∧ Registers.wf t = true

/-- The state after reset has the canonical forms. No command waits, every register other than the views of table memory reads its reset value, every byte of table memory is 0, RESET_N is asserted with VDD_AO up, no switched power domain is on, no core runs, and no packet, ledger entry, session or binding is there. Where the spec gives a register no reset value, the value is the model's (log entry 3). -/
def Obligations.ResetState : Prop :=
  Memory.wf State.reset = true ∧ Registers.wf State.reset = true ∧ State.reset.pending = [] ∧
  (∀ a : Nat, tableView a = none → State.reset.rg a = regReset a) ∧ (∀ a : Nat, State.reset.tByte a = 0) ∧
  State.reset.pwr.resetN = true ∧ State.reset.pwr.aoOn = true ∧ (∀ d : Fin 25, d ≠ 0 → State.reset.live d = false) ∧
  (∀ c : CoreId, (State.reset.core c.num).running = false) ∧
  State.reset.pkts = [] ∧ State.reset.ldg.entries = [] ∧ State.reset.ses.send = [] ∧ State.reset.ses.recv = [] ∧ State.reset.bindings = []
end

