-- ==== Sys2Proof/Laws/SMap.lean ====
section
/-! SUPPORT. Laws/SMap.lean: sparse maps: a read after a write, and what keeps the canonical form. -/

namespace Sys2Proof.SMap

variable {α : Type}

theorem getD_put (d : Nat → α) (m : SMap α) (k j : Nat) (v : α) : getD d (put m k v) j = if j = k then v else getD d m j := by
  induction m with
  | nil =>
    simp only [put, getD]
    split <;> rename_i h
    · simp [h]
    · rw [if_neg fun e => h e.symm]
  | cons e m ih =>
    obtain ⟨i, w⟩ := e
    simp only [put]
    split
    · rename_i h
      subst h
      simp only [getD]
      by_cases hj : i = j
      · simp [hj]
      · rw [if_neg hj, if_neg hj, if_neg fun e => hj e.symm]
    · split
      · simp only [getD]
        by_cases hj : k = j
        · simp [hj]
        · simp [hj, Ne.symm hj]
      · simp only [getD, ih]
        by_cases hj : i = j
        · subst hj
          rw [if_pos rfl, if_pos rfl, if_neg (by assumption)]
        · rw [if_neg hj, if_neg hj]

theorem getD_filter (d : Nat → α) (m : SMap α) (f : Nat → Bool) (j : Nat) :
    getD d (m.filter fun e => f e.1) j = if f j then getD d m j else d j := by
  induction m with
  | nil => simp [getD]
  | cons e m ih =>
    obtain ⟨i, w⟩ := e
    by_cases hi : f i = true
    · rw [List.filter_cons_of_pos (by simpa using hi)]
      simp only [getD, ih]
      by_cases hj : i = j
      · subst hj; simp [hi]
      · simp [hj]
    · rw [List.filter_cons_of_neg (by simpa using hi), ih]
      simp only [getD]
      by_cases hj : i = j
      · subst hj; simp [hi]
      · simp [hj]

theorem getD_del (d : Nat → α) (m : SMap α) (k j : Nat) : getD d (del m k) j = if j = k then d j else getD d m j := by
  have h := getD_filter d m (fun i => decide (i ≠ k)) j
  rw [del, h]
  by_cases hj : j = k <;> simp [hj]

variable [DecidableEq α]

/-- A read after a write. -/
theorem getD_setD (d : Nat → α) (m : SMap α) (k j : Nat) (v : α) : getD d (setD d m k v) j = if j = k then v else getD d m j := by
  unfold setD
  split
  · rename_i h
    rw [getD_del]
    split
    · rename_i e; rw [e, h]
    · rfl
  · rw [getD_put]

@[simp] theorem get_set_self (d : α) (m : SMap α) (k : Nat) (v : α) : get d (set d m k v) k = v := by
  simp [get, set, getD_setD]

@[simp] theorem get_set_ne (d : α) (m : SMap α) (k j : Nat) (v : α) (h : j ≠ k) : get d (set d m k v) j = get d m j := by
  simp [get, set, getD_setD, h]

theorem wfFrom_mono (d : Nat → α) {m : SMap α} {a b : Nat} (h : wfFrom d b m = true) (hab : a ≤ b) : wfFrom d a m = true := by
  cases m with
  | nil => rfl
  | cons e m =>
    simp only [wfFrom, Bool.and_eq_true, decide_eq_true_eq] at h ⊢
    exact ⟨⟨by omega, h.1.2⟩, h.2⟩

/-- Leaving entries out keeps the canonical form. -/
theorem wfFrom_filter (d : Nat → α) (f : Nat × α → Bool) {m : SMap α} {lo : Nat} (h : wfFrom d lo m = true) :
    wfFrom d lo (m.filter f) = true := by
  induction m generalizing lo with
  | nil => rfl
  | cons e m ih =>
    simp only [wfFrom, Bool.and_eq_true, decide_eq_true_eq] at h
    by_cases hf : f e = true
    · rw [List.filter_cons_of_pos hf]
      simp only [wfFrom, Bool.and_eq_true, decide_eq_true_eq]
      exact ⟨h.1, ih h.2⟩
    · rw [List.filter_cons_of_neg hf]
      exact ih (wfFrom_mono d h.2 (by omega))

theorem wf_filter (d : Nat → α) (f : Nat × α → Bool) {m : SMap α} (h : wf d m = true) : wf d (m.filter f) = true :=
  wfFrom_filter d f h

theorem wfFrom_put (d : Nat → α) {m : SMap α} {lo k : Nat} {v : α} (h : wfFrom d lo m = true) (hk : lo ≤ k) (hv : v ≠ d k) :
    wfFrom d lo (put m k v) = true := by
  induction m generalizing lo with
  | nil => simp [put, wfFrom, hk, hv]
  | cons e m ih =>
    obtain ⟨i, w⟩ := e
    simp only [wfFrom, Bool.and_eq_true, decide_eq_true_eq] at h
    simp only [put]
    split
    · rename_i hi
      subst hi
      simp only [wfFrom, Bool.and_eq_true, decide_eq_true_eq]
      exact ⟨⟨hk, hv⟩, h.2⟩
    · split
      · simp only [wfFrom, Bool.and_eq_true, decide_eq_true_eq]
        exact ⟨⟨hk, hv⟩, ⟨by omega, h.1.2⟩, h.2⟩
      · simp only [wfFrom, Bool.and_eq_true, decide_eq_true_eq]
        exact ⟨h.1, ih h.2 (by omega)⟩

/-- A write keeps the canonical form. -/
theorem wf_setD (d : Nat → α) {m : SMap α} (k : Nat) (v : α) (h : wf d m = true) : wf d (setD d m k v) = true := by
  unfold setD
  split
  · exact wf_filter d _ h
  · exact wfFrom_put d h (Nat.zero_le _) (by assumption)

theorem wf_set (d : α) {m : SMap α} (k : Nat) (v : α) (h : wf (fun _ => d) m = true) : wf (fun _ => d) (set d m k v) = true :=
  wf_setD _ k v h

/-- Entries replaced at the same index by others that do not read as an unlisted one, or left out, keep the canonical form. -/
theorem wfFrom_filterMap (d : Nat → α) (f : Nat × α → Option (Nat × α))
    (hf : ∀ e x, f e = some x → x.1 = e.1 ∧ (e.2 ≠ d e.1 → x.2 ≠ d x.1)) {m : SMap α} {lo : Nat} (h : wfFrom d lo m = true) :
    wfFrom d lo (m.filterMap f) = true := by
  induction m generalizing lo with
  | nil => rfl
  | cons e m ih =>
    simp only [wfFrom, Bool.and_eq_true, decide_eq_true_eq] at h
    rcases he : f e with _ | x
    · rw [List.filterMap_cons_none he]
      exact ih (wfFrom_mono d h.2 (by omega))
    · rw [List.filterMap_cons_some he]
      obtain ⟨h1, h2⟩ := hf e x he
      simp only [wfFrom, Bool.and_eq_true, decide_eq_true_eq]
      refine ⟨⟨by rw [h1]; exact h.1.1, h2 h.1.2⟩, ?_⟩
      rw [h1]
      exact ih h.2

end Sys2Proof.SMap
end

