-- ==== Sys2Proof/Laws/State.lean ====
section
/-! SUPPORT. Laws/State.lean: what each update of the state leaves alone, and what it makes of what it changes. -/

namespace Sys2Proof.Machine

/-! ### emit -/

@[simp] theorem State.emit_pending (s : State) (o : Output) : (s.emit o).pending = s.pending := rfl
@[simp] theorem State.emit_now (s : State) (o : Output) : (s.emit o).now = s.now := rfl
@[simp] theorem State.emit_ftOff (s : State) (o : Output) : (s.emit o).ftOff = s.ftOff := rfl
@[simp] theorem State.emit_slew (s : State) (o : Output) : (s.emit o).slew = s.slew := rfl
@[simp] theorem State.emit_stepPs (s : State) (o : Output) : (s.emit o).stepPs = s.stepPs := rfl
@[simp] theorem State.emit_syncRoot (s : State) (o : Output) : (s.emit o).syncRoot = s.syncRoot := rfl
@[simp] theorem State.emit_fv (s : State) (o : Output) : (s.emit o).fv = s.fv := rfl
@[simp] theorem State.emit_hung (s : State) (o : Output) : (s.emit o).hung = s.hung := rfl
@[simp] theorem State.emit_regs (s : State) (o : Output) : (s.emit o).regs = s.regs := rfl
@[simp] theorem State.emit_past (s : State) (o : Output) : (s.emit o).past = s.past := rfl
@[simp] theorem State.emit_tmem (s : State) (o : Output) : (s.emit o).tmem = s.tmem := rfl
@[simp] theorem State.emit_cmem (s : State) (o : Output) : (s.emit o).cmem = s.cmem := rfl
@[simp] theorem State.emit_cores (s : State) (o : Output) : (s.emit o).cores = s.cores := rfl
@[simp] theorem State.emit_evt (s : State) (o : Output) : (s.emit o).evt = s.evt := rfl
@[simp] theorem State.emit_pkts (s : State) (o : Output) : (s.emit o).pkts = s.pkts := rfl
@[simp] theorem State.emit_pktNext (s : State) (o : Output) : (s.emit o).pktNext = s.pktNext := rfl
@[simp] theorem State.emit_ldg (s : State) (o : Output) : (s.emit o).ldg = s.ldg := rfl
@[simp] theorem State.emit_ses (s : State) (o : Output) : (s.emit o).ses = s.ses := rfl
@[simp] theorem State.emit_links (s : State) (o : Output) : (s.emit o).links = s.links := rfl
@[simp] theorem State.emit_phys (s : State) (o : Output) : (s.emit o).phys = s.phys := rfl
@[simp] theorem State.emit_ports (s : State) (o : Output) : (s.emit o).ports = s.ports := rfl
@[simp] theorem State.emit_perstIn (s : State) (o : Output) : (s.emit o).perstIn = s.perstIn := rfl
@[simp] theorem State.emit_vdps (s : State) (o : Output) : (s.emit o).vdps = s.vdps := rfl
@[simp] theorem State.emit_ups (s : State) (o : Output) : (s.emit o).ups = s.ups := rfl
@[simp] theorem State.emit_tbl (s : State) (o : Output) : (s.emit o).tbl = s.tbl := rfl
@[simp] theorem State.emit_hpl (s : State) (o : Output) : (s.emit o).hpl = s.hpl := rfl
@[simp] theorem State.emit_sch (s : State) (o : Output) : (s.emit o).sch = s.sch := rfl
@[simp] theorem State.emit_gln (s : State) (o : Output) : (s.emit o).gln = s.gln := rfl
@[simp] theorem State.emit_ffn (s : State) (o : Output) : (s.emit o).ffn = s.ffn := rfl
@[simp] theorem State.emit_dma (s : State) (o : Output) : (s.emit o).dma = s.dma := rfl
@[simp] theorem State.emit_spcs (s : State) (o : Output) : (s.emit o).spcs = s.spcs := rfl
@[simp] theorem State.emit_pwr (s : State) (o : Output) : (s.emit o).pwr = s.pwr := rfl
@[simp] theorem State.emit_pcn (s : State) (o : Output) : (s.emit o).pcn = s.pcn := rfl
@[simp] theorem State.emit_alm (s : State) (o : Output) : (s.emit o).alm = s.alm := rfl
@[simp] theorem State.emit_svc (s : State) (o : Output) : (s.emit o).svc = s.svc := rfl
@[simp] theorem State.emit_sec (s : State) (o : Output) : (s.emit o).sec = s.sec := rfl

/-! ### bumpFv -/

@[simp] theorem State.bumpFv_pending (s : State) : (s.bumpFv).pending = s.pending := rfl
@[simp] theorem State.bumpFv_now (s : State) : (s.bumpFv).now = s.now := rfl
@[simp] theorem State.bumpFv_ftOff (s : State) : (s.bumpFv).ftOff = s.ftOff := rfl
@[simp] theorem State.bumpFv_slew (s : State) : (s.bumpFv).slew = s.slew := rfl
@[simp] theorem State.bumpFv_stepPs (s : State) : (s.bumpFv).stepPs = s.stepPs := rfl
@[simp] theorem State.bumpFv_syncRoot (s : State) : (s.bumpFv).syncRoot = s.syncRoot := rfl
@[simp] theorem State.bumpFv_out (s : State) : (s.bumpFv).out = s.out := rfl
@[simp] theorem State.bumpFv_hung (s : State) : (s.bumpFv).hung = s.hung := rfl
@[simp] theorem State.bumpFv_regs (s : State) : (s.bumpFv).regs = s.regs := rfl
@[simp] theorem State.bumpFv_past (s : State) : (s.bumpFv).past = s.past := rfl
@[simp] theorem State.bumpFv_tmem (s : State) : (s.bumpFv).tmem = s.tmem := rfl
@[simp] theorem State.bumpFv_cmem (s : State) : (s.bumpFv).cmem = s.cmem := rfl
@[simp] theorem State.bumpFv_cores (s : State) : (s.bumpFv).cores = s.cores := rfl
@[simp] theorem State.bumpFv_evt (s : State) : (s.bumpFv).evt = s.evt := rfl
@[simp] theorem State.bumpFv_pkts (s : State) : (s.bumpFv).pkts = s.pkts := rfl
@[simp] theorem State.bumpFv_pktNext (s : State) : (s.bumpFv).pktNext = s.pktNext := rfl
@[simp] theorem State.bumpFv_ldg (s : State) : (s.bumpFv).ldg = s.ldg := rfl
@[simp] theorem State.bumpFv_ses (s : State) : (s.bumpFv).ses = s.ses := rfl
@[simp] theorem State.bumpFv_links (s : State) : (s.bumpFv).links = s.links := rfl
@[simp] theorem State.bumpFv_phys (s : State) : (s.bumpFv).phys = s.phys := rfl
@[simp] theorem State.bumpFv_ports (s : State) : (s.bumpFv).ports = s.ports := rfl
@[simp] theorem State.bumpFv_perstIn (s : State) : (s.bumpFv).perstIn = s.perstIn := rfl
@[simp] theorem State.bumpFv_vdps (s : State) : (s.bumpFv).vdps = s.vdps := rfl
@[simp] theorem State.bumpFv_ups (s : State) : (s.bumpFv).ups = s.ups := rfl
@[simp] theorem State.bumpFv_tbl (s : State) : (s.bumpFv).tbl = s.tbl := rfl
@[simp] theorem State.bumpFv_hpl (s : State) : (s.bumpFv).hpl = s.hpl := rfl
@[simp] theorem State.bumpFv_sch (s : State) : (s.bumpFv).sch = s.sch := rfl
@[simp] theorem State.bumpFv_gln (s : State) : (s.bumpFv).gln = s.gln := rfl
@[simp] theorem State.bumpFv_ffn (s : State) : (s.bumpFv).ffn = s.ffn := rfl
@[simp] theorem State.bumpFv_dma (s : State) : (s.bumpFv).dma = s.dma := rfl
@[simp] theorem State.bumpFv_spcs (s : State) : (s.bumpFv).spcs = s.spcs := rfl
@[simp] theorem State.bumpFv_pwr (s : State) : (s.bumpFv).pwr = s.pwr := rfl
@[simp] theorem State.bumpFv_pcn (s : State) : (s.bumpFv).pcn = s.pcn := rfl
@[simp] theorem State.bumpFv_alm (s : State) : (s.bumpFv).alm = s.alm := rfl
@[simp] theorem State.bumpFv_svc (s : State) : (s.bumpFv).svc = s.svc := rfl
@[simp] theorem State.bumpFv_sec (s : State) : (s.bumpFv).sec = s.sec := rfl

/-! ### waitUntil -/

@[simp] theorem State.waitUntil_pending (s : State) (t : Nat) : (s.waitUntil t).pending = s.pending := rfl
@[simp] theorem State.waitUntil_ftOff (s : State) (t : Nat) : (s.waitUntil t).ftOff = s.ftOff := rfl
@[simp] theorem State.waitUntil_slew (s : State) (t : Nat) : (s.waitUntil t).slew = s.slew := rfl
@[simp] theorem State.waitUntil_stepPs (s : State) (t : Nat) : (s.waitUntil t).stepPs = s.stepPs := rfl
@[simp] theorem State.waitUntil_syncRoot (s : State) (t : Nat) : (s.waitUntil t).syncRoot = s.syncRoot := rfl
@[simp] theorem State.waitUntil_fv (s : State) (t : Nat) : (s.waitUntil t).fv = s.fv := rfl
@[simp] theorem State.waitUntil_out (s : State) (t : Nat) : (s.waitUntil t).out = s.out := rfl
@[simp] theorem State.waitUntil_hung (s : State) (t : Nat) : (s.waitUntil t).hung = s.hung := rfl
@[simp] theorem State.waitUntil_regs (s : State) (t : Nat) : (s.waitUntil t).regs = s.regs := rfl
@[simp] theorem State.waitUntil_past (s : State) (t : Nat) : (s.waitUntil t).past = s.past := rfl
@[simp] theorem State.waitUntil_tmem (s : State) (t : Nat) : (s.waitUntil t).tmem = s.tmem := rfl
@[simp] theorem State.waitUntil_cmem (s : State) (t : Nat) : (s.waitUntil t).cmem = s.cmem := rfl
@[simp] theorem State.waitUntil_cores (s : State) (t : Nat) : (s.waitUntil t).cores = s.cores := rfl
@[simp] theorem State.waitUntil_evt (s : State) (t : Nat) : (s.waitUntil t).evt = s.evt := rfl
@[simp] theorem State.waitUntil_pkts (s : State) (t : Nat) : (s.waitUntil t).pkts = s.pkts := rfl
@[simp] theorem State.waitUntil_pktNext (s : State) (t : Nat) : (s.waitUntil t).pktNext = s.pktNext := rfl
@[simp] theorem State.waitUntil_ldg (s : State) (t : Nat) : (s.waitUntil t).ldg = s.ldg := rfl
@[simp] theorem State.waitUntil_ses (s : State) (t : Nat) : (s.waitUntil t).ses = s.ses := rfl
@[simp] theorem State.waitUntil_links (s : State) (t : Nat) : (s.waitUntil t).links = s.links := rfl
@[simp] theorem State.waitUntil_phys (s : State) (t : Nat) : (s.waitUntil t).phys = s.phys := rfl
@[simp] theorem State.waitUntil_ports (s : State) (t : Nat) : (s.waitUntil t).ports = s.ports := rfl
@[simp] theorem State.waitUntil_perstIn (s : State) (t : Nat) : (s.waitUntil t).perstIn = s.perstIn := rfl
@[simp] theorem State.waitUntil_vdps (s : State) (t : Nat) : (s.waitUntil t).vdps = s.vdps := rfl
@[simp] theorem State.waitUntil_ups (s : State) (t : Nat) : (s.waitUntil t).ups = s.ups := rfl
@[simp] theorem State.waitUntil_tbl (s : State) (t : Nat) : (s.waitUntil t).tbl = s.tbl := rfl
@[simp] theorem State.waitUntil_hpl (s : State) (t : Nat) : (s.waitUntil t).hpl = s.hpl := rfl
@[simp] theorem State.waitUntil_sch (s : State) (t : Nat) : (s.waitUntil t).sch = s.sch := rfl
@[simp] theorem State.waitUntil_gln (s : State) (t : Nat) : (s.waitUntil t).gln = s.gln := rfl
@[simp] theorem State.waitUntil_ffn (s : State) (t : Nat) : (s.waitUntil t).ffn = s.ffn := rfl
@[simp] theorem State.waitUntil_dma (s : State) (t : Nat) : (s.waitUntil t).dma = s.dma := rfl
@[simp] theorem State.waitUntil_spcs (s : State) (t : Nat) : (s.waitUntil t).spcs = s.spcs := rfl
@[simp] theorem State.waitUntil_pwr (s : State) (t : Nat) : (s.waitUntil t).pwr = s.pwr := rfl
@[simp] theorem State.waitUntil_pcn (s : State) (t : Nat) : (s.waitUntil t).pcn = s.pcn := rfl
@[simp] theorem State.waitUntil_alm (s : State) (t : Nat) : (s.waitUntil t).alm = s.alm := rfl
@[simp] theorem State.waitUntil_svc (s : State) (t : Nat) : (s.waitUntil t).svc = s.svc := rfl
@[simp] theorem State.waitUntil_sec (s : State) (t : Nat) : (s.waitUntil t).sec = s.sec := rfl

/-! ### setCore -/

@[simp] theorem State.setCore_pending (s : State) (n : Nat) (k : Core) : (s.setCore n k).pending = s.pending := rfl
@[simp] theorem State.setCore_now (s : State) (n : Nat) (k : Core) : (s.setCore n k).now = s.now := rfl
@[simp] theorem State.setCore_ftOff (s : State) (n : Nat) (k : Core) : (s.setCore n k).ftOff = s.ftOff := rfl
@[simp] theorem State.setCore_slew (s : State) (n : Nat) (k : Core) : (s.setCore n k).slew = s.slew := rfl
@[simp] theorem State.setCore_stepPs (s : State) (n : Nat) (k : Core) : (s.setCore n k).stepPs = s.stepPs := rfl
@[simp] theorem State.setCore_syncRoot (s : State) (n : Nat) (k : Core) : (s.setCore n k).syncRoot = s.syncRoot := rfl
@[simp] theorem State.setCore_fv (s : State) (n : Nat) (k : Core) : (s.setCore n k).fv = s.fv := rfl
@[simp] theorem State.setCore_out (s : State) (n : Nat) (k : Core) : (s.setCore n k).out = s.out := rfl
@[simp] theorem State.setCore_hung (s : State) (n : Nat) (k : Core) : (s.setCore n k).hung = s.hung := rfl
@[simp] theorem State.setCore_regs (s : State) (n : Nat) (k : Core) : (s.setCore n k).regs = s.regs := rfl
@[simp] theorem State.setCore_past (s : State) (n : Nat) (k : Core) : (s.setCore n k).past = s.past := rfl
@[simp] theorem State.setCore_tmem (s : State) (n : Nat) (k : Core) : (s.setCore n k).tmem = s.tmem := rfl
@[simp] theorem State.setCore_cmem (s : State) (n : Nat) (k : Core) : (s.setCore n k).cmem = s.cmem := rfl
@[simp] theorem State.setCore_evt (s : State) (n : Nat) (k : Core) : (s.setCore n k).evt = s.evt := rfl
@[simp] theorem State.setCore_pkts (s : State) (n : Nat) (k : Core) : (s.setCore n k).pkts = s.pkts := rfl
@[simp] theorem State.setCore_pktNext (s : State) (n : Nat) (k : Core) : (s.setCore n k).pktNext = s.pktNext := rfl
@[simp] theorem State.setCore_ldg (s : State) (n : Nat) (k : Core) : (s.setCore n k).ldg = s.ldg := rfl
@[simp] theorem State.setCore_ses (s : State) (n : Nat) (k : Core) : (s.setCore n k).ses = s.ses := rfl
@[simp] theorem State.setCore_links (s : State) (n : Nat) (k : Core) : (s.setCore n k).links = s.links := rfl
@[simp] theorem State.setCore_phys (s : State) (n : Nat) (k : Core) : (s.setCore n k).phys = s.phys := rfl
@[simp] theorem State.setCore_ports (s : State) (n : Nat) (k : Core) : (s.setCore n k).ports = s.ports := rfl
@[simp] theorem State.setCore_perstIn (s : State) (n : Nat) (k : Core) : (s.setCore n k).perstIn = s.perstIn := rfl
@[simp] theorem State.setCore_vdps (s : State) (n : Nat) (k : Core) : (s.setCore n k).vdps = s.vdps := rfl
@[simp] theorem State.setCore_ups (s : State) (n : Nat) (k : Core) : (s.setCore n k).ups = s.ups := rfl
@[simp] theorem State.setCore_tbl (s : State) (n : Nat) (k : Core) : (s.setCore n k).tbl = s.tbl := rfl
@[simp] theorem State.setCore_hpl (s : State) (n : Nat) (k : Core) : (s.setCore n k).hpl = s.hpl := rfl
@[simp] theorem State.setCore_sch (s : State) (n : Nat) (k : Core) : (s.setCore n k).sch = s.sch := rfl
@[simp] theorem State.setCore_gln (s : State) (n : Nat) (k : Core) : (s.setCore n k).gln = s.gln := rfl
@[simp] theorem State.setCore_ffn (s : State) (n : Nat) (k : Core) : (s.setCore n k).ffn = s.ffn := rfl
@[simp] theorem State.setCore_dma (s : State) (n : Nat) (k : Core) : (s.setCore n k).dma = s.dma := rfl
@[simp] theorem State.setCore_spcs (s : State) (n : Nat) (k : Core) : (s.setCore n k).spcs = s.spcs := rfl
@[simp] theorem State.setCore_pwr (s : State) (n : Nat) (k : Core) : (s.setCore n k).pwr = s.pwr := rfl
@[simp] theorem State.setCore_pcn (s : State) (n : Nat) (k : Core) : (s.setCore n k).pcn = s.pcn := rfl
@[simp] theorem State.setCore_alm (s : State) (n : Nat) (k : Core) : (s.setCore n k).alm = s.alm := rfl
@[simp] theorem State.setCore_svc (s : State) (n : Nat) (k : Core) : (s.setCore n k).svc = s.svc := rfl
@[simp] theorem State.setCore_sec (s : State) (n : Nat) (k : Core) : (s.setCore n k).sec = s.sec := rfl

/-! ### setCtx -/

@[simp] theorem State.setCtx_pending (s : State) (c : CoreId) (x : Ctx) : (s.setCtx c x).pending = s.pending := rfl
@[simp] theorem State.setCtx_now (s : State) (c : CoreId) (x : Ctx) : (s.setCtx c x).now = s.now := rfl
@[simp] theorem State.setCtx_ftOff (s : State) (c : CoreId) (x : Ctx) : (s.setCtx c x).ftOff = s.ftOff := rfl
@[simp] theorem State.setCtx_slew (s : State) (c : CoreId) (x : Ctx) : (s.setCtx c x).slew = s.slew := rfl
@[simp] theorem State.setCtx_stepPs (s : State) (c : CoreId) (x : Ctx) : (s.setCtx c x).stepPs = s.stepPs := rfl
@[simp] theorem State.setCtx_syncRoot (s : State) (c : CoreId) (x : Ctx) : (s.setCtx c x).syncRoot = s.syncRoot := rfl
@[simp] theorem State.setCtx_fv (s : State) (c : CoreId) (x : Ctx) : (s.setCtx c x).fv = s.fv := rfl
@[simp] theorem State.setCtx_out (s : State) (c : CoreId) (x : Ctx) : (s.setCtx c x).out = s.out := rfl
@[simp] theorem State.setCtx_hung (s : State) (c : CoreId) (x : Ctx) : (s.setCtx c x).hung = s.hung := rfl
@[simp] theorem State.setCtx_regs (s : State) (c : CoreId) (x : Ctx) : (s.setCtx c x).regs = s.regs := rfl
@[simp] theorem State.setCtx_past (s : State) (c : CoreId) (x : Ctx) : (s.setCtx c x).past = s.past := rfl
@[simp] theorem State.setCtx_tmem (s : State) (c : CoreId) (x : Ctx) : (s.setCtx c x).tmem = s.tmem := rfl
@[simp] theorem State.setCtx_cmem (s : State) (c : CoreId) (x : Ctx) : (s.setCtx c x).cmem = s.cmem := rfl
@[simp] theorem State.setCtx_evt (s : State) (c : CoreId) (x : Ctx) : (s.setCtx c x).evt = s.evt := rfl
@[simp] theorem State.setCtx_pkts (s : State) (c : CoreId) (x : Ctx) : (s.setCtx c x).pkts = s.pkts := rfl
@[simp] theorem State.setCtx_pktNext (s : State) (c : CoreId) (x : Ctx) : (s.setCtx c x).pktNext = s.pktNext := rfl
@[simp] theorem State.setCtx_ldg (s : State) (c : CoreId) (x : Ctx) : (s.setCtx c x).ldg = s.ldg := rfl
@[simp] theorem State.setCtx_ses (s : State) (c : CoreId) (x : Ctx) : (s.setCtx c x).ses = s.ses := rfl
@[simp] theorem State.setCtx_links (s : State) (c : CoreId) (x : Ctx) : (s.setCtx c x).links = s.links := rfl
@[simp] theorem State.setCtx_phys (s : State) (c : CoreId) (x : Ctx) : (s.setCtx c x).phys = s.phys := rfl
@[simp] theorem State.setCtx_ports (s : State) (c : CoreId) (x : Ctx) : (s.setCtx c x).ports = s.ports := rfl
@[simp] theorem State.setCtx_perstIn (s : State) (c : CoreId) (x : Ctx) : (s.setCtx c x).perstIn = s.perstIn := rfl
@[simp] theorem State.setCtx_vdps (s : State) (c : CoreId) (x : Ctx) : (s.setCtx c x).vdps = s.vdps := rfl
@[simp] theorem State.setCtx_ups (s : State) (c : CoreId) (x : Ctx) : (s.setCtx c x).ups = s.ups := rfl
@[simp] theorem State.setCtx_tbl (s : State) (c : CoreId) (x : Ctx) : (s.setCtx c x).tbl = s.tbl := rfl
@[simp] theorem State.setCtx_hpl (s : State) (c : CoreId) (x : Ctx) : (s.setCtx c x).hpl = s.hpl := rfl
@[simp] theorem State.setCtx_sch (s : State) (c : CoreId) (x : Ctx) : (s.setCtx c x).sch = s.sch := rfl
@[simp] theorem State.setCtx_gln (s : State) (c : CoreId) (x : Ctx) : (s.setCtx c x).gln = s.gln := rfl
@[simp] theorem State.setCtx_ffn (s : State) (c : CoreId) (x : Ctx) : (s.setCtx c x).ffn = s.ffn := rfl
@[simp] theorem State.setCtx_dma (s : State) (c : CoreId) (x : Ctx) : (s.setCtx c x).dma = s.dma := rfl
@[simp] theorem State.setCtx_spcs (s : State) (c : CoreId) (x : Ctx) : (s.setCtx c x).spcs = s.spcs := rfl
@[simp] theorem State.setCtx_pwr (s : State) (c : CoreId) (x : Ctx) : (s.setCtx c x).pwr = s.pwr := rfl
@[simp] theorem State.setCtx_pcn (s : State) (c : CoreId) (x : Ctx) : (s.setCtx c x).pcn = s.pcn := rfl
@[simp] theorem State.setCtx_alm (s : State) (c : CoreId) (x : Ctx) : (s.setCtx c x).alm = s.alm := rfl
@[simp] theorem State.setCtx_svc (s : State) (c : CoreId) (x : Ctx) : (s.setCtx c x).svc = s.svc := rfl
@[simp] theorem State.setCtx_sec (s : State) (c : CoreId) (x : Ctx) : (s.setCtx c x).sec = s.sec := rfl

/-! ### setGreg -/

@[simp] theorem State.setGreg_pending (s : State) (c : CoreId) (n : Nat) (v : Word) : (s.setGreg c n v).pending = s.pending := rfl
@[simp] theorem State.setGreg_now (s : State) (c : CoreId) (n : Nat) (v : Word) : (s.setGreg c n v).now = s.now := rfl
@[simp] theorem State.setGreg_ftOff (s : State) (c : CoreId) (n : Nat) (v : Word) : (s.setGreg c n v).ftOff = s.ftOff := rfl
@[simp] theorem State.setGreg_slew (s : State) (c : CoreId) (n : Nat) (v : Word) : (s.setGreg c n v).slew = s.slew := rfl
@[simp] theorem State.setGreg_stepPs (s : State) (c : CoreId) (n : Nat) (v : Word) : (s.setGreg c n v).stepPs = s.stepPs := rfl
@[simp] theorem State.setGreg_syncRoot (s : State) (c : CoreId) (n : Nat) (v : Word) : (s.setGreg c n v).syncRoot = s.syncRoot := rfl
@[simp] theorem State.setGreg_fv (s : State) (c : CoreId) (n : Nat) (v : Word) : (s.setGreg c n v).fv = s.fv := rfl
@[simp] theorem State.setGreg_out (s : State) (c : CoreId) (n : Nat) (v : Word) : (s.setGreg c n v).out = s.out := rfl
@[simp] theorem State.setGreg_hung (s : State) (c : CoreId) (n : Nat) (v : Word) : (s.setGreg c n v).hung = s.hung := rfl
@[simp] theorem State.setGreg_regs (s : State) (c : CoreId) (n : Nat) (v : Word) : (s.setGreg c n v).regs = s.regs := rfl
@[simp] theorem State.setGreg_past (s : State) (c : CoreId) (n : Nat) (v : Word) : (s.setGreg c n v).past = s.past := rfl
@[simp] theorem State.setGreg_tmem (s : State) (c : CoreId) (n : Nat) (v : Word) : (s.setGreg c n v).tmem = s.tmem := rfl
@[simp] theorem State.setGreg_cmem (s : State) (c : CoreId) (n : Nat) (v : Word) : (s.setGreg c n v).cmem = s.cmem := rfl
@[simp] theorem State.setGreg_evt (s : State) (c : CoreId) (n : Nat) (v : Word) : (s.setGreg c n v).evt = s.evt := rfl
@[simp] theorem State.setGreg_pkts (s : State) (c : CoreId) (n : Nat) (v : Word) : (s.setGreg c n v).pkts = s.pkts := rfl
@[simp] theorem State.setGreg_pktNext (s : State) (c : CoreId) (n : Nat) (v : Word) : (s.setGreg c n v).pktNext = s.pktNext := rfl
@[simp] theorem State.setGreg_ldg (s : State) (c : CoreId) (n : Nat) (v : Word) : (s.setGreg c n v).ldg = s.ldg := rfl
@[simp] theorem State.setGreg_ses (s : State) (c : CoreId) (n : Nat) (v : Word) : (s.setGreg c n v).ses = s.ses := rfl
@[simp] theorem State.setGreg_links (s : State) (c : CoreId) (n : Nat) (v : Word) : (s.setGreg c n v).links = s.links := rfl
@[simp] theorem State.setGreg_phys (s : State) (c : CoreId) (n : Nat) (v : Word) : (s.setGreg c n v).phys = s.phys := rfl
@[simp] theorem State.setGreg_ports (s : State) (c : CoreId) (n : Nat) (v : Word) : (s.setGreg c n v).ports = s.ports := rfl
@[simp] theorem State.setGreg_perstIn (s : State) (c : CoreId) (n : Nat) (v : Word) : (s.setGreg c n v).perstIn = s.perstIn := rfl
@[simp] theorem State.setGreg_vdps (s : State) (c : CoreId) (n : Nat) (v : Word) : (s.setGreg c n v).vdps = s.vdps := rfl
@[simp] theorem State.setGreg_ups (s : State) (c : CoreId) (n : Nat) (v : Word) : (s.setGreg c n v).ups = s.ups := rfl
@[simp] theorem State.setGreg_tbl (s : State) (c : CoreId) (n : Nat) (v : Word) : (s.setGreg c n v).tbl = s.tbl := rfl
@[simp] theorem State.setGreg_hpl (s : State) (c : CoreId) (n : Nat) (v : Word) : (s.setGreg c n v).hpl = s.hpl := rfl
@[simp] theorem State.setGreg_sch (s : State) (c : CoreId) (n : Nat) (v : Word) : (s.setGreg c n v).sch = s.sch := rfl
@[simp] theorem State.setGreg_gln (s : State) (c : CoreId) (n : Nat) (v : Word) : (s.setGreg c n v).gln = s.gln := rfl
@[simp] theorem State.setGreg_ffn (s : State) (c : CoreId) (n : Nat) (v : Word) : (s.setGreg c n v).ffn = s.ffn := rfl
@[simp] theorem State.setGreg_dma (s : State) (c : CoreId) (n : Nat) (v : Word) : (s.setGreg c n v).dma = s.dma := rfl
@[simp] theorem State.setGreg_spcs (s : State) (c : CoreId) (n : Nat) (v : Word) : (s.setGreg c n v).spcs = s.spcs := rfl
@[simp] theorem State.setGreg_pwr (s : State) (c : CoreId) (n : Nat) (v : Word) : (s.setGreg c n v).pwr = s.pwr := rfl
@[simp] theorem State.setGreg_pcn (s : State) (c : CoreId) (n : Nat) (v : Word) : (s.setGreg c n v).pcn = s.pcn := rfl
@[simp] theorem State.setGreg_alm (s : State) (c : CoreId) (n : Nat) (v : Word) : (s.setGreg c n v).alm = s.alm := rfl
@[simp] theorem State.setGreg_svc (s : State) (c : CoreId) (n : Nat) (v : Word) : (s.setGreg c n v).svc = s.svc := rfl
@[simp] theorem State.setGreg_sec (s : State) (c : CoreId) (n : Nat) (v : Word) : (s.setGreg c n v).sec = s.sec := rfl

/-! ### setTByte -/

@[simp] theorem State.setTByte_pending (s : State) (a : Nat) (b : Byte) : (s.setTByte a b).pending = s.pending := rfl
@[simp] theorem State.setTByte_now (s : State) (a : Nat) (b : Byte) : (s.setTByte a b).now = s.now := rfl
@[simp] theorem State.setTByte_ftOff (s : State) (a : Nat) (b : Byte) : (s.setTByte a b).ftOff = s.ftOff := rfl
@[simp] theorem State.setTByte_slew (s : State) (a : Nat) (b : Byte) : (s.setTByte a b).slew = s.slew := rfl
@[simp] theorem State.setTByte_stepPs (s : State) (a : Nat) (b : Byte) : (s.setTByte a b).stepPs = s.stepPs := rfl
@[simp] theorem State.setTByte_syncRoot (s : State) (a : Nat) (b : Byte) : (s.setTByte a b).syncRoot = s.syncRoot := rfl
@[simp] theorem State.setTByte_fv (s : State) (a : Nat) (b : Byte) : (s.setTByte a b).fv = s.fv := rfl
@[simp] theorem State.setTByte_out (s : State) (a : Nat) (b : Byte) : (s.setTByte a b).out = s.out := rfl
@[simp] theorem State.setTByte_hung (s : State) (a : Nat) (b : Byte) : (s.setTByte a b).hung = s.hung := rfl
@[simp] theorem State.setTByte_regs (s : State) (a : Nat) (b : Byte) : (s.setTByte a b).regs = s.regs := rfl
@[simp] theorem State.setTByte_past (s : State) (a : Nat) (b : Byte) : (s.setTByte a b).past = s.past := rfl
@[simp] theorem State.setTByte_cmem (s : State) (a : Nat) (b : Byte) : (s.setTByte a b).cmem = s.cmem := rfl
@[simp] theorem State.setTByte_cores (s : State) (a : Nat) (b : Byte) : (s.setTByte a b).cores = s.cores := rfl
@[simp] theorem State.setTByte_evt (s : State) (a : Nat) (b : Byte) : (s.setTByte a b).evt = s.evt := rfl
@[simp] theorem State.setTByte_pkts (s : State) (a : Nat) (b : Byte) : (s.setTByte a b).pkts = s.pkts := rfl
@[simp] theorem State.setTByte_pktNext (s : State) (a : Nat) (b : Byte) : (s.setTByte a b).pktNext = s.pktNext := rfl
@[simp] theorem State.setTByte_ldg (s : State) (a : Nat) (b : Byte) : (s.setTByte a b).ldg = s.ldg := rfl
@[simp] theorem State.setTByte_ses (s : State) (a : Nat) (b : Byte) : (s.setTByte a b).ses = s.ses := rfl
@[simp] theorem State.setTByte_links (s : State) (a : Nat) (b : Byte) : (s.setTByte a b).links = s.links := rfl
@[simp] theorem State.setTByte_phys (s : State) (a : Nat) (b : Byte) : (s.setTByte a b).phys = s.phys := rfl
@[simp] theorem State.setTByte_ports (s : State) (a : Nat) (b : Byte) : (s.setTByte a b).ports = s.ports := rfl
@[simp] theorem State.setTByte_perstIn (s : State) (a : Nat) (b : Byte) : (s.setTByte a b).perstIn = s.perstIn := rfl
@[simp] theorem State.setTByte_vdps (s : State) (a : Nat) (b : Byte) : (s.setTByte a b).vdps = s.vdps := rfl
@[simp] theorem State.setTByte_ups (s : State) (a : Nat) (b : Byte) : (s.setTByte a b).ups = s.ups := rfl
@[simp] theorem State.setTByte_tbl (s : State) (a : Nat) (b : Byte) : (s.setTByte a b).tbl = s.tbl := rfl
@[simp] theorem State.setTByte_hpl (s : State) (a : Nat) (b : Byte) : (s.setTByte a b).hpl = s.hpl := rfl
@[simp] theorem State.setTByte_sch (s : State) (a : Nat) (b : Byte) : (s.setTByte a b).sch = s.sch := rfl
@[simp] theorem State.setTByte_gln (s : State) (a : Nat) (b : Byte) : (s.setTByte a b).gln = s.gln := rfl
@[simp] theorem State.setTByte_ffn (s : State) (a : Nat) (b : Byte) : (s.setTByte a b).ffn = s.ffn := rfl
@[simp] theorem State.setTByte_dma (s : State) (a : Nat) (b : Byte) : (s.setTByte a b).dma = s.dma := rfl
@[simp] theorem State.setTByte_spcs (s : State) (a : Nat) (b : Byte) : (s.setTByte a b).spcs = s.spcs := rfl
@[simp] theorem State.setTByte_pwr (s : State) (a : Nat) (b : Byte) : (s.setTByte a b).pwr = s.pwr := rfl
@[simp] theorem State.setTByte_pcn (s : State) (a : Nat) (b : Byte) : (s.setTByte a b).pcn = s.pcn := rfl
@[simp] theorem State.setTByte_alm (s : State) (a : Nat) (b : Byte) : (s.setTByte a b).alm = s.alm := rfl
@[simp] theorem State.setTByte_svc (s : State) (a : Nat) (b : Byte) : (s.setTByte a b).svc = s.svc := rfl
@[simp] theorem State.setTByte_sec (s : State) (a : Nat) (b : Byte) : (s.setTByte a b).sec = s.sec := rfl

/-! ### setCByte -/

@[simp] theorem State.setCByte_pending (s : State) (c a : Nat) (b : Byte) : (s.setCByte c a b).pending = s.pending := rfl
@[simp] theorem State.setCByte_now (s : State) (c a : Nat) (b : Byte) : (s.setCByte c a b).now = s.now := rfl
@[simp] theorem State.setCByte_ftOff (s : State) (c a : Nat) (b : Byte) : (s.setCByte c a b).ftOff = s.ftOff := rfl
@[simp] theorem State.setCByte_slew (s : State) (c a : Nat) (b : Byte) : (s.setCByte c a b).slew = s.slew := rfl
@[simp] theorem State.setCByte_stepPs (s : State) (c a : Nat) (b : Byte) : (s.setCByte c a b).stepPs = s.stepPs := rfl
@[simp] theorem State.setCByte_syncRoot (s : State) (c a : Nat) (b : Byte) : (s.setCByte c a b).syncRoot = s.syncRoot := rfl
@[simp] theorem State.setCByte_fv (s : State) (c a : Nat) (b : Byte) : (s.setCByte c a b).fv = s.fv := rfl
@[simp] theorem State.setCByte_out (s : State) (c a : Nat) (b : Byte) : (s.setCByte c a b).out = s.out := rfl
@[simp] theorem State.setCByte_hung (s : State) (c a : Nat) (b : Byte) : (s.setCByte c a b).hung = s.hung := rfl
@[simp] theorem State.setCByte_regs (s : State) (c a : Nat) (b : Byte) : (s.setCByte c a b).regs = s.regs := rfl
@[simp] theorem State.setCByte_past (s : State) (c a : Nat) (b : Byte) : (s.setCByte c a b).past = s.past := rfl
@[simp] theorem State.setCByte_tmem (s : State) (c a : Nat) (b : Byte) : (s.setCByte c a b).tmem = s.tmem := rfl
@[simp] theorem State.setCByte_cores (s : State) (c a : Nat) (b : Byte) : (s.setCByte c a b).cores = s.cores := rfl
@[simp] theorem State.setCByte_evt (s : State) (c a : Nat) (b : Byte) : (s.setCByte c a b).evt = s.evt := rfl
@[simp] theorem State.setCByte_pkts (s : State) (c a : Nat) (b : Byte) : (s.setCByte c a b).pkts = s.pkts := rfl
@[simp] theorem State.setCByte_pktNext (s : State) (c a : Nat) (b : Byte) : (s.setCByte c a b).pktNext = s.pktNext := rfl
@[simp] theorem State.setCByte_ldg (s : State) (c a : Nat) (b : Byte) : (s.setCByte c a b).ldg = s.ldg := rfl
@[simp] theorem State.setCByte_ses (s : State) (c a : Nat) (b : Byte) : (s.setCByte c a b).ses = s.ses := rfl
@[simp] theorem State.setCByte_links (s : State) (c a : Nat) (b : Byte) : (s.setCByte c a b).links = s.links := rfl
@[simp] theorem State.setCByte_phys (s : State) (c a : Nat) (b : Byte) : (s.setCByte c a b).phys = s.phys := rfl
@[simp] theorem State.setCByte_ports (s : State) (c a : Nat) (b : Byte) : (s.setCByte c a b).ports = s.ports := rfl
@[simp] theorem State.setCByte_perstIn (s : State) (c a : Nat) (b : Byte) : (s.setCByte c a b).perstIn = s.perstIn := rfl
@[simp] theorem State.setCByte_vdps (s : State) (c a : Nat) (b : Byte) : (s.setCByte c a b).vdps = s.vdps := rfl
@[simp] theorem State.setCByte_ups (s : State) (c a : Nat) (b : Byte) : (s.setCByte c a b).ups = s.ups := rfl
@[simp] theorem State.setCByte_tbl (s : State) (c a : Nat) (b : Byte) : (s.setCByte c a b).tbl = s.tbl := rfl
@[simp] theorem State.setCByte_hpl (s : State) (c a : Nat) (b : Byte) : (s.setCByte c a b).hpl = s.hpl := rfl
@[simp] theorem State.setCByte_sch (s : State) (c a : Nat) (b : Byte) : (s.setCByte c a b).sch = s.sch := rfl
@[simp] theorem State.setCByte_gln (s : State) (c a : Nat) (b : Byte) : (s.setCByte c a b).gln = s.gln := rfl
@[simp] theorem State.setCByte_ffn (s : State) (c a : Nat) (b : Byte) : (s.setCByte c a b).ffn = s.ffn := rfl
@[simp] theorem State.setCByte_dma (s : State) (c a : Nat) (b : Byte) : (s.setCByte c a b).dma = s.dma := rfl
@[simp] theorem State.setCByte_spcs (s : State) (c a : Nat) (b : Byte) : (s.setCByte c a b).spcs = s.spcs := rfl
@[simp] theorem State.setCByte_pwr (s : State) (c a : Nat) (b : Byte) : (s.setCByte c a b).pwr = s.pwr := rfl
@[simp] theorem State.setCByte_pcn (s : State) (c a : Nat) (b : Byte) : (s.setCByte c a b).pcn = s.pcn := rfl
@[simp] theorem State.setCByte_alm (s : State) (c a : Nat) (b : Byte) : (s.setCByte c a b).alm = s.alm := rfl
@[simp] theorem State.setCByte_svc (s : State) (c a : Nat) (b : Byte) : (s.setCByte c a b).svc = s.svc := rfl
@[simp] theorem State.setCByte_sec (s : State) (c a : Nat) (b : Byte) : (s.setCByte c a b).sec = s.sec := rfl

/-! ### setLink -/

@[simp] theorem State.setLink_pending (s : State) (n : Nat) (l : Link) : (s.setLink n l).pending = s.pending := rfl
@[simp] theorem State.setLink_now (s : State) (n : Nat) (l : Link) : (s.setLink n l).now = s.now := rfl
@[simp] theorem State.setLink_ftOff (s : State) (n : Nat) (l : Link) : (s.setLink n l).ftOff = s.ftOff := rfl
@[simp] theorem State.setLink_slew (s : State) (n : Nat) (l : Link) : (s.setLink n l).slew = s.slew := rfl
@[simp] theorem State.setLink_stepPs (s : State) (n : Nat) (l : Link) : (s.setLink n l).stepPs = s.stepPs := rfl
@[simp] theorem State.setLink_syncRoot (s : State) (n : Nat) (l : Link) : (s.setLink n l).syncRoot = s.syncRoot := rfl
@[simp] theorem State.setLink_fv (s : State) (n : Nat) (l : Link) : (s.setLink n l).fv = s.fv := rfl
@[simp] theorem State.setLink_out (s : State) (n : Nat) (l : Link) : (s.setLink n l).out = s.out := rfl
@[simp] theorem State.setLink_hung (s : State) (n : Nat) (l : Link) : (s.setLink n l).hung = s.hung := rfl
@[simp] theorem State.setLink_regs (s : State) (n : Nat) (l : Link) : (s.setLink n l).regs = s.regs := rfl
@[simp] theorem State.setLink_past (s : State) (n : Nat) (l : Link) : (s.setLink n l).past = s.past := rfl
@[simp] theorem State.setLink_tmem (s : State) (n : Nat) (l : Link) : (s.setLink n l).tmem = s.tmem := rfl
@[simp] theorem State.setLink_cmem (s : State) (n : Nat) (l : Link) : (s.setLink n l).cmem = s.cmem := rfl
@[simp] theorem State.setLink_cores (s : State) (n : Nat) (l : Link) : (s.setLink n l).cores = s.cores := rfl
@[simp] theorem State.setLink_evt (s : State) (n : Nat) (l : Link) : (s.setLink n l).evt = s.evt := rfl
@[simp] theorem State.setLink_pkts (s : State) (n : Nat) (l : Link) : (s.setLink n l).pkts = s.pkts := rfl
@[simp] theorem State.setLink_pktNext (s : State) (n : Nat) (l : Link) : (s.setLink n l).pktNext = s.pktNext := rfl
@[simp] theorem State.setLink_ldg (s : State) (n : Nat) (l : Link) : (s.setLink n l).ldg = s.ldg := rfl
@[simp] theorem State.setLink_ses (s : State) (n : Nat) (l : Link) : (s.setLink n l).ses = s.ses := rfl
@[simp] theorem State.setLink_phys (s : State) (n : Nat) (l : Link) : (s.setLink n l).phys = s.phys := rfl
@[simp] theorem State.setLink_ports (s : State) (n : Nat) (l : Link) : (s.setLink n l).ports = s.ports := rfl
@[simp] theorem State.setLink_perstIn (s : State) (n : Nat) (l : Link) : (s.setLink n l).perstIn = s.perstIn := rfl
@[simp] theorem State.setLink_vdps (s : State) (n : Nat) (l : Link) : (s.setLink n l).vdps = s.vdps := rfl
@[simp] theorem State.setLink_ups (s : State) (n : Nat) (l : Link) : (s.setLink n l).ups = s.ups := rfl
@[simp] theorem State.setLink_tbl (s : State) (n : Nat) (l : Link) : (s.setLink n l).tbl = s.tbl := rfl
@[simp] theorem State.setLink_hpl (s : State) (n : Nat) (l : Link) : (s.setLink n l).hpl = s.hpl := rfl
@[simp] theorem State.setLink_sch (s : State) (n : Nat) (l : Link) : (s.setLink n l).sch = s.sch := rfl
@[simp] theorem State.setLink_gln (s : State) (n : Nat) (l : Link) : (s.setLink n l).gln = s.gln := rfl
@[simp] theorem State.setLink_ffn (s : State) (n : Nat) (l : Link) : (s.setLink n l).ffn = s.ffn := rfl
@[simp] theorem State.setLink_dma (s : State) (n : Nat) (l : Link) : (s.setLink n l).dma = s.dma := rfl
@[simp] theorem State.setLink_spcs (s : State) (n : Nat) (l : Link) : (s.setLink n l).spcs = s.spcs := rfl
@[simp] theorem State.setLink_pwr (s : State) (n : Nat) (l : Link) : (s.setLink n l).pwr = s.pwr := rfl
@[simp] theorem State.setLink_pcn (s : State) (n : Nat) (l : Link) : (s.setLink n l).pcn = s.pcn := rfl
@[simp] theorem State.setLink_alm (s : State) (n : Nat) (l : Link) : (s.setLink n l).alm = s.alm := rfl
@[simp] theorem State.setLink_svc (s : State) (n : Nat) (l : Link) : (s.setLink n l).svc = s.svc := rfl
@[simp] theorem State.setLink_sec (s : State) (n : Nat) (l : Link) : (s.setLink n l).sec = s.sec := rfl

/-! ### setPhy -/

@[simp] theorem State.setPhy_pending (s : State) (n : Nat) (x : Phy) : (s.setPhy n x).pending = s.pending := rfl
@[simp] theorem State.setPhy_now (s : State) (n : Nat) (x : Phy) : (s.setPhy n x).now = s.now := rfl
@[simp] theorem State.setPhy_ftOff (s : State) (n : Nat) (x : Phy) : (s.setPhy n x).ftOff = s.ftOff := rfl
@[simp] theorem State.setPhy_slew (s : State) (n : Nat) (x : Phy) : (s.setPhy n x).slew = s.slew := rfl
@[simp] theorem State.setPhy_stepPs (s : State) (n : Nat) (x : Phy) : (s.setPhy n x).stepPs = s.stepPs := rfl
@[simp] theorem State.setPhy_syncRoot (s : State) (n : Nat) (x : Phy) : (s.setPhy n x).syncRoot = s.syncRoot := rfl
@[simp] theorem State.setPhy_fv (s : State) (n : Nat) (x : Phy) : (s.setPhy n x).fv = s.fv := rfl
@[simp] theorem State.setPhy_out (s : State) (n : Nat) (x : Phy) : (s.setPhy n x).out = s.out := rfl
@[simp] theorem State.setPhy_hung (s : State) (n : Nat) (x : Phy) : (s.setPhy n x).hung = s.hung := rfl
@[simp] theorem State.setPhy_regs (s : State) (n : Nat) (x : Phy) : (s.setPhy n x).regs = s.regs := rfl
@[simp] theorem State.setPhy_past (s : State) (n : Nat) (x : Phy) : (s.setPhy n x).past = s.past := rfl
@[simp] theorem State.setPhy_tmem (s : State) (n : Nat) (x : Phy) : (s.setPhy n x).tmem = s.tmem := rfl
@[simp] theorem State.setPhy_cmem (s : State) (n : Nat) (x : Phy) : (s.setPhy n x).cmem = s.cmem := rfl
@[simp] theorem State.setPhy_cores (s : State) (n : Nat) (x : Phy) : (s.setPhy n x).cores = s.cores := rfl
@[simp] theorem State.setPhy_evt (s : State) (n : Nat) (x : Phy) : (s.setPhy n x).evt = s.evt := rfl
@[simp] theorem State.setPhy_pkts (s : State) (n : Nat) (x : Phy) : (s.setPhy n x).pkts = s.pkts := rfl
@[simp] theorem State.setPhy_pktNext (s : State) (n : Nat) (x : Phy) : (s.setPhy n x).pktNext = s.pktNext := rfl
@[simp] theorem State.setPhy_ldg (s : State) (n : Nat) (x : Phy) : (s.setPhy n x).ldg = s.ldg := rfl
@[simp] theorem State.setPhy_ses (s : State) (n : Nat) (x : Phy) : (s.setPhy n x).ses = s.ses := rfl
@[simp] theorem State.setPhy_links (s : State) (n : Nat) (x : Phy) : (s.setPhy n x).links = s.links := rfl
@[simp] theorem State.setPhy_ports (s : State) (n : Nat) (x : Phy) : (s.setPhy n x).ports = s.ports := rfl
@[simp] theorem State.setPhy_perstIn (s : State) (n : Nat) (x : Phy) : (s.setPhy n x).perstIn = s.perstIn := rfl
@[simp] theorem State.setPhy_vdps (s : State) (n : Nat) (x : Phy) : (s.setPhy n x).vdps = s.vdps := rfl
@[simp] theorem State.setPhy_ups (s : State) (n : Nat) (x : Phy) : (s.setPhy n x).ups = s.ups := rfl
@[simp] theorem State.setPhy_tbl (s : State) (n : Nat) (x : Phy) : (s.setPhy n x).tbl = s.tbl := rfl
@[simp] theorem State.setPhy_hpl (s : State) (n : Nat) (x : Phy) : (s.setPhy n x).hpl = s.hpl := rfl
@[simp] theorem State.setPhy_sch (s : State) (n : Nat) (x : Phy) : (s.setPhy n x).sch = s.sch := rfl
@[simp] theorem State.setPhy_gln (s : State) (n : Nat) (x : Phy) : (s.setPhy n x).gln = s.gln := rfl
@[simp] theorem State.setPhy_ffn (s : State) (n : Nat) (x : Phy) : (s.setPhy n x).ffn = s.ffn := rfl
@[simp] theorem State.setPhy_dma (s : State) (n : Nat) (x : Phy) : (s.setPhy n x).dma = s.dma := rfl
@[simp] theorem State.setPhy_spcs (s : State) (n : Nat) (x : Phy) : (s.setPhy n x).spcs = s.spcs := rfl
@[simp] theorem State.setPhy_pwr (s : State) (n : Nat) (x : Phy) : (s.setPhy n x).pwr = s.pwr := rfl
@[simp] theorem State.setPhy_pcn (s : State) (n : Nat) (x : Phy) : (s.setPhy n x).pcn = s.pcn := rfl
@[simp] theorem State.setPhy_alm (s : State) (n : Nat) (x : Phy) : (s.setPhy n x).alm = s.alm := rfl
@[simp] theorem State.setPhy_svc (s : State) (n : Nat) (x : Phy) : (s.setPhy n x).svc = s.svc := rfl
@[simp] theorem State.setPhy_sec (s : State) (n : Nat) (x : Phy) : (s.setPhy n x).sec = s.sec := rfl

/-! ### setPort -/

@[simp] theorem State.setPort_pending (s : State) (p : Nat) (x : PciPort) : (s.setPort p x).pending = s.pending := rfl
@[simp] theorem State.setPort_now (s : State) (p : Nat) (x : PciPort) : (s.setPort p x).now = s.now := rfl
@[simp] theorem State.setPort_ftOff (s : State) (p : Nat) (x : PciPort) : (s.setPort p x).ftOff = s.ftOff := rfl
@[simp] theorem State.setPort_slew (s : State) (p : Nat) (x : PciPort) : (s.setPort p x).slew = s.slew := rfl
@[simp] theorem State.setPort_stepPs (s : State) (p : Nat) (x : PciPort) : (s.setPort p x).stepPs = s.stepPs := rfl
@[simp] theorem State.setPort_syncRoot (s : State) (p : Nat) (x : PciPort) : (s.setPort p x).syncRoot = s.syncRoot := rfl
@[simp] theorem State.setPort_fv (s : State) (p : Nat) (x : PciPort) : (s.setPort p x).fv = s.fv := rfl
@[simp] theorem State.setPort_out (s : State) (p : Nat) (x : PciPort) : (s.setPort p x).out = s.out := rfl
@[simp] theorem State.setPort_hung (s : State) (p : Nat) (x : PciPort) : (s.setPort p x).hung = s.hung := rfl
@[simp] theorem State.setPort_regs (s : State) (p : Nat) (x : PciPort) : (s.setPort p x).regs = s.regs := rfl
@[simp] theorem State.setPort_past (s : State) (p : Nat) (x : PciPort) : (s.setPort p x).past = s.past := rfl
@[simp] theorem State.setPort_tmem (s : State) (p : Nat) (x : PciPort) : (s.setPort p x).tmem = s.tmem := rfl
@[simp] theorem State.setPort_cmem (s : State) (p : Nat) (x : PciPort) : (s.setPort p x).cmem = s.cmem := rfl
@[simp] theorem State.setPort_cores (s : State) (p : Nat) (x : PciPort) : (s.setPort p x).cores = s.cores := rfl
@[simp] theorem State.setPort_evt (s : State) (p : Nat) (x : PciPort) : (s.setPort p x).evt = s.evt := rfl
@[simp] theorem State.setPort_pkts (s : State) (p : Nat) (x : PciPort) : (s.setPort p x).pkts = s.pkts := rfl
@[simp] theorem State.setPort_pktNext (s : State) (p : Nat) (x : PciPort) : (s.setPort p x).pktNext = s.pktNext := rfl
@[simp] theorem State.setPort_ldg (s : State) (p : Nat) (x : PciPort) : (s.setPort p x).ldg = s.ldg := rfl
@[simp] theorem State.setPort_ses (s : State) (p : Nat) (x : PciPort) : (s.setPort p x).ses = s.ses := rfl
@[simp] theorem State.setPort_links (s : State) (p : Nat) (x : PciPort) : (s.setPort p x).links = s.links := rfl
@[simp] theorem State.setPort_phys (s : State) (p : Nat) (x : PciPort) : (s.setPort p x).phys = s.phys := rfl
@[simp] theorem State.setPort_perstIn (s : State) (p : Nat) (x : PciPort) : (s.setPort p x).perstIn = s.perstIn := rfl
@[simp] theorem State.setPort_vdps (s : State) (p : Nat) (x : PciPort) : (s.setPort p x).vdps = s.vdps := rfl
@[simp] theorem State.setPort_ups (s : State) (p : Nat) (x : PciPort) : (s.setPort p x).ups = s.ups := rfl
@[simp] theorem State.setPort_tbl (s : State) (p : Nat) (x : PciPort) : (s.setPort p x).tbl = s.tbl := rfl
@[simp] theorem State.setPort_hpl (s : State) (p : Nat) (x : PciPort) : (s.setPort p x).hpl = s.hpl := rfl
@[simp] theorem State.setPort_sch (s : State) (p : Nat) (x : PciPort) : (s.setPort p x).sch = s.sch := rfl
@[simp] theorem State.setPort_gln (s : State) (p : Nat) (x : PciPort) : (s.setPort p x).gln = s.gln := rfl
@[simp] theorem State.setPort_ffn (s : State) (p : Nat) (x : PciPort) : (s.setPort p x).ffn = s.ffn := rfl
@[simp] theorem State.setPort_dma (s : State) (p : Nat) (x : PciPort) : (s.setPort p x).dma = s.dma := rfl
@[simp] theorem State.setPort_spcs (s : State) (p : Nat) (x : PciPort) : (s.setPort p x).spcs = s.spcs := rfl
@[simp] theorem State.setPort_pwr (s : State) (p : Nat) (x : PciPort) : (s.setPort p x).pwr = s.pwr := rfl
@[simp] theorem State.setPort_pcn (s : State) (p : Nat) (x : PciPort) : (s.setPort p x).pcn = s.pcn := rfl
@[simp] theorem State.setPort_alm (s : State) (p : Nat) (x : PciPort) : (s.setPort p x).alm = s.alm := rfl
@[simp] theorem State.setPort_svc (s : State) (p : Nat) (x : PciPort) : (s.setPort p x).svc = s.svc := rfl
@[simp] theorem State.setPort_sec (s : State) (p : Nat) (x : PciPort) : (s.setPort p x).sec = s.sec := rfl

/-! ### setUp -/

@[simp] theorem State.setUp_pending (s : State) (p : Nat) (x : UpBridge) : (s.setUp p x).pending = s.pending := rfl
@[simp] theorem State.setUp_now (s : State) (p : Nat) (x : UpBridge) : (s.setUp p x).now = s.now := rfl
@[simp] theorem State.setUp_ftOff (s : State) (p : Nat) (x : UpBridge) : (s.setUp p x).ftOff = s.ftOff := rfl
@[simp] theorem State.setUp_slew (s : State) (p : Nat) (x : UpBridge) : (s.setUp p x).slew = s.slew := rfl
@[simp] theorem State.setUp_stepPs (s : State) (p : Nat) (x : UpBridge) : (s.setUp p x).stepPs = s.stepPs := rfl
@[simp] theorem State.setUp_syncRoot (s : State) (p : Nat) (x : UpBridge) : (s.setUp p x).syncRoot = s.syncRoot := rfl
@[simp] theorem State.setUp_fv (s : State) (p : Nat) (x : UpBridge) : (s.setUp p x).fv = s.fv := rfl
@[simp] theorem State.setUp_out (s : State) (p : Nat) (x : UpBridge) : (s.setUp p x).out = s.out := rfl
@[simp] theorem State.setUp_hung (s : State) (p : Nat) (x : UpBridge) : (s.setUp p x).hung = s.hung := rfl
@[simp] theorem State.setUp_regs (s : State) (p : Nat) (x : UpBridge) : (s.setUp p x).regs = s.regs := rfl
@[simp] theorem State.setUp_past (s : State) (p : Nat) (x : UpBridge) : (s.setUp p x).past = s.past := rfl
@[simp] theorem State.setUp_tmem (s : State) (p : Nat) (x : UpBridge) : (s.setUp p x).tmem = s.tmem := rfl
@[simp] theorem State.setUp_cmem (s : State) (p : Nat) (x : UpBridge) : (s.setUp p x).cmem = s.cmem := rfl
@[simp] theorem State.setUp_cores (s : State) (p : Nat) (x : UpBridge) : (s.setUp p x).cores = s.cores := rfl
@[simp] theorem State.setUp_evt (s : State) (p : Nat) (x : UpBridge) : (s.setUp p x).evt = s.evt := rfl
@[simp] theorem State.setUp_pkts (s : State) (p : Nat) (x : UpBridge) : (s.setUp p x).pkts = s.pkts := rfl
@[simp] theorem State.setUp_pktNext (s : State) (p : Nat) (x : UpBridge) : (s.setUp p x).pktNext = s.pktNext := rfl
@[simp] theorem State.setUp_ldg (s : State) (p : Nat) (x : UpBridge) : (s.setUp p x).ldg = s.ldg := rfl
@[simp] theorem State.setUp_ses (s : State) (p : Nat) (x : UpBridge) : (s.setUp p x).ses = s.ses := rfl
@[simp] theorem State.setUp_links (s : State) (p : Nat) (x : UpBridge) : (s.setUp p x).links = s.links := rfl
@[simp] theorem State.setUp_phys (s : State) (p : Nat) (x : UpBridge) : (s.setUp p x).phys = s.phys := rfl
@[simp] theorem State.setUp_ports (s : State) (p : Nat) (x : UpBridge) : (s.setUp p x).ports = s.ports := rfl
@[simp] theorem State.setUp_perstIn (s : State) (p : Nat) (x : UpBridge) : (s.setUp p x).perstIn = s.perstIn := rfl
@[simp] theorem State.setUp_vdps (s : State) (p : Nat) (x : UpBridge) : (s.setUp p x).vdps = s.vdps := rfl
@[simp] theorem State.setUp_tbl (s : State) (p : Nat) (x : UpBridge) : (s.setUp p x).tbl = s.tbl := rfl
@[simp] theorem State.setUp_hpl (s : State) (p : Nat) (x : UpBridge) : (s.setUp p x).hpl = s.hpl := rfl
@[simp] theorem State.setUp_sch (s : State) (p : Nat) (x : UpBridge) : (s.setUp p x).sch = s.sch := rfl
@[simp] theorem State.setUp_gln (s : State) (p : Nat) (x : UpBridge) : (s.setUp p x).gln = s.gln := rfl
@[simp] theorem State.setUp_ffn (s : State) (p : Nat) (x : UpBridge) : (s.setUp p x).ffn = s.ffn := rfl
@[simp] theorem State.setUp_dma (s : State) (p : Nat) (x : UpBridge) : (s.setUp p x).dma = s.dma := rfl
@[simp] theorem State.setUp_spcs (s : State) (p : Nat) (x : UpBridge) : (s.setUp p x).spcs = s.spcs := rfl
@[simp] theorem State.setUp_pwr (s : State) (p : Nat) (x : UpBridge) : (s.setUp p x).pwr = s.pwr := rfl
@[simp] theorem State.setUp_pcn (s : State) (p : Nat) (x : UpBridge) : (s.setUp p x).pcn = s.pcn := rfl
@[simp] theorem State.setUp_alm (s : State) (p : Nat) (x : UpBridge) : (s.setUp p x).alm = s.alm := rfl
@[simp] theorem State.setUp_svc (s : State) (p : Nat) (x : UpBridge) : (s.setUp p x).svc = s.svc := rfl
@[simp] theorem State.setUp_sec (s : State) (p : Nat) (x : UpBridge) : (s.setUp p x).sec = s.sec := rfl

/-! ### setSpc -/

@[simp] theorem State.setSpc_pending (s : State) (i : Nat) (c : Spc) : (s.setSpc i c).pending = s.pending := rfl
@[simp] theorem State.setSpc_now (s : State) (i : Nat) (c : Spc) : (s.setSpc i c).now = s.now := rfl
@[simp] theorem State.setSpc_ftOff (s : State) (i : Nat) (c : Spc) : (s.setSpc i c).ftOff = s.ftOff := rfl
@[simp] theorem State.setSpc_slew (s : State) (i : Nat) (c : Spc) : (s.setSpc i c).slew = s.slew := rfl
@[simp] theorem State.setSpc_stepPs (s : State) (i : Nat) (c : Spc) : (s.setSpc i c).stepPs = s.stepPs := rfl
@[simp] theorem State.setSpc_syncRoot (s : State) (i : Nat) (c : Spc) : (s.setSpc i c).syncRoot = s.syncRoot := rfl
@[simp] theorem State.setSpc_fv (s : State) (i : Nat) (c : Spc) : (s.setSpc i c).fv = s.fv := rfl
@[simp] theorem State.setSpc_out (s : State) (i : Nat) (c : Spc) : (s.setSpc i c).out = s.out := rfl
@[simp] theorem State.setSpc_hung (s : State) (i : Nat) (c : Spc) : (s.setSpc i c).hung = s.hung := rfl
@[simp] theorem State.setSpc_regs (s : State) (i : Nat) (c : Spc) : (s.setSpc i c).regs = s.regs := rfl
@[simp] theorem State.setSpc_past (s : State) (i : Nat) (c : Spc) : (s.setSpc i c).past = s.past := rfl
@[simp] theorem State.setSpc_tmem (s : State) (i : Nat) (c : Spc) : (s.setSpc i c).tmem = s.tmem := rfl
@[simp] theorem State.setSpc_cmem (s : State) (i : Nat) (c : Spc) : (s.setSpc i c).cmem = s.cmem := rfl
@[simp] theorem State.setSpc_cores (s : State) (i : Nat) (c : Spc) : (s.setSpc i c).cores = s.cores := rfl
@[simp] theorem State.setSpc_evt (s : State) (i : Nat) (c : Spc) : (s.setSpc i c).evt = s.evt := rfl
@[simp] theorem State.setSpc_pkts (s : State) (i : Nat) (c : Spc) : (s.setSpc i c).pkts = s.pkts := rfl
@[simp] theorem State.setSpc_pktNext (s : State) (i : Nat) (c : Spc) : (s.setSpc i c).pktNext = s.pktNext := rfl
@[simp] theorem State.setSpc_ldg (s : State) (i : Nat) (c : Spc) : (s.setSpc i c).ldg = s.ldg := rfl
@[simp] theorem State.setSpc_ses (s : State) (i : Nat) (c : Spc) : (s.setSpc i c).ses = s.ses := rfl
@[simp] theorem State.setSpc_links (s : State) (i : Nat) (c : Spc) : (s.setSpc i c).links = s.links := rfl
@[simp] theorem State.setSpc_phys (s : State) (i : Nat) (c : Spc) : (s.setSpc i c).phys = s.phys := rfl
@[simp] theorem State.setSpc_ports (s : State) (i : Nat) (c : Spc) : (s.setSpc i c).ports = s.ports := rfl
@[simp] theorem State.setSpc_perstIn (s : State) (i : Nat) (c : Spc) : (s.setSpc i c).perstIn = s.perstIn := rfl
@[simp] theorem State.setSpc_vdps (s : State) (i : Nat) (c : Spc) : (s.setSpc i c).vdps = s.vdps := rfl
@[simp] theorem State.setSpc_ups (s : State) (i : Nat) (c : Spc) : (s.setSpc i c).ups = s.ups := rfl
@[simp] theorem State.setSpc_tbl (s : State) (i : Nat) (c : Spc) : (s.setSpc i c).tbl = s.tbl := rfl
@[simp] theorem State.setSpc_hpl (s : State) (i : Nat) (c : Spc) : (s.setSpc i c).hpl = s.hpl := rfl
@[simp] theorem State.setSpc_sch (s : State) (i : Nat) (c : Spc) : (s.setSpc i c).sch = s.sch := rfl
@[simp] theorem State.setSpc_gln (s : State) (i : Nat) (c : Spc) : (s.setSpc i c).gln = s.gln := rfl
@[simp] theorem State.setSpc_ffn (s : State) (i : Nat) (c : Spc) : (s.setSpc i c).ffn = s.ffn := rfl
@[simp] theorem State.setSpc_dma (s : State) (i : Nat) (c : Spc) : (s.setSpc i c).dma = s.dma := rfl
@[simp] theorem State.setSpc_pwr (s : State) (i : Nat) (c : Spc) : (s.setSpc i c).pwr = s.pwr := rfl
@[simp] theorem State.setSpc_pcn (s : State) (i : Nat) (c : Spc) : (s.setSpc i c).pcn = s.pcn := rfl
@[simp] theorem State.setSpc_alm (s : State) (i : Nat) (c : Spc) : (s.setSpc i c).alm = s.alm := rfl
@[simp] theorem State.setSpc_svc (s : State) (i : Nat) (c : Spc) : (s.setSpc i c).svc = s.svc := rfl
@[simp] theorem State.setSpc_sec (s : State) (i : Nat) (c : Spc) : (s.setSpc i c).sec = s.sec := rfl

/-! ### setPkt -/

@[simp] theorem State.setPkt_pending (s : State) (k : Pkt) : (s.setPkt k).pending = s.pending := rfl
@[simp] theorem State.setPkt_now (s : State) (k : Pkt) : (s.setPkt k).now = s.now := rfl
@[simp] theorem State.setPkt_ftOff (s : State) (k : Pkt) : (s.setPkt k).ftOff = s.ftOff := rfl
@[simp] theorem State.setPkt_slew (s : State) (k : Pkt) : (s.setPkt k).slew = s.slew := rfl
@[simp] theorem State.setPkt_stepPs (s : State) (k : Pkt) : (s.setPkt k).stepPs = s.stepPs := rfl
@[simp] theorem State.setPkt_syncRoot (s : State) (k : Pkt) : (s.setPkt k).syncRoot = s.syncRoot := rfl
@[simp] theorem State.setPkt_fv (s : State) (k : Pkt) : (s.setPkt k).fv = s.fv := rfl
@[simp] theorem State.setPkt_out (s : State) (k : Pkt) : (s.setPkt k).out = s.out := rfl
@[simp] theorem State.setPkt_hung (s : State) (k : Pkt) : (s.setPkt k).hung = s.hung := rfl
@[simp] theorem State.setPkt_regs (s : State) (k : Pkt) : (s.setPkt k).regs = s.regs := rfl
@[simp] theorem State.setPkt_past (s : State) (k : Pkt) : (s.setPkt k).past = s.past := rfl
@[simp] theorem State.setPkt_tmem (s : State) (k : Pkt) : (s.setPkt k).tmem = s.tmem := rfl
@[simp] theorem State.setPkt_cmem (s : State) (k : Pkt) : (s.setPkt k).cmem = s.cmem := rfl
@[simp] theorem State.setPkt_cores (s : State) (k : Pkt) : (s.setPkt k).cores = s.cores := rfl
@[simp] theorem State.setPkt_evt (s : State) (k : Pkt) : (s.setPkt k).evt = s.evt := rfl
@[simp] theorem State.setPkt_pktNext (s : State) (k : Pkt) : (s.setPkt k).pktNext = s.pktNext := rfl
@[simp] theorem State.setPkt_ldg (s : State) (k : Pkt) : (s.setPkt k).ldg = s.ldg := rfl
@[simp] theorem State.setPkt_ses (s : State) (k : Pkt) : (s.setPkt k).ses = s.ses := rfl
@[simp] theorem State.setPkt_links (s : State) (k : Pkt) : (s.setPkt k).links = s.links := rfl
@[simp] theorem State.setPkt_phys (s : State) (k : Pkt) : (s.setPkt k).phys = s.phys := rfl
@[simp] theorem State.setPkt_ports (s : State) (k : Pkt) : (s.setPkt k).ports = s.ports := rfl
@[simp] theorem State.setPkt_perstIn (s : State) (k : Pkt) : (s.setPkt k).perstIn = s.perstIn := rfl
@[simp] theorem State.setPkt_vdps (s : State) (k : Pkt) : (s.setPkt k).vdps = s.vdps := rfl
@[simp] theorem State.setPkt_ups (s : State) (k : Pkt) : (s.setPkt k).ups = s.ups := rfl
@[simp] theorem State.setPkt_tbl (s : State) (k : Pkt) : (s.setPkt k).tbl = s.tbl := rfl
@[simp] theorem State.setPkt_hpl (s : State) (k : Pkt) : (s.setPkt k).hpl = s.hpl := rfl
@[simp] theorem State.setPkt_sch (s : State) (k : Pkt) : (s.setPkt k).sch = s.sch := rfl
@[simp] theorem State.setPkt_gln (s : State) (k : Pkt) : (s.setPkt k).gln = s.gln := rfl
@[simp] theorem State.setPkt_ffn (s : State) (k : Pkt) : (s.setPkt k).ffn = s.ffn := rfl
@[simp] theorem State.setPkt_dma (s : State) (k : Pkt) : (s.setPkt k).dma = s.dma := rfl
@[simp] theorem State.setPkt_spcs (s : State) (k : Pkt) : (s.setPkt k).spcs = s.spcs := rfl
@[simp] theorem State.setPkt_pwr (s : State) (k : Pkt) : (s.setPkt k).pwr = s.pwr := rfl
@[simp] theorem State.setPkt_pcn (s : State) (k : Pkt) : (s.setPkt k).pcn = s.pcn := rfl
@[simp] theorem State.setPkt_alm (s : State) (k : Pkt) : (s.setPkt k).alm = s.alm := rfl
@[simp] theorem State.setPkt_svc (s : State) (k : Pkt) : (s.setPkt k).svc = s.svc := rfl
@[simp] theorem State.setPkt_sec (s : State) (k : Pkt) : (s.setPkt k).sec = s.sec := rfl

/-! ### addPkt -/

@[simp] theorem State.addPkt_pending (s : State) (k : Pkt) : (s.addPkt k).pending = s.pending := rfl
@[simp] theorem State.addPkt_now (s : State) (k : Pkt) : (s.addPkt k).now = s.now := rfl
@[simp] theorem State.addPkt_ftOff (s : State) (k : Pkt) : (s.addPkt k).ftOff = s.ftOff := rfl
@[simp] theorem State.addPkt_slew (s : State) (k : Pkt) : (s.addPkt k).slew = s.slew := rfl
@[simp] theorem State.addPkt_stepPs (s : State) (k : Pkt) : (s.addPkt k).stepPs = s.stepPs := rfl
@[simp] theorem State.addPkt_syncRoot (s : State) (k : Pkt) : (s.addPkt k).syncRoot = s.syncRoot := rfl
@[simp] theorem State.addPkt_fv (s : State) (k : Pkt) : (s.addPkt k).fv = s.fv := rfl
@[simp] theorem State.addPkt_out (s : State) (k : Pkt) : (s.addPkt k).out = s.out := rfl
@[simp] theorem State.addPkt_hung (s : State) (k : Pkt) : (s.addPkt k).hung = s.hung := rfl
@[simp] theorem State.addPkt_regs (s : State) (k : Pkt) : (s.addPkt k).regs = s.regs := rfl
@[simp] theorem State.addPkt_past (s : State) (k : Pkt) : (s.addPkt k).past = s.past := rfl
@[simp] theorem State.addPkt_tmem (s : State) (k : Pkt) : (s.addPkt k).tmem = s.tmem := rfl
@[simp] theorem State.addPkt_cmem (s : State) (k : Pkt) : (s.addPkt k).cmem = s.cmem := rfl
@[simp] theorem State.addPkt_cores (s : State) (k : Pkt) : (s.addPkt k).cores = s.cores := rfl
@[simp] theorem State.addPkt_evt (s : State) (k : Pkt) : (s.addPkt k).evt = s.evt := rfl
@[simp] theorem State.addPkt_ldg (s : State) (k : Pkt) : (s.addPkt k).ldg = s.ldg := rfl
@[simp] theorem State.addPkt_ses (s : State) (k : Pkt) : (s.addPkt k).ses = s.ses := rfl
@[simp] theorem State.addPkt_links (s : State) (k : Pkt) : (s.addPkt k).links = s.links := rfl
@[simp] theorem State.addPkt_phys (s : State) (k : Pkt) : (s.addPkt k).phys = s.phys := rfl
@[simp] theorem State.addPkt_ports (s : State) (k : Pkt) : (s.addPkt k).ports = s.ports := rfl
@[simp] theorem State.addPkt_perstIn (s : State) (k : Pkt) : (s.addPkt k).perstIn = s.perstIn := rfl
@[simp] theorem State.addPkt_vdps (s : State) (k : Pkt) : (s.addPkt k).vdps = s.vdps := rfl
@[simp] theorem State.addPkt_ups (s : State) (k : Pkt) : (s.addPkt k).ups = s.ups := rfl
@[simp] theorem State.addPkt_tbl (s : State) (k : Pkt) : (s.addPkt k).tbl = s.tbl := rfl
@[simp] theorem State.addPkt_hpl (s : State) (k : Pkt) : (s.addPkt k).hpl = s.hpl := rfl
@[simp] theorem State.addPkt_sch (s : State) (k : Pkt) : (s.addPkt k).sch = s.sch := rfl
@[simp] theorem State.addPkt_gln (s : State) (k : Pkt) : (s.addPkt k).gln = s.gln := rfl
@[simp] theorem State.addPkt_ffn (s : State) (k : Pkt) : (s.addPkt k).ffn = s.ffn := rfl
@[simp] theorem State.addPkt_dma (s : State) (k : Pkt) : (s.addPkt k).dma = s.dma := rfl
@[simp] theorem State.addPkt_spcs (s : State) (k : Pkt) : (s.addPkt k).spcs = s.spcs := rfl
@[simp] theorem State.addPkt_pwr (s : State) (k : Pkt) : (s.addPkt k).pwr = s.pwr := rfl
@[simp] theorem State.addPkt_pcn (s : State) (k : Pkt) : (s.addPkt k).pcn = s.pcn := rfl
@[simp] theorem State.addPkt_alm (s : State) (k : Pkt) : (s.addPkt k).alm = s.alm := rfl
@[simp] theorem State.addPkt_svc (s : State) (k : Pkt) : (s.addPkt k).svc = s.svc := rfl
@[simp] theorem State.addPkt_sec (s : State) (k : Pkt) : (s.addPkt k).sec = s.sec := rfl

/-! ### setSctx -/

@[simp] theorem State.setSctx_pending (s : State) (c : Nat) (x : Option SendCtx) : (s.setSctx c x).pending = s.pending := rfl
@[simp] theorem State.setSctx_now (s : State) (c : Nat) (x : Option SendCtx) : (s.setSctx c x).now = s.now := rfl
@[simp] theorem State.setSctx_ftOff (s : State) (c : Nat) (x : Option SendCtx) : (s.setSctx c x).ftOff = s.ftOff := rfl
@[simp] theorem State.setSctx_slew (s : State) (c : Nat) (x : Option SendCtx) : (s.setSctx c x).slew = s.slew := rfl
@[simp] theorem State.setSctx_stepPs (s : State) (c : Nat) (x : Option SendCtx) : (s.setSctx c x).stepPs = s.stepPs := rfl
@[simp] theorem State.setSctx_syncRoot (s : State) (c : Nat) (x : Option SendCtx) : (s.setSctx c x).syncRoot = s.syncRoot := rfl
@[simp] theorem State.setSctx_fv (s : State) (c : Nat) (x : Option SendCtx) : (s.setSctx c x).fv = s.fv := rfl
@[simp] theorem State.setSctx_out (s : State) (c : Nat) (x : Option SendCtx) : (s.setSctx c x).out = s.out := rfl
@[simp] theorem State.setSctx_hung (s : State) (c : Nat) (x : Option SendCtx) : (s.setSctx c x).hung = s.hung := rfl
@[simp] theorem State.setSctx_regs (s : State) (c : Nat) (x : Option SendCtx) : (s.setSctx c x).regs = s.regs := rfl
@[simp] theorem State.setSctx_past (s : State) (c : Nat) (x : Option SendCtx) : (s.setSctx c x).past = s.past := rfl
@[simp] theorem State.setSctx_tmem (s : State) (c : Nat) (x : Option SendCtx) : (s.setSctx c x).tmem = s.tmem := rfl
@[simp] theorem State.setSctx_cmem (s : State) (c : Nat) (x : Option SendCtx) : (s.setSctx c x).cmem = s.cmem := rfl
@[simp] theorem State.setSctx_cores (s : State) (c : Nat) (x : Option SendCtx) : (s.setSctx c x).cores = s.cores := rfl
@[simp] theorem State.setSctx_evt (s : State) (c : Nat) (x : Option SendCtx) : (s.setSctx c x).evt = s.evt := rfl
@[simp] theorem State.setSctx_pkts (s : State) (c : Nat) (x : Option SendCtx) : (s.setSctx c x).pkts = s.pkts := rfl
@[simp] theorem State.setSctx_pktNext (s : State) (c : Nat) (x : Option SendCtx) : (s.setSctx c x).pktNext = s.pktNext := rfl
@[simp] theorem State.setSctx_ldg (s : State) (c : Nat) (x : Option SendCtx) : (s.setSctx c x).ldg = s.ldg := rfl
@[simp] theorem State.setSctx_links (s : State) (c : Nat) (x : Option SendCtx) : (s.setSctx c x).links = s.links := rfl
@[simp] theorem State.setSctx_phys (s : State) (c : Nat) (x : Option SendCtx) : (s.setSctx c x).phys = s.phys := rfl
@[simp] theorem State.setSctx_ports (s : State) (c : Nat) (x : Option SendCtx) : (s.setSctx c x).ports = s.ports := rfl
@[simp] theorem State.setSctx_perstIn (s : State) (c : Nat) (x : Option SendCtx) : (s.setSctx c x).perstIn = s.perstIn := rfl
@[simp] theorem State.setSctx_vdps (s : State) (c : Nat) (x : Option SendCtx) : (s.setSctx c x).vdps = s.vdps := rfl
@[simp] theorem State.setSctx_ups (s : State) (c : Nat) (x : Option SendCtx) : (s.setSctx c x).ups = s.ups := rfl
@[simp] theorem State.setSctx_tbl (s : State) (c : Nat) (x : Option SendCtx) : (s.setSctx c x).tbl = s.tbl := rfl
@[simp] theorem State.setSctx_hpl (s : State) (c : Nat) (x : Option SendCtx) : (s.setSctx c x).hpl = s.hpl := rfl
@[simp] theorem State.setSctx_sch (s : State) (c : Nat) (x : Option SendCtx) : (s.setSctx c x).sch = s.sch := rfl
@[simp] theorem State.setSctx_gln (s : State) (c : Nat) (x : Option SendCtx) : (s.setSctx c x).gln = s.gln := rfl
@[simp] theorem State.setSctx_ffn (s : State) (c : Nat) (x : Option SendCtx) : (s.setSctx c x).ffn = s.ffn := rfl
@[simp] theorem State.setSctx_dma (s : State) (c : Nat) (x : Option SendCtx) : (s.setSctx c x).dma = s.dma := rfl
@[simp] theorem State.setSctx_spcs (s : State) (c : Nat) (x : Option SendCtx) : (s.setSctx c x).spcs = s.spcs := rfl
@[simp] theorem State.setSctx_pwr (s : State) (c : Nat) (x : Option SendCtx) : (s.setSctx c x).pwr = s.pwr := rfl
@[simp] theorem State.setSctx_pcn (s : State) (c : Nat) (x : Option SendCtx) : (s.setSctx c x).pcn = s.pcn := rfl
@[simp] theorem State.setSctx_alm (s : State) (c : Nat) (x : Option SendCtx) : (s.setSctx c x).alm = s.alm := rfl
@[simp] theorem State.setSctx_svc (s : State) (c : Nat) (x : Option SendCtx) : (s.setSctx c x).svc = s.svc := rfl
@[simp] theorem State.setSctx_sec (s : State) (c : Nat) (x : Option SendCtx) : (s.setSctx c x).sec = s.sec := rfl

/-! ### setRctx -/

@[simp] theorem State.setRctx_pending (s : State) (c : Nat) (x : Option RecvCtx) : (s.setRctx c x).pending = s.pending := rfl
@[simp] theorem State.setRctx_now (s : State) (c : Nat) (x : Option RecvCtx) : (s.setRctx c x).now = s.now := rfl
@[simp] theorem State.setRctx_ftOff (s : State) (c : Nat) (x : Option RecvCtx) : (s.setRctx c x).ftOff = s.ftOff := rfl
@[simp] theorem State.setRctx_slew (s : State) (c : Nat) (x : Option RecvCtx) : (s.setRctx c x).slew = s.slew := rfl
@[simp] theorem State.setRctx_stepPs (s : State) (c : Nat) (x : Option RecvCtx) : (s.setRctx c x).stepPs = s.stepPs := rfl
@[simp] theorem State.setRctx_syncRoot (s : State) (c : Nat) (x : Option RecvCtx) : (s.setRctx c x).syncRoot = s.syncRoot := rfl
@[simp] theorem State.setRctx_fv (s : State) (c : Nat) (x : Option RecvCtx) : (s.setRctx c x).fv = s.fv := rfl
@[simp] theorem State.setRctx_out (s : State) (c : Nat) (x : Option RecvCtx) : (s.setRctx c x).out = s.out := rfl
@[simp] theorem State.setRctx_hung (s : State) (c : Nat) (x : Option RecvCtx) : (s.setRctx c x).hung = s.hung := rfl
@[simp] theorem State.setRctx_regs (s : State) (c : Nat) (x : Option RecvCtx) : (s.setRctx c x).regs = s.regs := rfl
@[simp] theorem State.setRctx_past (s : State) (c : Nat) (x : Option RecvCtx) : (s.setRctx c x).past = s.past := rfl
@[simp] theorem State.setRctx_tmem (s : State) (c : Nat) (x : Option RecvCtx) : (s.setRctx c x).tmem = s.tmem := rfl
@[simp] theorem State.setRctx_cmem (s : State) (c : Nat) (x : Option RecvCtx) : (s.setRctx c x).cmem = s.cmem := rfl
@[simp] theorem State.setRctx_cores (s : State) (c : Nat) (x : Option RecvCtx) : (s.setRctx c x).cores = s.cores := rfl
@[simp] theorem State.setRctx_evt (s : State) (c : Nat) (x : Option RecvCtx) : (s.setRctx c x).evt = s.evt := rfl
@[simp] theorem State.setRctx_pkts (s : State) (c : Nat) (x : Option RecvCtx) : (s.setRctx c x).pkts = s.pkts := rfl
@[simp] theorem State.setRctx_pktNext (s : State) (c : Nat) (x : Option RecvCtx) : (s.setRctx c x).pktNext = s.pktNext := rfl
@[simp] theorem State.setRctx_ldg (s : State) (c : Nat) (x : Option RecvCtx) : (s.setRctx c x).ldg = s.ldg := rfl
@[simp] theorem State.setRctx_links (s : State) (c : Nat) (x : Option RecvCtx) : (s.setRctx c x).links = s.links := rfl
@[simp] theorem State.setRctx_phys (s : State) (c : Nat) (x : Option RecvCtx) : (s.setRctx c x).phys = s.phys := rfl
@[simp] theorem State.setRctx_ports (s : State) (c : Nat) (x : Option RecvCtx) : (s.setRctx c x).ports = s.ports := rfl
@[simp] theorem State.setRctx_perstIn (s : State) (c : Nat) (x : Option RecvCtx) : (s.setRctx c x).perstIn = s.perstIn := rfl
@[simp] theorem State.setRctx_vdps (s : State) (c : Nat) (x : Option RecvCtx) : (s.setRctx c x).vdps = s.vdps := rfl
@[simp] theorem State.setRctx_ups (s : State) (c : Nat) (x : Option RecvCtx) : (s.setRctx c x).ups = s.ups := rfl
@[simp] theorem State.setRctx_tbl (s : State) (c : Nat) (x : Option RecvCtx) : (s.setRctx c x).tbl = s.tbl := rfl
@[simp] theorem State.setRctx_hpl (s : State) (c : Nat) (x : Option RecvCtx) : (s.setRctx c x).hpl = s.hpl := rfl
@[simp] theorem State.setRctx_sch (s : State) (c : Nat) (x : Option RecvCtx) : (s.setRctx c x).sch = s.sch := rfl
@[simp] theorem State.setRctx_gln (s : State) (c : Nat) (x : Option RecvCtx) : (s.setRctx c x).gln = s.gln := rfl
@[simp] theorem State.setRctx_ffn (s : State) (c : Nat) (x : Option RecvCtx) : (s.setRctx c x).ffn = s.ffn := rfl
@[simp] theorem State.setRctx_dma (s : State) (c : Nat) (x : Option RecvCtx) : (s.setRctx c x).dma = s.dma := rfl
@[simp] theorem State.setRctx_spcs (s : State) (c : Nat) (x : Option RecvCtx) : (s.setRctx c x).spcs = s.spcs := rfl
@[simp] theorem State.setRctx_pwr (s : State) (c : Nat) (x : Option RecvCtx) : (s.setRctx c x).pwr = s.pwr := rfl
@[simp] theorem State.setRctx_pcn (s : State) (c : Nat) (x : Option RecvCtx) : (s.setRctx c x).pcn = s.pcn := rfl
@[simp] theorem State.setRctx_alm (s : State) (c : Nat) (x : Option RecvCtx) : (s.setRctx c x).alm = s.alm := rfl
@[simp] theorem State.setRctx_svc (s : State) (c : Nat) (x : Option RecvCtx) : (s.setRctx c x).svc = s.svc := rfl
@[simp] theorem State.setRctx_sec (s : State) (c : Nat) (x : Option RecvCtx) : (s.setRctx c x).sec = s.sec := rfl

/-! ### setEvq -/

@[simp] theorem State.setEvq_pending (s : State) (q : Nat) (l : List Event) : (s.setEvq q l).pending = s.pending := rfl
@[simp] theorem State.setEvq_now (s : State) (q : Nat) (l : List Event) : (s.setEvq q l).now = s.now := rfl
@[simp] theorem State.setEvq_ftOff (s : State) (q : Nat) (l : List Event) : (s.setEvq q l).ftOff = s.ftOff := rfl
@[simp] theorem State.setEvq_slew (s : State) (q : Nat) (l : List Event) : (s.setEvq q l).slew = s.slew := rfl
@[simp] theorem State.setEvq_stepPs (s : State) (q : Nat) (l : List Event) : (s.setEvq q l).stepPs = s.stepPs := rfl
@[simp] theorem State.setEvq_syncRoot (s : State) (q : Nat) (l : List Event) : (s.setEvq q l).syncRoot = s.syncRoot := rfl
@[simp] theorem State.setEvq_fv (s : State) (q : Nat) (l : List Event) : (s.setEvq q l).fv = s.fv := rfl
@[simp] theorem State.setEvq_out (s : State) (q : Nat) (l : List Event) : (s.setEvq q l).out = s.out := rfl
@[simp] theorem State.setEvq_hung (s : State) (q : Nat) (l : List Event) : (s.setEvq q l).hung = s.hung := rfl
@[simp] theorem State.setEvq_regs (s : State) (q : Nat) (l : List Event) : (s.setEvq q l).regs = s.regs := rfl
@[simp] theorem State.setEvq_past (s : State) (q : Nat) (l : List Event) : (s.setEvq q l).past = s.past := rfl
@[simp] theorem State.setEvq_tmem (s : State) (q : Nat) (l : List Event) : (s.setEvq q l).tmem = s.tmem := rfl
@[simp] theorem State.setEvq_cmem (s : State) (q : Nat) (l : List Event) : (s.setEvq q l).cmem = s.cmem := rfl
@[simp] theorem State.setEvq_cores (s : State) (q : Nat) (l : List Event) : (s.setEvq q l).cores = s.cores := rfl
@[simp] theorem State.setEvq_pkts (s : State) (q : Nat) (l : List Event) : (s.setEvq q l).pkts = s.pkts := rfl
@[simp] theorem State.setEvq_pktNext (s : State) (q : Nat) (l : List Event) : (s.setEvq q l).pktNext = s.pktNext := rfl
@[simp] theorem State.setEvq_ldg (s : State) (q : Nat) (l : List Event) : (s.setEvq q l).ldg = s.ldg := rfl
@[simp] theorem State.setEvq_ses (s : State) (q : Nat) (l : List Event) : (s.setEvq q l).ses = s.ses := rfl
@[simp] theorem State.setEvq_links (s : State) (q : Nat) (l : List Event) : (s.setEvq q l).links = s.links := rfl
@[simp] theorem State.setEvq_phys (s : State) (q : Nat) (l : List Event) : (s.setEvq q l).phys = s.phys := rfl
@[simp] theorem State.setEvq_ports (s : State) (q : Nat) (l : List Event) : (s.setEvq q l).ports = s.ports := rfl
@[simp] theorem State.setEvq_perstIn (s : State) (q : Nat) (l : List Event) : (s.setEvq q l).perstIn = s.perstIn := rfl
@[simp] theorem State.setEvq_vdps (s : State) (q : Nat) (l : List Event) : (s.setEvq q l).vdps = s.vdps := rfl
@[simp] theorem State.setEvq_ups (s : State) (q : Nat) (l : List Event) : (s.setEvq q l).ups = s.ups := rfl
@[simp] theorem State.setEvq_tbl (s : State) (q : Nat) (l : List Event) : (s.setEvq q l).tbl = s.tbl := rfl
@[simp] theorem State.setEvq_hpl (s : State) (q : Nat) (l : List Event) : (s.setEvq q l).hpl = s.hpl := rfl
@[simp] theorem State.setEvq_sch (s : State) (q : Nat) (l : List Event) : (s.setEvq q l).sch = s.sch := rfl
@[simp] theorem State.setEvq_gln (s : State) (q : Nat) (l : List Event) : (s.setEvq q l).gln = s.gln := rfl
@[simp] theorem State.setEvq_ffn (s : State) (q : Nat) (l : List Event) : (s.setEvq q l).ffn = s.ffn := rfl
@[simp] theorem State.setEvq_dma (s : State) (q : Nat) (l : List Event) : (s.setEvq q l).dma = s.dma := rfl
@[simp] theorem State.setEvq_spcs (s : State) (q : Nat) (l : List Event) : (s.setEvq q l).spcs = s.spcs := rfl
@[simp] theorem State.setEvq_pwr (s : State) (q : Nat) (l : List Event) : (s.setEvq q l).pwr = s.pwr := rfl
@[simp] theorem State.setEvq_pcn (s : State) (q : Nat) (l : List Event) : (s.setEvq q l).pcn = s.pcn := rfl
@[simp] theorem State.setEvq_alm (s : State) (q : Nat) (l : List Event) : (s.setEvq q l).alm = s.alm := rfl
@[simp] theorem State.setEvq_svc (s : State) (q : Nat) (l : List Event) : (s.setEvq q l).svc = s.svc := rfl
@[simp] theorem State.setEvq_sec (s : State) (q : Nat) (l : List Event) : (s.setEvq q l).sec = s.sec := rfl

/-! ### setVdp -/

@[simp] theorem State.setVdp_pending (s : State) (p v : Nat) (x : VdpState) : (s.setVdp p v x).pending = s.pending := rfl
@[simp] theorem State.setVdp_now (s : State) (p v : Nat) (x : VdpState) : (s.setVdp p v x).now = s.now := rfl
@[simp] theorem State.setVdp_ftOff (s : State) (p v : Nat) (x : VdpState) : (s.setVdp p v x).ftOff = s.ftOff := rfl
@[simp] theorem State.setVdp_slew (s : State) (p v : Nat) (x : VdpState) : (s.setVdp p v x).slew = s.slew := rfl
@[simp] theorem State.setVdp_stepPs (s : State) (p v : Nat) (x : VdpState) : (s.setVdp p v x).stepPs = s.stepPs := rfl
@[simp] theorem State.setVdp_syncRoot (s : State) (p v : Nat) (x : VdpState) : (s.setVdp p v x).syncRoot = s.syncRoot := rfl
@[simp] theorem State.setVdp_fv (s : State) (p v : Nat) (x : VdpState) : (s.setVdp p v x).fv = s.fv := rfl
@[simp] theorem State.setVdp_out (s : State) (p v : Nat) (x : VdpState) : (s.setVdp p v x).out = s.out := rfl
@[simp] theorem State.setVdp_hung (s : State) (p v : Nat) (x : VdpState) : (s.setVdp p v x).hung = s.hung := rfl
@[simp] theorem State.setVdp_regs (s : State) (p v : Nat) (x : VdpState) : (s.setVdp p v x).regs = s.regs := rfl
@[simp] theorem State.setVdp_past (s : State) (p v : Nat) (x : VdpState) : (s.setVdp p v x).past = s.past := rfl
@[simp] theorem State.setVdp_tmem (s : State) (p v : Nat) (x : VdpState) : (s.setVdp p v x).tmem = s.tmem := rfl
@[simp] theorem State.setVdp_cmem (s : State) (p v : Nat) (x : VdpState) : (s.setVdp p v x).cmem = s.cmem := rfl
@[simp] theorem State.setVdp_cores (s : State) (p v : Nat) (x : VdpState) : (s.setVdp p v x).cores = s.cores := rfl
@[simp] theorem State.setVdp_evt (s : State) (p v : Nat) (x : VdpState) : (s.setVdp p v x).evt = s.evt := rfl
@[simp] theorem State.setVdp_pkts (s : State) (p v : Nat) (x : VdpState) : (s.setVdp p v x).pkts = s.pkts := rfl
@[simp] theorem State.setVdp_pktNext (s : State) (p v : Nat) (x : VdpState) : (s.setVdp p v x).pktNext = s.pktNext := rfl
@[simp] theorem State.setVdp_ldg (s : State) (p v : Nat) (x : VdpState) : (s.setVdp p v x).ldg = s.ldg := rfl
@[simp] theorem State.setVdp_ses (s : State) (p v : Nat) (x : VdpState) : (s.setVdp p v x).ses = s.ses := rfl
@[simp] theorem State.setVdp_links (s : State) (p v : Nat) (x : VdpState) : (s.setVdp p v x).links = s.links := rfl
@[simp] theorem State.setVdp_phys (s : State) (p v : Nat) (x : VdpState) : (s.setVdp p v x).phys = s.phys := rfl
@[simp] theorem State.setVdp_ports (s : State) (p v : Nat) (x : VdpState) : (s.setVdp p v x).ports = s.ports := rfl
@[simp] theorem State.setVdp_perstIn (s : State) (p v : Nat) (x : VdpState) : (s.setVdp p v x).perstIn = s.perstIn := rfl
@[simp] theorem State.setVdp_ups (s : State) (p v : Nat) (x : VdpState) : (s.setVdp p v x).ups = s.ups := rfl
@[simp] theorem State.setVdp_tbl (s : State) (p v : Nat) (x : VdpState) : (s.setVdp p v x).tbl = s.tbl := rfl
@[simp] theorem State.setVdp_hpl (s : State) (p v : Nat) (x : VdpState) : (s.setVdp p v x).hpl = s.hpl := rfl
@[simp] theorem State.setVdp_sch (s : State) (p v : Nat) (x : VdpState) : (s.setVdp p v x).sch = s.sch := rfl
@[simp] theorem State.setVdp_gln (s : State) (p v : Nat) (x : VdpState) : (s.setVdp p v x).gln = s.gln := rfl
@[simp] theorem State.setVdp_ffn (s : State) (p v : Nat) (x : VdpState) : (s.setVdp p v x).ffn = s.ffn := rfl
@[simp] theorem State.setVdp_dma (s : State) (p v : Nat) (x : VdpState) : (s.setVdp p v x).dma = s.dma := rfl
@[simp] theorem State.setVdp_spcs (s : State) (p v : Nat) (x : VdpState) : (s.setVdp p v x).spcs = s.spcs := rfl
@[simp] theorem State.setVdp_pwr (s : State) (p v : Nat) (x : VdpState) : (s.setVdp p v x).pwr = s.pwr := rfl
@[simp] theorem State.setVdp_pcn (s : State) (p v : Nat) (x : VdpState) : (s.setVdp p v x).pcn = s.pcn := rfl
@[simp] theorem State.setVdp_alm (s : State) (p v : Nat) (x : VdpState) : (s.setVdp p v x).alm = s.alm := rfl
@[simp] theorem State.setVdp_svc (s : State) (p v : Nat) (x : VdpState) : (s.setVdp p v x).svc = s.svc := rfl
@[simp] theorem State.setVdp_sec (s : State) (p v : Nat) (x : VdpState) : (s.setVdp p v x).sec = s.sec := rfl

/-! ### setFn -/

@[simp] theorem State.setFn_pending (s : State) (f : Nat) (x : FnState) : (s.setFn f x).pending = s.pending := rfl
@[simp] theorem State.setFn_now (s : State) (f : Nat) (x : FnState) : (s.setFn f x).now = s.now := rfl
@[simp] theorem State.setFn_ftOff (s : State) (f : Nat) (x : FnState) : (s.setFn f x).ftOff = s.ftOff := rfl
@[simp] theorem State.setFn_slew (s : State) (f : Nat) (x : FnState) : (s.setFn f x).slew = s.slew := rfl
@[simp] theorem State.setFn_stepPs (s : State) (f : Nat) (x : FnState) : (s.setFn f x).stepPs = s.stepPs := rfl
@[simp] theorem State.setFn_syncRoot (s : State) (f : Nat) (x : FnState) : (s.setFn f x).syncRoot = s.syncRoot := rfl
@[simp] theorem State.setFn_fv (s : State) (f : Nat) (x : FnState) : (s.setFn f x).fv = s.fv := rfl
@[simp] theorem State.setFn_out (s : State) (f : Nat) (x : FnState) : (s.setFn f x).out = s.out := rfl
@[simp] theorem State.setFn_hung (s : State) (f : Nat) (x : FnState) : (s.setFn f x).hung = s.hung := rfl
@[simp] theorem State.setFn_regs (s : State) (f : Nat) (x : FnState) : (s.setFn f x).regs = s.regs := rfl
@[simp] theorem State.setFn_past (s : State) (f : Nat) (x : FnState) : (s.setFn f x).past = s.past := rfl
@[simp] theorem State.setFn_tmem (s : State) (f : Nat) (x : FnState) : (s.setFn f x).tmem = s.tmem := rfl
@[simp] theorem State.setFn_cmem (s : State) (f : Nat) (x : FnState) : (s.setFn f x).cmem = s.cmem := rfl
@[simp] theorem State.setFn_cores (s : State) (f : Nat) (x : FnState) : (s.setFn f x).cores = s.cores := rfl
@[simp] theorem State.setFn_evt (s : State) (f : Nat) (x : FnState) : (s.setFn f x).evt = s.evt := rfl
@[simp] theorem State.setFn_pkts (s : State) (f : Nat) (x : FnState) : (s.setFn f x).pkts = s.pkts := rfl
@[simp] theorem State.setFn_pktNext (s : State) (f : Nat) (x : FnState) : (s.setFn f x).pktNext = s.pktNext := rfl
@[simp] theorem State.setFn_ldg (s : State) (f : Nat) (x : FnState) : (s.setFn f x).ldg = s.ldg := rfl
@[simp] theorem State.setFn_ses (s : State) (f : Nat) (x : FnState) : (s.setFn f x).ses = s.ses := rfl
@[simp] theorem State.setFn_links (s : State) (f : Nat) (x : FnState) : (s.setFn f x).links = s.links := rfl
@[simp] theorem State.setFn_phys (s : State) (f : Nat) (x : FnState) : (s.setFn f x).phys = s.phys := rfl
@[simp] theorem State.setFn_ports (s : State) (f : Nat) (x : FnState) : (s.setFn f x).ports = s.ports := rfl
@[simp] theorem State.setFn_perstIn (s : State) (f : Nat) (x : FnState) : (s.setFn f x).perstIn = s.perstIn := rfl
@[simp] theorem State.setFn_vdps (s : State) (f : Nat) (x : FnState) : (s.setFn f x).vdps = s.vdps := rfl
@[simp] theorem State.setFn_ups (s : State) (f : Nat) (x : FnState) : (s.setFn f x).ups = s.ups := rfl
@[simp] theorem State.setFn_tbl (s : State) (f : Nat) (x : FnState) : (s.setFn f x).tbl = s.tbl := rfl
@[simp] theorem State.setFn_hpl (s : State) (f : Nat) (x : FnState) : (s.setFn f x).hpl = s.hpl := rfl
@[simp] theorem State.setFn_sch (s : State) (f : Nat) (x : FnState) : (s.setFn f x).sch = s.sch := rfl
@[simp] theorem State.setFn_gln (s : State) (f : Nat) (x : FnState) : (s.setFn f x).gln = s.gln := rfl
@[simp] theorem State.setFn_dma (s : State) (f : Nat) (x : FnState) : (s.setFn f x).dma = s.dma := rfl
@[simp] theorem State.setFn_spcs (s : State) (f : Nat) (x : FnState) : (s.setFn f x).spcs = s.spcs := rfl
@[simp] theorem State.setFn_pwr (s : State) (f : Nat) (x : FnState) : (s.setFn f x).pwr = s.pwr := rfl
@[simp] theorem State.setFn_pcn (s : State) (f : Nat) (x : FnState) : (s.setFn f x).pcn = s.pcn := rfl
@[simp] theorem State.setFn_alm (s : State) (f : Nat) (x : FnState) : (s.setFn f x).alm = s.alm := rfl
@[simp] theorem State.setFn_svc (s : State) (f : Nat) (x : FnState) : (s.setFn f x).svc = s.svc := rfl
@[simp] theorem State.setFn_sec (s : State) (f : Nat) (x : FnState) : (s.setFn f x).sec = s.sec := rfl

/-! ### setChan -/

@[simp] theorem State.setChan_pending (s : State) (g : Nat) (c : Chan) : (s.setChan g c).pending = s.pending := rfl
@[simp] theorem State.setChan_now (s : State) (g : Nat) (c : Chan) : (s.setChan g c).now = s.now := rfl
@[simp] theorem State.setChan_ftOff (s : State) (g : Nat) (c : Chan) : (s.setChan g c).ftOff = s.ftOff := rfl
@[simp] theorem State.setChan_slew (s : State) (g : Nat) (c : Chan) : (s.setChan g c).slew = s.slew := rfl
@[simp] theorem State.setChan_stepPs (s : State) (g : Nat) (c : Chan) : (s.setChan g c).stepPs = s.stepPs := rfl
@[simp] theorem State.setChan_syncRoot (s : State) (g : Nat) (c : Chan) : (s.setChan g c).syncRoot = s.syncRoot := rfl
@[simp] theorem State.setChan_fv (s : State) (g : Nat) (c : Chan) : (s.setChan g c).fv = s.fv := rfl
@[simp] theorem State.setChan_out (s : State) (g : Nat) (c : Chan) : (s.setChan g c).out = s.out := rfl
@[simp] theorem State.setChan_hung (s : State) (g : Nat) (c : Chan) : (s.setChan g c).hung = s.hung := rfl
@[simp] theorem State.setChan_regs (s : State) (g : Nat) (c : Chan) : (s.setChan g c).regs = s.regs := rfl
@[simp] theorem State.setChan_past (s : State) (g : Nat) (c : Chan) : (s.setChan g c).past = s.past := rfl
@[simp] theorem State.setChan_tmem (s : State) (g : Nat) (c : Chan) : (s.setChan g c).tmem = s.tmem := rfl
@[simp] theorem State.setChan_cmem (s : State) (g : Nat) (c : Chan) : (s.setChan g c).cmem = s.cmem := rfl
@[simp] theorem State.setChan_cores (s : State) (g : Nat) (c : Chan) : (s.setChan g c).cores = s.cores := rfl
@[simp] theorem State.setChan_evt (s : State) (g : Nat) (c : Chan) : (s.setChan g c).evt = s.evt := rfl
@[simp] theorem State.setChan_pkts (s : State) (g : Nat) (c : Chan) : (s.setChan g c).pkts = s.pkts := rfl
@[simp] theorem State.setChan_pktNext (s : State) (g : Nat) (c : Chan) : (s.setChan g c).pktNext = s.pktNext := rfl
@[simp] theorem State.setChan_ldg (s : State) (g : Nat) (c : Chan) : (s.setChan g c).ldg = s.ldg := rfl
@[simp] theorem State.setChan_ses (s : State) (g : Nat) (c : Chan) : (s.setChan g c).ses = s.ses := rfl
@[simp] theorem State.setChan_links (s : State) (g : Nat) (c : Chan) : (s.setChan g c).links = s.links := rfl
@[simp] theorem State.setChan_phys (s : State) (g : Nat) (c : Chan) : (s.setChan g c).phys = s.phys := rfl
@[simp] theorem State.setChan_ports (s : State) (g : Nat) (c : Chan) : (s.setChan g c).ports = s.ports := rfl
@[simp] theorem State.setChan_perstIn (s : State) (g : Nat) (c : Chan) : (s.setChan g c).perstIn = s.perstIn := rfl
@[simp] theorem State.setChan_vdps (s : State) (g : Nat) (c : Chan) : (s.setChan g c).vdps = s.vdps := rfl
@[simp] theorem State.setChan_ups (s : State) (g : Nat) (c : Chan) : (s.setChan g c).ups = s.ups := rfl
@[simp] theorem State.setChan_tbl (s : State) (g : Nat) (c : Chan) : (s.setChan g c).tbl = s.tbl := rfl
@[simp] theorem State.setChan_hpl (s : State) (g : Nat) (c : Chan) : (s.setChan g c).hpl = s.hpl := rfl
@[simp] theorem State.setChan_sch (s : State) (g : Nat) (c : Chan) : (s.setChan g c).sch = s.sch := rfl
@[simp] theorem State.setChan_gln (s : State) (g : Nat) (c : Chan) : (s.setChan g c).gln = s.gln := rfl
@[simp] theorem State.setChan_ffn (s : State) (g : Nat) (c : Chan) : (s.setChan g c).ffn = s.ffn := rfl
@[simp] theorem State.setChan_spcs (s : State) (g : Nat) (c : Chan) : (s.setChan g c).spcs = s.spcs := rfl
@[simp] theorem State.setChan_pwr (s : State) (g : Nat) (c : Chan) : (s.setChan g c).pwr = s.pwr := rfl
@[simp] theorem State.setChan_pcn (s : State) (g : Nat) (c : Chan) : (s.setChan g c).pcn = s.pcn := rfl
@[simp] theorem State.setChan_alm (s : State) (g : Nat) (c : Chan) : (s.setChan g c).alm = s.alm := rfl
@[simp] theorem State.setChan_svc (s : State) (g : Nat) (c : Chan) : (s.setChan g c).svc = s.svc := rfl
@[simp] theorem State.setChan_sec (s : State) (g : Nat) (c : Chan) : (s.setChan g c).sec = s.sec := rfl

/-! ### setEntry -/

@[simp] theorem State.setEntry_pending (s : State) (e : Entry) : (s.setEntry e).pending = s.pending := rfl
@[simp] theorem State.setEntry_now (s : State) (e : Entry) : (s.setEntry e).now = s.now := rfl
@[simp] theorem State.setEntry_ftOff (s : State) (e : Entry) : (s.setEntry e).ftOff = s.ftOff := rfl
@[simp] theorem State.setEntry_slew (s : State) (e : Entry) : (s.setEntry e).slew = s.slew := rfl
@[simp] theorem State.setEntry_stepPs (s : State) (e : Entry) : (s.setEntry e).stepPs = s.stepPs := rfl
@[simp] theorem State.setEntry_syncRoot (s : State) (e : Entry) : (s.setEntry e).syncRoot = s.syncRoot := rfl
@[simp] theorem State.setEntry_fv (s : State) (e : Entry) : (s.setEntry e).fv = s.fv := rfl
@[simp] theorem State.setEntry_out (s : State) (e : Entry) : (s.setEntry e).out = s.out := rfl
@[simp] theorem State.setEntry_hung (s : State) (e : Entry) : (s.setEntry e).hung = s.hung := rfl
@[simp] theorem State.setEntry_regs (s : State) (e : Entry) : (s.setEntry e).regs = s.regs := rfl
@[simp] theorem State.setEntry_past (s : State) (e : Entry) : (s.setEntry e).past = s.past := rfl
@[simp] theorem State.setEntry_tmem (s : State) (e : Entry) : (s.setEntry e).tmem = s.tmem := rfl
@[simp] theorem State.setEntry_cmem (s : State) (e : Entry) : (s.setEntry e).cmem = s.cmem := rfl
@[simp] theorem State.setEntry_cores (s : State) (e : Entry) : (s.setEntry e).cores = s.cores := rfl
@[simp] theorem State.setEntry_evt (s : State) (e : Entry) : (s.setEntry e).evt = s.evt := rfl
@[simp] theorem State.setEntry_pkts (s : State) (e : Entry) : (s.setEntry e).pkts = s.pkts := rfl
@[simp] theorem State.setEntry_pktNext (s : State) (e : Entry) : (s.setEntry e).pktNext = s.pktNext := rfl
@[simp] theorem State.setEntry_ses (s : State) (e : Entry) : (s.setEntry e).ses = s.ses := rfl
@[simp] theorem State.setEntry_links (s : State) (e : Entry) : (s.setEntry e).links = s.links := rfl
@[simp] theorem State.setEntry_phys (s : State) (e : Entry) : (s.setEntry e).phys = s.phys := rfl
@[simp] theorem State.setEntry_ports (s : State) (e : Entry) : (s.setEntry e).ports = s.ports := rfl
@[simp] theorem State.setEntry_perstIn (s : State) (e : Entry) : (s.setEntry e).perstIn = s.perstIn := rfl
@[simp] theorem State.setEntry_vdps (s : State) (e : Entry) : (s.setEntry e).vdps = s.vdps := rfl
@[simp] theorem State.setEntry_ups (s : State) (e : Entry) : (s.setEntry e).ups = s.ups := rfl
@[simp] theorem State.setEntry_tbl (s : State) (e : Entry) : (s.setEntry e).tbl = s.tbl := rfl
@[simp] theorem State.setEntry_hpl (s : State) (e : Entry) : (s.setEntry e).hpl = s.hpl := rfl
@[simp] theorem State.setEntry_sch (s : State) (e : Entry) : (s.setEntry e).sch = s.sch := rfl
@[simp] theorem State.setEntry_gln (s : State) (e : Entry) : (s.setEntry e).gln = s.gln := rfl
@[simp] theorem State.setEntry_ffn (s : State) (e : Entry) : (s.setEntry e).ffn = s.ffn := rfl
@[simp] theorem State.setEntry_dma (s : State) (e : Entry) : (s.setEntry e).dma = s.dma := rfl
@[simp] theorem State.setEntry_spcs (s : State) (e : Entry) : (s.setEntry e).spcs = s.spcs := rfl
@[simp] theorem State.setEntry_pwr (s : State) (e : Entry) : (s.setEntry e).pwr = s.pwr := rfl
@[simp] theorem State.setEntry_pcn (s : State) (e : Entry) : (s.setEntry e).pcn = s.pcn := rfl
@[simp] theorem State.setEntry_alm (s : State) (e : Entry) : (s.setEntry e).alm = s.alm := rfl
@[simp] theorem State.setEntry_svc (s : State) (e : Entry) : (s.setEntry e).svc = s.svc := rfl
@[simp] theorem State.setEntry_sec (s : State) (e : Entry) : (s.setEntry e).sec = s.sec := rfl

/-! ### setTBytes -/

@[simp] theorem State.setTBytes_pending (s : State) (a : Nat) (l : List Byte) : (s.setTBytes a l).pending = s.pending := by
  induction l generalizing s a with
  | nil => rfl
  | cons x l ih => exact ih _ _
@[simp] theorem State.setTBytes_now (s : State) (a : Nat) (l : List Byte) : (s.setTBytes a l).now = s.now := by
  induction l generalizing s a with
  | nil => rfl
  | cons x l ih => exact ih _ _
@[simp] theorem State.setTBytes_ftOff (s : State) (a : Nat) (l : List Byte) : (s.setTBytes a l).ftOff = s.ftOff := by
  induction l generalizing s a with
  | nil => rfl
  | cons x l ih => exact ih _ _
@[simp] theorem State.setTBytes_slew (s : State) (a : Nat) (l : List Byte) : (s.setTBytes a l).slew = s.slew := by
  induction l generalizing s a with
  | nil => rfl
  | cons x l ih => exact ih _ _
@[simp] theorem State.setTBytes_stepPs (s : State) (a : Nat) (l : List Byte) : (s.setTBytes a l).stepPs = s.stepPs := by
  induction l generalizing s a with
  | nil => rfl
  | cons x l ih => exact ih _ _
@[simp] theorem State.setTBytes_syncRoot (s : State) (a : Nat) (l : List Byte) : (s.setTBytes a l).syncRoot = s.syncRoot := by
  induction l generalizing s a with
  | nil => rfl
  | cons x l ih => exact ih _ _
@[simp] theorem State.setTBytes_fv (s : State) (a : Nat) (l : List Byte) : (s.setTBytes a l).fv = s.fv := by
  induction l generalizing s a with
  | nil => rfl
  | cons x l ih => exact ih _ _
@[simp] theorem State.setTBytes_out (s : State) (a : Nat) (l : List Byte) : (s.setTBytes a l).out = s.out := by
  induction l generalizing s a with
  | nil => rfl
  | cons x l ih => exact ih _ _
@[simp] theorem State.setTBytes_hung (s : State) (a : Nat) (l : List Byte) : (s.setTBytes a l).hung = s.hung := by
  induction l generalizing s a with
  | nil => rfl
  | cons x l ih => exact ih _ _
@[simp] theorem State.setTBytes_regs (s : State) (a : Nat) (l : List Byte) : (s.setTBytes a l).regs = s.regs := by
  induction l generalizing s a with
  | nil => rfl
  | cons x l ih => exact ih _ _
@[simp] theorem State.setTBytes_past (s : State) (a : Nat) (l : List Byte) : (s.setTBytes a l).past = s.past := by
  induction l generalizing s a with
  | nil => rfl
  | cons x l ih => exact ih _ _
@[simp] theorem State.setTBytes_cmem (s : State) (a : Nat) (l : List Byte) : (s.setTBytes a l).cmem = s.cmem := by
  induction l generalizing s a with
  | nil => rfl
  | cons x l ih => exact ih _ _
@[simp] theorem State.setTBytes_cores (s : State) (a : Nat) (l : List Byte) : (s.setTBytes a l).cores = s.cores := by
  induction l generalizing s a with
  | nil => rfl
  | cons x l ih => exact ih _ _
@[simp] theorem State.setTBytes_evt (s : State) (a : Nat) (l : List Byte) : (s.setTBytes a l).evt = s.evt := by
  induction l generalizing s a with
  | nil => rfl
  | cons x l ih => exact ih _ _
@[simp] theorem State.setTBytes_pkts (s : State) (a : Nat) (l : List Byte) : (s.setTBytes a l).pkts = s.pkts := by
  induction l generalizing s a with
  | nil => rfl
  | cons x l ih => exact ih _ _
@[simp] theorem State.setTBytes_pktNext (s : State) (a : Nat) (l : List Byte) : (s.setTBytes a l).pktNext = s.pktNext := by
  induction l generalizing s a with
  | nil => rfl
  | cons x l ih => exact ih _ _
@[simp] theorem State.setTBytes_ldg (s : State) (a : Nat) (l : List Byte) : (s.setTBytes a l).ldg = s.ldg := by
  induction l generalizing s a with
  | nil => rfl
  | cons x l ih => exact ih _ _
@[simp] theorem State.setTBytes_ses (s : State) (a : Nat) (l : List Byte) : (s.setTBytes a l).ses = s.ses := by
  induction l generalizing s a with
  | nil => rfl
  | cons x l ih => exact ih _ _
@[simp] theorem State.setTBytes_links (s : State) (a : Nat) (l : List Byte) : (s.setTBytes a l).links = s.links := by
  induction l generalizing s a with
  | nil => rfl
  | cons x l ih => exact ih _ _
@[simp] theorem State.setTBytes_phys (s : State) (a : Nat) (l : List Byte) : (s.setTBytes a l).phys = s.phys := by
  induction l generalizing s a with
  | nil => rfl
  | cons x l ih => exact ih _ _
@[simp] theorem State.setTBytes_ports (s : State) (a : Nat) (l : List Byte) : (s.setTBytes a l).ports = s.ports := by
  induction l generalizing s a with
  | nil => rfl
  | cons x l ih => exact ih _ _
@[simp] theorem State.setTBytes_perstIn (s : State) (a : Nat) (l : List Byte) : (s.setTBytes a l).perstIn = s.perstIn := by
  induction l generalizing s a with
  | nil => rfl
  | cons x l ih => exact ih _ _
@[simp] theorem State.setTBytes_vdps (s : State) (a : Nat) (l : List Byte) : (s.setTBytes a l).vdps = s.vdps := by
  induction l generalizing s a with
  | nil => rfl
  | cons x l ih => exact ih _ _
@[simp] theorem State.setTBytes_ups (s : State) (a : Nat) (l : List Byte) : (s.setTBytes a l).ups = s.ups := by
  induction l generalizing s a with
  | nil => rfl
  | cons x l ih => exact ih _ _
@[simp] theorem State.setTBytes_tbl (s : State) (a : Nat) (l : List Byte) : (s.setTBytes a l).tbl = s.tbl := by
  induction l generalizing s a with
  | nil => rfl
  | cons x l ih => exact ih _ _
@[simp] theorem State.setTBytes_hpl (s : State) (a : Nat) (l : List Byte) : (s.setTBytes a l).hpl = s.hpl := by
  induction l generalizing s a with
  | nil => rfl
  | cons x l ih => exact ih _ _
@[simp] theorem State.setTBytes_sch (s : State) (a : Nat) (l : List Byte) : (s.setTBytes a l).sch = s.sch := by
  induction l generalizing s a with
  | nil => rfl
  | cons x l ih => exact ih _ _
@[simp] theorem State.setTBytes_gln (s : State) (a : Nat) (l : List Byte) : (s.setTBytes a l).gln = s.gln := by
  induction l generalizing s a with
  | nil => rfl
  | cons x l ih => exact ih _ _
@[simp] theorem State.setTBytes_ffn (s : State) (a : Nat) (l : List Byte) : (s.setTBytes a l).ffn = s.ffn := by
  induction l generalizing s a with
  | nil => rfl
  | cons x l ih => exact ih _ _
@[simp] theorem State.setTBytes_dma (s : State) (a : Nat) (l : List Byte) : (s.setTBytes a l).dma = s.dma := by
  induction l generalizing s a with
  | nil => rfl
  | cons x l ih => exact ih _ _
@[simp] theorem State.setTBytes_spcs (s : State) (a : Nat) (l : List Byte) : (s.setTBytes a l).spcs = s.spcs := by
  induction l generalizing s a with
  | nil => rfl
  | cons x l ih => exact ih _ _
@[simp] theorem State.setTBytes_pwr (s : State) (a : Nat) (l : List Byte) : (s.setTBytes a l).pwr = s.pwr := by
  induction l generalizing s a with
  | nil => rfl
  | cons x l ih => exact ih _ _
@[simp] theorem State.setTBytes_pcn (s : State) (a : Nat) (l : List Byte) : (s.setTBytes a l).pcn = s.pcn := by
  induction l generalizing s a with
  | nil => rfl
  | cons x l ih => exact ih _ _
@[simp] theorem State.setTBytes_alm (s : State) (a : Nat) (l : List Byte) : (s.setTBytes a l).alm = s.alm := by
  induction l generalizing s a with
  | nil => rfl
  | cons x l ih => exact ih _ _
@[simp] theorem State.setTBytes_svc (s : State) (a : Nat) (l : List Byte) : (s.setTBytes a l).svc = s.svc := by
  induction l generalizing s a with
  | nil => rfl
  | cons x l ih => exact ih _ _
@[simp] theorem State.setTBytes_sec (s : State) (a : Nat) (l : List Byte) : (s.setTBytes a l).sec = s.sec := by
  induction l generalizing s a with
  | nil => rfl
  | cons x l ih => exact ih _ _

/-! ### setCBytes -/

@[simp] theorem State.setCBytes_pending (s : State) (c a : Nat) (l : List Byte) : (s.setCBytes c a l).pending = s.pending := by
  induction l generalizing s a with
  | nil => rfl
  | cons x l ih => exact ih _ _
@[simp] theorem State.setCBytes_now (s : State) (c a : Nat) (l : List Byte) : (s.setCBytes c a l).now = s.now := by
  induction l generalizing s a with
  | nil => rfl
  | cons x l ih => exact ih _ _
@[simp] theorem State.setCBytes_ftOff (s : State) (c a : Nat) (l : List Byte) : (s.setCBytes c a l).ftOff = s.ftOff := by
  induction l generalizing s a with
  | nil => rfl
  | cons x l ih => exact ih _ _
@[simp] theorem State.setCBytes_slew (s : State) (c a : Nat) (l : List Byte) : (s.setCBytes c a l).slew = s.slew := by
  induction l generalizing s a with
  | nil => rfl
  | cons x l ih => exact ih _ _
@[simp] theorem State.setCBytes_stepPs (s : State) (c a : Nat) (l : List Byte) : (s.setCBytes c a l).stepPs = s.stepPs := by
  induction l generalizing s a with
  | nil => rfl
  | cons x l ih => exact ih _ _
@[simp] theorem State.setCBytes_syncRoot (s : State) (c a : Nat) (l : List Byte) : (s.setCBytes c a l).syncRoot = s.syncRoot := by
  induction l generalizing s a with
  | nil => rfl
  | cons x l ih => exact ih _ _
@[simp] theorem State.setCBytes_fv (s : State) (c a : Nat) (l : List Byte) : (s.setCBytes c a l).fv = s.fv := by
  induction l generalizing s a with
  | nil => rfl
  | cons x l ih => exact ih _ _
@[simp] theorem State.setCBytes_out (s : State) (c a : Nat) (l : List Byte) : (s.setCBytes c a l).out = s.out := by
  induction l generalizing s a with
  | nil => rfl
  | cons x l ih => exact ih _ _
@[simp] theorem State.setCBytes_hung (s : State) (c a : Nat) (l : List Byte) : (s.setCBytes c a l).hung = s.hung := by
  induction l generalizing s a with
  | nil => rfl
  | cons x l ih => exact ih _ _
@[simp] theorem State.setCBytes_regs (s : State) (c a : Nat) (l : List Byte) : (s.setCBytes c a l).regs = s.regs := by
  induction l generalizing s a with
  | nil => rfl
  | cons x l ih => exact ih _ _
@[simp] theorem State.setCBytes_past (s : State) (c a : Nat) (l : List Byte) : (s.setCBytes c a l).past = s.past := by
  induction l generalizing s a with
  | nil => rfl
  | cons x l ih => exact ih _ _
@[simp] theorem State.setCBytes_tmem (s : State) (c a : Nat) (l : List Byte) : (s.setCBytes c a l).tmem = s.tmem := by
  induction l generalizing s a with
  | nil => rfl
  | cons x l ih => exact ih _ _
@[simp] theorem State.setCBytes_cores (s : State) (c a : Nat) (l : List Byte) : (s.setCBytes c a l).cores = s.cores := by
  induction l generalizing s a with
  | nil => rfl
  | cons x l ih => exact ih _ _
@[simp] theorem State.setCBytes_evt (s : State) (c a : Nat) (l : List Byte) : (s.setCBytes c a l).evt = s.evt := by
  induction l generalizing s a with
  | nil => rfl
  | cons x l ih => exact ih _ _
@[simp] theorem State.setCBytes_pkts (s : State) (c a : Nat) (l : List Byte) : (s.setCBytes c a l).pkts = s.pkts := by
  induction l generalizing s a with
  | nil => rfl
  | cons x l ih => exact ih _ _
@[simp] theorem State.setCBytes_pktNext (s : State) (c a : Nat) (l : List Byte) : (s.setCBytes c a l).pktNext = s.pktNext := by
  induction l generalizing s a with
  | nil => rfl
  | cons x l ih => exact ih _ _
@[simp] theorem State.setCBytes_ldg (s : State) (c a : Nat) (l : List Byte) : (s.setCBytes c a l).ldg = s.ldg := by
  induction l generalizing s a with
  | nil => rfl
  | cons x l ih => exact ih _ _
@[simp] theorem State.setCBytes_ses (s : State) (c a : Nat) (l : List Byte) : (s.setCBytes c a l).ses = s.ses := by
  induction l generalizing s a with
  | nil => rfl
  | cons x l ih => exact ih _ _
@[simp] theorem State.setCBytes_links (s : State) (c a : Nat) (l : List Byte) : (s.setCBytes c a l).links = s.links := by
  induction l generalizing s a with
  | nil => rfl
  | cons x l ih => exact ih _ _
@[simp] theorem State.setCBytes_phys (s : State) (c a : Nat) (l : List Byte) : (s.setCBytes c a l).phys = s.phys := by
  induction l generalizing s a with
  | nil => rfl
  | cons x l ih => exact ih _ _
@[simp] theorem State.setCBytes_ports (s : State) (c a : Nat) (l : List Byte) : (s.setCBytes c a l).ports = s.ports := by
  induction l generalizing s a with
  | nil => rfl
  | cons x l ih => exact ih _ _
@[simp] theorem State.setCBytes_perstIn (s : State) (c a : Nat) (l : List Byte) : (s.setCBytes c a l).perstIn = s.perstIn := by
  induction l generalizing s a with
  | nil => rfl
  | cons x l ih => exact ih _ _
@[simp] theorem State.setCBytes_vdps (s : State) (c a : Nat) (l : List Byte) : (s.setCBytes c a l).vdps = s.vdps := by
  induction l generalizing s a with
  | nil => rfl
  | cons x l ih => exact ih _ _
@[simp] theorem State.setCBytes_ups (s : State) (c a : Nat) (l : List Byte) : (s.setCBytes c a l).ups = s.ups := by
  induction l generalizing s a with
  | nil => rfl
  | cons x l ih => exact ih _ _
@[simp] theorem State.setCBytes_tbl (s : State) (c a : Nat) (l : List Byte) : (s.setCBytes c a l).tbl = s.tbl := by
  induction l generalizing s a with
  | nil => rfl
  | cons x l ih => exact ih _ _
@[simp] theorem State.setCBytes_hpl (s : State) (c a : Nat) (l : List Byte) : (s.setCBytes c a l).hpl = s.hpl := by
  induction l generalizing s a with
  | nil => rfl
  | cons x l ih => exact ih _ _
@[simp] theorem State.setCBytes_sch (s : State) (c a : Nat) (l : List Byte) : (s.setCBytes c a l).sch = s.sch := by
  induction l generalizing s a with
  | nil => rfl
  | cons x l ih => exact ih _ _
@[simp] theorem State.setCBytes_gln (s : State) (c a : Nat) (l : List Byte) : (s.setCBytes c a l).gln = s.gln := by
  induction l generalizing s a with
  | nil => rfl
  | cons x l ih => exact ih _ _
@[simp] theorem State.setCBytes_ffn (s : State) (c a : Nat) (l : List Byte) : (s.setCBytes c a l).ffn = s.ffn := by
  induction l generalizing s a with
  | nil => rfl
  | cons x l ih => exact ih _ _
@[simp] theorem State.setCBytes_dma (s : State) (c a : Nat) (l : List Byte) : (s.setCBytes c a l).dma = s.dma := by
  induction l generalizing s a with
  | nil => rfl
  | cons x l ih => exact ih _ _
@[simp] theorem State.setCBytes_spcs (s : State) (c a : Nat) (l : List Byte) : (s.setCBytes c a l).spcs = s.spcs := by
  induction l generalizing s a with
  | nil => rfl
  | cons x l ih => exact ih _ _
@[simp] theorem State.setCBytes_pwr (s : State) (c a : Nat) (l : List Byte) : (s.setCBytes c a l).pwr = s.pwr := by
  induction l generalizing s a with
  | nil => rfl
  | cons x l ih => exact ih _ _
@[simp] theorem State.setCBytes_pcn (s : State) (c a : Nat) (l : List Byte) : (s.setCBytes c a l).pcn = s.pcn := by
  induction l generalizing s a with
  | nil => rfl
  | cons x l ih => exact ih _ _
@[simp] theorem State.setCBytes_alm (s : State) (c a : Nat) (l : List Byte) : (s.setCBytes c a l).alm = s.alm := by
  induction l generalizing s a with
  | nil => rfl
  | cons x l ih => exact ih _ _
@[simp] theorem State.setCBytes_svc (s : State) (c a : Nat) (l : List Byte) : (s.setCBytes c a l).svc = s.svc := by
  induction l generalizing s a with
  | nil => rfl
  | cons x l ih => exact ih _ _
@[simp] theorem State.setCBytes_sec (s : State) (c a : Nat) (l : List Byte) : (s.setCBytes c a l).sec = s.sec := by
  induction l generalizing s a with
  | nil => rfl
  | cons x l ih => exact ih _ _

/-! ### setTWord -/

@[simp] theorem State.setTWord_pending (s : State) (a : Nat) (w : Word) : (s.setTWord a w).pending = s.pending := s.setTBytes_pending _ _
@[simp] theorem State.setTWord_now (s : State) (a : Nat) (w : Word) : (s.setTWord a w).now = s.now := s.setTBytes_now _ _
@[simp] theorem State.setTWord_ftOff (s : State) (a : Nat) (w : Word) : (s.setTWord a w).ftOff = s.ftOff := s.setTBytes_ftOff _ _
@[simp] theorem State.setTWord_slew (s : State) (a : Nat) (w : Word) : (s.setTWord a w).slew = s.slew := s.setTBytes_slew _ _
@[simp] theorem State.setTWord_stepPs (s : State) (a : Nat) (w : Word) : (s.setTWord a w).stepPs = s.stepPs := s.setTBytes_stepPs _ _
@[simp] theorem State.setTWord_syncRoot (s : State) (a : Nat) (w : Word) : (s.setTWord a w).syncRoot = s.syncRoot := s.setTBytes_syncRoot _ _
@[simp] theorem State.setTWord_fv (s : State) (a : Nat) (w : Word) : (s.setTWord a w).fv = s.fv := s.setTBytes_fv _ _
@[simp] theorem State.setTWord_out (s : State) (a : Nat) (w : Word) : (s.setTWord a w).out = s.out := s.setTBytes_out _ _
@[simp] theorem State.setTWord_hung (s : State) (a : Nat) (w : Word) : (s.setTWord a w).hung = s.hung := s.setTBytes_hung _ _
@[simp] theorem State.setTWord_regs (s : State) (a : Nat) (w : Word) : (s.setTWord a w).regs = s.regs := s.setTBytes_regs _ _
@[simp] theorem State.setTWord_past (s : State) (a : Nat) (w : Word) : (s.setTWord a w).past = s.past := s.setTBytes_past _ _
@[simp] theorem State.setTWord_cmem (s : State) (a : Nat) (w : Word) : (s.setTWord a w).cmem = s.cmem := s.setTBytes_cmem _ _
@[simp] theorem State.setTWord_cores (s : State) (a : Nat) (w : Word) : (s.setTWord a w).cores = s.cores := s.setTBytes_cores _ _
@[simp] theorem State.setTWord_evt (s : State) (a : Nat) (w : Word) : (s.setTWord a w).evt = s.evt := s.setTBytes_evt _ _
@[simp] theorem State.setTWord_pkts (s : State) (a : Nat) (w : Word) : (s.setTWord a w).pkts = s.pkts := s.setTBytes_pkts _ _
@[simp] theorem State.setTWord_pktNext (s : State) (a : Nat) (w : Word) : (s.setTWord a w).pktNext = s.pktNext := s.setTBytes_pktNext _ _
@[simp] theorem State.setTWord_ldg (s : State) (a : Nat) (w : Word) : (s.setTWord a w).ldg = s.ldg := s.setTBytes_ldg _ _
@[simp] theorem State.setTWord_ses (s : State) (a : Nat) (w : Word) : (s.setTWord a w).ses = s.ses := s.setTBytes_ses _ _
@[simp] theorem State.setTWord_links (s : State) (a : Nat) (w : Word) : (s.setTWord a w).links = s.links := s.setTBytes_links _ _
@[simp] theorem State.setTWord_phys (s : State) (a : Nat) (w : Word) : (s.setTWord a w).phys = s.phys := s.setTBytes_phys _ _
@[simp] theorem State.setTWord_ports (s : State) (a : Nat) (w : Word) : (s.setTWord a w).ports = s.ports := s.setTBytes_ports _ _
@[simp] theorem State.setTWord_perstIn (s : State) (a : Nat) (w : Word) : (s.setTWord a w).perstIn = s.perstIn := s.setTBytes_perstIn _ _
@[simp] theorem State.setTWord_vdps (s : State) (a : Nat) (w : Word) : (s.setTWord a w).vdps = s.vdps := s.setTBytes_vdps _ _
@[simp] theorem State.setTWord_ups (s : State) (a : Nat) (w : Word) : (s.setTWord a w).ups = s.ups := s.setTBytes_ups _ _
@[simp] theorem State.setTWord_tbl (s : State) (a : Nat) (w : Word) : (s.setTWord a w).tbl = s.tbl := s.setTBytes_tbl _ _
@[simp] theorem State.setTWord_hpl (s : State) (a : Nat) (w : Word) : (s.setTWord a w).hpl = s.hpl := s.setTBytes_hpl _ _
@[simp] theorem State.setTWord_sch (s : State) (a : Nat) (w : Word) : (s.setTWord a w).sch = s.sch := s.setTBytes_sch _ _
@[simp] theorem State.setTWord_gln (s : State) (a : Nat) (w : Word) : (s.setTWord a w).gln = s.gln := s.setTBytes_gln _ _
@[simp] theorem State.setTWord_ffn (s : State) (a : Nat) (w : Word) : (s.setTWord a w).ffn = s.ffn := s.setTBytes_ffn _ _
@[simp] theorem State.setTWord_dma (s : State) (a : Nat) (w : Word) : (s.setTWord a w).dma = s.dma := s.setTBytes_dma _ _
@[simp] theorem State.setTWord_spcs (s : State) (a : Nat) (w : Word) : (s.setTWord a w).spcs = s.spcs := s.setTBytes_spcs _ _
@[simp] theorem State.setTWord_pwr (s : State) (a : Nat) (w : Word) : (s.setTWord a w).pwr = s.pwr := s.setTBytes_pwr _ _
@[simp] theorem State.setTWord_pcn (s : State) (a : Nat) (w : Word) : (s.setTWord a w).pcn = s.pcn := s.setTBytes_pcn _ _
@[simp] theorem State.setTWord_alm (s : State) (a : Nat) (w : Word) : (s.setTWord a w).alm = s.alm := s.setTBytes_alm _ _
@[simp] theorem State.setTWord_svc (s : State) (a : Nat) (w : Word) : (s.setTWord a w).svc = s.svc := s.setTBytes_svc _ _
@[simp] theorem State.setTWord_sec (s : State) (a : Nat) (w : Word) : (s.setTWord a w).sec = s.sec := s.setTBytes_sec _ _

/-! ### setRg, setFd, setFb, addFd, satFd -/

@[simp] theorem State.setRg_pending (s : State) (a : Nat) (w : Word) : (s.setRg a w).pending = s.pending := by
  unfold State.setRg
  split
  · exact s.setTWord_pending _ _
  · rfl
@[simp] theorem State.setFd_pending (s : State) (x : Field) (v : Nat) : (s.setFd x v).pending = s.pending := s.setRg_pending _ _
@[simp] theorem State.setFb_pending (s : State) (x : Field) (b : Bool) : (s.setFb x b).pending = s.pending := s.setRg_pending _ _
@[simp] theorem State.addFd_pending (s : State) (x : Field) (n : Nat) : (s.addFd x n).pending = s.pending := s.setRg_pending _ _
@[simp] theorem State.satFd_pending (s : State) (x : Field) : (s.satFd x).pending = s.pending := s.setRg_pending _ _
@[simp] theorem State.setRg_now (s : State) (a : Nat) (w : Word) : (s.setRg a w).now = s.now := by
  unfold State.setRg
  split
  · exact s.setTWord_now _ _
  · rfl
@[simp] theorem State.setFd_now (s : State) (x : Field) (v : Nat) : (s.setFd x v).now = s.now := s.setRg_now _ _
@[simp] theorem State.setFb_now (s : State) (x : Field) (b : Bool) : (s.setFb x b).now = s.now := s.setRg_now _ _
@[simp] theorem State.addFd_now (s : State) (x : Field) (n : Nat) : (s.addFd x n).now = s.now := s.setRg_now _ _
@[simp] theorem State.satFd_now (s : State) (x : Field) : (s.satFd x).now = s.now := s.setRg_now _ _
@[simp] theorem State.setRg_ftOff (s : State) (a : Nat) (w : Word) : (s.setRg a w).ftOff = s.ftOff := by
  unfold State.setRg
  split
  · exact s.setTWord_ftOff _ _
  · rfl
@[simp] theorem State.setFd_ftOff (s : State) (x : Field) (v : Nat) : (s.setFd x v).ftOff = s.ftOff := s.setRg_ftOff _ _
@[simp] theorem State.setFb_ftOff (s : State) (x : Field) (b : Bool) : (s.setFb x b).ftOff = s.ftOff := s.setRg_ftOff _ _
@[simp] theorem State.addFd_ftOff (s : State) (x : Field) (n : Nat) : (s.addFd x n).ftOff = s.ftOff := s.setRg_ftOff _ _
@[simp] theorem State.satFd_ftOff (s : State) (x : Field) : (s.satFd x).ftOff = s.ftOff := s.setRg_ftOff _ _
@[simp] theorem State.setRg_slew (s : State) (a : Nat) (w : Word) : (s.setRg a w).slew = s.slew := by
  unfold State.setRg
  split
  · exact s.setTWord_slew _ _
  · rfl
@[simp] theorem State.setFd_slew (s : State) (x : Field) (v : Nat) : (s.setFd x v).slew = s.slew := s.setRg_slew _ _
@[simp] theorem State.setFb_slew (s : State) (x : Field) (b : Bool) : (s.setFb x b).slew = s.slew := s.setRg_slew _ _
@[simp] theorem State.addFd_slew (s : State) (x : Field) (n : Nat) : (s.addFd x n).slew = s.slew := s.setRg_slew _ _
@[simp] theorem State.satFd_slew (s : State) (x : Field) : (s.satFd x).slew = s.slew := s.setRg_slew _ _
@[simp] theorem State.setRg_stepPs (s : State) (a : Nat) (w : Word) : (s.setRg a w).stepPs = s.stepPs := by
  unfold State.setRg
  split
  · exact s.setTWord_stepPs _ _
  · rfl
@[simp] theorem State.setFd_stepPs (s : State) (x : Field) (v : Nat) : (s.setFd x v).stepPs = s.stepPs := s.setRg_stepPs _ _
@[simp] theorem State.setFb_stepPs (s : State) (x : Field) (b : Bool) : (s.setFb x b).stepPs = s.stepPs := s.setRg_stepPs _ _
@[simp] theorem State.addFd_stepPs (s : State) (x : Field) (n : Nat) : (s.addFd x n).stepPs = s.stepPs := s.setRg_stepPs _ _
@[simp] theorem State.satFd_stepPs (s : State) (x : Field) : (s.satFd x).stepPs = s.stepPs := s.setRg_stepPs _ _
@[simp] theorem State.setRg_syncRoot (s : State) (a : Nat) (w : Word) : (s.setRg a w).syncRoot = s.syncRoot := by
  unfold State.setRg
  split
  · exact s.setTWord_syncRoot _ _
  · rfl
@[simp] theorem State.setFd_syncRoot (s : State) (x : Field) (v : Nat) : (s.setFd x v).syncRoot = s.syncRoot := s.setRg_syncRoot _ _
@[simp] theorem State.setFb_syncRoot (s : State) (x : Field) (b : Bool) : (s.setFb x b).syncRoot = s.syncRoot := s.setRg_syncRoot _ _
@[simp] theorem State.addFd_syncRoot (s : State) (x : Field) (n : Nat) : (s.addFd x n).syncRoot = s.syncRoot := s.setRg_syncRoot _ _
@[simp] theorem State.satFd_syncRoot (s : State) (x : Field) : (s.satFd x).syncRoot = s.syncRoot := s.setRg_syncRoot _ _
@[simp] theorem State.setRg_fv (s : State) (a : Nat) (w : Word) : (s.setRg a w).fv = s.fv := by
  unfold State.setRg
  split
  · exact s.setTWord_fv _ _
  · rfl
@[simp] theorem State.setFd_fv (s : State) (x : Field) (v : Nat) : (s.setFd x v).fv = s.fv := s.setRg_fv _ _
@[simp] theorem State.setFb_fv (s : State) (x : Field) (b : Bool) : (s.setFb x b).fv = s.fv := s.setRg_fv _ _
@[simp] theorem State.addFd_fv (s : State) (x : Field) (n : Nat) : (s.addFd x n).fv = s.fv := s.setRg_fv _ _
@[simp] theorem State.satFd_fv (s : State) (x : Field) : (s.satFd x).fv = s.fv := s.setRg_fv _ _
@[simp] theorem State.setRg_out (s : State) (a : Nat) (w : Word) : (s.setRg a w).out = s.out := by
  unfold State.setRg
  split
  · exact s.setTWord_out _ _
  · rfl
@[simp] theorem State.setFd_out (s : State) (x : Field) (v : Nat) : (s.setFd x v).out = s.out := s.setRg_out _ _
@[simp] theorem State.setFb_out (s : State) (x : Field) (b : Bool) : (s.setFb x b).out = s.out := s.setRg_out _ _
@[simp] theorem State.addFd_out (s : State) (x : Field) (n : Nat) : (s.addFd x n).out = s.out := s.setRg_out _ _
@[simp] theorem State.satFd_out (s : State) (x : Field) : (s.satFd x).out = s.out := s.setRg_out _ _
@[simp] theorem State.setRg_hung (s : State) (a : Nat) (w : Word) : (s.setRg a w).hung = s.hung := by
  unfold State.setRg
  split
  · exact s.setTWord_hung _ _
  · rfl
@[simp] theorem State.setFd_hung (s : State) (x : Field) (v : Nat) : (s.setFd x v).hung = s.hung := s.setRg_hung _ _
@[simp] theorem State.setFb_hung (s : State) (x : Field) (b : Bool) : (s.setFb x b).hung = s.hung := s.setRg_hung _ _
@[simp] theorem State.addFd_hung (s : State) (x : Field) (n : Nat) : (s.addFd x n).hung = s.hung := s.setRg_hung _ _
@[simp] theorem State.satFd_hung (s : State) (x : Field) : (s.satFd x).hung = s.hung := s.setRg_hung _ _
@[simp] theorem State.setRg_past (s : State) (a : Nat) (w : Word) : (s.setRg a w).past = s.past := by
  unfold State.setRg
  split
  · exact s.setTWord_past _ _
  · rfl
@[simp] theorem State.setFd_past (s : State) (x : Field) (v : Nat) : (s.setFd x v).past = s.past := s.setRg_past _ _
@[simp] theorem State.setFb_past (s : State) (x : Field) (b : Bool) : (s.setFb x b).past = s.past := s.setRg_past _ _
@[simp] theorem State.addFd_past (s : State) (x : Field) (n : Nat) : (s.addFd x n).past = s.past := s.setRg_past _ _
@[simp] theorem State.satFd_past (s : State) (x : Field) : (s.satFd x).past = s.past := s.setRg_past _ _
@[simp] theorem State.setRg_cmem (s : State) (a : Nat) (w : Word) : (s.setRg a w).cmem = s.cmem := by
  unfold State.setRg
  split
  · exact s.setTWord_cmem _ _
  · rfl
@[simp] theorem State.setFd_cmem (s : State) (x : Field) (v : Nat) : (s.setFd x v).cmem = s.cmem := s.setRg_cmem _ _
@[simp] theorem State.setFb_cmem (s : State) (x : Field) (b : Bool) : (s.setFb x b).cmem = s.cmem := s.setRg_cmem _ _
@[simp] theorem State.addFd_cmem (s : State) (x : Field) (n : Nat) : (s.addFd x n).cmem = s.cmem := s.setRg_cmem _ _
@[simp] theorem State.satFd_cmem (s : State) (x : Field) : (s.satFd x).cmem = s.cmem := s.setRg_cmem _ _
@[simp] theorem State.setRg_cores (s : State) (a : Nat) (w : Word) : (s.setRg a w).cores = s.cores := by
  unfold State.setRg
  split
  · exact s.setTWord_cores _ _
  · rfl
@[simp] theorem State.setFd_cores (s : State) (x : Field) (v : Nat) : (s.setFd x v).cores = s.cores := s.setRg_cores _ _
@[simp] theorem State.setFb_cores (s : State) (x : Field) (b : Bool) : (s.setFb x b).cores = s.cores := s.setRg_cores _ _
@[simp] theorem State.addFd_cores (s : State) (x : Field) (n : Nat) : (s.addFd x n).cores = s.cores := s.setRg_cores _ _
@[simp] theorem State.satFd_cores (s : State) (x : Field) : (s.satFd x).cores = s.cores := s.setRg_cores _ _
@[simp] theorem State.setRg_evt (s : State) (a : Nat) (w : Word) : (s.setRg a w).evt = s.evt := by
  unfold State.setRg
  split
  · exact s.setTWord_evt _ _
  · rfl
@[simp] theorem State.setFd_evt (s : State) (x : Field) (v : Nat) : (s.setFd x v).evt = s.evt := s.setRg_evt _ _
@[simp] theorem State.setFb_evt (s : State) (x : Field) (b : Bool) : (s.setFb x b).evt = s.evt := s.setRg_evt _ _
@[simp] theorem State.addFd_evt (s : State) (x : Field) (n : Nat) : (s.addFd x n).evt = s.evt := s.setRg_evt _ _
@[simp] theorem State.satFd_evt (s : State) (x : Field) : (s.satFd x).evt = s.evt := s.setRg_evt _ _
@[simp] theorem State.setRg_pkts (s : State) (a : Nat) (w : Word) : (s.setRg a w).pkts = s.pkts := by
  unfold State.setRg
  split
  · exact s.setTWord_pkts _ _
  · rfl
@[simp] theorem State.setFd_pkts (s : State) (x : Field) (v : Nat) : (s.setFd x v).pkts = s.pkts := s.setRg_pkts _ _
@[simp] theorem State.setFb_pkts (s : State) (x : Field) (b : Bool) : (s.setFb x b).pkts = s.pkts := s.setRg_pkts _ _
@[simp] theorem State.addFd_pkts (s : State) (x : Field) (n : Nat) : (s.addFd x n).pkts = s.pkts := s.setRg_pkts _ _
@[simp] theorem State.satFd_pkts (s : State) (x : Field) : (s.satFd x).pkts = s.pkts := s.setRg_pkts _ _
@[simp] theorem State.setRg_pktNext (s : State) (a : Nat) (w : Word) : (s.setRg a w).pktNext = s.pktNext := by
  unfold State.setRg
  split
  · exact s.setTWord_pktNext _ _
  · rfl
@[simp] theorem State.setFd_pktNext (s : State) (x : Field) (v : Nat) : (s.setFd x v).pktNext = s.pktNext := s.setRg_pktNext _ _
@[simp] theorem State.setFb_pktNext (s : State) (x : Field) (b : Bool) : (s.setFb x b).pktNext = s.pktNext := s.setRg_pktNext _ _
@[simp] theorem State.addFd_pktNext (s : State) (x : Field) (n : Nat) : (s.addFd x n).pktNext = s.pktNext := s.setRg_pktNext _ _
@[simp] theorem State.satFd_pktNext (s : State) (x : Field) : (s.satFd x).pktNext = s.pktNext := s.setRg_pktNext _ _
@[simp] theorem State.setRg_ldg (s : State) (a : Nat) (w : Word) : (s.setRg a w).ldg = s.ldg := by
  unfold State.setRg
  split
  · exact s.setTWord_ldg _ _
  · rfl
@[simp] theorem State.setFd_ldg (s : State) (x : Field) (v : Nat) : (s.setFd x v).ldg = s.ldg := s.setRg_ldg _ _
@[simp] theorem State.setFb_ldg (s : State) (x : Field) (b : Bool) : (s.setFb x b).ldg = s.ldg := s.setRg_ldg _ _
@[simp] theorem State.addFd_ldg (s : State) (x : Field) (n : Nat) : (s.addFd x n).ldg = s.ldg := s.setRg_ldg _ _
@[simp] theorem State.satFd_ldg (s : State) (x : Field) : (s.satFd x).ldg = s.ldg := s.setRg_ldg _ _
@[simp] theorem State.setRg_ses (s : State) (a : Nat) (w : Word) : (s.setRg a w).ses = s.ses := by
  unfold State.setRg
  split
  · exact s.setTWord_ses _ _
  · rfl
@[simp] theorem State.setFd_ses (s : State) (x : Field) (v : Nat) : (s.setFd x v).ses = s.ses := s.setRg_ses _ _
@[simp] theorem State.setFb_ses (s : State) (x : Field) (b : Bool) : (s.setFb x b).ses = s.ses := s.setRg_ses _ _
@[simp] theorem State.addFd_ses (s : State) (x : Field) (n : Nat) : (s.addFd x n).ses = s.ses := s.setRg_ses _ _
@[simp] theorem State.satFd_ses (s : State) (x : Field) : (s.satFd x).ses = s.ses := s.setRg_ses _ _
@[simp] theorem State.setRg_links (s : State) (a : Nat) (w : Word) : (s.setRg a w).links = s.links := by
  unfold State.setRg
  split
  · exact s.setTWord_links _ _
  · rfl
@[simp] theorem State.setFd_links (s : State) (x : Field) (v : Nat) : (s.setFd x v).links = s.links := s.setRg_links _ _
@[simp] theorem State.setFb_links (s : State) (x : Field) (b : Bool) : (s.setFb x b).links = s.links := s.setRg_links _ _
@[simp] theorem State.addFd_links (s : State) (x : Field) (n : Nat) : (s.addFd x n).links = s.links := s.setRg_links _ _
@[simp] theorem State.satFd_links (s : State) (x : Field) : (s.satFd x).links = s.links := s.setRg_links _ _
@[simp] theorem State.setRg_phys (s : State) (a : Nat) (w : Word) : (s.setRg a w).phys = s.phys := by
  unfold State.setRg
  split
  · exact s.setTWord_phys _ _
  · rfl
@[simp] theorem State.setFd_phys (s : State) (x : Field) (v : Nat) : (s.setFd x v).phys = s.phys := s.setRg_phys _ _
@[simp] theorem State.setFb_phys (s : State) (x : Field) (b : Bool) : (s.setFb x b).phys = s.phys := s.setRg_phys _ _
@[simp] theorem State.addFd_phys (s : State) (x : Field) (n : Nat) : (s.addFd x n).phys = s.phys := s.setRg_phys _ _
@[simp] theorem State.satFd_phys (s : State) (x : Field) : (s.satFd x).phys = s.phys := s.setRg_phys _ _
@[simp] theorem State.setRg_ports (s : State) (a : Nat) (w : Word) : (s.setRg a w).ports = s.ports := by
  unfold State.setRg
  split
  · exact s.setTWord_ports _ _
  · rfl
@[simp] theorem State.setFd_ports (s : State) (x : Field) (v : Nat) : (s.setFd x v).ports = s.ports := s.setRg_ports _ _
@[simp] theorem State.setFb_ports (s : State) (x : Field) (b : Bool) : (s.setFb x b).ports = s.ports := s.setRg_ports _ _
@[simp] theorem State.addFd_ports (s : State) (x : Field) (n : Nat) : (s.addFd x n).ports = s.ports := s.setRg_ports _ _
@[simp] theorem State.satFd_ports (s : State) (x : Field) : (s.satFd x).ports = s.ports := s.setRg_ports _ _
@[simp] theorem State.setRg_perstIn (s : State) (a : Nat) (w : Word) : (s.setRg a w).perstIn = s.perstIn := by
  unfold State.setRg
  split
  · exact s.setTWord_perstIn _ _
  · rfl
@[simp] theorem State.setFd_perstIn (s : State) (x : Field) (v : Nat) : (s.setFd x v).perstIn = s.perstIn := s.setRg_perstIn _ _
@[simp] theorem State.setFb_perstIn (s : State) (x : Field) (b : Bool) : (s.setFb x b).perstIn = s.perstIn := s.setRg_perstIn _ _
@[simp] theorem State.addFd_perstIn (s : State) (x : Field) (n : Nat) : (s.addFd x n).perstIn = s.perstIn := s.setRg_perstIn _ _
@[simp] theorem State.satFd_perstIn (s : State) (x : Field) : (s.satFd x).perstIn = s.perstIn := s.setRg_perstIn _ _
@[simp] theorem State.setRg_vdps (s : State) (a : Nat) (w : Word) : (s.setRg a w).vdps = s.vdps := by
  unfold State.setRg
  split
  · exact s.setTWord_vdps _ _
  · rfl
@[simp] theorem State.setFd_vdps (s : State) (x : Field) (v : Nat) : (s.setFd x v).vdps = s.vdps := s.setRg_vdps _ _
@[simp] theorem State.setFb_vdps (s : State) (x : Field) (b : Bool) : (s.setFb x b).vdps = s.vdps := s.setRg_vdps _ _
@[simp] theorem State.addFd_vdps (s : State) (x : Field) (n : Nat) : (s.addFd x n).vdps = s.vdps := s.setRg_vdps _ _
@[simp] theorem State.satFd_vdps (s : State) (x : Field) : (s.satFd x).vdps = s.vdps := s.setRg_vdps _ _
@[simp] theorem State.setRg_ups (s : State) (a : Nat) (w : Word) : (s.setRg a w).ups = s.ups := by
  unfold State.setRg
  split
  · exact s.setTWord_ups _ _
  · rfl
@[simp] theorem State.setFd_ups (s : State) (x : Field) (v : Nat) : (s.setFd x v).ups = s.ups := s.setRg_ups _ _
@[simp] theorem State.setFb_ups (s : State) (x : Field) (b : Bool) : (s.setFb x b).ups = s.ups := s.setRg_ups _ _
@[simp] theorem State.addFd_ups (s : State) (x : Field) (n : Nat) : (s.addFd x n).ups = s.ups := s.setRg_ups _ _
@[simp] theorem State.satFd_ups (s : State) (x : Field) : (s.satFd x).ups = s.ups := s.setRg_ups _ _
@[simp] theorem State.setRg_tbl (s : State) (a : Nat) (w : Word) : (s.setRg a w).tbl = s.tbl := by
  unfold State.setRg
  split
  · exact s.setTWord_tbl _ _
  · rfl
@[simp] theorem State.setFd_tbl (s : State) (x : Field) (v : Nat) : (s.setFd x v).tbl = s.tbl := s.setRg_tbl _ _
@[simp] theorem State.setFb_tbl (s : State) (x : Field) (b : Bool) : (s.setFb x b).tbl = s.tbl := s.setRg_tbl _ _
@[simp] theorem State.addFd_tbl (s : State) (x : Field) (n : Nat) : (s.addFd x n).tbl = s.tbl := s.setRg_tbl _ _
@[simp] theorem State.satFd_tbl (s : State) (x : Field) : (s.satFd x).tbl = s.tbl := s.setRg_tbl _ _
@[simp] theorem State.setRg_hpl (s : State) (a : Nat) (w : Word) : (s.setRg a w).hpl = s.hpl := by
  unfold State.setRg
  split
  · exact s.setTWord_hpl _ _
  · rfl
@[simp] theorem State.setFd_hpl (s : State) (x : Field) (v : Nat) : (s.setFd x v).hpl = s.hpl := s.setRg_hpl _ _
@[simp] theorem State.setFb_hpl (s : State) (x : Field) (b : Bool) : (s.setFb x b).hpl = s.hpl := s.setRg_hpl _ _
@[simp] theorem State.addFd_hpl (s : State) (x : Field) (n : Nat) : (s.addFd x n).hpl = s.hpl := s.setRg_hpl _ _
@[simp] theorem State.satFd_hpl (s : State) (x : Field) : (s.satFd x).hpl = s.hpl := s.setRg_hpl _ _
@[simp] theorem State.setRg_sch (s : State) (a : Nat) (w : Word) : (s.setRg a w).sch = s.sch := by
  unfold State.setRg
  split
  · exact s.setTWord_sch _ _
  · rfl
@[simp] theorem State.setFd_sch (s : State) (x : Field) (v : Nat) : (s.setFd x v).sch = s.sch := s.setRg_sch _ _
@[simp] theorem State.setFb_sch (s : State) (x : Field) (b : Bool) : (s.setFb x b).sch = s.sch := s.setRg_sch _ _
@[simp] theorem State.addFd_sch (s : State) (x : Field) (n : Nat) : (s.addFd x n).sch = s.sch := s.setRg_sch _ _
@[simp] theorem State.satFd_sch (s : State) (x : Field) : (s.satFd x).sch = s.sch := s.setRg_sch _ _
@[simp] theorem State.setRg_gln (s : State) (a : Nat) (w : Word) : (s.setRg a w).gln = s.gln := by
  unfold State.setRg
  split
  · exact s.setTWord_gln _ _
  · rfl
@[simp] theorem State.setFd_gln (s : State) (x : Field) (v : Nat) : (s.setFd x v).gln = s.gln := s.setRg_gln _ _
@[simp] theorem State.setFb_gln (s : State) (x : Field) (b : Bool) : (s.setFb x b).gln = s.gln := s.setRg_gln _ _
@[simp] theorem State.addFd_gln (s : State) (x : Field) (n : Nat) : (s.addFd x n).gln = s.gln := s.setRg_gln _ _
@[simp] theorem State.satFd_gln (s : State) (x : Field) : (s.satFd x).gln = s.gln := s.setRg_gln _ _
@[simp] theorem State.setRg_ffn (s : State) (a : Nat) (w : Word) : (s.setRg a w).ffn = s.ffn := by
  unfold State.setRg
  split
  · exact s.setTWord_ffn _ _
  · rfl
@[simp] theorem State.setFd_ffn (s : State) (x : Field) (v : Nat) : (s.setFd x v).ffn = s.ffn := s.setRg_ffn _ _
@[simp] theorem State.setFb_ffn (s : State) (x : Field) (b : Bool) : (s.setFb x b).ffn = s.ffn := s.setRg_ffn _ _
@[simp] theorem State.addFd_ffn (s : State) (x : Field) (n : Nat) : (s.addFd x n).ffn = s.ffn := s.setRg_ffn _ _
@[simp] theorem State.satFd_ffn (s : State) (x : Field) : (s.satFd x).ffn = s.ffn := s.setRg_ffn _ _
@[simp] theorem State.setRg_dma (s : State) (a : Nat) (w : Word) : (s.setRg a w).dma = s.dma := by
  unfold State.setRg
  split
  · exact s.setTWord_dma _ _
  · rfl
@[simp] theorem State.setFd_dma (s : State) (x : Field) (v : Nat) : (s.setFd x v).dma = s.dma := s.setRg_dma _ _
@[simp] theorem State.setFb_dma (s : State) (x : Field) (b : Bool) : (s.setFb x b).dma = s.dma := s.setRg_dma _ _
@[simp] theorem State.addFd_dma (s : State) (x : Field) (n : Nat) : (s.addFd x n).dma = s.dma := s.setRg_dma _ _
@[simp] theorem State.satFd_dma (s : State) (x : Field) : (s.satFd x).dma = s.dma := s.setRg_dma _ _
@[simp] theorem State.setRg_spcs (s : State) (a : Nat) (w : Word) : (s.setRg a w).spcs = s.spcs := by
  unfold State.setRg
  split
  · exact s.setTWord_spcs _ _
  · rfl
@[simp] theorem State.setFd_spcs (s : State) (x : Field) (v : Nat) : (s.setFd x v).spcs = s.spcs := s.setRg_spcs _ _
@[simp] theorem State.setFb_spcs (s : State) (x : Field) (b : Bool) : (s.setFb x b).spcs = s.spcs := s.setRg_spcs _ _
@[simp] theorem State.addFd_spcs (s : State) (x : Field) (n : Nat) : (s.addFd x n).spcs = s.spcs := s.setRg_spcs _ _
@[simp] theorem State.satFd_spcs (s : State) (x : Field) : (s.satFd x).spcs = s.spcs := s.setRg_spcs _ _
@[simp] theorem State.setRg_pwr (s : State) (a : Nat) (w : Word) : (s.setRg a w).pwr = s.pwr := by
  unfold State.setRg
  split
  · exact s.setTWord_pwr _ _
  · rfl
@[simp] theorem State.setFd_pwr (s : State) (x : Field) (v : Nat) : (s.setFd x v).pwr = s.pwr := s.setRg_pwr _ _
@[simp] theorem State.setFb_pwr (s : State) (x : Field) (b : Bool) : (s.setFb x b).pwr = s.pwr := s.setRg_pwr _ _
@[simp] theorem State.addFd_pwr (s : State) (x : Field) (n : Nat) : (s.addFd x n).pwr = s.pwr := s.setRg_pwr _ _
@[simp] theorem State.satFd_pwr (s : State) (x : Field) : (s.satFd x).pwr = s.pwr := s.setRg_pwr _ _
@[simp] theorem State.setRg_pcn (s : State) (a : Nat) (w : Word) : (s.setRg a w).pcn = s.pcn := by
  unfold State.setRg
  split
  · exact s.setTWord_pcn _ _
  · rfl
@[simp] theorem State.setFd_pcn (s : State) (x : Field) (v : Nat) : (s.setFd x v).pcn = s.pcn := s.setRg_pcn _ _
@[simp] theorem State.setFb_pcn (s : State) (x : Field) (b : Bool) : (s.setFb x b).pcn = s.pcn := s.setRg_pcn _ _
@[simp] theorem State.addFd_pcn (s : State) (x : Field) (n : Nat) : (s.addFd x n).pcn = s.pcn := s.setRg_pcn _ _
@[simp] theorem State.satFd_pcn (s : State) (x : Field) : (s.satFd x).pcn = s.pcn := s.setRg_pcn _ _
@[simp] theorem State.setRg_alm (s : State) (a : Nat) (w : Word) : (s.setRg a w).alm = s.alm := by
  unfold State.setRg
  split
  · exact s.setTWord_alm _ _
  · rfl
@[simp] theorem State.setFd_alm (s : State) (x : Field) (v : Nat) : (s.setFd x v).alm = s.alm := s.setRg_alm _ _
@[simp] theorem State.setFb_alm (s : State) (x : Field) (b : Bool) : (s.setFb x b).alm = s.alm := s.setRg_alm _ _
@[simp] theorem State.addFd_alm (s : State) (x : Field) (n : Nat) : (s.addFd x n).alm = s.alm := s.setRg_alm _ _
@[simp] theorem State.satFd_alm (s : State) (x : Field) : (s.satFd x).alm = s.alm := s.setRg_alm _ _
@[simp] theorem State.setRg_svc (s : State) (a : Nat) (w : Word) : (s.setRg a w).svc = s.svc := by
  unfold State.setRg
  split
  · exact s.setTWord_svc _ _
  · rfl
@[simp] theorem State.setFd_svc (s : State) (x : Field) (v : Nat) : (s.setFd x v).svc = s.svc := s.setRg_svc _ _
@[simp] theorem State.setFb_svc (s : State) (x : Field) (b : Bool) : (s.setFb x b).svc = s.svc := s.setRg_svc _ _
@[simp] theorem State.addFd_svc (s : State) (x : Field) (n : Nat) : (s.addFd x n).svc = s.svc := s.setRg_svc _ _
@[simp] theorem State.satFd_svc (s : State) (x : Field) : (s.satFd x).svc = s.svc := s.setRg_svc _ _
@[simp] theorem State.setRg_sec (s : State) (a : Nat) (w : Word) : (s.setRg a w).sec = s.sec := by
  unfold State.setRg
  split
  · exact s.setTWord_sec _ _
  · rfl
@[simp] theorem State.setFd_sec (s : State) (x : Field) (v : Nat) : (s.setFd x v).sec = s.sec := s.setRg_sec _ _
@[simp] theorem State.setFb_sec (s : State) (x : Field) (b : Bool) : (s.setFb x b).sec = s.sec := s.setRg_sec _ _
@[simp] theorem State.addFd_sec (s : State) (x : Field) (n : Nat) : (s.addFd x n).sec = s.sec := s.setRg_sec _ _
@[simp] theorem State.satFd_sec (s : State) (x : Field) : (s.satFd x).sec = s.sec := s.setRg_sec _ _

/-! ### What is read after it is written -/

@[simp] theorem State.core_setCore_self (s : State) (n : Nat) (k : Core) : (s.setCore n k).core n = k := SMap.get_set_self _ _ _ _
theorem State.core_setCore_ne (s : State) (n m : Nat) (k : Core) (h : m ≠ n) : (s.setCore n k).core m = s.core m :=
  SMap.get_set_ne _ _ _ _ _ h
@[simp] theorem State.ctx_setCtx_self (s : State) (c : CoreId) (x : Ctx) : (s.setCtx c x).ctx c = x := by
  simp [State.ctx, State.setCtx]
@[simp] theorem State.link_setLink_self (s : State) (n : Nat) (l : Link) : (s.setLink n l).link n = l := SMap.get_set_self _ _ _ _
theorem State.link_setLink_ne (s : State) (n m : Nat) (l : Link) (h : m ≠ n) : (s.setLink n l).link m = s.link m :=
  SMap.get_set_ne _ _ _ _ _ h
@[simp] theorem State.phy_setPhy_self (s : State) (n : Nat) (x : Phy) : (s.setPhy n x).phy n = x := SMap.get_set_self _ _ _ _
theorem State.phy_setPhy_ne (s : State) (n m : Nat) (x : Phy) (h : m ≠ n) : (s.setPhy n x).phy m = s.phy m := SMap.get_set_ne _ _ _ _ _ h
@[simp] theorem State.port_setPort_self (s : State) (p : Nat) (x : PciPort) : (s.setPort p x).port p = x := SMap.get_set_self _ _ _ _
@[simp] theorem State.up_setUp_self (s : State) (p : Nat) (x : UpBridge) : (s.setUp p x).up p = x := SMap.get_set_self _ _ _ _
@[simp] theorem State.spc_setSpc_self (s : State) (i : Nat) (c : Spc) : (s.setSpc i c).spc i = c := SMap.get_set_self _ _ _ _
@[simp] theorem State.sctx_setSctx_self (s : State) (c : Nat) (x : Option SendCtx) : (s.setSctx c x).sctx? c = x := SMap.get_set_self _ _ _ _
@[simp] theorem State.rctx_setRctx_self (s : State) (c : Nat) (x : Option RecvCtx) : (s.setRctx c x).rctx? c = x := SMap.get_set_self _ _ _ _

/-- A byte of table memory after a byte has been written. -/
theorem State.tByte_setTByte (s : State) (a x : Nat) (b : Byte) : (s.setTByte a b).tByte x = if x = a then b else s.tByte x :=
  SMap.getD_setD _ _ _ _ _

/-- A byte of a cluster's memory after a byte of that memory has been written. -/
theorem State.cByte_setCByte (s : State) (c a x : Nat) (b : Byte) : (s.setCByte c a b).cByte c x = if x = a then b else s.cByte c x := by
  simp only [State.cByte, State.setCByte, SMap.get, SMap.set, SMap.getD_setD]
  by_cases h : x = a
  · simp [h]
  · rw [if_neg h, if_neg (by omega)]

/-- A byte of table memory after bytes have been written from `a` up. -/
theorem State.tByte_setTBytes (s : State) (a x : Nat) (l : List Byte) :
    (s.setTBytes a l).tByte x = if a ≤ x ∧ x < a + l.length then l.getD (x - a) 0 else s.tByte x := by
  induction l generalizing s a with
  | nil => simp [State.setTBytes]
  | cons b l ih =>
    simp only [State.setTBytes, ih, State.tByte_setTByte, List.length_cons]
    by_cases h1 : x = a
    · subst h1
      rw [if_neg (by omega), if_pos rfl, if_pos (by omega)]
      simp
    · by_cases h2 : a + 1 ≤ x ∧ x < a + 1 + l.length
      · rw [if_pos h2, if_pos (by omega), show x - a = (x - (a + 1)) + 1 by omega, List.getD_cons_succ]
      · rw [if_neg h2, if_neg h1, if_neg (by omega)]

/-- The word of a register that is no view of table memory, after such a register has been written. -/
theorem State.rg_setRg (s : State) (a x : Nat) (w : Word) (ha : tableView a = none) (hx : tableView x = none) :
    (s.setRg a w).rg x = if x = a then w else s.rg x := by
  simp only [State.rg, State.setRg, ha, hx, SMap.getD_setD]

/-- A write of a register that is no view of table memory changes no byte of table memory. -/
theorem State.setRg_tmem (s : State) (a : Nat) (w : Word) (ha : tableView a = none) : (s.setRg a w).tmem = s.tmem := by
  simp only [State.setRg, ha]

/-! ### Fields of numbers and words -/

/-- A field after it has been set. -/
theorem natField_setNatField (lo width n v : Nat) : natField lo width (setNatField lo width n v) = v % 2 ^ width := by
  unfold natField setNatField
  have h : n / 2 ^ (lo + width) * 2 ^ (lo + width) + v % 2 ^ width * 2 ^ lo + n % 2 ^ lo =
      n % 2 ^ lo + 2 ^ lo * (v % 2 ^ width + 2 ^ width * (n / 2 ^ (lo + width))) := by
    rw [Nat.pow_add]; ring
  rw [h, Nat.add_mul_div_left _ _ (Nat.two_pow_pos lo), Nat.div_eq_of_lt (Nat.mod_lt _ (Nat.two_pow_pos lo)), Nat.zero_add,
    Nat.add_mul_mod_self_left, Nat.mod_mod]

/-- A field below a field that has been set. -/
theorem natField_setNatField_below (lo width lo' width' n v : Nat) (h : lo' + width' ≤ lo) :
    natField lo' width' (setNatField lo width n v) = natField lo' width' n := by
  obtain ⟨k, rfl⟩ := Nat.exists_eq_add_of_le h
  unfold natField setNatField
  have e : n / 2 ^ (lo' + width' + k + width) * 2 ^ (lo' + width' + k + width) + v % 2 ^ width * 2 ^ (lo' + width' + k) +
      n % 2 ^ (lo' + width' + k) = n % 2 ^ (lo' + width' + k) + 2 ^ lo' * (2 ^ width' * (2 ^ k *
        (n / 2 ^ (lo' + width' + k + width) * 2 ^ width + v % 2 ^ width))) := by
    simp only [Nat.pow_add]; ring
  rw [e, Nat.add_mul_div_left _ _ (Nat.two_pow_pos lo'), Nat.add_mul_mod_self_left]
  rw [Nat.add_assoc lo' width' k, Nat.pow_add 2 lo' (width' + k), Nat.mod_mul_right_div_self, Nat.pow_add 2 width' k, Nat.mod_mul_right_mod]

theorem setNatField_lt (lo width n v : Nat) (hw : lo + width ≤ 64) (hn : n < 2 ^ 64) : setNatField lo width n v < 2 ^ 64 := by
  unfold setNatField
  have h1 : v % 2 ^ width < 2 ^ width := Nat.mod_lt _ (Nat.two_pow_pos _)
  have h2 : n % 2 ^ lo < 2 ^ lo := Nat.mod_lt _ (Nat.two_pow_pos _)
  have h3 : v % 2 ^ width * 2 ^ lo + n % 2 ^ lo < 2 ^ (lo + width) := by
    calc v % 2 ^ width * 2 ^ lo + n % 2 ^ lo < v % 2 ^ width * 2 ^ lo + 2 ^ lo := by omega
      _ = (v % 2 ^ width + 1) * 2 ^ lo := by ring
      _ ≤ 2 ^ width * 2 ^ lo := Nat.mul_le_mul_right _ h1
      _ = 2 ^ (lo + width) := by rw [Nat.pow_add]; ring
  obtain ⟨k, hk⟩ := Nat.exists_eq_add_of_le hw
  have h4 : n / 2 ^ (lo + width) < 2 ^ k := by
    apply Nat.div_lt_of_lt_mul
    rw [← Nat.pow_add, ← hk]
    exact hn
  calc n / 2 ^ (lo + width) * 2 ^ (lo + width) + v % 2 ^ width * 2 ^ lo + n % 2 ^ lo
      < n / 2 ^ (lo + width) * 2 ^ (lo + width) + 2 ^ (lo + width) := by omega
    _ = (n / 2 ^ (lo + width) + 1) * 2 ^ (lo + width) := by ring
    _ ≤ 2 ^ k * 2 ^ (lo + width) := Nat.mul_le_mul_right _ h4
    _ = 2 ^ 64 := by rw [← Nat.pow_add, hk, Nat.add_comm]

/-- A field of a word after it has been set. -/
theorem wField_setWField (lo width : Nat) (w : Word) (v : Nat) (h : lo + width ≤ 64) :
    wField lo width (setWField lo width w v) = v % 2 ^ width := by
  unfold wField setWField
  rw [BitVec.toNat_ofNat, Nat.mod_eq_of_lt (setNatField_lt lo width _ v h w.isLt), natField_setNatField]

/-- A field of a register after it has been set. -/
theorem State.fd_setFd (s : State) (x : Field) (v : Nat) (hx : tableView x.reg = none) (hw : x.lo + x.width ≤ 64) :
    (s.setFd x v).fd x = v % 2 ^ x.width := by
  unfold State.fd State.setFd
  rw [State.rg_setRg _ _ _ _ hx hx, if_pos rfl, wField_setWField _ _ _ _ hw]

/-! ### Canonical forms -/

theorem State.setTByte_wf (s : State) (a : Nat) (b : Byte) (h : Memory.wf s = true) : Memory.wf (s.setTByte a b) = true := by
  simp only [Memory.wf, Bool.and_eq_true] at h ⊢
  exact ⟨SMap.wf_set _ _ _ h.1, h.2⟩

theorem State.setCByte_wf (s : State) (c a : Nat) (b : Byte) (h : Memory.wf s = true) : Memory.wf (s.setCByte c a b) = true := by
  simp only [Memory.wf, Bool.and_eq_true] at h ⊢
  exact ⟨h.1, SMap.wf_set _ _ _ h.2⟩

theorem State.setTBytes_wf (s : State) (a : Nat) (l : List Byte) (h : Memory.wf s = true) : Memory.wf (s.setTBytes a l) = true := by
  induction l generalizing s a with
  | nil => exact h
  | cons b l ih => exact ih _ _ (s.setTByte_wf a b h)

theorem State.setCBytes_wf (s : State) (c a : Nat) (l : List Byte) (h : Memory.wf s = true) : Memory.wf (s.setCBytes c a l) = true := by
  induction l generalizing s a with
  | nil => exact h
  | cons b l ih => exact ih _ _ (s.setCByte_wf c a b h)

/-- A write of a register keeps the canonical form of the memories. -/
theorem State.setRg_memory_wf (s : State) (a : Nat) (w : Word) (h : Memory.wf s = true) : Memory.wf (s.setRg a w) = true := by
  unfold State.setRg
  split
  · exact s.setTBytes_wf _ _ h
  · exact h

/-- A write of a register keeps the canonical form of the registers. -/
theorem State.setRg_registers_wf (s : State) (a : Nat) (w : Word) (h : Registers.wf s = true) : Registers.wf (s.setRg a w) = true := by
  unfold State.setRg
  split
  · simpa [Registers.wf] using h
  · exact SMap.wf_setD _ _ _ h

/-- The memories after reset have the canonical form. -/
theorem reset_memory_wf : Memory.wf State.reset = true := rfl

theorem reset_registers_wf : Registers.wf State.reset = true := rfl

/-! ### Shared operations -/

/-- All that a register command can do: nothing, to be turned away in recovery, its effect, or to wait for its domain (R66, R152, R645). -/
theorem State.regCommand_cases (s : State) (w : Writer) (off : Nat) (v : Word) (f : State → State) :
    (guardedReg off = true ∧ s.inHandler w = true ∧ s.regCommand w off v f = s) ∨
    (s.inRecovery = true ∧ recoveryWrites off = false ∧ s.regCommand w off v f = s.badAccess off) ∨
    (s.reaches w off = true ∧ s.regCommand w off v f = f s) ∨
    (s.live (domainOf off) = false ∧ s.regCommand w off v f = { s with hung := s.hung ++ [⟨w, off, some v⟩] }) := by
  unfold State.regCommand State.reaches
  cases h1 : guardedReg off && s.inHandler w
  · cases h2 : s.inRecovery && !recoveryWrites off
    · cases h3 : s.live (domainOf off)
      · exact .inr (.inr (.inr ⟨rfl, rfl⟩))
      · exact .inr (.inr (.inl ⟨rfl, rfl⟩))
    · rw [Bool.and_eq_true, Bool.not_eq_true'] at h2
      exact .inr (.inl ⟨h2.1, h2.2, rfl⟩)
  · rw [Bool.and_eq_true] at h1
    exact .inl ⟨h1.1, h1.2, rfl⟩

/-- A register command that reaches its register has its effect. -/
theorem State.regCommand_of_reaches (s : State) (w : Writer) (off : Nat) (v : Word) (f : State → State) (h : s.reaches w off = true) :
    s.regCommand w off v f = f s := by
  unfold State.reaches at h
  rw [Bool.and_eq_true, Bool.and_eq_true, Bool.not_eq_true', Bool.not_eq_true'] at h
  unfold State.regCommand
  rw [h.1.1, h.1.2, h.2]
  rfl

/-- Counting changes the counters only. -/
theorem State.cnt_eq (s : State) (k n : Nat) : ∃ p : PcnState, s.cnt k n = { s with pcn := p } := by
  unfold State.cnt
  split
  · exact ⟨_, rfl⟩
  · exact ⟨s.pcn, rfl⟩

theorem State.cntDev_eq (s : State) (i n : Nat) : ∃ p : PcnState, s.cntDev i n = { s with pcn := p } := s.cnt_eq i n

theorem State.cntPort_eq (s : State) (p k n : Nat) : ∃ x : PcnState, s.cntPort p k n = { s with pcn := x } := by
  unfold State.cntPort
  split
  · exact ⟨s.pcn, rfl⟩
  · exact s.cnt_eq _ _

/-- Time never goes back while a command waits. -/
theorem State.waitUntil_now (s : State) (t : Nat) : s.now ≤ (s.waitUntil t).now ∧ t ≤ (s.waitUntil t).now :=
  ⟨Nat.le_max_left _ _, Nat.le_max_right _ _⟩

/-- A step with a command in front runs it with the queue's rest. -/
theorem step_of_pending (s : State) (c : Instr) (rest : List Instr) (h : s.pending = c :: rest) :
    step s = exec c { s with pending := rest } := by
  unfold step
  rw [h]

end Sys2Proof.Machine
end

