-- ==== Sys2Proof/Laws/Core.lean ====
section
/-! SUPPORT. Laws/Core.lean: what the issue of an instruction of a control core does, and when its meaning runs (R40, R62, R119, R688). -/

namespace Sys2Proof.Machine

/-! ### Cores -/

theorem CoreId.num_inj {c d : CoreId} (h : d.num = c.num) : d = c := by
  rcases c with ⟨⟨a, ha⟩, ⟨b, hb⟩⟩
  rcases d with ⟨⟨a', ha'⟩, ⟨b', hb'⟩⟩
  simp only [CoreId.num] at h
  have h1 : a' = a := by omega
  have h2 : b' = b := by omega
  subst h1 h2
  rfl

theorem CoreId.num_ne {c d : CoreId} (h : d ≠ c) : d.num ≠ c.num := fun e => h (CoreId.num_inj e)

theorem State.core_setCtx_ne (s : State) (c : CoreId) (n : Nat) (x : Ctx) (h : n ≠ c.num) : (s.setCtx c x).core n = s.core n :=
  s.core_setCore_ne _ _ _ h

theorem State.ctx_setCore_self (s : State) (c : CoreId) (k : Core) : (s.setCore c.num k).ctx c = k.ctx := by
  simp [State.ctx]

/-! ### The issue of an instruction (R688) -/

@[simp] theorem State.itagIssue_pending (s : State) (c : CoreId) (w : Nat) : (s.itagIssue c w).pending = s.pending := by
  unfold State.itagIssue
  dsimp only
  repeat' split
  all_goals rfl
@[simp] theorem State.itagIssue_now (s : State) (c : CoreId) (w : Nat) : (s.itagIssue c w).now = s.now := by
  unfold State.itagIssue
  dsimp only
  repeat' split
  all_goals rfl
@[simp] theorem State.itagIssue_ftOff (s : State) (c : CoreId) (w : Nat) : (s.itagIssue c w).ftOff = s.ftOff := by
  unfold State.itagIssue
  dsimp only
  repeat' split
  all_goals rfl
@[simp] theorem State.itagIssue_slew (s : State) (c : CoreId) (w : Nat) : (s.itagIssue c w).slew = s.slew := by
  unfold State.itagIssue
  dsimp only
  repeat' split
  all_goals rfl
@[simp] theorem State.itagIssue_stepPs (s : State) (c : CoreId) (w : Nat) : (s.itagIssue c w).stepPs = s.stepPs := by
  unfold State.itagIssue
  dsimp only
  repeat' split
  all_goals rfl
@[simp] theorem State.itagIssue_syncRoot (s : State) (c : CoreId) (w : Nat) : (s.itagIssue c w).syncRoot = s.syncRoot := by
  unfold State.itagIssue
  dsimp only
  repeat' split
  all_goals rfl
@[simp] theorem State.itagIssue_fv (s : State) (c : CoreId) (w : Nat) : (s.itagIssue c w).fv = s.fv := by
  unfold State.itagIssue
  dsimp only
  repeat' split
  all_goals rfl
@[simp] theorem State.itagIssue_out (s : State) (c : CoreId) (w : Nat) : (s.itagIssue c w).out = s.out := by
  unfold State.itagIssue
  dsimp only
  repeat' split
  all_goals rfl
@[simp] theorem State.itagIssue_hung (s : State) (c : CoreId) (w : Nat) : (s.itagIssue c w).hung = s.hung := by
  unfold State.itagIssue
  dsimp only
  repeat' split
  all_goals rfl
@[simp] theorem State.itagIssue_regs (s : State) (c : CoreId) (w : Nat) : (s.itagIssue c w).regs = s.regs := by
  unfold State.itagIssue
  dsimp only
  repeat' split
  all_goals rfl
@[simp] theorem State.itagIssue_past (s : State) (c : CoreId) (w : Nat) : (s.itagIssue c w).past = s.past := by
  unfold State.itagIssue
  dsimp only
  repeat' split
  all_goals rfl
@[simp] theorem State.itagIssue_tmem (s : State) (c : CoreId) (w : Nat) : (s.itagIssue c w).tmem = s.tmem := by
  unfold State.itagIssue
  dsimp only
  repeat' split
  all_goals rfl
@[simp] theorem State.itagIssue_cmem (s : State) (c : CoreId) (w : Nat) : (s.itagIssue c w).cmem = s.cmem := by
  unfold State.itagIssue
  dsimp only
  repeat' split
  all_goals rfl
@[simp] theorem State.itagIssue_evt (s : State) (c : CoreId) (w : Nat) : (s.itagIssue c w).evt = s.evt := by
  unfold State.itagIssue
  dsimp only
  repeat' split
  all_goals rfl
@[simp] theorem State.itagIssue_pkts (s : State) (c : CoreId) (w : Nat) : (s.itagIssue c w).pkts = s.pkts := by
  unfold State.itagIssue
  dsimp only
  repeat' split
  all_goals rfl
@[simp] theorem State.itagIssue_pktNext (s : State) (c : CoreId) (w : Nat) : (s.itagIssue c w).pktNext = s.pktNext := by
  unfold State.itagIssue
  dsimp only
  repeat' split
  all_goals rfl
@[simp] theorem State.itagIssue_ldg (s : State) (c : CoreId) (w : Nat) : (s.itagIssue c w).ldg = s.ldg := by
  unfold State.itagIssue
  dsimp only
  repeat' split
  all_goals rfl
@[simp] theorem State.itagIssue_ses (s : State) (c : CoreId) (w : Nat) : (s.itagIssue c w).ses = s.ses := by
  unfold State.itagIssue
  dsimp only
  repeat' split
  all_goals rfl
@[simp] theorem State.itagIssue_links (s : State) (c : CoreId) (w : Nat) : (s.itagIssue c w).links = s.links := by
  unfold State.itagIssue
  dsimp only
  repeat' split
  all_goals rfl
@[simp] theorem State.itagIssue_phys (s : State) (c : CoreId) (w : Nat) : (s.itagIssue c w).phys = s.phys := by
  unfold State.itagIssue
  dsimp only
  repeat' split
  all_goals rfl
@[simp] theorem State.itagIssue_ports (s : State) (c : CoreId) (w : Nat) : (s.itagIssue c w).ports = s.ports := by
  unfold State.itagIssue
  dsimp only
  repeat' split
  all_goals rfl
@[simp] theorem State.itagIssue_perstIn (s : State) (c : CoreId) (w : Nat) : (s.itagIssue c w).perstIn = s.perstIn := by
  unfold State.itagIssue
  dsimp only
  repeat' split
  all_goals rfl
@[simp] theorem State.itagIssue_vdps (s : State) (c : CoreId) (w : Nat) : (s.itagIssue c w).vdps = s.vdps := by
  unfold State.itagIssue
  dsimp only
  repeat' split
  all_goals rfl
@[simp] theorem State.itagIssue_ups (s : State) (c : CoreId) (w : Nat) : (s.itagIssue c w).ups = s.ups := by
  unfold State.itagIssue
  dsimp only
  repeat' split
  all_goals rfl
@[simp] theorem State.itagIssue_tbl (s : State) (c : CoreId) (w : Nat) : (s.itagIssue c w).tbl = s.tbl := by
  unfold State.itagIssue
  dsimp only
  repeat' split
  all_goals rfl
@[simp] theorem State.itagIssue_sch (s : State) (c : CoreId) (w : Nat) : (s.itagIssue c w).sch = s.sch := by
  unfold State.itagIssue
  dsimp only
  repeat' split
  all_goals rfl
@[simp] theorem State.itagIssue_gln (s : State) (c : CoreId) (w : Nat) : (s.itagIssue c w).gln = s.gln := by
  unfold State.itagIssue
  dsimp only
  repeat' split
  all_goals rfl
@[simp] theorem State.itagIssue_ffn (s : State) (c : CoreId) (w : Nat) : (s.itagIssue c w).ffn = s.ffn := by
  unfold State.itagIssue
  dsimp only
  repeat' split
  all_goals rfl
@[simp] theorem State.itagIssue_dma (s : State) (c : CoreId) (w : Nat) : (s.itagIssue c w).dma = s.dma := by
  unfold State.itagIssue
  dsimp only
  repeat' split
  all_goals rfl
@[simp] theorem State.itagIssue_spcs (s : State) (c : CoreId) (w : Nat) : (s.itagIssue c w).spcs = s.spcs := by
  unfold State.itagIssue
  dsimp only
  repeat' split
  all_goals rfl
@[simp] theorem State.itagIssue_pwr (s : State) (c : CoreId) (w : Nat) : (s.itagIssue c w).pwr = s.pwr := by
  unfold State.itagIssue
  dsimp only
  repeat' split
  all_goals rfl
@[simp] theorem State.itagIssue_pcn (s : State) (c : CoreId) (w : Nat) : (s.itagIssue c w).pcn = s.pcn := by
  unfold State.itagIssue
  dsimp only
  repeat' split
  all_goals rfl
@[simp] theorem State.itagIssue_alm (s : State) (c : CoreId) (w : Nat) : (s.itagIssue c w).alm = s.alm := by
  unfold State.itagIssue
  dsimp only
  repeat' split
  all_goals rfl
@[simp] theorem State.itagIssue_svc (s : State) (c : CoreId) (w : Nat) : (s.itagIssue c w).svc = s.svc := by
  unfold State.itagIssue
  dsimp only
  repeat' split
  all_goals rfl
@[simp] theorem State.itagIssue_sec (s : State) (c : CoreId) (w : Nat) : (s.itagIssue c w).sec = s.sec := by
  unfold State.itagIssue
  dsimp only
  repeat' split
  all_goals rfl

/-- The issue of an instruction changes a core's tagged instruction alone. -/
theorem State.itagIssue_core (s : State) (c : CoreId) (w : Nat) (d : Nat) : ∃ t, (s.itagIssue c w).core d = { s.core d with itag := t } := by
  unfold State.itagIssue
  by_cases h : d = c.num
  · subst h
    dsimp only
    repeat' split
    all_goals first | exact ⟨_, State.core_setCore_self _ _ _⟩ | exact ⟨(s.core c.num).itag, rfl⟩
  · refine ⟨(s.core d).itag, ?_⟩
    dsimp only
    repeat' split
    all_goals first | exact State.core_setCore_ne _ _ _ _ h | rfl

@[simp] theorem State.itagIssue_ctx (s : State) (c : CoreId) (w : Nat) (d : CoreId) : (s.itagIssue c w).ctx d = s.ctx d := by
  obtain ⟨t, h⟩ := s.itagIssue_core c w d.num
  exact (congrArg Core.ctx h).trans rfl

@[simp] theorem State.itagIssue_sbuf (s : State) (c : CoreId) (w : Nat) (d : Nat) : ((s.itagIssue c w).core d).sbuf = (s.core d).sbuf := by
  obtain ⟨t, h⟩ := s.itagIssue_core c w d
  exact (congrArg Core.sbuf h).trans rfl

@[simp] theorem State.itagIssue_greg (s : State) (c : CoreId) (w : Nat) (d : CoreId) (n : Nat) : (s.itagIssue c w).greg d n = s.greg d n :=
  congrArg (fun x => Ctx.reg x n) (s.itagIssue_ctx c w d)

@[simp] theorem State.itagAddr_pending (s : State) (c : CoreId) (a : Word) : (s.itagAddr c a).pending = s.pending := by
  unfold State.itagAddr
  dsimp only
  repeat' split
  all_goals rfl
@[simp] theorem State.itagAddr_now (s : State) (c : CoreId) (a : Word) : (s.itagAddr c a).now = s.now := by
  unfold State.itagAddr
  dsimp only
  repeat' split
  all_goals rfl
@[simp] theorem State.itagAddr_ftOff (s : State) (c : CoreId) (a : Word) : (s.itagAddr c a).ftOff = s.ftOff := by
  unfold State.itagAddr
  dsimp only
  repeat' split
  all_goals rfl
@[simp] theorem State.itagAddr_slew (s : State) (c : CoreId) (a : Word) : (s.itagAddr c a).slew = s.slew := by
  unfold State.itagAddr
  dsimp only
  repeat' split
  all_goals rfl
@[simp] theorem State.itagAddr_stepPs (s : State) (c : CoreId) (a : Word) : (s.itagAddr c a).stepPs = s.stepPs := by
  unfold State.itagAddr
  dsimp only
  repeat' split
  all_goals rfl
@[simp] theorem State.itagAddr_syncRoot (s : State) (c : CoreId) (a : Word) : (s.itagAddr c a).syncRoot = s.syncRoot := by
  unfold State.itagAddr
  dsimp only
  repeat' split
  all_goals rfl
@[simp] theorem State.itagAddr_fv (s : State) (c : CoreId) (a : Word) : (s.itagAddr c a).fv = s.fv := by
  unfold State.itagAddr
  dsimp only
  repeat' split
  all_goals rfl
@[simp] theorem State.itagAddr_out (s : State) (c : CoreId) (a : Word) : (s.itagAddr c a).out = s.out := by
  unfold State.itagAddr
  dsimp only
  repeat' split
  all_goals rfl
@[simp] theorem State.itagAddr_hung (s : State) (c : CoreId) (a : Word) : (s.itagAddr c a).hung = s.hung := by
  unfold State.itagAddr
  dsimp only
  repeat' split
  all_goals rfl
@[simp] theorem State.itagAddr_regs (s : State) (c : CoreId) (a : Word) : (s.itagAddr c a).regs = s.regs := by
  unfold State.itagAddr
  dsimp only
  repeat' split
  all_goals rfl
@[simp] theorem State.itagAddr_past (s : State) (c : CoreId) (a : Word) : (s.itagAddr c a).past = s.past := by
  unfold State.itagAddr
  dsimp only
  repeat' split
  all_goals rfl
@[simp] theorem State.itagAddr_tmem (s : State) (c : CoreId) (a : Word) : (s.itagAddr c a).tmem = s.tmem := by
  unfold State.itagAddr
  dsimp only
  repeat' split
  all_goals rfl
@[simp] theorem State.itagAddr_cmem (s : State) (c : CoreId) (a : Word) : (s.itagAddr c a).cmem = s.cmem := by
  unfold State.itagAddr
  dsimp only
  repeat' split
  all_goals rfl
@[simp] theorem State.itagAddr_evt (s : State) (c : CoreId) (a : Word) : (s.itagAddr c a).evt = s.evt := by
  unfold State.itagAddr
  dsimp only
  repeat' split
  all_goals rfl
@[simp] theorem State.itagAddr_pkts (s : State) (c : CoreId) (a : Word) : (s.itagAddr c a).pkts = s.pkts := by
  unfold State.itagAddr
  dsimp only
  repeat' split
  all_goals rfl
@[simp] theorem State.itagAddr_pktNext (s : State) (c : CoreId) (a : Word) : (s.itagAddr c a).pktNext = s.pktNext := by
  unfold State.itagAddr
  dsimp only
  repeat' split
  all_goals rfl
@[simp] theorem State.itagAddr_ldg (s : State) (c : CoreId) (a : Word) : (s.itagAddr c a).ldg = s.ldg := by
  unfold State.itagAddr
  dsimp only
  repeat' split
  all_goals rfl
@[simp] theorem State.itagAddr_ses (s : State) (c : CoreId) (a : Word) : (s.itagAddr c a).ses = s.ses := by
  unfold State.itagAddr
  dsimp only
  repeat' split
  all_goals rfl
@[simp] theorem State.itagAddr_links (s : State) (c : CoreId) (a : Word) : (s.itagAddr c a).links = s.links := by
  unfold State.itagAddr
  dsimp only
  repeat' split
  all_goals rfl
@[simp] theorem State.itagAddr_phys (s : State) (c : CoreId) (a : Word) : (s.itagAddr c a).phys = s.phys := by
  unfold State.itagAddr
  dsimp only
  repeat' split
  all_goals rfl
@[simp] theorem State.itagAddr_ports (s : State) (c : CoreId) (a : Word) : (s.itagAddr c a).ports = s.ports := by
  unfold State.itagAddr
  dsimp only
  repeat' split
  all_goals rfl
@[simp] theorem State.itagAddr_perstIn (s : State) (c : CoreId) (a : Word) : (s.itagAddr c a).perstIn = s.perstIn := by
  unfold State.itagAddr
  dsimp only
  repeat' split
  all_goals rfl
@[simp] theorem State.itagAddr_vdps (s : State) (c : CoreId) (a : Word) : (s.itagAddr c a).vdps = s.vdps := by
  unfold State.itagAddr
  dsimp only
  repeat' split
  all_goals rfl
@[simp] theorem State.itagAddr_ups (s : State) (c : CoreId) (a : Word) : (s.itagAddr c a).ups = s.ups := by
  unfold State.itagAddr
  dsimp only
  repeat' split
  all_goals rfl
@[simp] theorem State.itagAddr_tbl (s : State) (c : CoreId) (a : Word) : (s.itagAddr c a).tbl = s.tbl := by
  unfold State.itagAddr
  dsimp only
  repeat' split
  all_goals rfl
@[simp] theorem State.itagAddr_sch (s : State) (c : CoreId) (a : Word) : (s.itagAddr c a).sch = s.sch := by
  unfold State.itagAddr
  dsimp only
  repeat' split
  all_goals rfl
@[simp] theorem State.itagAddr_gln (s : State) (c : CoreId) (a : Word) : (s.itagAddr c a).gln = s.gln := by
  unfold State.itagAddr
  dsimp only
  repeat' split
  all_goals rfl
@[simp] theorem State.itagAddr_ffn (s : State) (c : CoreId) (a : Word) : (s.itagAddr c a).ffn = s.ffn := by
  unfold State.itagAddr
  dsimp only
  repeat' split
  all_goals rfl
@[simp] theorem State.itagAddr_dma (s : State) (c : CoreId) (a : Word) : (s.itagAddr c a).dma = s.dma := by
  unfold State.itagAddr
  dsimp only
  repeat' split
  all_goals rfl
@[simp] theorem State.itagAddr_spcs (s : State) (c : CoreId) (a : Word) : (s.itagAddr c a).spcs = s.spcs := by
  unfold State.itagAddr
  dsimp only
  repeat' split
  all_goals rfl
@[simp] theorem State.itagAddr_pwr (s : State) (c : CoreId) (a : Word) : (s.itagAddr c a).pwr = s.pwr := by
  unfold State.itagAddr
  dsimp only
  repeat' split
  all_goals rfl
@[simp] theorem State.itagAddr_pcn (s : State) (c : CoreId) (a : Word) : (s.itagAddr c a).pcn = s.pcn := by
  unfold State.itagAddr
  dsimp only
  repeat' split
  all_goals rfl
@[simp] theorem State.itagAddr_alm (s : State) (c : CoreId) (a : Word) : (s.itagAddr c a).alm = s.alm := by
  unfold State.itagAddr
  dsimp only
  repeat' split
  all_goals rfl
@[simp] theorem State.itagAddr_svc (s : State) (c : CoreId) (a : Word) : (s.itagAddr c a).svc = s.svc := by
  unfold State.itagAddr
  dsimp only
  repeat' split
  all_goals rfl
@[simp] theorem State.itagAddr_sec (s : State) (c : CoreId) (a : Word) : (s.itagAddr c a).sec = s.sec := by
  unfold State.itagAddr
  dsimp only
  repeat' split
  all_goals rfl
@[simp] theorem State.itagAddr_hpl (s : State) (c : CoreId) (a : Word) : (s.itagAddr c a).hpl = s.hpl := by
  unfold State.itagAddr
  dsimp only
  split <;> rfl

/-- The issue of an instruction changes a core's tagged instruction alone. -/
theorem State.itagAddr_core (s : State) (c : CoreId) (a : Word) (d : Nat) : ∃ t, (s.itagAddr c a).core d = { s.core d with itag := t } := by
  unfold State.itagAddr
  by_cases h : d = c.num
  · subst h
    dsimp only
    repeat' split
    all_goals first | exact ⟨_, State.core_setCore_self _ _ _⟩ | exact ⟨(s.core c.num).itag, rfl⟩
  · refine ⟨(s.core d).itag, ?_⟩
    dsimp only
    repeat' split
    all_goals first | exact State.core_setCore_ne _ _ _ _ h | rfl

@[simp] theorem State.itagAddr_ctx (s : State) (c : CoreId) (a : Word) (d : CoreId) : (s.itagAddr c a).ctx d = s.ctx d := by
  obtain ⟨t, h⟩ := s.itagAddr_core c a d.num
  exact (congrArg Core.ctx h).trans rfl

@[simp] theorem State.itagAddr_sbuf (s : State) (c : CoreId) (a : Word) (d : Nat) : ((s.itagAddr c a).core d).sbuf = (s.core d).sbuf := by
  obtain ⟨t, h⟩ := s.itagAddr_core c a d
  exact (congrArg Core.sbuf h).trans rfl

@[simp] theorem State.itagAddr_greg (s : State) (c : CoreId) (a : Word) (d : CoreId) (n : Nat) : (s.itagAddr c a).greg d n = s.greg d n :=
  congrArg (fun x => Ctx.reg x n) (s.itagAddr_ctx c a d)


/-! ### The execution of an instruction -/

/-- An instruction of a core that fetches inside its memory, with its fields as they must be and its guard true, has its effect. -/
theorem State.coreExec_run (s : State) (c : CoreId) (w : Nat) (f : State → State) (h : s.fetches c = true) :
    s.coreExec c w true true f = f (s.issued c w) := by
  simp only [State.fetches, Bool.and_eq_true, decide_eq_true_eq] at h
  simp [State.coreExec, State.issued, h.1, Nat.not_le.mpr h.2]

/-- One whose fields are not as they must be raises Illegal Instruction (R62). -/
theorem State.coreExec_illegal (s : State) (c : CoreId) (w : Nat) (g : Bool) (f : State → State) (h : s.fetches c = true) :
    s.coreExec c w false g f = (s.issued c w).raise c 0x01 0 (BitVec.ofNat 64 w) := by
  simp only [State.fetches, Bool.and_eq_true, decide_eq_true_eq] at h
  simp [State.coreExec, State.issued, h.1, Nat.not_le.mpr h.2]

/-- One whose guard is false moves on (R40). -/
theorem State.coreExec_unguarded (s : State) (c : CoreId) (w : Nat) (f : State → State) (h : s.fetches c = true) :
    s.coreExec c w true false f = (s.issued c w).advance c := by
  simp only [State.fetches, Bool.and_eq_true, decide_eq_true_eq] at h
  simp [State.coreExec, State.issued, h.1, Nat.not_le.mpr h.2]

end Sys2Proof.Machine
end

