-- ==== Sys2Proof/Laws/Memory.lean ====
section
/-! SUPPORT. Laws/Memory.lean: the operations that store to memory, or let registers go, keep the canonical forms. -/

namespace Sys2Proof.Machine

/-! ### Stores to memory -/

theorem State.clearResv_eq (s : State) (mine : Nat → Bool) (table : Bool) (a n : Nat) :
    ∃ c : SMap Core, s.clearResv mine table a n = { s with cores := c } := ⟨_, rfl⟩

theorem State.storeTable_wf (s : State) (a : Nat) (bs : List Byte) (h : Memory.wf s = true) : Memory.wf (s.storeTable a bs) = true :=
  s.setTBytes_wf a bs h

theorem State.storeCluster_wf (s : State) (cl a : Nat) (bs : List Byte) (h : Memory.wf s = true) :
    Memory.wf (s.storeCluster cl a bs) = true :=
  s.setCBytes_wf cl a bs h

theorem foldl_setTByte_wf (l : List (Nat × Byte)) (f : Nat × Byte → Nat) (s : State) (h : Memory.wf s = true) :
    Memory.wf (l.foldl (fun (t : State) e => t.setTByte (f e) e.2) s) = true := by
  induction l generalizing s with
  | nil => exact h
  | cons e l ih => exact ih _ (s.setTByte_wf _ _ h)

theorem foldl_setTByte_regs (l : List (Nat × Byte)) (f : Nat × Byte → Nat) (s : State) :
    (l.foldl (fun (t : State) e => t.setTByte (f e) e.2) s).regs = s.regs := by
  induction l generalizing s with
  | nil => rfl
  | cons e l ih => exact ih _

theorem State.syncArea_wf (s : State) (base size off v : Nat) (h : Memory.wf s = true) : Memory.wf (s.syncArea base size off v) = true := by
  apply foldl_setTByte_wf _ fun e => if v = 0 then e.1 + off else e.1 - off
  simp only [Memory.wf, Bool.and_eq_true] at h ⊢
  exact ⟨SMap.wf_filter _ _ h.1, h.2⟩

theorem State.syncArea_regs (s : State) (base size off v : Nat) : (s.syncArea base size off v).regs = s.regs :=
  foldl_setTByte_regs _ (fun e => if v = 0 then e.1 + off else e.1 - off) _

/-! ### Registers that a domain loses -/

theorem splitIndex_bound {d : Nat × Nat} {off i r : Nat} (h : splitIndex d off = some (i, r)) : off ≤ (d.2 - 1) * d.1 + r := by
  unfold splitIndex at h
  split at h
  · rename_i h0
    simp only [Option.some.injEq, Prod.mk.injEq] at h
    rw [h.2]
    omega
  · split at h
    · rename_i h1
      simp only [Option.some.injEq, Prod.mk.injEq] at h
      have e := Nat.div_add_mod off d.1
      have h2 : d.1 * (off / d.1) ≤ d.1 * (d.2 - 1) := Nat.mul_le_mul_left _ (by omega)
      rw [Nat.mul_comm d.1 (d.2 - 1)] at h2
      omega
    · cases h

theorem splitIndex_mod {d : Nat × Nat} {off i r : Nat} (hd : d.1 % 64 = 0) (h : splitIndex d off = some (i, r)) : off % 64 = r % 64 := by
  unfold splitIndex at h
  split at h
  · simp only [Option.some.injEq, Prod.mk.injEq] at h
    rw [h.2]
  · split at h
    · simp only [Option.some.injEq, Prod.mk.injEq] at h
      rw [← h.2, Nat.mod_mod_of_dvd _ (Nat.dvd_of_mod_eq_zero hd)]
    · cases h

/-- The bytes from a row's base to its last instance. -/
def rowExtent (row : RegRow) : Nat := (row.d1.2 - 1) * row.d1.1 + (row.d2.2 - 1) * row.d2.1 + (row.d3.2 - 1) * row.d3.1

theorem RegRow.indices_bound {row : RegRow} {off : Nat} {x : Nat × Nat × Nat} (h : row.indices? off = some x) :
    row.base ≤ off ∧ off ≤ row.base + rowExtent row ∧
      (row.d1.1 % 64 = 0 → row.d2.1 % 64 = 0 → row.d3.1 % 64 = 0 → off % 64 = row.base % 64) := by
  unfold RegRow.indices? at h
  split at h
  · cases h
  rename_i hb
  rcases h1 : splitIndex row.d1 (off - row.base) with _ | ⟨i, r1⟩
  · rw [h1] at h; cases h
  rw [h1] at h
  rcases h2 : splitIndex row.d2 r1 with _ | ⟨j, r2⟩
  · simp only [h2] at h; cases h
  simp only [h2] at h
  rcases h3 : splitIndex row.d3 r2 with _ | ⟨k, r3⟩
  · simp only [h3] at h; cases h
  have b1 := splitIndex_bound h1
  have b2 := splitIndex_bound h2
  have b3 := splitIndex_bound h3
  rcases r3 with _ | r3
  · refine ⟨by omega, by unfold rowExtent; omega, fun e1 e2 e3 => ?_⟩
    have m1 := splitIndex_mod e1 h1
    have m2 := splitIndex_mod e2 h2
    have m3 := splitIndex_mod e3 h3
    omega
  · simp only [h3] at h; cases h

/-- No register that the spec resets to a value other than 0 is the status register of a DMA channel. -/
theorem regReset_chSts (a : Nat) (h : isChSts a = true) : regReset a = 0 := by
  unfold isChSts at h
  simp only [Bool.and_eq_true, decide_eq_true_eq] at h
  have hr : ∀ row ∈ resetRows, row.base + rowExtent row < 0x1800000 ∨ 0x1840000 ≤ row.base ∨
      (row.d1.1 % 64 = 0 ∧ row.d2.1 % 64 = 0 ∧ row.d3.1 % 64 = 0 ∧ row.base % 64 ≠ 0x20) := by decide
  have hn : findIn resetRows a = none := by
    unfold findIn
    rw [List.findSome?_eq_none_iff]
    intro row hm
    rcases hx : row.indices? a with _ | x
    · rfl
    · have hb := RegRow.indices_bound hx
      rcases hr row hm with h1 | h1 | ⟨e1, e2, e3, h1⟩
      · omega
      · omega
      · have := hb.2.2 e1 e2 e3
        omega
  unfold regReset
  rw [hn]
  split
  · rename_i e
    rw [e] at h
    exact absurd h.1.1 (by decide)
  · rw [if_neg (by unfold msixControl; simp; omega)]

theorem State.wipeRegs_wf (s : State) (gone : Nat → Bool) (h : Registers.wf s = true) : Registers.wf (s.wipeRegs gone) = true := by
  unfold Registers.wf State.wipeRegs
  apply SMap.wfFrom_filterMap _ _ _ h
  intro e x hx
  split at hx
  · cases hx
    exact ⟨rfl, id⟩
  · split at hx
    · rename_i hc
      simp only at hx
      split at hx
      · cases hx
        refine ⟨rfl, fun _ => ?_⟩
        show (0x4000#64 : Word) ≠ regReset e.1
        rw [regReset_chSts _ hc]
        decide
      · cases hx
    · cases hx

theorem State.wipeRegs_eq (s : State) (gone : Nat → Bool) : ∃ m : SMap Word, s.wipeRegs gone = { s with regs := m } := ⟨_, rfl⟩

end Sys2Proof.Machine
end

