-- ==== Sys2Proof/Tests/Slice0.lean ====
section
/-! SUPPORT. Tests/Slice0.lean: tests of the model by named theorems: ill-formed commands refused, examples of the spec, and for every
statement states and operands that meet its hypotheses. -/

namespace Sys2Proof.Tests

open Sys2Proof.Machine

set_option Elab.async false

/-! ### States the tests use -/

/-- Every power domain live, no other change from reset. -/
def liveState : State := State.reset.setRg R.PWR_STS 0x1FFFFFF

/-- Core 0 of cluster 0. -/
def core00 : CoreId := ⟨0, 0⟩

/-- Core 0 of cluster 0 runs at cluster address 0. -/
def coreState : State := liveState.setCore core00.num { Core.reset with running := true }

/-- Reservations of a port with 256 cells of each kind. -/
def roomy : Nat × Nat × Nat × Nat := (0x0100010001000100, 0x0100010001000100, 0x20020020020020, 0)

def fmtA0 : FmtA := ⟨1, 2, 0, 0⟩

def hdr0 : FrameHdr := ⟨0, 0, 0, 0, 0, 0⟩

/-! ### Witnesses: what the hypotheses of the statements admit -/

/-- Core 0 of cluster 0 with g2 at Table address 0x1130_0000 and a reservation on its granule, and g3 at the Device address of
CCL[0]_WDT. -/
def coreAt : State :=
  ((coreState.setGreg core00 2 0x11300000).setGreg core00 3 (BitVec.ofNat 64 (0x40000000 + R.CCL_WDT 0))).setCore core00.num
    { ((coreState.setGreg core00 2 0x11300000).setGreg core00 3 (BitVec.ofNat 64 (0x40000000 + R.CCL_WDT 0))).core core00.num with
      resv := some ⟨true, 0x13000⟩ }

/-- Core 0 of cluster 0 with one buffered store at the end of cluster memory. -/
def bufState : State :=
  coreState.setCore core00.num { coreState.core core00.num with sbuf := [⟨0x7FFFF8, [1, 2, 3, 4, 5, 6, 7, 8], false⟩] }

/-- The core with one buffered store, or CINC, of 8 bytes at an address. -/
def bufAt (a : Nat) (add : Bool) : State :=
  coreState.setCore core00.num { coreState.core core00.num with sbuf := [⟨a, [1, 2, 3, 4, 5, 6, 7, 8], add⟩] }

/-- The manager function at port 0, a ledger quota of 4 and a window of tenant 0 over the first page of Remote memory that permits DMA, and g4 at its
first address. -/
def remoteState : State :=
  (((((coreState.setFb R.FFN_CFG_MGRV true).setRg (R.WIN_CTL 0 0) 0x17).setFd (R.WIN_BASE_BASE 0 0) 0x800000000).setFd
    (R.WIN_LIMIT_LIMIT 0 0) 0x800000000).setFd (R.TNT_QLDG_ENTRIES 0 0) 4).setGreg core00 4 0x800000000000

/-- The core with a pending fence. -/
def fenceState (k : FenceKind) : State := coreState.setCtx core00 { coreState.ctx core00 with fence := some k }

/-- The core at a FENCE.X with the remote-fault record of the example after R116. -/
def faultedFence : State :=
  (fenceState .x).setCore core00.num { (fenceState .x).core core00.num with rfault := some (0x800000000048, 2) }

/-- The core 9 CK_CTL cycles after its power-up, with 9 in g2. -/
def lateState : State := (coreState.waitUntil 5000).setGreg core00 2 9

def waitState : State := coreState.setCore core00.num { coreState.core core00.num with waitUntil := some 9 }

def haltState : State := coreState.setCore core00.num { coreState.core core00.num with halting := true }

def holdState : State := coreState.setCore core00.num { coreState.core core00.num with hold := some (⟨false, 0⟩, 64) }

def critState : State := coreState.setCtx core00 { coreState.ctx core00 with crit := true }

def exlState : State := coreState.setCtx core00 { coreState.ctx core00 with exl := true, epc := 0x40 }

/-- Queue `q` enabled with its least depth. -/
def queueState (q : Nat) : State := coreState.setFb (R.EVT_Q_CFG_EN q) true

/-- The core in handler mode, dispatched at priority 4. -/
def handlerState : State := coreState.setCtx core00 { coreState.ctx core00 with sup := false, disp := 4, cur := 4 }

/-- The core in handler mode with g3 at the Device address of PWR_CTL. -/
def guardState : State := handlerState.setGreg core00 3 (BitVec.ofNat 64 (0x40000000 + R.PWR_CTL))

/-- Queue 3 enabled and empty, with a timer event held for it. -/
def heldState : State :=
  { queueState 3 with evt := { (queueState 3).evt with held := [⟨0x1E00000, 3, ⟨5, 0, 0⟩⟩] } }

/-- The core runs a handler of queue 3 that was dispatched with a BUDGET of 1. -/
def budgetState : State :=
  coreState.setCtx core00 { coreState.ctx core00 with handler := some ⟨3, ⟨5, 0, 0⟩, 1, 0, 0, false⟩ }

/-- Timer 63 enabled, one-shot, at time 0. -/
def timerState : State := liveState.setFb (R.EVT_TMR_CTL_EN 63) true

/-- Queue 3 enabled at priority 5 with one event; core 0 takes events. -/
def dispatchState : State :=
  ((((queueState 3).setFd (R.EVT_Q_CFG_PRI 3) 5).setEvq 3 [⟨5, 0, 0⟩]).setCtx core00 { coreState.ctx core00 with ie := true })

/-- Sixteen queues enabled at their greatest depth. -/
def fullQueues : State :=
  (List.range 16).foldl (fun s q => (s.setFd (R.EVT_Q_CFG_LOGDEPTH q) 10).setFb (R.EVT_Q_CFG_EN q) true) liveState


/-- Every domain requested on and on. -/
def allOn : State := liveState.setRg R.PWR_CTL 0x1FFFFFE

/-- Sag stage 5 with RESET_N high. -/
def stageFive : State := { liveState.setFd R.SAG_STS_STAGE 5 with pwr := { (liveState.setFd R.SAG_STS_STAGE 5).pwr with resetN := false } }

def pktA : Pkt :=
  { id := 1, loc := .held, origin := .port 0, inPort := 0, m0 := 0, m1 := 0, m2 := 0, m3 := 0, win := [], cxl := none, data := [],
    hdrLen := 16, len := 16, rcvd := 16, complete := true, ide := false, pool := .none, cells := 0, entry := none, item := 0,
    sctx := none, rctx := none, qctx := 0, progVer := 0, arrivedPs := 0, txPort := none, txSent := 0, txDone := false, replay := false, cellIx := [], copyOf := none,
    sentPs := 0, repl := 0, ageK := false, copies := 0, dead := false, delivered := false, trace := none, ftag := none, enqPs := 0 }

def entryA : Entry :=
  { idx := 3, state := 1, role := 0, kind := 0, trap := false, origin := 0, stamp := 0, tenant := 0, inPort := 0, outPort := 0, cls := 0,
    runCnt := 1, runAck := 0, gen := 0, repl := 0, ageK := false, addr := 0, rid := 0, tag := 0, xtag := 0, lendw := 1, cplc := 0,
    dfid := 0, sfid := 0, ses := 0, eseq := 0, runout := 0, pool := 0, allocPs := 0, deadlinePs := 0, forced := false, hdr2 := 0,
    tkind := 0, gotBytes := 0, sctx := none, reason := 0, pktId := 0, tagPort := none, tagIdx := 0, ide := false, traces := [] }

def transitPkt : Pkt := { pktA with entry := some 3 }

def transitEntry : Entry := { entryA with role := 2 }

/-- Stage 5 with one transit packet held. -/
def heldTransit : State := { stageFive with pkts := [transitPkt], ldg := { stageFive.ldg with entries := [transitEntry] } }

/-- In Vigil with a valid reference and the running image kept. -/
def inVigil (run : Option (Bool × Word)) : State :=
  { (liveState.setFb R.PWR_STS_VIGIL true).setRefOk false true with
    pwr := { ((liveState.setFb R.PWR_STS_VIGIL true).setRefOk false true).pwr with vigilBoot := run } }

/-- The first bytes of an image: NARUCIMG, format 1, sequence number 1, SVN 63. -/
def aHead : List Byte := imgMagic ++ [1, 0, 0, 0, 0, 0, 0, 0, 1, 0, 0, 0, 0, 0, 0, 0, 63, 0, 0, 0]

def goodImage : ImageCheck := ⟨false, aHead, true, true, true, true⟩

def badImage : ImageCheck := ⟨true, aHead, true, true, true, true⟩

/-- An image of one section: code of 4 bytes for cluster 3 at 0x40. -/
def oneSection : List Byte :=
  List.replicate 0x60 0 ++ [1, 0] ++ List.replicate 0x9E 0 ++ [1, 0, 8, 0, 0, 0, 0, 0, 0x40, 0, 0, 0, 0, 0, 0, 0, 4, 0, 0, 0, 0x20, 1] ++
    List.replicate 10 0

/-- Slots 0 to 11 locked. -/
def twelveLocked : State := (List.range 12).foldl (fun s i => s.setFb (R.ALM_SLOT_LOCK i) true) liveState

/-- A trigger of code 4 is pending. -/
def sealWaits : State := { liveState with alm := { liveState.alm with waiting := [⟨4, 0, 0, 0⟩] } }

def aSeal : Seal := ⟨⟨4, 0, 0, 0⟩, 1, 0, [], [], 0, 1⟩

/-- A seal of slot 15 runs. -/
def sealRuns (again : Bool) : State := { liveState with alm := { liveState.alm with running := some ⟨15, again, aSeal⟩ } }

/-- An intercalation of Almanac slot 3 runs. -/
def falRuns (phase : Nat) : State := { liveState with svc := { liveState.svc with fal := some ⟨9, 3, 13, phase⟩ } }

/-- Fabric mode, with the native link of octet 0 up. -/
def fabricUp : State :=
  ((liveState.setFb R.GLB_MODE_FABRIC true).setFd (R.PRT_CTX_ROLE 0) 3).setFb (R.LNK_STS_UP 0) true

/-- Slot channel 31 enabled and in the given state. -/
def slotAt (st : Nat) : State := (liveState.setFb (R.SPC_CTL_EN 31) true).setFd (R.SPC_STS_STATE 31) st

/-- Slot channel 31 in RAMP, bound to virtual downstream port 0 of port 0 whose host asks for power off. -/
def offSlot : State :=
  ((((slotAt 3).setFb (R.PRT_VDP_B0_VALID 0 0) true).setFb (R.PRT_VDP_B1_SPCV 0 0) true).setFd (R.PRT_VDP_B1_SPC 0 0) 31).setVdp 0 0
    { VdpState.reset with powerOff := true }

/-- Channel 255 of engine 15 runs between local addresses with 8 bytes to copy. -/
def dmaWith (c : Chan) : State :=
  (((liveState.setRg (R.DMA_CH_CTL 15 255) 0xC00).setFd (R.DMA_CH_STS_STATE 15 255) 1).setRg (R.DMA_CH_CNT 15 255) 8).setChan 4095 c

def dmaRuns (abort : Bool) : State := dmaWith { Chan.reset with phase := 3, abort := abort }

/-- The PF of port 3, with channel 0, and BME 0. -/
def dmaFn : State :=
  ((((liveState.setFb (R.FFN_PF_CFG_EN 3) true).setFd (R.PRT_CTX_ROLE 3) 1).setFd (R.FFN_FN_CFG_CHCNT 4099) 1))

/-- The PF of port 3 with BME 1 and its channel 0 waiting. -/
def dmaFnRuns : State :=
  (((dmaFn.setFd (R.DMA_CH_STS_STATE 0 0) 2).setChan 0 { Chan.reset with phase := 3 }).setFn 4099 { FnState.reset with bme := true })

/-- The manager PF of port 3, bound by KIND 3, bus master in function and bridge, its log enabled and tracker 255 its own. -/
def logReady : State :=
  let s := ((((((liveState.setFd (R.PRT_CTX_ROLE 3) 1).setRg (R.FFN_PF_CFG 3) 0x1FF000000000001).setFb (R.PRT_VDP_B0_VALID 3 0) true).setFd
    (R.PRT_VDP_B0_KIND 3 0) 3).setFb R.FFN_CFG_MGRV true).setFd R.FFN_CFG_MGRPORT 3).setFb (R.FN_LOG_CFG_EN 4099) true
  (s.setFn 4099 { FnState.reset with bme := true }).setVdp 3 0 { VdpState.reset with cfg := [(4, 4)] }
theorem witness_StepRunsFrontCommand :
    ({ State.reset with pending := [.idleFrame 0 hdr0] } : State).pending = .idleFrame 0 hdr0 :: [] ∧ State.reset.pending = [] :=
  ⟨rfl, rfl⟩

theorem witness_AluResults : coreState.fetches core00 ∧ coreState.runs core00 fmtA0 ∧ fmtA0.srcB = 0 := by decide +kernel

theorem witness_AluResults_forms : coreState.guardA core00 fmtA0 = true ∧ fmtA0.dst.toNat < 8 ∧
    (⟨1, 3, 5⟩ : FmtI).srcA.toNat < 4 ∧ (⟨1, 2, 60, 3, 1⟩ : FmtF).pos.toNat + (⟨1, 2, 60, 3, 1⟩ : FmtF).width1.toNat + 1 ≤ 64 ∧
    (⟨1, 2, 60, 3, 1⟩ : FmtF).var.toNat < 2 ∧ (⟨1, 2, 60, 3, 0⟩ : FmtF).var = 0 := by decide +kernel

theorem witness_ArithmeticAgrees : (1 : Word) ≠ 0 ∧ 0 < 64 ∧ 0 + 64 ≤ 64 ∧ 63 < 64 ∧ 63 + 1 ≤ 64 ∧ 0 < 1 := by decide

theorem witness_GuardAndIllegalForms : coreState.fetches core00 ∧ coreState.guardA core00 ⟨1, 2, 0, 3⟩ = false ∧
    (⟨1, 2, 3, 0⟩ : FmtA).srcB ≠ 0 ∧ 8 ≤ (⟨8, 2, 3, 0⟩ : FmtA).dst.toNat ∧ 4 ≤ (⟨1, 4, 5⟩ : FmtI).srcA.toNat ∧
    64 < (⟨1, 2, 63, 1, 0⟩ : FmtF).pos.toNat + (⟨1, 2, 63, 1, 0⟩ : FmtF).width1.toNat + 1 ∧
    2 ≤ (⟨1, 2, 0, 1, 2⟩ : FmtF).var.toNat ∧ (⟨1, 2, 0, 1, 1⟩ : FmtF).var ≠ 0 := by decide +kernel

theorem witness_RegisterInstructionFrame : coreState.fetches core00 ∧
    ((Instr.sub core00 fmtA0, some fmtA0.dst.toNat) ∈ ([(.sub core00 fmtA0, some fmtA0.dst.toNat)] : List (Instr × Option Nat))) ∧
    (exec (.sub core00 fmtA0) coreState = .next ((coreState.wrote core00 (encA 0x01 0x01 fmtA0) 1 0))) ∧
    fmtA0.srcB = 0 ∧ fmtA0.dst.toNat < 8 ∧ (⟨1, 3, 5⟩ : FmtI).srcA.toNat < 4 := by
  refine ⟨by decide +kernel, by simp, congrArg Host.Outcome.next (?_ : _ = _), by decide, by decide, by decide⟩
  decide +kernel

theorem witness_LoadResults : coreState.fetches core00 ∧ (coreState.ctx core00).rload = none ∧
    accessFault (coreState.effAddr core00 ⟨1, 0, 5, 0x1000⟩).toNat 2 1 = some (0x04, 1, 0xFFFFFFFFFFFFF000) ∧
    (⟨1, 0, 5, 0x7FF⟩ : FmtM).size.toNat ≠ 7 ∧ accessFault (coreState.effAddr core00 ⟨1, 0, 5, 0x7FF⟩).toNat 2 1 = none ∧
    memType (coreState.effAddr core00 ⟨1, 0, 5, 0x7FF⟩).toNat = some .normal ∧
    accessFault (coreAt.effAddr core00 ⟨1, 2, 3, 0⟩).toNat 8 1 = none ∧
    memType (coreAt.effAddr core00 ⟨1, 2, 3, 0⟩).toNat = some .table ∧
    accessFault (coreAt.effAddr core00 ⟨1, 3, 3, 0⟩).toNat 8 1 = none ∧
    memType (coreAt.effAddr core00 ⟨1, 3, 3, 0⟩).toNat = some .device ∧
    coreAt.addBuffered core00 (coreAt.effAddr core00 ⟨1, 2, 3, 0⟩).toNat 8 = false ∧
    coreAt.addBuffered core00 (coreAt.effAddr core00 ⟨2, 2, 0, 0⟩).toNat 16 = false ∧
    coreAt.live (domainOf ((coreAt.effAddr core00 ⟨1, 3, 3, 0⟩).toNat - 0x40000000)) = true ∧
    accessFault (coreAt.effAddr core00 ⟨2, 3, 0, 0⟩).toNat 16 1 = none ∧
    coreAt.live (domainOf ((coreAt.effAddr core00 ⟨2, 3, 0, 0⟩).toNat - 0x40000000 + 8)) = true ∧
    (⟨2, 0, 0, 0⟩ : FmtM).size = 0 ∧ (⟨2, 0, 0, 0⟩ : FmtM).data.toNat % 2 = 0 ∧
    accessFault (coreState.effAddr core00 ⟨2, 0, 0, 0⟩).toNat 16 1 = none := by decide +kernel

theorem witness_LoadResults_remote : accessFault (remoteState.effAddr core00 ⟨1, 4, 3, 0⟩).toNat 8 1 = none ∧
    memType (remoteState.effAddr core00 ⟨1, 4, 3, 0⟩).toNat = some .remote ∧
    remoteState.remoteHeld core00 (remoteState.effAddr core00 ⟨1, 4, 3, 0⟩).toNat = false ∧
    ((remoteState.addressed core00 (encM 0x10 ⟨1, 4, 3, 0⟩) (remoteState.effAddr core00 ⟨1, 4, 3, 0⟩)).remoteRequest core00 0x20
      (remoteState.effAddr core00 ⟨1, 4, 3, 0⟩).toNat 8 []).any (fun r => r.2.2) = true ∧
    accessFault (remoteState.effAddr core00 ⟨2, 4, 0, 0⟩).toNat 16 1 = none ∧
    ((remoteState.addressed core00 (encM 0x12 ⟨2, 4, 0, 0⟩) (remoteState.effAddr core00 ⟨2, 4, 0, 0⟩)).remoteRequest core00 0x20
      (remoteState.effAddr core00 ⟨2, 4, 0, 0⟩).toNat 16 []).any (fun r => r.2.2) = true := by decide +kernel

theorem witness_StoreResults : coreState.fetches core00 ∧ (⟨1, 0, 1, 0x7FF⟩ : FmtM).size.toNat < 4 ∧
    accessFault (coreState.effAddr core00 ⟨1, 0, 1, 0x7FF⟩).toNat 2 2 = none ∧
    memType (coreState.effAddr core00 ⟨1, 0, 1, 0x7FF⟩).toNat ≠ some .device ∧ (coreState.core core00.num).sbuf.length < 16 ∧
    accessFault (coreAt.effAddr core00 ⟨1, 3, 3, 0⟩).toNat 8 2 = none ∧ memType (coreAt.effAddr core00 ⟨1, 3, 3, 0⟩).toNat = some .device ∧
    coreAt.live (domainOf ((coreAt.effAddr core00 ⟨1, 3, 3, 0⟩).toNat - 0x40000000)) = true ∧ (coreAt.ctx core00).sup = true ∧
    accessFault (coreState.effAddr core00 ⟨2, 0, 0, 8⟩).toNat 16 2 = none ∧ (⟨2, 0, 0, 8⟩ : FmtM).data.toNat % 2 = 0 ∧
    accessFault (coreAt.effAddr core00 ⟨2, 3, 0, 0⟩).toNat 16 2 = none ∧
    coreAt.live (domainOf ((coreAt.effAddr core00 ⟨2, 3, 0, 0⟩).toNat - 0x40000000 + 8)) = true ∧
    guardedReg ((coreAt.effAddr core00 ⟨2, 3, 0, 0⟩).toNat - 0x40000000) = false ∧
    (bufState.core core00.num).sbuf = ⟨0x7FFFF8, [1, 2, 3, 4, 5, 6, 7, 8], false⟩ :: [] ∧ (bufState.core core00.num).draining = none ∧
    bufState.live (13 + core00.cluster.val) = true ∧ bufState.granuleHeld core00 0x7FFFF8 8 = false := by decide +kernel

theorem witness_StoreResults_table : ∀ add : Bool,
    ((bufAt 0x11300000 add).core core00.num).sbuf = ⟨0x11300000, [1, 2, 3, 4, 5, 6, 7, 8], add⟩ :: [] ∧
    memType 0x11300000 = some .table ∧ (bufAt 0x11300000 add).live 19 = true ∧
    (bufAt 0x11300000 add).granuleHeld core00 0x11300000 8 = false ∧ 0x11300000 % 8 + 8 ≤ 8 := by decide +kernel

theorem witness_StoreResults_remote : remoteState.storeDead ⟨0x800000000000, [1, 2, 3, 4, 5, 6, 7, 8], false⟩ = false ∧
    remoteState.live (13 + core00.cluster.val) = true ∧
    (remoteState.remoteRequest core00 0x60 0x800000000000 8 [1, 2, 3, 4, 5, 6, 7, 8]).any
      (fun r => r.2.2 && ((r.1.core core00.num).draining = none)) = true := by decide +kernel

theorem witness_ReservedAndAtomicResults : coreAt.fetches core00 ∧ (⟨1, 2, 2, 4⟩ : FmtM).size = 2 ∧ (⟨1, 2, 3, 0⟩ : FmtM).size = 3 ∧
    (⟨1, 2, 2, 4⟩ : FmtM).offset.toNat < 8 ∧ atomicFault (coreAt.effAddr core00 ⟨1, 2, 2, 4⟩).toNat 4 1 false = none ∧
    coreAt.addBuffered core00 (coreAt.effAddr core00 ⟨1, 2, 2, 4⟩).toNat 4 = false ∧ (coreAt.core core00.num).sbuf.length < 16 ∧
    atomicFault (coreAt.greg core00 2).toNat 8 2 false = none ∧
    (coreAt.core core00.num).resv = some (granuleOf (coreAt.greg core00 2).toNat) ∧ (coreAt.core core00.num).sbuf = [] ∧
    (coreAt.issued core00 (encM 0x15 ⟨1, 2, 3, 1⟩)).granuleHeld core00 (coreAt.greg core00 2).toNat 8 = false ∧
    (coreState.core core00.num).resv ≠ some (granuleOf 0) ∧ coreAt.guardA core00 ⟨0, 2, 5, 0⟩ = true ∧
    0x10000000 ≤ (coreAt.greg core00 2).toNat ∧ (coreAt.greg core00 2).toNat + 8 ≤ 0x11800000 ∧ (coreAt.greg core00 2).toNat % 8 = 0 := by
  decide +kernel

theorem witness_ReservationRules : coreAt.fetches core00 ∧ (⟨1, 0, 3, 1⟩ : FmtM).size = 3 ∧ (⟨1, 0, 3, 1⟩ : FmtM).offset.toNat < 8 ∧
    atomicFault (coreAt.greg core00 0).toNat 8 2 false = none ∧ (coreAt.core core00.num).resv = some ⟨true, 0x13000⟩ ∧
    (⟨true, 0x13000⟩ : Resv) ≠ granuleOf (coreAt.greg core00 0).toNat ∧
    atomicFault (coreAt.effAddr core00 ⟨1, 2, 3, 0⟩).toNat 8 1 false = none ∧
    coreAt.addBuffered core00 (coreAt.effAddr core00 ⟨1, 2, 3, 0⟩).toNat 8 = false := by decide +kernel

theorem witness_StoreFrame : coreState.fetches core00 ∧ (⟨1, 0, 3, 8⟩ : FmtM).size.toNat < 4 ∧
    accessFault (coreState.effAddr core00 ⟨1, 0, 3, 8⟩).toNat 8 2 = none ∧
    memType (coreState.effAddr core00 ⟨1, 0, 3, 8⟩).toNat ≠ some .device ∧ (⟨2, 0, 0, 8⟩ : FmtM).data.toNat % 2 = 0 ∧
    accessFault (coreState.effAddr core00 ⟨2, 0, 0, 8⟩).toNat 16 2 = none ∧
    (bufState.core core00.num).sbuf = ⟨0x7FFFF8, [1, 2, 3, 4, 5, 6, 7, 8], false⟩ :: [] ∧ (bufState.core core00.num).draining = none ∧
    0x7FFFF8 + 8 ≤ 0x800000 ∧ bufState.live 13 = true ∧ bufState.granuleHeld core00 0x7FFFF8 8 = false := by decide +kernel

theorem witness_FenceResults : coreState.runs core00 ⟨0, 0, 0, 0⟩ ∧ (⟨0, 0, 0, 0⟩ : FmtA).dst = 0 ∧
    ((fenceState .l).ctx core00).fence = some .l ∧ ((fenceState .s).ctx core00).fence = some .s ∧
    ((fenceState .f).core core00.num).sbuf = [] ∧ ((fenceState .x).ctx core00).fence = some .x ∧
    ((fenceState .x).core core00.num).outstanding = [] ∧ ((fenceState .x).core core00.num).rfault = none ∧
    (faultedFence.ctx core00).fence = some .x ∧ (faultedFence.core core00.num).sbuf = [] ∧
    (faultedFence.core core00.num).outstanding = [] ∧ (faultedFence.core core00.num).rfault = some (0x800000000048, 2) ∧
    (faultedFence.ctx core00).exl = false := by decide +kernel

theorem witness_ControlTransferResults : coreState.fetches core00 ∧
    (((coreState.ctx core00).pred (⟨0, false, 0x3FFFFF⟩ : FmtB).pred.toNat != false) = true) ∧ coreState.runs core00 ⟨0, 0, 0, 0⟩ ∧
    (coreState.greg core00 0).toNat % 4 = 0 ∧ (coreState.ctx core00).sup = true ∧
    (lateState.runs core00 ⟨0, 2, 0, 0⟩ ∧ lateState.greg core00 2 ≠ 0 ∧ (lateState.greg core00 2).toNat ≤ (lateState.cycle core00).toNat) ∧
    (coreAt.cycle core00).toNat < (coreAt.greg core00 2).toNat ∧
    (waitState.core core00.num).waitUntil = some 9 ∧ waitState.live (13 + core00.cluster.val) = true ∧
    (haltState.core core00.num).halting = true ∧ (haltState.core core00.num).sbuf = [] := by decide +kernel

theorem witness_SystemInstructionResults : coreState.fetches core00 ∧ coreState.specialReg core00 7 = some coreState.time ∧
    coreState.specialReg core00 8 = none ∧ (coreState.ctx core00).sup = true ∧
    (((coreState.issued core00 (encI 0x33 ⟨0, 2, 4⟩)).ctx core00).setSpecial 4 (coreState.greg core00 2)).isSome = true ∧
    (⟨0, 0, 7⟩ : FmtI).imm.toNat < 8 ∧ coreState.guardA core00 ⟨0, 0, 0, 0⟩ = true ∧ (coreState.ctx core00).crit = false ∧
    (critState.ctx core00).crit = true ∧ (exlState.ctx core00).exl = true ∧ exlState.fetches core00 ∧ critState.fetches core00 ∧
    (queueState 3).evqRoom 3 = true ∧ (queueState 3).fetches core00 ∧
    coreState.evqRoom 0 = false ∧ (handlerState.ctx core00).sup = false ∧ (handlerState.ctx core00).disp.toNat ≤ 5 ∧
    handlerState.fetches core00 := by decide +kernel

theorem witness_PriorityRule : handlerState.fetches core00 ∧ (handlerState.ctx core00).sup = false ∧
    (handlerState.ctx core00).disp.toNat ≤ (4 : Fin 8).val ∧ (3 : Fin 8).val < (handlerState.ctx core00).disp.toNat ∧
    (handlerState.ctx core00).exl = false ∧ coreState.fetches core00 ∧ (coreState.ctx core00).sup = true := by decide +kernel

theorem witness_ExceptionReturn : exlState.fetches core00 ∧ (exlState.ctx core00).exl = true := by decide +kernel

theorem witness_ExceptionEntry : coreState.fetches core00 ∧ (coreState.ctx core00).exl = false ∧ reservedWord 0 = true ∧
    reservedWord 0xB4000000 = true ∧ handlerState.fetches core00 ∧ (handlerState.ctx core00).exl = false ∧
    (handlerState.ctx core00).sup = false ∧ handlerState.guardA core00 ⟨0, 0, 0, 0⟩ = true := by decide +kernel

theorem witness_TrapAndReservedWordsComplete : coreState.fetches core00 ∧ reservedWord 0 = true ∧ (critState.ctx core00).crit = true ∧
    critState.coreReady core00 = true ∧ (holdState.core core00.num).hold = some (⟨false, 0⟩, 64) := by decide +kernel

theorem witness_DoubleFaultStops : exlState.fetches core00 ∧ (exlState.ctx core00).exl = true := by decide +kernel

theorem witness_AccessExceptions : memType 0x800000 = none ∧ memType 0x43FFFFFC = some .device ∧ 0x43FFFFFC % 4 = 0 ∧
    memType 0x10000004 = some .table ∧ 0x10000004 % (if 16 = 16 then 8 else 16) ≠ 0 ∧ memType 0x7FFFFF = some .normal ∧
    0x800000 < 0x7FFFFF + 2 ∧ coreState.fetches core00 ∧ (coreState.ctx core00).exl = false ∧
    accessFault (coreState.effAddr core00 ⟨1, 0, 3, 0x1FF8⟩).toNat 8 1 = some (0x04, 1, 0xFFFFFFFFFFFFFFF8) ∧
    accessFault (coreState.effAddr core00 ⟨1, 0, 3, 0x1FF8⟩).toNat 8 2 = some (0x04, 2, 0xFFFFFFFFFFFFFFF8) ∧
    guardState.fetches core00 ∧ (guardState.ctx core00).sup = false ∧
    accessFault (guardState.effAddr core00 ⟨1, 3, 3, 0⟩).toNat 8 2 = none ∧
    memType (guardState.effAddr core00 ⟨1, 3, 3, 0⟩).toNat = some .device ∧
    guardedReg ((guardState.effAddr core00 ⟨1, 3, 3, 0⟩).toNat - 0x40000000) = true := by decide +kernel

theorem witness_LookupResults : coreState.fetches core00 ∧ (⟨1, 2, 0, 0, 0x21⟩ : FmtL).desc.toNat % 16 + 1 = 2 ∧
    (⟨1, 2, 0, 0, 0x21⟩ : FmtL).desc.getLsbD 4 = false ∧ coreState.tableOk 0 0 2 = true ∧ coreState.tableOk 5 0 2 = false := by
  decide +kernel

theorem witness_HardwareEventsAreNotLost : (∀ h ∈ (queueState 3).evt.held, h.src ≠ Src.evt.code * 0x100000) ∧
    (queueState 3).evqRoom 3 = true ∧ (queueState 3).evqRoom 4 = false ∧
    (∃ h ∈ heldState.evt.held, h.src = 0x1E00000 ∧ h.queue = 3 ∧ h.event.typ = 5 ∧ h.event.arg = 0) ∧
    (∀ h ∈ heldState.evt.held, h.src = 0x1E00000 → ¬(h.queue = 3 ∧ h.event.typ = 5 ∧ h.event.arg = 1)) := by decide +kernel

theorem witness_EventRows : heldState.evt.held = ⟨0x1E00000, 3, ⟨5, 0, 0⟩⟩ :: [] ∧ heldState.evqRoom 3 = true ∧
    (budgetState.ctx core00).handler = some ⟨3, ⟨5, 0, 0⟩, 1, 0, 0, false⟩ ∧ 1 * 100000 ≠ 0 ∧
    timerState.live 21 = true ∧ timerState.fb (R.EVT_TMR_CTL_EN 63) = true ∧ timerState.fd (R.EVT_TMR_PER_PERIOD 63) = 0 ∧
    (timerState.setRg (R.EVT_TMR_PER 63) 7).fb (R.EVT_TMR_CTL_EN 63) = true ∧
    (timerState.setRg (R.EVT_TMR_PER 63) 7).fd (R.EVT_TMR_PER_PERIOD 63) = 7 ∧
    (((timerState.setRg (R.EVT_TMR_PER 63) 7).waitUntil 5000).time.toNat - 0) / 7 < 65536 ∧
    liveState.reaches .sideband (R.EVT_MBX_DB 15) ∧ liveState.fb (R.EVT_MBX_STS_BUSY 15) = false ∧
    (liveState.setFb (R.EVT_MBX_STS_BUSY 15) true).reaches .sideband (R.EVT_MBX_DB 15) ∧
    (liveState.setFb (R.EVT_MBX_STS_BUSY 15) true).fb (R.EVT_MBX_STS_BUSY 15) = true ∧
    liveState.reaches .sideband (R.EVT_MBX_RSP 15) := by decide +kernel

theorem witness_EventDispatch :
    dispatchState.bestQueue 0 ((List.range 64).filter fun q => dispatchState.servable q &&
      (clusterCores 0).any fun c => dispatchState.eligible c q) = some 3 ∧
    dispatchState.bestCore ((clusterCores 0).filter fun c => dispatchState.eligible c 3) = some core00 ∧
    dispatchState.evq 3 = ⟨5, 0, 0⟩ :: [] := by decide +kernel

theorem witness_QueueConfigurationRule : liveState.reaches .sideband (R.EVT_Q_CFG 63) ∧ liveState.evq 63 = [] ∧
    liveState.fb (R.EVT_Q_CFG_EN 63) = false ∧ wField 3 1 (0x8 : Word) = 1 ∧ wField 3 1 (0 : Word) = 0 ∧
    (fullQueues.reaches .sideband (R.EVT_Q_CFG 63) ∧ 16384 < ((List.range 64).map fun i => if i ≠ 63 ∧
      fullQueues.fb (R.EVT_Q_CFG_EN i) then 2 ^ min 10 (max 4 (fullQueues.fd (R.EVT_Q_CFG_LOGDEPTH i))) else 0).sum + 2 ^ 4) := by
  decide +kernel

theorem witness_CoreLifecycleRows : liveState.live 21 = true ∧ liveState.coreEnabled ⟨3, 5⟩ = false ∧ liveState.live 16 = true ∧
    (liveState.core 29).draining = none ∧ coreState.coreEnabled core00 = true ∧ (coreState.core core00.num).draining = none ∧
    (coreState.core core00.num).sbuf = [] ∧ coreState.goingOff 13 = false ∧ (bufState.core core00.num).sbuf ≠ [] ∧
    ((bufState.setCore 0 { bufState.core 0 with draining := some 7 }).core core00.num).draining = some 7 ∧
    liveState.reaches .sideband (R.CCL_WDT 3) ∧ (liveState.setFb (R.CCL_WDT_EN 3) true).live 21 = true ∧
    (liveState.setFb (R.CCL_WDT_EN 3) true).fb (R.CCL_WDT_EN 3) = true := by decide +kernel

theorem witness_PowerDomainRows : liveState.reaches .sideband R.PWR_CTL ∧ liveState.fb R.PWR_STS_VIGIL = false ∧
    (∀ d, 1 ≤ d → d ≤ 24 → liveState.fb (pwrOn d) = false) ∧ liveState.pwrRefusal 24 true = 0 ∧
    (allOn.fb (pwrOn 17) = true ∧ allOn.pwrRefusal 17 false = 0 ∧ allOn.pwrRefusal 1 false = 0 ∧ allOn.pwrRefusal 24 false = 1 ∧
      allOn.pwrRefusal 16 false = 0 ∧ allOn.reaches .sideband R.PWR_CTL ∧
      (∀ e, 1 ≤ e → e ≤ 24 → e ≠ 16 → allOn.fb (pwrOn e) = decide (wField e 1 (0x1FEFFFE : Word) = 1))) ∧
    ((liveState.setFb (pwrTrans 18) true).fb (pwrTrans 18) = true ∧ (liveState.setFb (pwrTrans 18) true).fb (pwrOn 18) = false) ∧
    ((allOn.setFb (pwrTrans 24) true).fb (pwrTrans 24) = true ∧ (allOn.setFb (pwrTrans 24) true).fb (pwrOn 24) = true) := by
  decide +kernel

theorem witness_ReferenceClockRows :
    (let s := (liveState.setRefOk false true).setRefOk true true
     s.fb R.CLK_STS_REFSEL = false ∧ s.refOk false = true ∧ s.refOk true = true ∧ s.fb R.CLK_CTL_AUTO = true) ∧
    (let s := liveState.setRefOk false true
     s.fb R.CLK_STS_REFSEL = false ∧ s.refOk false = true ∧ s.refOk true = false) ∧
    (let s := ((liveState.setFb R.CLK_CTL_PREF true).setFb R.CLK_CTL_REVERT true).setRefOk true true
     s.fb R.CLK_CTL_PREF = true ∧ s.fb R.CLK_CTL_REVERT = true ∧ s.fb R.CLK_STS_REFSEL = false ∧ s.refOk true = true) ∧
    (let s := liveState.setFb R.CLK_STS_HOLD true
     s.refOk false = false ∧ s.refOk true = false ∧ s.fb R.CLK_STS_HOLD = true ∧ s.fb R.PWR_STS_VIGIL = false ∧
     s.fb R.CLK_STS_REFSEL = false ∧ s.fb R.CLK_CTL_AUTO = true) ∧
    liveState.refOk true = false ∧ liveState.fb R.CLK_STS_HOLD = false ∧ liveState.fb R.CLK_STS_AOXT = true := by decide +kernel

theorem witness_SagStageRows :
    (liveState.fb R.PWR_STS_VIGIL = false ∧ liveState.sagStage = 0 ∧ liveState.fb R.SAG_CFG_EN = true ∧ (0 : BitVec 16).toNat < liveState.sagLevel 1 1 ∧
      0 < (liveState.setFb R.SAG_CFG_EN false).sagLevel 2 1 ∧ (liveState.setFb R.SAG_CFG_EN false).fb R.SAG_CFG_EN = false ∧ (liveState.setFb R.SAG_CFG_EN false).sagStage = 0) ∧
    (let s := (liveState.setFd R.SAG_STS_STAGE 1).setFd R.SAG_STS_SRC 4
     s.fd R.SAG_CFG_FORCE = 0 ∧ s.pwr.refLoss = false ∧ s.sagStage = 1 ∧ 4 ≤ s.fd R.SAG_STS_SRC) ∧
    (let s := (stageFive.setFd R.SAG_STS_SRC 4).setFb R.SAG_STS_S5DONE true
     s.fd R.SAG_CFG_FORCE = 0 ∧ s.pwr.refLoss = false ∧ s.sagStage = 5 ∧ s.fb R.SAG_STS_S5DONE = true ∧ 4 ≤ s.fd R.SAG_STS_SRC) ∧
    stageFive.sagStage = 5 ∧ stageFive.fb R.SAG_STS_S5DONE = false ∧ liveState.reaches .sideband R.SAG_CFG ∧
    wField 4 3 (0x70 : Word) = 7 ∧ wField 4 3 (0x50 : Word) = 5 ∧ liveState.reaches .sideband R.SAG_STS ∧
    (heldTransit.sagStage = 5 ∧ (heldTransit.waitUntil (heldTransit.pwr.s5Ps + 200000000)).pkts = [transitPkt] ∧
      transitPkt.entry = some 3 ∧ (heldTransit.waitUntil (heldTransit.pwr.s5Ps + 200000000)).entry? 3 = some transitEntry ∧
      transitEntry.role = 2 ∧ heldTransit.links = []) := by decide +kernel

theorem witness_VigilAndResetRows :
    (let s := stageFive.setFb R.SAG_STS_S5DONE true
     s.fb R.PWR_STS_VIGIL = false ∧ s.pwr.resetN = false ∧ s.sagStage = 5 ∧ s.bumpFv.settle.sagStage = 5 ∧
     s.bumpFv.settle.fb R.SAG_STS_S5DONE = true ∧ s.bumpFv.settle.cores = []) ∧
    (inVigil none).fb R.PWR_STS_VIGIL = true ∧ (inVigil none).refOk false = true ∧ (inVigil none).fb R.CLK_STS_REFSEL = false ∧
    (inVigil none).pwr.vigilBoot = none ∧ (inVigil (some (false, 1))).pwr.vigilBoot.isSome = true ∧
    (inVigil (some (false, 1))).fb R.PWR_STS_VIGIL = true ∧ (inVigil (some (false, 1))).refOk false = true ∧
    (stageFive.pwr.resetN = false ∧ stageFive.pwr.aoOn = true) ∧
    (State.reset.pwr.resetN = true ∧ State.reset.pwr.aoOn = true ∧ State.reset.hung = [] ∧ State.reset.links = []) ∧
    liveState.pwr.aoOn = true ∧ ({ liveState with pwr := { liveState.pwr with aoOn := false } } : State).pwr.aoOn = false := by
  decide +kernel

theorem witness_BootRows :
    (let s : State := { liveState with pwr := { liveState.pwr with boot := 1 } }
     s.pwr.boot = 1 ∧ s.live 22 = true ∧ s.pwr.vigilBoot = none) ∧
    ({ liveState with pwr := { liveState.pwr with boot := 2 } } : State).pwr.boot = 2 ∧
    ({ liveState with pwr := { liveState.pwr with boot := 3 } } : State).pwr.boot = 3 ∧
    liveState.live 22 = true ∧ liveState.live (13 + (3 : Fin 4).val) = true ∧
    (∃ c : Fin 4, ((liveState.copyCluster 3 []).sec.clusterImg.set none 3 (some (false, imgSeq []))).get none c.val ≠ some (false, imgSeq [])) ∧
    (let s : State := { liveState with sec := { liveState.sec with clusterImg := [(0, some (false, 0)), (1, some (false, 0)), (2, some (false, 0))] } }
     ∀ c : Fin 4, ((s.copyCluster 3 []).sec.clusterImg.set none 3 (some (false, imgSeq []))).get none c.val = some (false, imgSeq [])) ∧
    imgSections oneSection = [⟨1, false, 8, 0x40, 4, 0x120⟩] ∧ natField 3 1 8 = 1 := by decide +kernel

theorem witness_BootImages : goodImage.code Config.svnFused.toNat Config.ownerFused = 0 ∧
    badImage.code Config.svnFused.toNat Config.ownerFused ≠ 0 := by
  have h : Config.svnFused.toNat < 64 := Config.svnFused.isLt
  have hv : imgSvn goodImage.head = 63 := by decide
  have hm : imgMagicOk goodImage.head = true := by decide
  have he : imgEarlyBytes goodImage.head = 0 := by decide +kernel
  constructor
  · simp only [ImageCheck.code, hv, hm, he]
    simp [goodImage]; omega
  · simp [ImageCheck.code, badImage]

theorem witness_AlmanacRows : liveState.reaches .sideband (R.ALM_FWREC 31 2) ∧ liveState.reaches .sideband (R.ALM_SLOT 15) ∧
    ((List.range 16).filter fun j => liveState.fb (R.ALM_SLOT_LOCK j) || j = 15).length ≤ 12 ∧
    12 < ((List.range 16).filter fun j => twelveLocked.fb (R.ALM_SLOT_LOCK j) || j = 15).length ∧
    twelveLocked.reaches .sideband (R.ALM_SLOT 15) ∧
    (let s := liveState.setFd (R.ALM_SLOT_STATE 15) 1
     s.fd (R.ALM_SLOT_STATE 15) = 1 ∧ s.fb (R.ALM_SLOT_LOCK 15) = false) ∧ liveState.fd (R.ALM_SLOT_STATE 15) ≠ 1 ∧
    liveState.reaches .sideband R.ALM_CMD ∧ natField 4 1 (liveState.fd R.ALM_CFG_TEN) = 1 ∧ liveState.almAllLocked = false ∧
    liveState.alm.waiting = [] ∧ liveState.alm.lastBeganPs = none ∧
    (sealWaits.pwr.aoOn = true ∧ sealWaits.alm.waiting = [⟨4, 0, 0, 0⟩] ∧ sealWaits.alm.running = none ∧ sealWaits.svc.fal = none ∧
      sealWaits.almTarget = some 0) ∧
    (sealRuns true).alm.running = some ⟨15, true, aSeal⟩ ∧ (sealRuns true).almWrites 15 < 900000000 := by decide +kernel

theorem witness_WearAndFallowRows : liveState.reaches .sideband R.PCN_SNAP ∧ wField 0 32 (0 : Word) = liveState.fd R.PCN_EPOCH_EPOCH ∧
    wField 0 32 (1 : Word) ≠ liveState.fd R.PCN_EPOCH_EPOCH ∧ liveState.reaches .sideband R.TRC_SEED ∧
    liveState.fb R.WEAR_CFG_EN = true ∧ liveState.sagStage = 0 ∧ liveState.inService 3 63 = true ∧
    liveState.fd R.WEAR_THR_ROSC ≤ (300#16).toNat ∧ liveState.svc.alarms.get false (elemKey 3 63) = false ∧
    liveState.reaches .sideband R.WEAR_IDX ∧ liveState.reaches .sideband R.WEAR_ACK ∧ liveState.sagStage < 2 ∧
    (let s : State := { liveState with svc := { liveState.svc with
      gauges := liveState.svc.gauges.set none (elemKey 7 29) (some ⟨1, 2, 3, 4, 5⟩), testing := liveState.svc.testing.set false 25 true } }
     wField 0 8 (0x1D07 : Word) = 7 ∧ s.svc.gauges.get none (elemKey 7 (wField 8 16 (0x1D07 : Word))) = some ⟨1, 2, 3, 4, 5⟩ ∧
     s.svc.testing.get false 25 = true) ∧
    liveState.reaches .sideband R.FAL_CMD ∧ wField 32 1 (0x11D000A03 : Word) = 1 ∧
    liveState.falRefusal (wField 24 5 (0x11D000A03 : Word)) (wField 0 8 (0x11D000A03 : Word)) (wField 8 16 (0x11D000A03 : Word)) ≠ 0 ∧
    liveState.fb R.FAL_STS_BUSY = false ∧ (liveState.setFb R.FAL_STS_BUSY true).fb R.FAL_STS_BUSY = true ∧
    (falRuns 1).svc.fal = some ⟨9, 3, 13, 1⟩ ∧ (falRuns 4).svc.fal = some ⟨9, 3, 13, 4⟩ := by decide +kernel

/-- A spare that is available by its fuse, in a part whose fuse says so. -/
theorem witness_SpareAvail (h : Config.spareAvail 13 = true) :
    liveState.spareAvail 13 = true ∧ liveState.falRefusal 13 9 3 = 0 := by
  have a : liveState.spareInUse 13 = false := by decide +kernel
  have b : liveState.fb (R.FAL_SPARE_FAILED 13) = false := by decide +kernel
  have c : liveState.inService 9 3 = true := by decide +kernel
  have d : liveState.sagStage = 0 := by decide +kernel
  have e : liveState.fb R.FAL_STS_BUSY = false := by decide +kernel
  have f : spareServes 13 9 3 = true := by decide
  simp [State.falRefusal, State.spareAvail, h, a, b, c, d, e, f]

theorem witness_ServiceRegisterRows : liveState.reaches .sideband R.GLB_MODE ∧ liveState.anyLinkUp = false ∧ liveState.sesActive = 0 ∧
    (fabricUp.reaches .sideband R.GLB_MODE ∧ fabricUp.fb R.GLB_MODE_FABRIC = true ∧ fabricUp.anyLinkUp = true) ∧
    liveState.reaches .sideband R.SEC_VERIFY ∧ liveState.fb R.SEC_VERIFY_BUSY = false ∧ liveState.sec.flashOp = none ∧
    (liveState.setFb R.SEC_VERIFY_BUSY true).fb R.SEC_VERIFY_BUSY = true ∧
    (let s : State := { liveState with sec := { liveState.sec with verifyB := some true, flashOp := some (1, false, 0) } }
     s.sec.verifyB = some true ∧ s.sec.verifyWaits = false ∧ s.sec.flashWaits = false ∧ s.sec.flashOp = some (1, false, 0)) ∧
    liveState.reaches .sideband R.SEC_FLCTL ∧ liveState.fb R.SEC_FLCTL_BUSY = false ∧ liveState.sec.verifyB = none ∧
    liveState.fb R.SEC_BOOT_STS_RUN = false ∧ liveState.fb R.SEC_BOOT_STS_RECOV = false ∧
    liveState.reaches .sideband R.GLB_STS ∧ liveState.reaches .sideband R.CLK_CTL ∧ liveState.reaches .sideband 0x4000 ∧
    (List.replicate 256 (0 : Byte)).length = 256 := by decide +kernel

theorem witness_SlotChannelRows : liveState.live 24 = true ∧ liveState.live 0 = true ∧ liveState.fb (R.SPC_CTL_EN 31) = false ∧
    liveState.spcState 31 = 0 ∧ (liveState.spc 31).heldPs = none ∧ (slotAt 1).fb (R.SPC_STS_PRSNT 31) = false ∧
    (slotAt 1).spcBound 31 = [] ∧ (slotAt 1).spcState 31 = 1 ∧
    (let s := (slotAt 6).setFb (R.SPC_STS_PRSNT 31) true
     s.fb (R.SPC_STS_PRSNT 31) = true ∧ s.spcBound 31 = [] ∧ s.bindings = [] ∧ s.spcState 31 = 6 ∧ s.live 24 = true) ∧
    ((slotAt 4).spcState 31 = 4 ∧ (slotAt 4).fb (R.SPC_CTL_EN 31) = true ∧ (slotAt 4).fb (R.SPC_STS_PWRGD 31) = false ∧
      (slotAt 4).fb (R.SPC_STS_INLIM 31) = false ∧ (slotAt 4).fb (R.SPC_STS_VINOK 31) = false) ∧
    (let s := (slotAt 4).setFb (R.SPC_STS_VINOK 31) true
     s.fb (R.SPC_STS_VINOK 31) = true ∧ s.spcState 31 = 4) ∧
    (let s := (slotAt 4).setFb (R.SPC_STS_PWRGD 31) true
     s.spcState 31 = 4 ∧ s.fb (R.SPC_STS_PWRGD 31) = true ∧ s.fb (R.SPC_STS_PERST 31) = true ∧ s.fb (R.SPC_CTL_PERSTF 31) = false) ∧
    (let s := ((slotAt 2).setFb (R.SPC_STS_PRSNT 31) true).setFb (R.SPC_STS_VINOK 31) true
     s.spcMayRamp 31 = true) ∧
    (slotAt 3).spcState 31 = 3 ∧ (slotAt 3).fb (R.SPC_STS_INLIM 31) = false ∧ (slotAt 5).spcState 31 = 5 ∧
    (slotAt 5).fb R.PWR_STS_VIGIL = false ∧ (slotAt 7).setFb (R.SPC_CTL_EN 31) false ≠ slotAt 7 ∧
    ((slotAt 7).setFb (R.SPC_CTL_EN 31) false).spcState 31 = 7 ∧ ((slotAt 4).setFb (R.SPC_STS_INLIM 31) true).fb (R.SPC_STS_INLIM 31) = true ∧
    (let s := (slotAt 4).setSpc 31 { Spc.reset with heldPs := some 5 }
     (s.spc 31).heldPs = some 5 ∧ (s.spc 31).holdEnd = 0 ∧ s.fd (R.SPC_CTL_TMODE 31) = 0 ∧ s.live 24 = true ∧ s.spcHostOff 31 = false) ∧
    (slotAt 3).spcHostOff 31 = false ∧ (offSlot.spcHostOff 31 = true ∧ offSlot.spcState 31 = 3 ∧ offSlot.live 24 = true) := by decide +kernel

theorem witness_SlotTrips :
    (let s := (slotAt 4).setFb (R.SPC_STS_INLIM 31) true
     s.live 24 = true ∧ (s.spc 31).heldPs = none ∧ s.fb (R.SPC_STS_INLIM 31) = true ∧ s.spcState 31 = 4 ∧
     s.fb (R.SPC_CTL_EN 31) = true) ∧
    (let s := (slotAt 3).setFb (R.SPC_STS_INLIM 31) true
     s.spcState 31 = 3 ∧ s.fb (R.SPC_STS_INLIM 31) = true) ∧
    (let s := ((slotAt 4).setFd (R.SPC_CTL_TMODE 31) 1).setFd (R.SPC_TM_TTRIP 31) 127
     s.fd (R.SPC_CTL_TMODE 31) = 1 ∧ (127#8).toNat < 128 ∧ s.fd (R.SPC_TM_TTRIP 31) ≤ (127#8).toNat ∧ s.spcState 31 = 4) ∧
    (let s := (slotAt 4).setSpc 31 { Spc.reset with heldPs := some 5, holdEnd := 2 }
     (s.spc 31).heldPs.isSome = true ∧ (s.spc 31).holdEnd = 2 ∧ s.live 24 = true) ∧
    (liveState.spcState 31 ≠ 3 ∧ liveState.spcState 31 ≠ 4 ∧ liveState.spcBound 31 = []) ∧
    (let s := (slotAt 6).setFb (R.SPC_STS_COOLACT 31) true
     s.fb (R.SPC_STS_COOLACT 31) = true ∧ s.spcInUse 31 < (s.fd (R.SPC_TM_TARM 31) : Int) * 256) := by decide +kernel

theorem witness_DmaRows : liveState.reaches .sideband (R.DMA_CH_CTL 15 255) ∧ liveState.chState 4095 = 0 ∧
    liveState.fnOfChan 4095 = none ∧ (0xA000#64).getLsbD 1 = false ∧ 4 < wField 13 3 (0xA000 : Word) ∧ wField 13 3 (0x8000 : Word) ≤ 4 ∧
    (liveState.setRg (R.DMA_CH_CNT 15 255) 8).chCnt 4095 ≠ 0 ∧
    (dmaRuns false).reaches .sideband (R.DMA_CH_CTL 15 255) ∧ (dmaRuns false).chState 4095 = 1 ∧ (dmaRuns false).live 17 = true ∧
    (dmaRuns false).engStop 15 = none ∧ (dmaRuns false).engChans 15 = [4095] ∧ ((dmaRuns false).chan 4095).bursts = [] ∧
    ((dmaRuns false).chan 4095).phase = 3 ∧ (dmaRuns false).sagStage < 3 ∧ ((dmaRuns true).chan 4095).abort = true ∧
    (dmaRuns true).chFlag R.DMA_CH_CTL_IE 4095 = false ∧ ((dmaRuns false).chan 4095).local_ = none ∧
    (dmaRuns false).chFlag R.DMA_CH_CTL_SLOC 4095 = true ∧ (dmaRuns false).fb (R.DMA_ENG_CTL_SGV 15) = false ∧ (dmaRuns false).engMoves 15 = false ∧
    ((dmaRuns false).chan 4095).next < (dmaRuns false).chCnt 4095 := by decide +kernel

theorem witness_DmaRowsFetch :
    (let bs : List Byte := List.replicate 16 0 ++ [1] ++ List.replicate 15 0
     ((dmaWith { Chan.reset with phase := 2, fetched := some bs }).chan 4095).fetched = some bs ∧ bs.length = 32 ∧
     ofBytesLE ((bs.drop 16).take 4) ≠ 0) ∧
    (let s := dmaWith { Chan.reset with phase := 3, next := 2, bursts := [⟨0, 2, some 0, some [7, 8], false, false, none⟩],
                                        local_ := some (1, 0) }
     (s.chan 4095).local_ = some (1, 0) ∧ localOk ((s.chDst 4095 + 0) % 2 ^ 64) 2 = true ∧
     s.live (localDomain ((s.chDst 4095 + 0) % 2 ^ 64)) = true ∧ (s.chDone 4095 + 2) % 2 ^ 32 ≠ s.chCnt 4095 ∧
     localOk (((s.setFd (R.DMA_CH_DST_ADDR 15 255) 0x11800000).chDst 4095 + 0) % 2 ^ 64) 2 = false) ∧
    (let s := (dmaWith Chan.reset).setEngStop 15 (some ⟨some 4095, 0, [], 0⟩)
     s.engStop 15 = some ⟨some 4095, 0, [], 0⟩) := by decide +kernel

theorem witness_DmaRowsBme : dmaFn.fnOfChan 0 = some 4099 ∧ (dmaFn.fn 4099).bme = false ∧ dmaFn.chState 0 = 0 ∧
    dmaFn.reaches .sideband (R.DMA_CH_CTL 0 0) := by decide +kernel

theorem witness_FunctionRows :
    (dmaFnRuns.live 21 = true ∧ 0 ∈ dmaFnRuns.dma.chans.map (fun x => x.1) ∧ dmaFnRuns.fnHasChan 4099 0 = true ∧
      dmaFnRuns.chState 0 = 2 ∧ (dmaFnRuns.fn 4099).bme = true ∧ dmaFnRuns.reaches .sideband (R.FFN_FN_CFG 4099) ∧
      (dmaFnRuns.fn 4099).rst = none ∧ dmaFnRuns.fnPort 4099 = some 3 ∧
      dmaFnRuns.fd (R.FFN_FN_CFG_CHBASE 4099) + dmaFnRuns.fd (R.FFN_FN_CFG_CHCNT 4099) ≤ 4096 ∧ dmaFnRuns.fnCfgs = [4099]) ∧
    ((dmaFn.setFn 4099 { FnState.reset with rst := some 0 }).fn 4099).rst.isSome = true ∧
    ((dmaFn.setFn 4099 { FnState.reset with vfEnable := true, numVfs := 1 }).fn 4099).vfEnable = true ∧
    (0 ∈ (dmaFn.setFn 4099 { FnState.reset with vfEnable := true, numVfs := 1 }).fnsOf 3) ∧
    (dmaFn.setFb R.FFN_CFG_MBXQV true).fb (R.FN_MBX_STS_BUSY 4099) = false ∧ (dmaFn.setFb R.FFN_CFG_MBXQV true).fb R.FFN_CFG_MBXQV = true ∧
    dmaFn.fb R.FFN_CFG_MBXQV = false ∧ dmaFn.reaches .sideband (R.FN_MBX_RSP 4099) ∧ dmaFn.reaches .sideband R.FFN_CFG ∧
    ¬(dmaFn.fd (R.PRT_CTX_ROLE 3) = 1 ∧ dmaFn.fb (R.PRT_CTX_MGMT 3) = true ∧ dmaFn.fd (R.PRT_CTX_TENANT 3) = 0) ∧
    ((dmaFn.setFb (R.PRT_CTX_MGMT 3) true).fd (R.PRT_CTX_ROLE 3) = 1 ∧ (dmaFn.setFb (R.PRT_CTX_MGMT 3) true).fb (R.PRT_CTX_MGMT 3) = true ∧
      (dmaFn.setFb (R.PRT_CTX_MGMT 3) true).fd (R.PRT_CTX_TENANT 3) = 0) ∧
    (dmaFn.fn 4099).vfEnable = false ∧ dmaFn.kind3 3 = none ∧ 256 < wField 48 8 (0x10FF000000000000 : Word) + wField 56 5 (0x10FF000000000000 : Word) ∧
    4096 < wField 32 12 (0x0002FFF00000000 : Word) + wField 48 9 (0x0100FFF00000000 : Word) ∧ dmaFn.dma.chans = [] := by decide +kernel

theorem witness_LogAndDirtyRows :
    (let w : WaitRec := ⟨⟨0, 0, 0, 1, 1, 0, 0, false, 1, 0⟩, .log none⟩
     let s : State := { logReady with ldg := { logReady.ldg with overflow := [w] } }
     s.live 21 = true ∧ s.fnPort 4099 = some 3 ∧ s.logRoom 4099 = true ∧ s.nextRecord 4099 = some w ∧ w.r.remaining ≠ 0 ∧
     s.ldg.recWait = [] ∧ s.ldg.entries = []) ∧
    ((logReady.setFn 4099 { FnState.reset with vecPending := true }).fn 4099).vecPending = true ∧
    logReady.dlPf 255 = some 3 ∧ logReady.fb (R.DL_CTL_EN 255) = false ∧ wField 0 1 (0xFFF00000001 : Word) = 1 ∧
    wField 16 16 (0xFFF00000001 : Word) = 0 ∧ wField 32 12 (0xFFF00000001 : Word) = 4095 ∧ wField 1 1 (0xFFF00000001 : Word) = 0 ∧
    (logReady.fn (4096 + 3)).bme = true ∧ ((logReady.setFn 4099 FnState.reset).fn (4096 + 3)).bme = false ∧
    ((logReady.setFn 4099 FnState.reset).dlPf 255 = some 3) ∧ logReady.fnIssues 4099 = true ∧ logReady.fb (R.DL_STS_OVF 255) = false ∧
    (logReady.fd (R.DL_PROD_PROD 255) + 2 ^ 32 - logReady.fd (R.DL_CONS_CONS 255)) % 2 ^ 32 < 2 ^ logReady.fd (R.DL_RCFG_LOGSZ 255) ∧
    logReady.fb (R.DL_STS_SYNCP 255) = false ∧ (logReady.setFb (R.DL_STS_SYNCP 255) true).fb (R.DL_STS_SYNCP 255) = true := by
  decide +kernel

def ledgerWith (e : Entry) : State := { liveState with ldg := { liveState.ldg with entries := [e] } }

/-- A completion without data. -/
def aCpl : Tlp := ⟨none, false, 0x0A000000000000000000000000000000, [], [], false⟩

theorem witness_LedgerRows :
    (let s := ledgerWith { entryA with runCnt := 0, tkind := 2 }
     let e : Entry := { entryA with runCnt := 0, tkind := 2 }
     s.entry? 3 = some e ∧ e.role ≤ 1 ∧ e.state = 1 ∧ e.origin = 0 ∧ e.runout.getLsbD 0 = false ∧ s.recordRoom e.tenant = true ∧
     s.ldg.recWait = [] ∧ s.fd R.LDG_CNT_FAILED < 2 ^ 32 - 1) ∧
    liveState.reaches .sideband R.LDG_IDX ∧ (ledgerWith entryA).entry? (3 : BitVec 18).toNat = some entryA ∧
    liveState.entry? (0x3FFFF : BitVec 18).toNat = none ∧ liveState.reaches .sideband R.LDG_AERC ∧
    liveState.fb R.LDG_AERS_BUSY = false ∧ (0x1000000 : Word).getLsbD 24 = true := by decide +kernel

theorem witness_LedgerRowsMore :
    (let s := { liveState with ldg := { liveState.ldg with aerPending := some 0x1000, hist := [⟨0, 1, 0, 0⟩] } }
     s.ldg.aerPending = some 0x1000 ∧ s.ldg.hist = [⟨0, 1, 0, 0⟩] ∧ (⟨0, 1, 0, 0⟩ : PageHist).port = s.fd R.LDG_AERC_PORT ∧
     (⟨0, 1, 0, 0⟩ : PageHist).page = (0x1000 : Word).toNat / 4096) ∧
    (let k : Pkt := { pktA with entry := some 3 }
     let s := { (ledgerWith { entryA with role := 3 }).setPort 127 { PciPort.reset with awaitAck := [1] } with pkts := [k] }
     (s.port 127).awaitAck = [1] ∧ s.pkt? 1 = some k ∧ k.entry = some 3 ∧ kindNp k.tkind = false ∧
     s.entry? 3 = some { entryA with role := 3 }) ∧
    (let s := { liveState with ldg := { liveState.ldg with quar := [⟨127, .index 4, 1, none, 9⟩] } }
     s.ldg.quar = [⟨127, .index 4, 1, none, 9⟩]) ∧
    (let s := ((liveState.setFd (R.PRT_CTX_ROLE 127) 1).setFb (R.PRT_LSTS_UP 127) true).setPort 127 { PciPort.reset with placed := some roomy }
     let e : Entry := { entryA with tagPort := some 127 }
     let m := { s with ldg := { s.ldg with entries := [e] } }
     aCpl.ok = true ∧ kindCpl aCpl.tkind = true ∧ s.creditsTlp 127 aCpl = true ∧ liveState.creditsTlp 127 aCpl = false ∧
     (s.port 127).ideKey = none ∧ (m.port 127).ideKey = none ∧
     ((s.endCut 127).countReceived (s.tlpPkt 127 aCpl)).matchTag false 127 (s.tlpPkt 127 aCpl).reqId (s.tlpPkt 127 aCpl).rspTag = none ∧
     m.creditsTlp 127 aCpl = true ∧ m.fd (R.PRT_CTX_ROLE 127) = 1 ∧ aCpl.cxl = none ∧
     ((m.endCut 127).countReceived (m.tlpPkt 127 aCpl)).matchTag false 127 (m.tlpPkt 127 aCpl).reqId (m.tlpPkt 127 aCpl).rspTag = some e) := by
  decide +kernel

theorem witness_MemoryErrorRows : (.tableMemory : ScrubKind) ≠ .ledger ∧ (ledgerWith entryA).entry? (3 : Word).toNat = some entryA ∧
    (ledgerWith entryA).recordRoom 0 = true ∧ (ledgerWith entryA).ldg.recWait = [] ∧ ({ liveState with pkts := [{ pktA with win := [0x0F00000000000000] }] } : State).pkt? 1 = some { pktA with win := [0x0F00000000000000] } ∧ pktA.txPort = none ∧ ({ pktA with win := [0x0F00000000000000] } : Pkt).cls = 15 := by decide +kernel

def jobRuns (j : TblJob) : State := { liveState with tbl := { liveState.tbl with job := some j } }

theorem witness_TableRows : liveState.reaches .sideband R.TBL_COMMIT ∧ (liveState.setFb R.TBL_STS_BUSY true).reaches .sideband R.TBL_COMMIT ∧
    (liveState.setFb R.TBL_STS_BUSY true).fb R.TBL_STS_BUSY = true ∧ liveState.fb R.TBL_STS_BUSY = false ∧
    liveState.draining (some 8191) = false ∧ liveState.draining none = false ∧
    (let d := { liveState with tbl := { liveState.tbl with drain := [(8191, [1]), (8192, [1])] } }
     d.draining (some 8191) = true ∧ d.draining none = true ∧ d.reaches .sideband R.TBL_COMMIT ∧ d.fb R.TBL_STS_BUSY = false) ∧
    (jobRuns (.commit 8191 true)).tbl.job = some (.commit 8191 true) ∧
    ((jobRuns (.commit 8191 true)).flipVer (some 8191)).checkTenant 8191 = none := by decide +kernel

/-- The shadow copy of tenant 5 is valid with the reserved FAILRD. -/
def badShadow : State := (jobRuns (.commit 5 false)).setRg (R.TNT_CFG 5 1) 0x19

theorem witness_TableRowsMore : (badShadow.flipVer (some 5)).checkTenant 5 = some ⟨6, none, none⟩ ∧
    ((jobRuns (.route 0 false)).flipVer none).checkRoute (jobRuns (.route 0 false)) = none ∧
    Memory.wf (jobRuns (.sync 5)) = true ∧ (jobRuns (.sync 5)).tbl.job = some (.sync 5) ∧
    liveState.reaches .sideband R.TBL_HB_KICK ∧ (liveState.setFb R.TBL_HB_EN true).live 19 = true ∧
    (liveState.setFb R.TBL_HB_EN true).fb R.TBL_HB_EN = true ∧ (liveState.setFb R.TBL_HB_EN true).fb R.TBL_FB_ACTIVE = false ∧
    liveState.reaches .sideband R.TBL_FB ∧
    ({ liveState with tbl := { liveState.tbl with lastKickPs := some 0 } } : State).now ≤ 0 + liveState.fd R.TBL_HB_PERIOD * 1000000 := by
  decide +kernel

/-- Virtual downstream port 255 of port 127 with KIND 2, valid or not, and the upstream link in CXL mode. -/
def boundAt (valid : Bool) : State :=
  (((liveState.setFd (R.PRT_VDP_B0_KIND 127 255) 2).setFb (R.PRT_VDP_B0_VALID 127 255) valid).setFb (R.PRT_LSTS_CXL 127) true)

theorem witness_BindingRows : (boundAt true).reaches .sideband (R.PRT_VDP_B0 127 255) ∧ (boundAt true).fb (R.PRT_VDP_B0_VALID 127 255) = true ∧
    (boundAt false).reaches .sideband (R.PRT_VDP_B0 127 255) ∧ (boundAt false).fb (R.PRT_VDP_B0_VALID 127 255) = false ∧
    ((boundAt false).setRg (R.PRT_VDP_B0 127 255) (((0x4 : Word) ||| 1#64) &&& 0x000000FFFFFF7F06#64)).bindRefused 127 255 = true ∧
    (let s := (boundAt false).setRg (R.FIDT_CTL 0 0) 1
     s.reaches .sideband (R.PRT_VDP_B0 127 255) ∧ s.fb (R.PRT_VDP_B0_VALID 127 255) = false ∧
     (s.setRg (R.PRT_VDP_B0 127 255) (((0x4 : Word) ||| 1#64) &&& 0x000000FFFFFF7F06#64)).bindRefused 127 255 = false) ∧
    (boundAt true).shared (127, 255) = true ∧ (boundAt false).fd (R.SPC_STS_STATE ((boundAt false).fd (R.PRT_VDP_B1_SPC 127 255))) ≠ 4 ∧
    (boundAt true).live 21 = true ∧ ((boundAt true).vdp 127 255).secBus ≠ (5 : Byte).toNat ∧ (boundAt true).fb (R.PRT_LSTS_CXL 127) = true ∧
    (boundAt true).reaches .sideband (R.PRT_VDL 127 255) ∧ (boundAt true).ldg.entries = [] ∧
    (boundAt false).reaches .sideband (R.PRT_VDL 127 255) := by decide +kernel

/-- Virtual downstream port 255 of port 127 bound with KIND 0 to port 3, with slot channel 31. -/
def kindZero (x : VdpState) : State :=
  ((((liveState.setFb (R.PRT_VDP_B0_VALID 127 255) true).setFd (R.PRT_VDP_B0_LPORT 127 255) 3).setFb (R.PRT_VDP_B1_SPCV 127 255) true).setFd
    (R.PRT_VDP_B1_SPC 127 255) 31).setFb (R.PRT_LCTL_TRAIN 3) false |>.setVdp 127 255 x

/-- A vendor-defined message of the DMTF with data. -/
def mctpTlp : Tlp := ⟨none, false, 0x720000010000007F00001AB400000000, [], [1, 2, 3, 4], false⟩

theorem witness_SlotAndContainmentRows :
    (let s := kindZero VdpState.reset
     s.live 21 = true ∧ s.fb (R.PRT_VDP_B0_VALID 127 255) = true ∧ s.fd (R.PRT_VDP_B0_KIND 127 255) = 0 ∧
     s.fd (R.PRT_VDP_B0_LPORT 127 255) = 3 ∧ (s.vdp 127 255).dpc = false ∧ (s.vdp 127 255).linkDisable = false ∧
     s.fb (R.PRT_LCTL_TRAIN 3) = false ∧ (s.vdp 127 255).powerOff = !true ∧ s.fb (R.PRT_VDP_B1_SPCV 127 255) = true ∧
     s.fd (R.SPC_STS_STATE (s.fd (R.PRT_VDP_B1_SPC 127 255))) ≠ 4) ∧
    ((kindZero { VdpState.reset with dpc := true }).vdp 127 255).dpc = true ∧
    ((kindZero { VdpState.reset with linkDisable := true }).vdp 127 255).linkDisable = true ∧
    ((kindZero { VdpState.reset with resets := [⟨5, 0, 0, 0⟩] }).vdp 127 255).resets = [⟨5, 0, 0, 0⟩] ∧
    ((kindZero { VdpState.reset with resets := [⟨5, 2, 0, 0⟩] }).vdp 127 255).resets = [⟨5, 2, 0, 0⟩] := by decide +kernel

theorem witness_SlotAndContainmentRowsMessages :
    (let s := liveState.setFd (R.PRT_CTX_ROLE 127) 1
     s.bindings = [] ∧ s.tenant0Port = some 127 ∧ s.live 21 = true) ∧
    (let s := (liveState.setFd (R.PRT_CTX_ROLE 127) 2).setFb (R.PRT_LSTS_UP 127) true
     s.fd (R.PRT_CTX_ROLE 127) = 2 ∧ s.fb (R.PRT_LSTS_UP 127) = true) ∧
    (let s := (((liveState.setFd (R.PRT_CTX_ROLE 127) 1).setFb (R.PRT_CTX_MGMT 127) true).setFb (R.PRT_LSTS_UP 127) true).setPort 127
       { PciPort.reset with placed := some roomy }
     mctpTlp.ok = true ∧ mctpTlp.tkind = 0x07 ∧ s.creditsTlp 127 mctpTlp = true ∧ (s.port 127).ideKey = none ∧ (s.port 127).rxCut = none ∧
     s.mctpMine (s.tlpPkt 127 mctpTlp) = true) := by decide +kernel

/-- Port 127 in PCIe mode, with the given role, its link to train. -/
def pciPort (role : Nat) : State :=
  ((liveState.setFd (R.PRT_CTX_ROLE 127) role).setFd (R.PHY_CTL_MODE 31) 1).setFb (R.PRT_LCTL_TRAIN 127) true |>.setRg (R.OCT_BIF 31) 4

def upPort (role : Nat) : State := (pciPort role).setFb (R.PRT_LSTS_UP 127) true

theorem witness_PortRows : (upPort 2).reaches .sideband (R.PRT_CTX 127) ∧ (upPort 2).portUp 127 = true ∧ (pciPort 2).portUp 127 = false ∧
    wField 0 2 (0x4 : Word) = 0 ∧ (pciPort 2).live 21 = true ∧ ((pciPort 2).train 127).trains 127 = true ∧
    ((pciPort 2).train 127).isPlaced 127 = true ∧ ((pciPort 2).train 127).canSettle 127 ⟨5, 1, true, false, false, 10, 256, 8, 64, 8, 64, 0, 0⟩ = true ∧ (upPort 2).fb (R.PRT_LSTS_UP 127) = true ∧ (upPort 2).fd (R.PRT_CTX_ROLE 127) = 2 ∧
    (upPort 2).bindings = [] ∧ (upPort 1).fd (R.PRT_CTX_ROLE 127) = 1 ∧ ((upPort 1).lctlOf 127).getLsbD 9 = true ∧
    wField 10 5 ((upPort 1).lctlOf 127) = (31 : Fin 32) ∧ (upPort 1).fd (R.PRT_CTX_ROLE 127) ≠ 2 ∧ (upPort 2).reaches .sideband (R.PRT_RST 127) ∧
    (upPort 2).fb (R.PRT_RST_LDIS 127) = false ∧ ((upPort 2).setFb (R.PRT_RST_LDIS 127) true).fb (R.PRT_RST_LDIS 127) = true ∧
    ((upPort 2).setFb (R.PRT_LSTS_CONT 127) true).fb (R.PRT_LSTS_CONT 127) = true := by decide +kernel

/-- A memory write of one DW. -/
def aWrite : Tlp := ⟨none, false, 0x4000000100000000_0000100000000000, [], [1, 2, 3, 4], false⟩

theorem witness_ArrivalRows :
    (let s := (upPort 1).setPort 127 { PciPort.reset with placed := some roomy }
     aWrite.ok = true ∧ aWrite.cxl = none ∧ aWrite.tkind = 0x02 ∧ s.creditsTlp 127 aWrite = true ∧ s.fd (R.PRT_CTX_ROLE 127) = 1 ∧
     (s.port 127).rxCut = none ∧ (s.port 127).ideKey = none ∧ (upPort 1).creditsTlp 127 aWrite = false) ∧
    (let k : Pkt := { pktA with loc := .credit 0, m3 := 0x80000 }
     kindCpl k.tkind = true ∧ k.octet = 0 ∧ k.ord = 0) ∧
    (let k : Pkt := { pktA with loc := .arrival 5, origin := .native 0, win := [0x0F00000000000000] }
     let s : State := { liveState with pkts := [k] }
     let s := (s.setFd (R.PRT_CTX_ROLE 0) 3).setFb (R.SCH_Q_CFG_EN 5) true
     let full : Pkt := { k with cells := 600000 }
     k.cls = 15 ∧ k.entry = none ∧ s.qOpen 5 = true ∧ s.nativeRole (s.qPort 5) = true ∧ (s.drawC 0 k.id k.cells).isSome = true ∧
     ({ s with pkts := [full] }.drawC 0 full.id full.cells).isNone = true) := by decide +kernel

/-- A write from port 127 in the ingress queue of octet 31; the program of slot 0 there forwards to queue context 5, whose port is 0. -/
def ingressState (en : Bool) (tkind : Word) : State :=
  let s := (((liveState.setFb (R.HPL_CTXSEL_EN 31 24) en).setRg (R.HPL_PROG 31 0 0) 0x0C200005).setRg (R.HPL_PROG 31 0 2) 0xB4010000).setFb
    (R.SCH_Q_CFG_EN 5) true
  { s with pkts := [{ pktA with loc := .ingress 31, origin := .port 127, inPort := 127, m3 := tkind, win := List.replicate 16 0 }] }

theorem witness_PipelineRows :
    (let s := ingressState true 0x20000
     let k0 : Pkt := { pktA with loc := .ingress 31, origin := .port 127, inPort := 127, m3 := 0x20000, win := List.replicate 16 0 }
     let k := s.stamp k0 (s.sample 31).2
     let x := s.runProgram 31 (s.fd (R.HPL_CTXSEL_SLOT 31 k.ctxNo)) k.progVer k.tver k.rverOf k.toRun
     let f := s.setRg (R.HPL_FENCE 0) 1
     s.live (domainOf (R.HPL_PSTS 31)) = true ∧ (s.at (.ingress 31)).head? = some k0 ∧ k0.octet = 31 ∧ k0.native = false ∧
     s.fb R.TRC_CFG_EN = false ∧ s.fb (R.MIR_PSRC_IEN k0.inPort) = false ∧ s.entryRefusal 31 k.ctxNo k = none ∧ s.fenced k.tenant = false ∧
     x.emit = some (0, 0, 5, 0) ∧ x.cincs = [] ∧ x.marks = [] ∧ x.sprays = [] ∧ s.qOpen (wField 0 16 (5 : Word)) = true ∧
     (k.ofRun x).cls ≠ 15 ∧ f.fenced k.tenant = true ∧ k0.nativeCtx = false) ∧
    (let s := ingressState false 0x80000
     s.fb (R.HPL_CTXSEL_EN 31 24) = false ∧ kindCpl (wField 16 8 (0x80000 : Word)) = true) := by decide +kernel

/-- A read of port 127 trapped in slot 63 of octet 31. -/
def trapState : State :=
  { liveState.setFb (R.SCH_Q_CFG_EN 5) true with
    pkts := [{ pktA with loc := .trap 31 63, origin := .port 127, inPort := 127, m3 := 0x10000 }] }

def aVerdict : Verdict := ⟨63, 0, 5, 0, 0, false⟩

theorem witness_PipelineRowsVerdicts :
    (let k : Pkt := { pktA with loc := .trap 31 63, origin := .port 127, inPort := 127, m3 := 0x10000 }
     trapState.reaches .sideband (R.HPL_TVERD 31) ∧ trapState.pairedOdd 31 = false ∧ trapState.at (.trap 31 aVerdict.slot) = [k] ∧
     k.trace = none ∧ k.cls ≠ 15 ∧ aVerdict.mod = 0 ∧ trapState.fb (R.MIR_PSRC_IEN k.inPort) = false ∧
     trapState.qOpen aVerdict.oper.toNat = true ∧ aVerdict.polv = false ∧ 0 < aVerdict.oper.toNat % 256 ∧ aVerdict.oper.toNat % 256 < 0x14 ∧
     kindNp k.tkind = true ∧ k.nativeCtx = false) ∧ liveState.at (.trap 31 0) = [] := by decide +kernel

theorem witness_ProgramRows :
    (let s := ingressState false 0x20000
     s.reaches .sideband (R.HPL_CTXSEL 31 24) ∧ s.pairedOdd 31 = false ∧ s.fb (R.HPL_CTXSEL_EN 31 24) = false ∧
     (s.setFd (R.HPL_CTXSEL_SLOT 31 24) 15).progCheck 31 15 (s.fd (R.HPL_CTXSEL_PVER 31 24)) = none ∧
     ((s.setRg (R.HPL_PROG 31 15 0) 0).setFd (R.HPL_CTXSEL_SLOT 31 24) 15).progCheck 31 15 (s.fd (R.HPL_CTXSEL_PVER 31 24)) = some (2, 0, 0) ∧
     (ingressState true 0).fb (R.HPL_CTXSEL_EN 31 24) = true ∧ s.reaches .sideband (R.HPL_PCOMMIT 31) ∧
     (s.setFb (R.HPL_PSTS_BUSY 31) true).fb (R.HPL_PSTS_BUSY 31) = true ∧ s.fb (R.HPL_PSTS_BUSY 31) = false ∧ s.progDrain 31 = 0 ∧
     (s.setFb (R.HPL_PSTS_BUSY 31) true).commitCheck 31 (0 : BitVec 32).toNat = none ∧
     ((s.setRg (R.HPL_PROG 31 0 32) 0).setFb (R.HPL_PSTS_BUSY 31) true).commitCheck 31 (0x80000000 : BitVec 32).toNat = some (2, 0, 0, 31) ∧
     s.reaches .sideband (R.HPL_FTBL 63) ∧ s.tableNamed 63 = false ∧
     (((liveState.setFb (R.HPL_CTXSEL_EN 0 0) true).setRg (R.HPL_PROG 0 0 0) 0xA0000000A000FC00).tableNamed 63 = true) ∧ s.reaches .sideband R.HPL_HASHK) := by decide +kernel

/-- A completion queued at port 127, whose link is up and whose partner has credits. -/
def queuedState : State :=
  let s := ((upPort 1).setFd (R.SCH_Q_CFG_PORT 5) 127).setPort 127 { PciPort.reset with credits := ⟨1, 1, 1, 1, 1, 1⟩ }
  { s with pkts := [{ pktA with loc := .queue 5, qctx := 5, m3 := 0x80000, win := List.replicate 16 0 }] }

theorem witness_SelectionRows :
    (let k : Pkt := { pktA with loc := .queue 5, qctx := 5, m3 := 0x80000, win := List.replicate 16 0 }
     queuedState.pkts = [k] ∧ k.loc = .queue k.qctx ∧ queuedState.qPort k.qctx = 127 ∧ queuedState.nativeRole 127 = false ∧
     queuedState.headEligible 127 k = true ∧ queuedState.aged k = false ∧ kindNp k.tkind = false ∧ queuedState.shaperOf k.qctx = none ∧
     k.data.length ≤ queuedState.mpsOf 127 ∧ (queuedState.port 127).ideKey = none) ∧ liveState.portUp 127 = false ∧
    liveState.pkts = [] ∧
    (let k : Pkt := { pktA with complete := false, txPort := some 124 }
     let s := { liveState.setLink 31 { Link.reset with txPkt := some 1 } with pkts := [k] }
     (s.link (octetOf (124 : Port))).txPkt = some 1 ∧ s.pkt? 1 = some k ∧ k.native = false ∧
     ({ k with origin := .native 124 } : Pkt).native = true) := by decide +kernel

theorem witness_SchedulerRegisterRows :
    liveState.reaches .sideband (R.SCH_Q_CFG (0xFFFF : BitVec 16).toNat) ∧ wField 8 4 (0x3 : Word) < 8 ∧
    (liveState.setFb (R.SCH_Q_CFG_EN 0xFFFF) true).fb (R.SCH_Q_CFG_EN 0xFFFF) = true ∧ wField 1 7 (0x3 : Word) ≠ liveState.qPort 0xFFFF ∧
    liveState.at (.queue 0xFFFF) = [] ∧
    (let s := liveState.setFd (R.TNT_QLDG_QCTX 0 0) 1
     s.qctxUsed 0 < s.quota 0 R.TBL_PG_CAP1_QCTX R.TNT_QLDG_QCTX) ∧ liveState.reaches .sideband (R.SCH_PRT_LEN 127) ∧
    liveState.reaches .sideband (R.SCH_PRT_CAL 127) ∧ liveState.fb (R.SCH_PRT_CAL_EN 127) = false ∧ liveState.calFits 127 1 = false ∧
    (let s := ((liveState.setFd (R.PRT_CTX_ROLE 124) 3).setRg (R.SCH_PRT_LEN 124) 0x000100F000000001).setFb (R.TBL_PG_CFG_STRICT 0) true
     s.calFits 124 0x0000100000000A01 = true) ∧
    wField 0 1 (({ liveState with sch := { liveState.sch with calNow := [(127, 1)] } } : State).calWord 127) = 1 ∧
    liveState.reaches .sideband (R.SHP_CFG 16383) ∧ liveState.reaches .sideband (R.POL_RATE 16383) ∧
    (let s := { liveState with sch := { liveState.sch with shpCfg := [(9, 0x100001000001)] } }
     s.sch.shpPend.get none 9 = none ∧ s.sch.shpCfg.get 0 9 = (0x100001000001 : Word) ∧ (0x100001000001 : Word).getLsbD 24 = true) := by
  decide +kernel

/-- The Gleaner's ring, enabled or not, with one record of a trace waiting. -/
def glnState (en : Bool) (lost : Nat) : State :=
  let s := liveState.setFb R.GLN_CFG_EN en
  { s with gln := { s.gln with pendingRecs := [List.replicate 64 2], lostRun := lost } }

theorem witness_GleanerRows : liveState.gln.pendingRecs = [] ∧ (glnState true 0).gln.pendingRecs = [List.replicate 64 2] ∧
    (glnState true 0).live 18 = true ∧ (glnState true 0).captureBarred (List.replicate 64 2) = none ∧ (glnState true 0).glnRoom = true ∧
    (glnState true 0).fb R.GLN_CFG_HOST = false ∧ (glnState true 0).gln.lostRun = 0 ∧ 0 < (glnState true 4).gln.lostRun ∧
    (glnState true 4).glnRoom = true ∧ (glnState false 0).glnRoom = false ∧ liveState.reaches .sideband R.GLN_CFG := by decide +kernel

/-- The native octet 31 in a training state, with TRAIN 1. -/
def octetIn (st : Nat) : State :=
  ((((liveState.setFb R.GLB_MODE_FABRIC true).setFd (R.PHY_CTL_MODE 31) 2).setFb (R.PHY_CTL_TRAIN 31) true).setFd (R.PRT_CTX_ROLE 124) 3).setFd
    (R.PHY_STS_STATE 31) st

theorem witness_TrainingRows : (octetIn 7).reaches .sideband (R.PHY_CTL 31) ∧ (octetIn 7).fb (R.PHY_CTL_TRAIN 31) = true ∧ (octetIn 7).pkts = [] ∧
    (octetIn 0).phyState 31 = 0 ∧ (octetIn 7).headOctet 31 = 31 ∧ 2 ≤ (octetIn 0).fd (R.PHY_CTL_MODE 31) ∧ (octetIn 0).offersX16 30 = false ∧
    ((octetIn 0).place (linkPort 31)).isPlaced (linkPort 31) = true ∧ (octetIn 1).phyState 31 = 1 ∧ (octetIn 2).phyState 31 = 2 ∧
    (octetIn 3).phyState 31 = 3 ∧ (octetIn 4).phyState 31 = 4 ∧ (octetIn 4).offeredRole 31 = (15 : Fin 16).val ∧ (octetIn 5).phyState 31 = 5 ∧
    (octetIn 6).phyState 31 = 6 ∧ (octetIn 7).phyState 31 = 7 ∧
    (octetIn 7).now ≤ ((octetIn 7).phy 31).sincePs + (octetIn 7).ldtimePs 31 ∧ (octetIn 7).linkOctet 31 = true := by
  decide +kernel

/-- Octet 31 with the given state of its lanes. -/
def octetWith (x : Phy) : State := (octetIn 6).setPhy 31 x

def subRuns (own peer : Bool) : State :=
  (((octetWith { Phy.reset with subOwnDone := own, subPeerDone := peer, subLane := 8 }).setFd (R.PHY_SUB_STATE 31) 2).setFb (R.PHY_SUB_BUSY 31) true)

/-- Octets 30 and 31 as a pair that offers x16. -/
def pairOffer : State := ((octetIn 6).setFd (R.PHY_CTL_MODE 30) 2).setFd (R.PRT_CTX_ROLE 120) 3 |>.setFd (R.PRT_CTX_ROLE 124) 0

theorem witness_LaneRows : (octetIn 6).reaches .sideband (R.PHY_CTL 31) ∧ (octetIn 6).phyState 31 = 6 ∧ (octetIn 6).compat 31 = false ∧
    (octetIn 6).headOctet 31 = 31 ∧ pairOffer.headOctet 31 ≠ 31 ∧
    (octetIn 6).fb (R.PHY_CTL_TRAIN 31) = true ∧ (octetIn 6).fb (R.PHY_CTL_HALF 31) = false ∧ ((octetIn 6).phy 31).txHalf = false ∧
    ((octetIn 6).phy 31).txNext = none ∧ ((octetIn 6).phy 31).rxHalf = false ∧ (octetIn 6).sagStage < 4 ∧
    ((octetIn 6).setFb (R.PHY_CTL_HALF 31) true).fb (R.PHY_CTL_HALF 31) = true ∧
    ((octetWith { Phy.reset with readapting := true, txHalf := true }).phy 31).readapting = true ∧
    ((octetWith { Phy.reset with readapting := true, txHalf := true }).phy 31).txHalf = true ∧
    ((octetWith { Phy.reset with txNext := some true, rxNext := some false }).phy 31).txNext = some true ∧
    ((octetWith { Phy.reset with txNext := some true, rxNext := some false }).phy 31).rxNext = some false ∧
    (octetIn 6).reaches .sideband (R.PHY_SUB 31) ∧ (octetIn 6).fb (R.PHY_SUB_BUSY 31) = false ∧ (octetIn 6).fd (R.PHY_STS_SROLE 31) = 15 ∧
    (subRuns false true).phyState 31 = 6 ∧ (subRuns false true).fb (R.PHY_SUB_BUSY 31) = true ∧ (subRuns false true).fd (R.PHY_SUB_STATE 31) ≠ 1 ∧
    ((subRuns false true).phy 31).subOwnDone = false ∧ ((subRuns false true).phy 31).subPeerDone = true ∧
    ((subRuns false false).phy 31).subPeerDone = false ∧ ((subRuns true false).phy 31).subOwnDone = true ∧
    ((subRuns false true).phy 31).subLane = (8 : Fin 16).val ∧ (octetIn 6).reaches .sideband (R.LN_TST 31 8) ∧
    ((octetIn 6).setFd (R.LN_TST_INJ 31 8) 3).fd (R.LN_TST_INJ 31 8) ≠ 0 ∧ (octetIn 6).fd (R.LN_TST_CHK 31 8) = 0 ∧
    ((octetIn 6).setFd (R.LN_TST_CHK 31 8) 4).fd (R.LN_TST_CHK 31 8) ≠ 0 := by decide +kernel

/-- Octet 31 ACTIVE, with the given link layer. -/
def linkWith (up : Bool) (l : Link) : State := ((octetIn 6).setFb (R.LNK_STS_UP 31) up).setLink 31 l

def aParam : LinkParams := ⟨2, 1, true, false, 4, 18, 18, 18, 18, 0⟩

def emptyPay : List Byte := List.replicate 240 0

theorem witness_FrameRows : (octetIn 7).takesFrames 31 = false ∧ frameOk hdr0 emptyPay = true ∧ hdr0.len.toNat < 240 ∧
    (linkWith true { Link.reset with paramSent := true }).takesFrames 31 = true ∧
    (((linkWith true { Link.reset with paramSent := true }).useHdr 31 hdr0).tryUp 31).fb (R.LNK_STS_UP 31) = true ∧
    hdr0.seq.toNat = ((((linkWith true { Link.reset with paramSent := true }).useHdr 31 hdr0).tryUp 31).link 31).expect ∧
    (linkWith true { Link.reset with paramSent := true }).fb (R.LNK_STS_UP 31) = true ∧
    ((linkWith true { Link.reset with paramSent := true }).link 31).paramSent = true ∧
    ((linkWith true { Link.reset with paramSent := true }).link 31).unacked = [] ∧
    ((linkWith true { Link.reset with paramSent := true }).link 31).rxPkt = none ∧ hdr0.cvc.val < 4 ∧ sheafOk emptyPay = false ∧
    sheafOk (emptyPay.take 1) = false ∧ (linkWith false Link.reset).fb (R.LNK_STS_UP 31) = false ∧ ((linkWith false Link.reset).link 31).partner = none ∧
    ((linkWith false Link.reset).link 31).expect = 0 ∧ hdr0.seq = 0 ∧ (linkWith false Link.reset).paramOk aParam = true ∧
    (linkWith false Link.reset).paramOk { aParam with node := 0 } = false := by decide +kernel

def aFrame : TxFrame := { typ := 5, seq := 7, dvc := 0, len := 239, pay := emptyPay, pkt := none }

def unackedWith (e : Nat) : State := linkWith true { Link.reset with paramSent := true, unacked := [aFrame], expiries := e }

theorem witness_LinkTimerRows : (unackedWith 7).linkOctet 31 = true ∧ (unackedWith 7).phyState 31 = 6 ∧ ((unackedWith 7).link 31).unacked ≠ [] ∧
    (unackedWith 7).fdAt (R.LNK_CTL_RPLMAX 31) ((unackedWith 7).link 31).rtimePs ≤ ((unackedWith 7).link 31).expiries + 1 ∧
    ((unackedWith 6).link 31).expiries + 1 < (unackedWith 6).fdAt (R.LNK_CTL_RPLMAX 31) ((unackedWith 6).link 31).rtimePs ∧
    ((linkWith true Link.reset).link 31).unacked = [] ∧
    (unackedWith 7).takesFrames 31 = true ∧ ((unackedWith 7).link 31).paramSent = true ∧ (octetIn 7).takesFrames 31 = false := by decide +kernel

/-- Node 0x1234 LOCAL here, with the given sessions. -/
def sesState (x : SesState) : State := { (((liveState.setFb (R.FIDT_CTL_VALID 7 0) true).setFb (R.FIDT_CTL_LOCAL 7 0) true).setRg
  R.GLB_NFID 7) with ses := x }

def aMsg (code : Byte) : EdgeMsg := ⟨7, 7, 5, code, 9, 3, 0x00000000000000000000000000000000, 0⟩

def aKey : OpenKey := ⟨4, 7, 0⟩

def aSend : SendCtx :=
  { port := 4, dfid := 0, cls := 0, node := 0, dport := 0, rctx := 5, nextSeq := 4, base := 0, hist := [], notices := [],
    closing := false, aborting := none, carried := [], lastPs := 0 }

def sesWith (x : SendCtx) : State := sesState { State.reset.ses with send := [(9, some x)] }

def openRuns (send : SMap (Option SendCtx)) : State :=
  sesState { State.reset.ses with opening := [⟨aKey, some 9, 0, false⟩], send := send }

/-- A copy of send context 9 with number 0, wholly sent. -/
def aCopy (copies : Nat) : Pkt :=
  { pktA with win := List.replicate 16 0, sctx := some 9, txDone := true, repl := 8, copies := copies }

def copyState (copies : Nat) : State := { sesWith { aSend with rctx := 0 } with pkts := [aCopy copies] }

theorem witness_SourceEdgeRows : liveState.localFid (aMsg 0).dfid.toNat = false ∧ (sesWith aSend).localFid (aMsg 0).dfid.toNat = true ∧
    ((sesWith aSend).ses.opening.find? fun o => o.sctx = some (aMsg 0).sctx.toNat) = none ∧
    ((openRuns []).ses.opening.find? fun o => o.sctx = some (aMsg 0).sctx.toNat) = some ⟨aKey, some 9, 0, false⟩ ∧
    (openRuns []).at (.openHold aKey) = [] ∧ (openRuns []).ses.send = [] ∧
    ((openRuns [(8, some aSend)]).ses.send.find? fun e => match e.2 with
          | none => false
          | some x => x.node = natField 16 12 (aMsg 0).arg.toNat && x.dport = natField 28 7 (aMsg 0).arg.toNat && x.cls = aKey.cls.val && !x.closing &&
              x.aborting.isNone) = some (8, some aSend) := by decide +kernel

theorem witness_SourceEdgeRows_receipts : (openRuns []).receiptCtx (aMsg 0) = none ∧ (sesWith aSend).receiptCtx (aMsg 0) = some (9, aSend) ∧
    (sesWith aSend).pkts = [] ∧ seqDist aSend.base (aMsg 0).seq.toNat < seqDist aSend.base aSend.nextSeq ∧
    (([⟨0x06, 0, 3, 0, 0⟩, ⟨0x07, 0, 3, 0, 0⟩] : List Notice).find? fun n => n.typ = 0x06 && n.seq = (aMsg 1).seq.toNat) = some ⟨0x06, 0, 3, 0, 0⟩ ∧
    (([⟨0x06, 0, 3, 0, 0⟩, ⟨0x07, 0, 3, 0, 0⟩] : List Notice).find? fun n => n.typ = 0x07 && (n.seq = (aMsg 2).seq.toNat && n.arg = (aMsg 2).arg)) =
      some ⟨0x07, 0, 3, 0, 0⟩ ∧
    (sesWith { aSend with notices := [⟨0x06, 0, 3, 0, 0⟩, ⟨0x07, 0, 3, 0, 0⟩] }).receiptCtx (aMsg 1) =
      some (9, { aSend with notices := [⟨0x06, 0, 3, 0, 0⟩, ⟨0x07, 0, 3, 0, 0⟩] }) ∧
    (sesWith { aSend with aborting := some 4, closing := true }).receiptCtx (aMsg 3) = some (9, { aSend with aborting := some 4, closing := true }) ∧
    ((sesWith aSend).ses.stray.any fun t => t.1 = (aMsg 4).ses.toNat && t.2.1 = (aMsg 4).sctx.toNat) = false := by decide +kernel

theorem witness_SourceEdgeRows_copies : (sesWith aSend).copyOf (aMsg 2) = none ∧ (sesWith aSend).itemOf (aMsg 2) = none ∧
    (copyState 2).localFid (aMsg 2).dfid.toNat = true ∧ (copyState 2).copyOf (aMsg 2) = some (aCopy 2) ∧ (aCopy 2).dead = false ∧
    (copyState 2).sctx? 9 = some { aSend with rctx := 0 } ∧ (aCopy 2).loc = .held ∧ (copyState 2).tbl.revoked = [] ∧
    (copyState 2).fd R.SES_CFG_RLIM ≤ (aCopy 2).repl ∧ (copyState 2).itemOf (aMsg 2) = none ∧ 2 ≤ (aCopy 2).copies := by decide +kernel

def aRecv : RecvCtx :=
  { node := 0, sport := 0, cls := 0, replyFid := 7, sctx := 9, port := 4, next := 3, consumed := [], coverable := [],
    covered := 2, newCov := 1, oldestCovPs := 0, revokes := [] }

def recvWith (x : RecvCtx) : State := sesState { State.reset.ses with recv := [(5, some x)] }

theorem witness_DestinationAndTimerRows : (sesWith aSend).localFid (aMsg 0).dfid.toNat = true ∧ (sesWith aSend).ses.recv = [] ∧
    (sesWith aSend).rctx? (aMsg 0).ses.toNat = none ∧ (sesWith aSend).ses.gone.get none (aMsg 0).ses.toNat = none ∧
    (recvWith aRecv).localFid (aMsg 0).dfid.toNat = true ∧ (recvWith aRecv).rctx? (aMsg 0).ses.toNat = some aRecv ∧ (recvWith aRecv).pkts = [] ∧
    natField 0 10 (aMsg 0).arg.toNat = 0 ∧ (aMsg 0).seq.toNat = aRecv.next ∧ 2 ^ 17 ≤ seqDist aRecv.next aRecv.covered ∧
    natField 0 13 ({ aMsg 1 with arg := 8191 } : EdgeMsg).arg.toNat ≠ 0 ∧ natField 0 13 (aMsg 1).arg.toNat = 0 ∧
    ((recvWith aRecv).ldg.seenTokens.get [] (aMsg 0).sfid.toNat).contains (aMsg 0).seq.toNat = false ∧
    (recvWith aRecv).recordRoom (aMsg 0).toRec.tenant = true ∧ (recvWith aRecv).ldg.overflow = [] := by decide +kernel

theorem pickFree_none_of_all (n fv : Nat) (used : List Nat) (h : ∀ x, x < n → x ∈ used) : pickFree n used fv = none := by
  unfold pickFree
  split
  · rfl
  · rename_i hn
    simp only [List.find?_eq_none, List.mem_map]
    rintro x ⟨k, -, rfl⟩
    simp [h _ (Nat.mod_lt _ (Nat.pos_of_ne_zero hn))]

theorem pickFree_some_of_one (n fv x : Nat) (h : 1 < n) : ∃ r, pickFree n [x] fv = some r := by
  rcases hr : pickFree n [x] fv with _ | r
  · exfalso
    have hn : n ≠ 0 := by omega
    simp only [pickFree, if_neg hn, List.find?_eq_none, List.mem_map, List.mem_range] at hr
    have h0 := hr _ ⟨0, by simp, rfl⟩
    have h1 := hr _ ⟨1, by simp, rfl⟩
    simp at h0 h1
    have e : (Config.freeChoice fv + 1) % n = Config.freeChoice fv % n := by rw [h0, h1]
    have := Nat.add_mod (Config.freeChoice fv) 1 n
    rw [e, Nat.mod_eq_of_lt h] at this
    rcases Nat.lt_or_ge (Config.freeChoice fv % n + 1) n with hl | hl
    · rw [Nat.mod_eq_of_lt hl] at this; omega
    · have hlt := Nat.mod_lt (Config.freeChoice fv) (Nat.pos_of_ne_zero hn)
      have hf : Config.freeChoice fv % n + 1 = n := by omega
      rw [hf, Nat.mod_self] at this
      omega
  · exact ⟨r, rfl⟩

/-- The first `n` contexts are in use. -/
def sesFull (n : Nat) : State :=
  sesState { State.reset.ses with opening := (List.range n).map fun i => ⟨aKey, some i, 0, false⟩ }

theorem sesFull_all (n x : Nat) (h : x < n) : x ∈ 0 :: (sesFull n).ctxUsed := by
  have e : (sesFull n).ctxUsed = ((List.range n).map fun i => (⟨aKey, some i, 0, false⟩ : Opening)).filterMap fun o => o.sctx := rfl
  rw [e, List.filterMap_map]
  exact List.mem_cons_of_mem _ (List.mem_filterMap.2 ⟨x, List.mem_range.2 h, rfl⟩)

theorem witness_OpenFull : (sesFull 16384).localFid (aMsg 0).dfid.toNat = true ∧ (sesFull 16384).ses.recv = [] ∧
    pickFree 16384 (0 :: (sesFull 16384).ctxUsed) (sesFull 16384).fv = none :=
  ⟨by decide +kernel, rfl, pickFree_none_of_all _ _ _ (sesFull_all 16384)⟩

theorem witness_OpenFree : (sesFull 0).localFid (aMsg 0).dfid.toNat = true ∧ (sesFull 0).ses.recv = [] ∧
    ∃ r, pickFree 16384 (0 :: (sesFull 0).ctxUsed) (sesFull 0).fv = some r :=
  ⟨by decide +kernel, rfl, pickFree_some_of_one 16384 _ 0 (by decide)⟩

theorem witness_DestinationAndTimerRows_timers : (recvWith aRecv).rctx? (5 : Fin 16384) = some aRecv ∧ aRecv.newCov ≠ 0 ∧
    (recvWith { aRecv with newCov := 0 }).rctx? (5 : Fin 16384) = some { aRecv with newCov := 0 } ∧ (recvWith aRecv).rctx? (6 : Fin 16384) = none ∧
    (recvWith aRecv).sctx? (6 : Fin 16384) = none ∧ (sesWith aSend).sctx? (9 : Fin 16384) = some aSend ∧
    (copyState 1).earliest 9 (fun k => !k.dead && k.loc = .held && k.txDone) = some (aCopy 1) ∧ (copyState 1).tbl.revoked = [] ∧
    ((sesWith aSend).ses.stray.find? fun t => t.2.1 = 9) = none ∧
    (sesWith { aSend with notices := [⟨0x09, 0, 0, 0, 0⟩] }).sctx? (9 : Fin 16384) = some { aSend with notices := [⟨0x09, 0, 0, 0, 0⟩] } ∧
    ((sesWith aSend).pkts.any fun k => k.sctx = some 9) = false ∧ ((sesWith aSend).setFb R.BUF_CFG_AGEEN false).fb R.BUF_CFG_AGEEN = false ∧
    (({ copyState 1 with pkts := [{ aCopy 1 with dead := true }] } : State).setFb R.BUF_CFG_AGEEN true).earliest 9
      (fun k => k.dead && decide (k.copies ≠ 0) && k.txDone) = some { aCopy 1 with dead := true } ∧
    ((openRuns []).ses.opening.find? fun o => o.key = aKey) = some ⟨aKey, some 9, 0, false⟩ ∧ (openRuns []).at (.openHold aKey) = [] ∧
    ({ openRuns [] with pkts := [{ pktA with loc := .openHold aKey }] } : State).at (.openHold aKey) ≠ [] := by decide +kernel

theorem witness_EveryCommandAnswers : (Instr.fenceSet (aMsg 1)).wellFormed = true ∧ (Instr.fenceSet (aMsg 0)).wellFormed = false := by
  decide

theorem witness_StepKeepsCanonicalForms : Memory.wf (coreState.setCByte 0 3 1) = true ∧ Registers.wf (coreState.setCByte 0 3 1) = true ∧
    (coreState.setCByte 0 3 1).pending = [] := by decide +kernel

theorem witness_ResetState : tableView R.PWR_STS = none ∧ (24 : Fin 25) ≠ 0 := by decide

/-! ### Commands that are not well formed -/

/-- The refusal that an outcome is. -/
def refusalOf : Host.Outcome State Fault Refusal → Option Refusal
  | .refused r => some r
  | _ => none

def tlpShort : Tlp := ⟨none, false, 0x60000001000000000000000000000000, [], [], false⟩

def tlpGood : Tlp := { tlpShort with data := [0, 0, 0, 0] }

/-- For each check of WellFormed a command that it does not pass is refused. -/
theorem test_malformed_packets :
    refusalOf (exec (.tlpReceive 0 tlpShort false) State.reset) = some (.malformed "TLP") ∧
    refusalOf (exec (.completionArrival 0 tlpGood) State.reset) = some (.malformed "completion") ∧
    refusalOf (exec (.mctpMessage 0 tlpGood) State.reset) = some (.malformed "MCTP message") ∧
    refusalOf (exec (.secFlashOpComplete false []) State.reset) = some (.malformed "flash data") := by decide +kernel

theorem test_malformed_frames :
    refusalOf (exec (.headFrame 0 hdr0 []) State.reset) = some (.malformed "frame") ∧
    refusalOf (exec (.bodyFrame 0 { hdr0 with dvc := 5 } emptyPay) State.reset) = some (.malformed "frame") ∧
    refusalOf (exec (.tailFrame 0 { hdr0 with len := 240 } emptyPay) State.reset) = some (.malformed "frame") ∧
    refusalOf (exec (.soleFrame 0 { hdr0 with len := 240 } emptyPay) State.reset) = some (.malformed "frame") := by decide +kernel

theorem test_malformed_messages :
    refusalOf (exec (.accept (aMsg 1)) State.reset) = some (.malformed "CODE") ∧
    refusalOf (exec (.acceptRefused (aMsg 0)) State.reset) = some (.malformed "CODE") ∧
    refusalOf (exec (.receiptDelivery (aMsg 1)) State.reset) = some (.malformed "CODE") ∧
    refusalOf (exec (.receiptRevokeDone (aMsg 0)) State.reset) = some (.malformed "CODE") ∧
    refusalOf (exec (.receiptSkipDone (aMsg 0)) State.reset) = some (.malformed "CODE") ∧
    refusalOf (exec (.receiptAbortDone (aMsg 0)) State.reset) = some (.malformed "CODE") ∧
    refusalOf (exec (.receiptCloseDone (aMsg 0)) State.reset) = some (.malformed "CODE") ∧
    refusalOf (exec (.fenceSet (aMsg 0)) State.reset) = some (.malformed "CODE") ∧
    refusalOf (exec (.fenceClear (aMsg 1)) State.reset) = some (.malformed "CODE") := by decide +kernel

theorem test_malformed_word : refusalOf (exec (.reservedOpcode core00 0x04000003) State.reset) = some (.malformed "the word is not reserved") := by
  decide +kernel

theorem test_wellFormed : (Instr.tlpReceive 0 tlpGood false).wellFormed = true ∧ (Instr.reservedOpcode core00 0).wellFormed = true ∧
    (Instr.headFrame 0 hdr0 emptyPay).wellFormed = true := by decide +kernel

/-- The command table gives no row any bits. -/
theorem test_decode_none (nbits w : Nat) : decodeTableWord nbits w = none := rfl

/-! ### Examples of the spec -/

/-- The words of the event handler of 02_naruc_instruction_set.md, "Worked example: an event handler". -/
theorem test_words_of_the_handler :
    encI 0x03 ⟨11, 0, 0⟩ = 0x0D600000 ∧ encI 0x06 ⟨11, 1, 0x60⟩ = 0x19610060 ∧ encM 0x14 ⟨12, 11, 3, 0⟩ = 0x518B6000 ∧
    encM 0x15 ⟨13, 11, 3, 1⟩ = 0x55AB6001 ∧ encB 0x20 ⟨1, true, 0x3FFFFD⟩ = 0x80FFFFFD ∧ encI 0x04 ⟨12, 12, 0x3FF⟩ = 0x118C03FF ∧
    encA 0x01 0x05 ⟨12, 12, 14, 0⟩ = 0x058C7005 ∧ encA 0x01 0x00 ⟨12, 12, 11, 0⟩ = 0x058C5800 ∧ encM 0x13 ⟨16, 12, 0, 128⟩ = 0x4E0C0080 := by
  decide

/-- The words of the pipeline program of the same file, "Worked example: a transit parse-and-route sequence". -/
theorem test_words_of_the_program :
    encF 0x07 ⟨1, 16, 32, 15, 0⟩ = 0x1C3080F0 ∧ encF 0x07 ⟨3, 16, 16, 1, 0⟩ = 0x1C704010 ∧ encL 0x28 ⟨4, 1, 2, 0, 0x41⟩ = 0xA0810841 ∧
    encA 0x02 1 ⟨3, 5, 0, 0⟩ = 0x08650001 ∧ encF 0x08 ⟨7, 3, 8, 1, 0⟩ = 0x20E32010 ∧ encA 0x01 0x13 ⟨7, 7, 4, 3⟩ = 0x04E72313 := by decide

/-- The slots of the handler's ring: LIH builds 0x60_0000, SHL by 4 the slot's offset. -/
theorem test_handler_arithmetic : insertField 0 0x60 16 16 = 0x600000 ∧ (0x3FF : Word) <<< 4 = 0x3FF0 := by decide +kernel

/-- 19_register_map.md, "Worked example: GLB_ID of an A0 part". -/
theorem test_glb_id : regReset R.GLB_ID = 0x5D9CA00096001E8A := by decide +kernel

/-- Shaper 0x120 with a pending write, as in 08_egress_scheduling.md, "Worked example: changing a shaper between ticks". -/
def shaped (tokens : Int) : State :=
  { liveState with sch := { liveState.sch with
      tokens := [(0x120, tokens * 256)], shpCfg := [(0x120, 0x0000400001064000)], shpPend := [(0x120, some 0x00002000010C8000)] } }

/-- At 1,024 ns the pending write applies and the tokens end at its burst. -/
theorem test_shaper_tick : ((shaped 9696).shpTick 0x120).sch.tokens = [(0x120, 8192 * 256)] ∧
    ((shaped 9696).shpTick 0x120).sch.shpPend = [] := by decide +kernel

/-- At 1,152 ns: −1,024 + 3,200. -/
theorem test_shaper_tick_negative : ((shaped (-1024)).shpTick 0x120).sch.tokens = [(0x120, 2176 * 256)] := by decide +kernel

/-- 07_shared_buffer.md, after R297: a packet born at 65,472 µs is 112 µs old when the low 16 bits of the time are 48, and is discarded
under the default limit of 100 µs. -/
theorem test_age_wraps :
    (liveState.waitUntil 48000000).overAge { pktA with origin := .native 0, cells := 1, arrivedPs := 48000000, win := [0, 0xFFC00000] } = true ∧
    (liveState.waitUntil 36000000).overAge { pktA with origin := .native 0, cells := 1, arrivedPs := 36000000, win := [0, 0xFFC00000] } = false := by
  decide +kernel

/-- The frame example of 10_fabric_link_and_edge_transport.md: 192 frames advertised, 37 outstanding, 155 credits. -/
theorem test_credit : ({ Link.reset with partner := some { aParam with vc0 := 192 }, debited := [(0, 37)] } : Link).credit 0 = 155 := by
  decide +kernel

end Sys2Proof.Tests
end

section
/-! PROOFS. What a step takes from the queue, and when a command answers a next state: O1 and O58 (R1, log entries 1 and 115). -/

namespace Sys2Proof.Machine

/-! ### The step and the queue -/

/-- On an empty queue the step idles for one CK_AO cycle (log entry 1). -/
theorem step_of_empty (s : State) (h : s.pending = []) : step s = .next (idle s) := by
  unfold step
  rw [h]

/-- Settles O1: a step is the command in front, run with the queue's rest, or an idle cycle. -/
theorem stepRunsFrontCommand : Obligations.StepRunsFrontCommand :=
  ⟨fun c s => step_of_pending { s with pending := c :: s.pending } c s.pending rfl,
    fun c rest s h => step_of_pending s c rest h,
    fun s h => step_of_empty s h⟩

/-! ### Outcomes decided by the form of the operands -/

/-- The outcome of a command whose operands have the form of its row exactly when `ok` holds: then a next state, otherwise a refusal as
malformed, and in no case a fault (log entry 115). -/
def AnswersWhen (ok : Bool) (o : Host.Outcome State Fault Refusal) : Prop :=
  (ok = true → ∃ t : State, o = .next t) ∧
  (ok = false → ∃ what : String, o = .refused (.malformed what)) ∧
  (∀ f : Fault, o ≠ .fault f)

namespace AnswersWhen

theorem next (t : State) : AnswersWhen true (.next t) := ⟨fun _ => ⟨t, rfl⟩, nofun, nofun⟩

theorem malformed (what : String) : AnswersWhen false (.refused (.malformed what)) := ⟨nofun, fun _ => ⟨what, rfl⟩, nofun⟩

/-- A meaning that first refuses every operand not of its row's form. -/
theorem guarded {ok : Bool} {p : Prop} [Decidable p] (h : p ↔ ok = false) (what : String) (t : State) :
    AnswersWhen ok (if p then .refused (.malformed what) else .next t) := by
  cases ok with
  | true => rw [if_neg (by simp [h])]; exact next t
  | false => rw [if_pos (h.2 rfl)]; exact malformed what

end AnswersWhen

/-! ### The rows that check their operands -/

/-- A message row takes the messages whose CODE is one of the row's (R435). -/
theorem State.msgRow_answersWhen (s : State) (typ : Nat) (codes : Nat → Bool) (m : EdgeMsg) :
    AnswersWhen (codes m.code.toNat) (s.msgRow typ codes m) :=
  .guarded (by simp) _ _

theorem execTlpReceive_answersWhen (p : Port) (t : Tlp) (nullified : Bool) (s : State) :
    AnswersWhen t.ok (execTlpReceive p t nullified s) :=
  .guarded (by simp) _ _

theorem execCompletionArrival_answersWhen (p : Port) (t : Tlp) (s : State) :
    AnswersWhen (t.ok && kindCpl t.tkind) (execCompletionArrival p t s) :=
  .guarded (by simp [imp_iff_not_or]) _ _

theorem execMctpMessage_answersWhen (p : Port) (t : Tlp) (s : State) :
    AnswersWhen (t.ok && (t.tkind = 0x06 || t.tkind = 0x07)) (execMctpMessage p t s) :=
  .guarded (by simp [imp_iff_not_or]) _ _

theorem execHeadFrame_answersWhen (n : Octet) (h : FrameHdr) (pay : List Byte) (s : State) :
    AnswersWhen (frameOk h pay) (execHeadFrame n h pay s) :=
  .guarded (by simp) _ _

theorem execBodyFrame_answersWhen (n : Octet) (h : FrameHdr) (pay : List Byte) (s : State) :
    AnswersWhen (frameOk h pay) (execBodyFrame n h pay s) :=
  .guarded (by simp) _ _

/-- LEN is one less than the packet bytes in a payload of 240, so a frame that ends a packet has LEN below 240 (R403, R404). -/
theorem lastFrame_refused_iff (h : FrameHdr) (pay : List Byte) :
    (!frameOk h pay || decide (240 ≤ h.len.toNat)) = true ↔ (frameOk h pay && decide (h.len.toNat < 240)) = false := by
  simp [imp_iff_not_or]

theorem execTailFrame_answersWhen (n : Octet) (h : FrameHdr) (pay : List Byte) (s : State) :
    AnswersWhen (frameOk h pay && decide (h.len.toNat < 240)) (execTailFrame n h pay s) :=
  .guarded (lastFrame_refused_iff h pay) _ _

theorem execSoleFrame_answersWhen (n : Octet) (h : FrameHdr) (pay : List Byte) (s : State) :
    AnswersWhen (frameOk h pay && decide (h.len.toNat < 240)) (execSoleFrame n h pay s) :=
  .guarded (lastFrame_refused_iff h pay) _ _

theorem execSecFlashOpComplete_answersWhen (ok : Bool) (data : List Byte) (s : State) :
    AnswersWhen (decide (data.length = 256)) (execSecFlashOpComplete ok data s) :=
  .guarded decide_eq_false_iff_not.symm _ _

theorem execReservedOpcode_answersWhen (c : CoreId) (word : BitVec 32) (s : State) :
    AnswersWhen (reservedWord word.toNat) (execReservedOpcode c word s) := by
  unfold execReservedOpcode
  cases reservedWord word.toNat with
  | true => exact .next _
  | false => exact .malformed _

/-! ### All commands -/

/-- A command answers a next state exactly when its operands are of the form its row is about. The rows named here check their operands;
every other row is a next state outright. -/
theorem exec_answersWhen_wellFormed (c : Instr) (s : State) : AnswersWhen c.wellFormed (exec c s) := by
  cases c with
  | tlpReceive p t nullified => exact execTlpReceive_answersWhen p t nullified s
  | completionArrival p t => exact execCompletionArrival_answersWhen p t s
  | mctpMessage p t => exact execMctpMessage_answersWhen p t s
  | headFrame n h pay => exact execHeadFrame_answersWhen n h pay s
  | bodyFrame n h pay => exact execBodyFrame_answersWhen n h pay s
  | tailFrame n h pay => exact execTailFrame_answersWhen n h pay s
  | soleFrame n h pay => exact execSoleFrame_answersWhen n h pay s
  | secFlashOpComplete ok data => exact execSecFlashOpComplete_answersWhen ok data s
  | reservedOpcode c word => exact execReservedOpcode_answersWhen c word s
  | openMsg m | evict m | fail m | revoke m | skip m | abort m | close m | record m | rack m =>
    exact s.msgRow_answersWhen _ (fun _ => true) m
  | accept m | receiptDelivery m | fenceClear m => exact s.msgRow_answersWhen _ (fun code => decide (code = 0)) m
  | acceptRefused m => exact s.msgRow_answersWhen _ (fun code => decide (code ≠ 0)) m
  | receiptRevokeDone m | fenceSet m => exact s.msgRow_answersWhen _ (fun code => decide (code = 1)) m
  | receiptSkipDone m => exact s.msgRow_answersWhen _ (fun code => decide (code = 2)) m
  | receiptAbortDone m => exact s.msgRow_answersWhen _ (fun code => decide (code = 3)) m
  | receiptCloseDone m => exact s.msgRow_answersWhen _ (fun code => decide (code = 4)) m
  | _ => exact .next _

/-- Settles O58, by the rows' checks of their operands. -/
theorem everyCommandAnswers : Obligations.EveryCommandAnswers := exec_answersWhen_wellFormed

end Sys2Proof.Machine
end

section
/-! PROOFS. What arrives at an edge port becomes a packet, enters the ingress queue and leaves its arrival reservation: O46 (R23, R178,
R233, R276, R279, R302, R502, R509). -/

namespace Sys2Proof.Machine

/-! ### The fields of a sheaf header (R233, R430) -/

theorem sheafWords_ord (cls ord hop dfid tenant vc sfid ses eseq birth flags : Nat) :
    wField 54 2 (sheafWords cls ord hop dfid tenant vc sfid ses eseq birth flags).1 = ord % 4 := by
  simp only [sheafWords, wField, natField, BitVec.toNat_ofNat]
  omega

theorem sheafWords_tenant (cls ord hop dfid tenant vc sfid ses eseq birth flags : Nat) :
    wField 19 13 (sheafWords cls ord hop dfid tenant vc sfid ses eseq birth flags).1 = tenant % 8192 := by
  simp only [sheafWords, wField, natField, BitVec.toNat_ofNat]
  omega

theorem sheafWords_sfid (cls ord hop dfid tenant vc sfid ses eseq birth flags : Nat) :
    wField 0 16 (sheafWords cls ord hop dfid tenant vc sfid ses eseq birth flags).1 = sfid % 65536 := by
  simp only [sheafWords, wField, natField, BitVec.toNat_ofNat]
  omega

/-- An edge writes the first two words of the header window. -/
theorem State.sheafed_win (s : State) (k : Pkt) (tenant sfid : Nat) : ∃ w : Word, (s.sheafed k tenant sfid).win =
    (k.win.set 0 (sheafWords (if k.cxl.isSome then 0 else k.tc) (kindOrd k.tkind) 0 0 tenant 0 sfid 0 0 s.birthNow 0).1).set 1 w :=
  ⟨_, rfl⟩

theorem State.sheafed_h_zero (s : State) (k : Pkt) (tenant sfid : Nat) (h : 0 < k.win.length) :
    (s.sheafed k tenant sfid).h 0 =
      (sheafWords (if k.cxl.isSome then 0 else k.tc) (kindOrd k.tkind) 0 0 tenant 0 sfid 0 0 s.birthNow 0).1 := by
  obtain ⟨w, hw⟩ := s.sheafed_win k tenant sfid
  rw [Pkt.h, hw]
  generalize (sheafWords _ _ _ _ _ _ _ _ _ _ _).1 = x
  simp [h]

theorem State.sheafed_ord (s : State) (k : Pkt) (tenant sfid : Nat) (h : 0 < k.win.length) :
    (s.sheafed k tenant sfid).ord = kindOrd k.tkind % 4 := by
  rw [Pkt.ord, Pkt.hf, s.sheafed_h_zero k tenant sfid h, sheafWords_ord]

theorem State.sheafed_tenant (s : State) (k : Pkt) (tenant sfid : Nat) (h : 0 < k.win.length) :
    (s.sheafed k tenant sfid).tenant = tenant % 8192 := by
  rw [Pkt.tenant, Pkt.hf, s.sheafed_h_zero k tenant sfid h, sheafWords_tenant]

theorem State.sheafed_sfid (s : State) (k : Pkt) (tenant sfid : Nat) (h : 0 < k.win.length) :
    (s.sheafed k tenant sfid).sfid = sfid % 65536 := by
  rw [Pkt.sfid, Pkt.hf, s.sheafed_h_zero k tenant sfid h, sheafWords_sfid]

/-- A field's value fits its width. -/
theorem State.fd_lt (s : State) (x : Field) : s.fd x < 2 ^ x.width := Nat.mod_lt _ (Nat.two_pow_pos _)

/-! ### The packet of a received memory write (R230, R231, R235, R272) -/

theorem arrivalM3_tkind (tkind : Nat) (flit data a64 : Bool) (lenDw xb : Nat) (h : tkind < 256) :
    wField 16 8 (arrivalM3 tkind flit data a64 lenDw xb) = tkind := by
  have sum (f d a : Nat) (hf : f = 0 ∨ f = 2 ^ 24) (hd : d = 0 ∨ d = 2 ^ 25) (ha : a = 0 ∨ a = 2 ^ 26) :
      natField 16 8 ((tkind * 2 ^ 16 + f + d + a + lenDw % 1024 * 2 ^ 32 + xb * 2 ^ 48) % 2 ^ 64) = tkind := by
    unfold natField
    omega
  rw [arrivalM3, wField, BitVec.toNat_ofNat]
  exact sum _ _ _ (by cases flit <;> simp) (by cases data <;> simp) (by cases a64 <;> simp)

/-- A memory write has one of two types, of the 3-DW and of the 4-DW header form. -/
theorem tlpKind_memWrite (flit : Bool) (b : Nat) (h : tlpKind flit b = 0x02) : b = 0x40 ∨ b = 0x60 := by
  simp only [tlpKind, ite_eq_iff] at h
  omega

theorem tlpTyp_memWrite (t : Tlp) (hc : t.cxl = none) (hk : t.tkind = 0x02) : t.typ = 0x40 ∨ t.typ = 0x60 := by
  rw [Tlp.tkind, hc] at hk
  exact tlpKind_memWrite t.flit t.typ hk

/-- The normalised header of a memory write is of the 4-DW form (R231). -/
theorem tlpBaseBytes_memWrite (t : Tlp) (hc : t.cxl = none) (hk : t.tkind = 0x02) : baseBytes (wField 56 8 t.base.1) = 16 := by
  have key : wField 56 8 t.base.1 = 0x60 := by
    rcases tlpTyp_memWrite t hc hk with ht | ht
    · have hs : t.short = true := by simp [Tlp.short, hc, hk, ht, kindMem, natField]
      simp only [Tlp.base, hs, ht, if_true]
      rw [wField_setWField _ _ _ _ (by decide)]
      rfl
    · have hs : t.short = false := by simp [Tlp.short, ht, natField]
      simp only [Tlp.base, hs, Bool.false_eq_true, if_false]
      rw [Tlp.typ] at ht
      simp only [wField, natField, BitVec.toNat_ofNat] at ht ⊢
      omega
  rw [key]
  rfl

theorem State.tlpPkt_win_pos (s : State) (p : Nat) (t : Tlp) : 0 < (s.tlpPkt p t).win.length := by
  simp [State.tlpPkt]

theorem State.tlpPkt_inPort (s : State) (p : Nat) (t : Tlp) : (s.tlpPkt p t).inPort = p := rfl

theorem State.tlpPkt_tkind (s : State) (p : Nat) (t : Tlp) (hk : t.tkind = 0x02) : (s.tlpPkt p t).tkind = 0x02 :=
  (arrivalM3_tkind t.tkind _ _ _ _ _ (by omega)).trans hk

theorem State.tlpPkt_len_of_memWrite (s : State) (p : Nat) (t : Tlp) (hc : t.cxl = none) (hk : t.tkind = 0x02) :
    (s.tlpPkt p t).len = 32 + t.ext.length + t.data.length := by
  have hb := tlpBaseBytes_memWrite t hc hk
  simp only [State.tlpPkt, hc, Option.isSome_none, Bool.false_eq_true, if_false, hb]

/-- The packet that a memory write from an upstream port becomes. -/
def State.upstreamPkt (s : State) (p : Nat) (t : Tlp) : Pkt :=
  s.sheafed (s.tlpPkt p t) (s.fd (R.PRT_CTX_TENANT p)) (s.fd (R.PRT_CTX_PFID p))

theorem State.upstreamPkt_tenant (s : State) (p : Nat) (t : Tlp) : (s.upstreamPkt p t).tenant = s.fd (R.PRT_CTX_TENANT p) :=
  (s.sheafed_tenant _ _ _ (s.tlpPkt_win_pos p t)).trans (Nat.mod_eq_of_lt (s.fd_lt _))

theorem State.upstreamPkt_sfid (s : State) (p : Nat) (t : Tlp) : (s.upstreamPkt p t).sfid = s.fd (R.PRT_CTX_PFID p) :=
  (s.sheafed_sfid _ _ _ (s.tlpPkt_win_pos p t)).trans (Nat.mod_eq_of_lt (s.fd_lt _))

theorem State.upstreamPkt_ord (s : State) (p : Nat) (t : Tlp) (hk : t.tkind = 0x02) : (s.upstreamPkt p t).ord = 0 := by
  rw [State.upstreamPkt, s.sheafed_ord _ _ _ (s.tlpPkt_win_pos p t), s.tlpPkt_tkind p t hk]
  rfl

/-! ### Arrival at the ingress queue (R502, R509) -/

/-- What drawing an entry changes: the ledger, the free values used and the counters. -/
theorem State.drawEntry_eq (s t : State) (k : Pkt) (role i : Nat) (h : s.drawEntry k role = some (t, i)) :
    ∃ (l : LdgState) (f : Nat) (x : PcnState), t = { s with ldg := l, fv := f, pcn := x } := by
  unfold State.drawEntry at h
  split at h
  · cases h
  · split at h
    · cases h
    · simp only [Option.some.injEq, Prod.mk.injEq] at h
      obtain ⟨rfl, -⟩ := h
      obtain ⟨x, hx⟩ := State.cntDev_eq _ _ _
      exact ⟨_, _, x, hx⟩

/-- A header that is admitted moves into the ingress queue of its octet, after its entry is drawn. -/
theorem State.admitHeader_eq (s t : State) (k : Pkt) (h : s.admitHeader k = some t) :
    ∃ (l : LdgState) (f : Nat) (x : PcnState) (e : Option Nat), t = ({ s with ldg := l, fv := f, pcn := x } : State).movePkt
      { k with loc := .ingress k.octet, entry := e, sentPs := s.now } := by
  unfold State.admitHeader at h
  split at h
  · cases h
  · split at h
    · cases h
    · dsimp only at h
      split at h
      · cases h
        exact ⟨s.ldg, s.fv, s.pcn, k.entry, rfl⟩
      · split at h
        · cases h
        next s1 i hd =>
          cases h
          obtain ⟨l, f, x, rfl⟩ := s.drawEntry_eq s1 k _ i hd
          exact ⟨l, f, x, some i, rfl⟩

/-- In `u` the packet `k`, which arrived in `s`, is held under a fresh identity; beside the packets only the ledger, the free values used
and the counters have changed. -/
def State.Holds (s : State) (k : Pkt) (u : State) : Prop :=
  ∃ (ps : List Pkt) (l : LdgState) (f : Nat) (x : PcnState),
    u = { s with pkts := ps, pktNext := s.pktNext + 1, ldg := l, fv := f, pcn := x } ∧
    ∃ (loc : Loc) (e : Option Nat) (sent : Nat) (cells : List Nat),
      { k with id := s.pktNext, arrivedPs := s.now, loc := loc, entry := e, sentPs := sent, cellIx := cells } ∈ ps

theorem State.addPkt_holds (s : State) (k : Pkt) (loc : Loc) :
    s.Holds k (s.addPkt { k with id := s.pktNext, arrivedPs := s.now, loc := loc }) :=
  ⟨_, s.ldg, s.fv, s.pcn, rfl, loc, k.entry, k.sentPs, _, List.mem_append_right _ (List.mem_singleton_self _)⟩

/-- An arriving header is held, whether it waits for credits or enters the ingress queue. -/
theorem State.arrive_holds (s : State) (k : Pkt) : s.Holds k (s.arrive k) := by
  unfold State.arrive
  dsimp only
  split
  · exact s.addPkt_holds k _
  · cases ha : State.admitHeader _ _ with
    | none => exact s.addPkt_holds k _
    | some t =>
      obtain ⟨l, f, x, e, rfl⟩ := State.admitHeader_eq _ _ _ ha
      exact ⟨_, l, f, x, rfl, _, e, _, _, List.mem_append_right _ (List.mem_singleton_self _)⟩

/-! ### Reception at an upstream port (R23, R178, R302) -/

theorem State.countReceived_eq (s : State) (k : Pkt) : ∃ x : PcnState, s.countReceived k = { s with pcn := x } := by
  obtain ⟨x, hx⟩ := s.cntPort_eq k.inPort (if k.cls = 15 then 3 else kindOrd k.tkind) 1
  obtain ⟨y, hy⟩ := ({ s with pcn := x } : State).cntPort_eq k.inPort (4 + if k.cls = 15 then 3 else kindOrd k.tkind) k.len
  exact ⟨y, by rw [State.countReceived, hx, hy]⟩

theorem State.endCut_of_none (s : State) (p : Nat) (h : (s.port p).rxCut = none) : s.endCut p = s := by
  unfold State.endCut
  rw [h]

theorem State.decipher_of_none (s : State) (p : Nat) (t : Tlp) (h : (s.port p).ideKey = none) : s.decipher p t = (s, t) := by
  simp only [State.decipher, h]

/-- A memory write is no message to the device. -/
theorem State.ownMessage_of_memWrite (s : State) (k : Pkt) (hk : k.tkind = 0x02) : s.ownMessage k = none := by
  simp [State.ownMessage, hk]

/-- Requests from an upstream port have the port's tenant and FID (R178). -/
theorem State.identity_of_upstream (s : State) (k : Pkt) (hr : s.fd (R.PRT_CTX_ROLE k.inPort) = 1) :
    s.identity k = some (s.fd (R.PRT_CTX_TENANT k.inPort), s.fd (R.PRT_CTX_PFID k.inPort)) := by
  simp [State.identity, hr]

/-- In `u` the memory write `t`, received at upstream port `p` in `s`, is packet `k`: a packet of its own, whole or, when nullified, begun. -/
def State.MemWriteBecomes (s : State) (p : Port) (t : Tlp) (nullified : Bool) (u : State) (k : Pkt) : Prop :=
  k ∈ u.pkts ∧ k.id = s.pktNext ∧
  k.tenant = s.fd (R.PRT_CTX_TENANT p) ∧ k.sfid = s.fd (R.PRT_CTX_PFID p) ∧ k.origin = .port p ∧ k.inPort = p.val ∧ k.data = t.data ∧
  k.ord = 0 ∧ k.len = 32 + t.ext.length + t.data.length ∧ k.complete = !nullified ∧ (nullified = true → k.rcvd < k.len) ∧
  (u.port p).rxCut = (if nullified then some k.id else none) ∧ u.pktNext = s.pktNext + 1 ∧ u.regs = s.regs

theorem State.requestArrive_of_memWrite (s : State) (k : Pkt) (hc : k.cxl = none) (hk : k.tkind = 0x02)
    (hr : s.fd (R.PRT_CTX_ROLE k.inPort) = 1) :
    s.requestArrive k = s.arrive (s.sheafed k (s.fd (R.PRT_CTX_TENANT k.inPort)) (s.fd (R.PRT_CTX_PFID k.inPort))) := by
  simp [State.requestArrive, s.ownMessage_of_memWrite k hk, s.identity_of_upstream k hr, hk, hc]

section
variable (s : State) (p : Port) (t : Tlp) (hc : t.cxl = none) (hk : t.tkind = 0x02) (hr : s.fd (R.PRT_CTX_ROLE p) = 1)
  (hcut : (s.port p).rxCut = none) (hide : (s.port p).ideKey = none)
include hc hk hr hcut hide

/-- A memory write received whole is counted and arrives. -/
theorem State.receiveTlp_of_memWrite : ∃ k, s.MemWriteBecomes p t false (s.receiveTlp p t) k := by
  have hkind := s.tlpPkt_tkind p t hk
  have hcpl : kindCpl (s.tlpPkt p t).tkind = false := by rw [hkind]; rfl
  obtain ⟨x, hx⟩ := s.countReceived_eq (s.tlpPkt p t)
  have hrcv : s.receiveTlp p t = ({ s with pcn := x } : State).arrive (s.upstreamPkt p t) := by
    simp only [State.receiveTlp, s.endCut_of_none p hcut, s.decipher_of_none p t hide, hx, hcpl, Bool.false_eq_true, if_false]
    exact State.requestArrive_of_memWrite _ _ hc hkind hr
  obtain ⟨ps, l, f, y, hu, loc, e, sent, cells, hmem⟩ := ({ s with pcn := x } : State).arrive_holds (s.upstreamPkt p t)
  rw [hrcv, hu]
  exact ⟨_, hmem, rfl, s.upstreamPkt_tenant p t, s.upstreamPkt_sfid p t, rfl, rfl, rfl, s.upstreamPkt_ord p t hk,
    s.tlpPkt_len_of_memWrite p t hc hk, rfl, nofun, hcut, rfl, rfl⟩

/-- A memory write nullified as it ends arrives with a part of its bytes, and its port keeps its number. -/
theorem State.receiveCut_of_memWrite : ∃ k, s.MemWriteBecomes p t true (s.receiveCut p t) k := by
  have hkind := s.tlpPkt_tkind p t hk
  have hcpl : kindCpl 0x02 = false := rfl
  have hlen := s.tlpPkt_len_of_memWrite p t hc hk
  have hpart : Config.freeChoice s.fv % (s.tlpPkt p t).len < (s.tlpPkt p t).len := Nat.mod_lt _ (by omega)
  obtain ⟨ps, l, f, y, hu, loc, e, sent, cells, hmem⟩ := s.arrive_holds
    { s.upstreamPkt p t with complete := false, rcvd := Config.freeChoice s.fv % (s.tlpPkt p t).len }
  have hrcv : s.receiveCut p t = (let u : State := { s with pkts := ps, pktNext := s.pktNext + 1, ldg := l, fv := f, pcn := y }
      (u.setPort p { u.port p with rxCut := some s.pktNext }).bumpFv) := by
    rw [← hu]
    simp [State.receiveCut, s.endCut_of_none p hcut, s.decipher_of_none p t hide, s.ownMessage_of_memWrite _ hkind,
      s.identity_of_upstream (s.tlpPkt p t) hr, hkind, hcpl, State.upstreamPkt, State.tlpPkt_inPort]
  rw [hrcv]
  exact ⟨_, hmem, rfl, s.upstreamPkt_tenant p t, s.upstreamPkt_sfid p t, rfl, rfl, rfl, s.upstreamPkt_ord p t hk, hlen, rfl,
    fun _ => hpart, congrArg PciPort.rxCut (State.port_setPort_self _ _ _), rfl, rfl⟩

end

/-! ### Packets that wait for credits or in their arrival reservation (R276, R279, R509) -/

/-- The number of an ordering type in a sheaf header (R233, R430). -/
def ordCode : Ord → Nat
  | .p => 0
  | .np => 1
  | .cpl => 2
  | .ctl => 3

theorem execHeaderQueueAdmit_eq (p : Port) (o : Ord) (s : State) : execHeaderQueueAdmit p o s = .next (s.readmit p.val (ordCode o)) := by
  cases o <;> rfl

/-- A completion draws no entry, so that it is admitted when its octet's ingress queue has room. -/
theorem State.admitHeader_of_completion (s : State) (k : Pkt) (hk : kindCpl k.tkind = true)
    (hroom : s.ingressRoom k.octet (decide (k.ctxKind = 5)) = true) :
    s.admitHeader k = some (s.movePkt { k with loc := .ingress k.octet, sentPs := s.now }) := by
  have hn : k.noEntry = true := by simp [Pkt.noEntry, hk]
  simp [State.admitHeader, hn, hroom]

/-- An ingress queue with no header in it has room. -/
theorem State.ingressRoom_of_empty (s : State) (n : Nat) (classC : Bool) (h : s.at (.ingress n) = []) : s.ingressRoom n classC = true := by
  cases classC <;> simp [State.ingressRoom, h]

/-- The only packet held, when it waits for credits, is the one that tries again. -/
theorem State.readmit_alone (s : State) (k : Pkt) (hs : s.pkts = [k]) (hl : k.loc = .credit k.octet) :
    s.readmit k.inPort k.ord = (s.admitHeader k).getD s := by
  simp [State.readmit, hs, hl]

/-- The only packet held, when it waits in its arrival reservation for an open queue, is forwarded again. -/
theorem execPacketAdmissionRetry_alone (s : State) (p : Port) (k : Pkt) (q : Nat) (hs : s.pkts = [k]) (hp : k.inPort = p.val)
    (hl : k.loc = .arrival q) (hq : s.qOpen q = true) : execPacketAdmissionRetry p s = .next (s.forward k q).settle := by
  have hid : s.pkt? k.id = some k := by simp [State.pkt?, hs]
  simp [execPacketAdmissionRetry, hs, hp, hl, hid, State.retryAdmission, hq]

section
variable (s : State) (k : Pkt) (q : Nat) (hc : k.cls = 15) (hn : s.nativeRole (s.qPort q) = true)
include hc hn

/-- A class C packet without an entry joins the class C queue of its native port when it gets cells. -/
theorem State.forward_classC_drawn (t : State) (c : Pool) (he : k.entry = none) (hd : s.drawC k.inPort k.id k.cells = some (t, c)) :
    s.forward k q = t.movePkt { k with loc := .classC (s.qPort q), qctx := q, pool := c } := by
  simp [State.forward, State.forwardC, hc, hn, hd, he]

/-- Without cells it waits in its arrival reservation. -/
theorem State.forward_classC_waits (hd : s.drawC k.inPort k.id k.cells = none) :
    s.forward k q = s.setPkt { k with loc := .arrival q, qctx := q } := by
  simp [State.forward, State.forwardC, State.waitArrival, hc, hn, hd]

end

/-! ### The rows -/

theorem execTlpReceive_without_credits (s : State) (p : Port) (t : Tlp) (nullified : Bool) (hok : t.ok = true)
    (hcr : s.creditsTlp p t = false) : execTlpReceive p t nullified s = .next s := by
  simp [execTlpReceive, hok, hcr]

theorem execTlpReceive_whole (s : State) (p : Port) (t : Tlp) (hok : t.ok = true) (hcr : s.creditsTlp p t = true) :
    execTlpReceive p t false s = .next (s.receiveTlp p t).settle := by
  simp [execTlpReceive, hok, hcr]

theorem execTlpReceive_nullified (s : State) (p : Port) (t : Tlp) (hok : t.ok = true) (hcr : s.creditsTlp p t = true) :
    execTlpReceive p t true s = .next (s.receiveCut p t).settle := by
  simp [execTlpReceive, hok, hcr]

/-- The only packet held, a completion that waits for credits, enters the ingress queue. -/
theorem execHeaderQueueAdmit_of_completion (s : State) (p : Port) (k : Pkt) (o : Ord) (hs : s.pkts = [k]) (hp : k.inPort = p.val)
    (hl : k.loc = .credit k.octet) (hk : kindCpl k.tkind = true) (ho : k.ord = ordCode o) :
    execHeaderQueueAdmit p o s = .next (s.movePkt { k with loc := .ingress k.octet, sentPs := s.now }) := by
  have hroom := s.ingressRoom_of_empty k.octet (decide (k.ctxKind = 5)) (by simp [State.at, hs, hl])
  rw [execHeaderQueueAdmit_eq, ← ho, ← hp, s.readmit_alone k hs hl, s.admitHeader_of_completion k hk hroom]
  rfl

/-- Settles O46, row by row. -/
theorem arrivalRows : Obligations.ArrivalRows := by
  unfold Obligations.ArrivalRows
  refine ⟨fun s p t nullified hok => ⟨?_, fun hcr hc hk hr hcut hide => ?_⟩, ?_,
    fun s p k q hs hp hl hc he hq hn => ⟨fun t c hd => ?_, fun hd => ?_⟩⟩
  · exact execTlpReceive_without_credits s p t nullified hok
  · cases nullified with
    | false =>
      obtain ⟨k, h⟩ := s.receiveTlp_of_memWrite p t hc hk hr hcut hide
      exact ⟨_, k, execTlpReceive_whole s p t hok hcr, h⟩
    | true =>
      obtain ⟨k, h⟩ := s.receiveCut_of_memWrite p t hc hk hr hcut hide
      exact ⟨_, k, execTlpReceive_nullified s p t hok hcr, h⟩
  · exact fun s p k o hs hp hl hk ho => execHeaderQueueAdmit_of_completion s p k o hs hp hl hk ho
  · exact (execPacketAdmissionRetry_alone s p k q hs hp hl hq).trans
      (by rw [s.forward_classC_drawn k q hc hn t c he (hp ▸ hd)])
  · exact (execPacketAdmissionRetry_alone s p k q hs hp hl hq).trans
      (by rw [s.forward_classC_waits k q hc hn (hp ▸ hd)])

end Sys2Proof.Machine
end

section
/-! PROOFS. Registers and predicates of a core, and what the issue of an instruction, its end, an exception and a store leave unchanged:
the rules that the statements about instructions are proved from (R28, R29, R48, R59, R679, R688, R689), and O2. -/

namespace Sys2Proof.Machine

/-! ### Registers and predicates of a context (R28, R29) -/

@[simp] theorem Ctx.reg_zero (x : Ctx) : x.reg 0 = 0 := rfl

@[simp] theorem Ctx.setReg_zero (x : Ctx) (v : Word) : x.setReg 0 v = x := rfl

theorem Ctx.setReg_of_ne_zero (x : Ctx) {n : Nat} (v : Word) (h : n ≠ 0) : x.setReg n v = { x with g := x.g.set 0 n v } :=
  if_neg h

theorem Ctx.reg_setReg_self (x : Ctx) {n : Nat} (v : Word) (h : n ≠ 0) : (x.setReg n v).reg n = v := by
  simp [Ctx.reg, x.setReg_of_ne_zero v h, h]

theorem Ctx.reg_setReg_ne (x : Ctx) {n m : Nat} (v : Word) (h : m ≠ n) : (x.setReg n v).reg m = x.reg m := by
  by_cases hn : n = 0
  · rw [hn, x.setReg_zero]
  · simp [Ctx.reg, x.setReg_of_ne_zero v hn, h]

/-- A register write changes the registers of its context alone. -/
theorem Ctx.setReg_eq (x : Ctx) (n : Nat) (v : Word) : ∃ r : SMap Word, x.setReg n v = { x with g := r } := by
  by_cases hn : n = 0
  · exact ⟨x.g, if_pos hn⟩
  · exact ⟨_, x.setReg_of_ne_zero v hn⟩

@[simp] theorem Ctx.setReg_pc (x : Ctx) (n : Nat) (v : Word) : (x.setReg n v).pc = x.pc := by
  obtain ⟨r, h⟩ := x.setReg_eq n v
  rw [h]

@[simp] theorem Ctx.setReg_p (x : Ctx) (n : Nat) (v : Word) : (x.setReg n v).p = x.p := by
  obtain ⟨r, h⟩ := x.setReg_eq n v
  rw [h]

@[simp] theorem Ctx.pred_zero (x : Ctx) : x.pred 0 = true := rfl

@[simp] theorem Ctx.setPred_zero (x : Ctx) (b : Bool) : x.setPred 0 b = x := rfl

theorem Ctx.pred_of_ne_zero (x : Ctx) {n : Nat} (h : n ≠ 0) : x.pred n = x.p.getLsbD n := by
  simp [Ctx.pred, h]

/-- A predicate write changes the predicates of its context alone. -/
theorem Ctx.setPred_eq (x : Ctx) (n : Nat) (b : Bool) : ∃ p : BitVec 8, x.setPred n b = { x with p := p } := by
  unfold Ctx.setPred
  split
  · exact ⟨x.p, rfl⟩
  · exact ⟨_, rfl⟩

@[simp] theorem Ctx.setPred_pc (x : Ctx) (n : Nat) (b : Bool) : (x.setPred n b).pc = x.pc := by
  obtain ⟨p, h⟩ := x.setPred_eq n b
  rw [h]

@[simp] theorem Ctx.setPred_reg (x : Ctx) (n m : Nat) (b : Bool) : (x.setPred n b).reg m = x.reg m := by
  obtain ⟨p, h⟩ := x.setPred_eq n b
  rw [h]
  rfl

/-- The bits of the predicates after a write of predicate `n`. -/
theorem Ctx.setPred_getLsbD (x : Ctx) {n : Nat} (m : Nat) (b : Bool) (h0 : n ≠ 0) (h8 : n < 8) :
    (x.setPred n b).p.getLsbD m = if m = n then b else x.p.getLsbD m := by
  have hc : ¬(n = 0 ∨ 8 ≤ n) := by omega
  have hm : 8 ≤ m → x.p.getLsbD m = false := x.p.getLsbD_of_ge m
  have h1 : (1#8 <<< n).getLsbD m = decide (m = n) := by
    rw [BitVec.getLsbD_shiftLeft, BitVec.getLsbD_one]
    by_cases hmn : m = n
    · simp [hmn, h8]
    · simp only [hmn, decide_false]
      rcases Nat.lt_or_ge m n with h | h
      · simp [h]
      · simp [show m - n ≠ 0 by omega]
  cases b with
  | true =>
    simp only [Ctx.setPred, if_neg hc, if_true, BitVec.getLsbD_or, h1]
    by_cases hmn : m = n <;> simp [hmn]
  | false =>
    simp only [Ctx.setPred, if_neg hc, Bool.false_eq_true, if_false, BitVec.getLsbD_and, BitVec.getLsbD_not, h1]
    by_cases hmn : m = n
    · simp [hmn]
    · rcases Nat.lt_or_ge m 8 with h | h
      · simp [hmn, h]
      · simp [hmn, hm h]

theorem Ctx.pred_setPred_self (x : Ctx) {n : Nat} (b : Bool) (h0 : n ≠ 0) (h8 : n < 8) : (x.setPred n b).pred n = b := by
  rw [Ctx.pred_of_ne_zero _ h0, x.setPred_getLsbD n b h0 h8, if_pos rfl]

theorem Ctx.pred_setPred_ne (x : Ctx) {n m : Nat} (b : Bool) (h8 : n < 8) (h : m ≠ n) : (x.setPred n b).pred m = x.pred m := by
  by_cases h0 : n = 0
  · rw [h0, x.setPred_zero]
  · by_cases hm : m = 0
    · rw [hm, Ctx.pred_zero, Ctx.pred_zero]
    · rw [Ctx.pred_of_ne_zero _ hm, Ctx.pred_of_ne_zero _ hm, x.setPred_getLsbD m b h0 h8, if_neg h]

/-- Settles O2: reads of registers and predicates after writes. -/
theorem registerZeroAndRegisters : Obligations.RegisterZeroAndRegisters := by
  have hval {k : Nat} [NeZero k] {n : Fin k} (h : n ≠ 0) : n.val ≠ 0 := fun e => h (Fin.ext e)
  refine ⟨fun s c v => ⟨rfl, rfl⟩, fun s c n v hn => ⟨?_, fun m hm => ?_, fun d hd => ?_⟩, fun x b => ⟨rfl, rfl⟩,
    fun x n b hn => ⟨x.pred_setPred_self b (hval hn) n.isLt, fun m hm => x.pred_setPred_ne b n.isLt (Fin.val_ne_of_ne hm)⟩⟩
  · simp [State.greg, State.setGreg, Ctx.reg_setReg_self _ v (hval hn)]
  · simp [State.greg, State.setGreg, Ctx.reg_setReg_ne _ v (Fin.val_ne_of_ne hm)]
  · exact s.core_setCtx_ne c d.num _ (CoreId.num_ne hd)

/-! ### Cores after an update -/

@[simp] theorem State.core_setCtx_self (s : State) (c : CoreId) (x : Ctx) :
    (s.setCtx c x).core c.num = { s.core c.num with ctx := x } := State.core_setCore_self _ _ _

@[simp] theorem State.core_setGreg_self (s : State) (c : CoreId) (n : Nat) (v : Word) :
    (s.setGreg c n v).core c.num = { s.core c.num with ctx := (s.ctx c).setReg n v } := State.core_setCore_self _ _ _

@[simp] theorem State.greg_setCtx_self (s : State) (c : CoreId) (x : Ctx) (n : Nat) : (s.setCtx c x).greg c n = x.reg n := by
  simp [State.greg]

/-! ### What stands beside a core -/

/-- What an instruction of core `c` that touches no memory leaves: the time, both memories, the other cores, and every register but the
count of traced instructions (R689). -/
structure State.Beside (c : CoreId) (s t : State) : Prop where
  now : t.now = s.now
  tmem : t.tmem = s.tmem
  cmem : t.cmem = s.cmem
  others : ∀ n, n ≠ c.num → t.core n = s.core n
  rg : ∀ a, a ≠ R.TRC_CNT_ITRACED.reg → t.rg a = s.rg a

theorem State.tByte_congr {s t : State} (hm : t.tmem = s.tmem) (a : Nat) : t.tByte a = s.tByte a :=
  congrArg (fun m : SMap Byte => m.get 0 a) hm

theorem State.cByte_congr {s t : State} (hm : t.cmem = s.cmem) (c a : Nat) : t.cByte c a = s.cByte c a :=
  congrArg (fun m : SMap Byte => m.get 0 (c * cmemSize + a)) hm

theorem State.tBytes_congr {s t : State} (hm : t.tmem = s.tmem) (a n : Nat) : t.tBytes a n = s.tBytes a n := by
  induction n generalizing a with
  | zero => rfl
  | succ n ih => rw [State.tBytes, State.tBytes, State.tByte_congr hm, ih]

/-- A register's word comes from table memory and the registers. -/
theorem State.rg_congr {s t : State} (hm : t.tmem = s.tmem) (hr : t.regs = s.regs) (a : Nat) : t.rg a = s.rg a := by
  unfold State.rg
  split
  · rw [State.tWord, State.tWord, State.tBytes_congr hm]
  · rw [hr]

/-- A write of a register that is no view of table memory leaves every other register, the views of table memory among them. -/
theorem State.rg_setRg_ne (s : State) (a x : Nat) (w : Word) (ha : tableView a = none) (h : x ≠ a) : (s.setRg a w).rg x = s.rg x := by
  cases hx : tableView x with
  | none => rw [s.rg_setRg a x w ha hx, if_neg h]
  | some t => simp only [State.rg, hx, State.tWord, State.tBytes_congr (s.setRg_tmem a w ha)]

/-- The core of a state with the same cores. -/
theorem State.core_congr {s t : State} (h : t.cores = s.cores) (n : Nat) : t.core n = s.core n :=
  congrArg (fun k : SMap Core => k.get Core.reset n) h

namespace State.Beside

variable {c : CoreId} {s t u : State}

theorem of_regs (hn : t.now = s.now) (ht : t.tmem = s.tmem) (hc : t.cmem = s.cmem) (hr : t.regs = s.regs)
    (ho : ∀ n, n ≠ c.num → t.core n = s.core n) : s.Beside c t :=
  ⟨hn, ht, hc, ho, fun a _ => State.rg_congr ht hr a⟩

theorem rfl' : s.Beside c s := of_regs rfl rfl rfl rfl fun _ _ => rfl

theorem trans (h : s.Beside c t) (h' : t.Beside c u) : s.Beside c u :=
  ⟨h'.now.trans h.now, h'.tmem.trans h.tmem, h'.cmem.trans h.cmem, fun n hn => (h'.others n hn).trans (h.others n hn),
    fun a ha => (h'.rg a ha).trans (h.rg a ha)⟩

theorem setCore (s : State) (c : CoreId) (k : Core) : s.Beside c (s.setCore c.num k) :=
  of_regs rfl rfl rfl rfl fun n hn => s.core_setCore_ne c.num n k hn

theorem setCtx (s : State) (c : CoreId) (x : Ctx) : s.Beside c (s.setCtx c x) := setCore s c _

theorem setGreg (s : State) (c : CoreId) (n : Nat) (v : Word) : s.Beside c (s.setGreg c n v) := setCtx s c _

end State.Beside

/-! ### The issue of an instruction and its end (R688, R689) -/

/-- The issue of an instruction changes the sampling registers and the cores alone. -/
theorem State.itagIssue_eq (s : State) (c : CoreId) (w : Nat) :
    ∃ (l : SMap Nat) (k : SMap Core), s.itagIssue c w = { s with hpl := { s.hpl with ilfsr := l }, cores := k } := by
  unfold State.itagIssue
  split
  · exact ⟨s.hpl.ilfsr, s.cores, rfl⟩
  · dsimp only
    split
    · exact ⟨_, _, rfl⟩
    · exact ⟨_, s.cores, rfl⟩

/-- The address of a memory instruction changes the cores alone. -/
theorem State.itagAddr_eq (s : State) (c : CoreId) (a : Word) : ∃ k : SMap Core, s.itagAddr c a = { s with cores := k } := by
  unfold State.itagAddr
  dsimp only
  split
  · exact ⟨s.cores, rfl⟩
  · exact ⟨_, rfl⟩

theorem State.itagIssue_core_ne (s : State) (c : CoreId) (w n : Nat) (h : n ≠ c.num) : (s.itagIssue c w).core n = s.core n := by
  unfold State.itagIssue
  split
  · rfl
  · dsimp only
    split
    · exact State.core_setCore_ne _ _ _ _ h
    · rfl

theorem State.itagAddr_core_ne (s : State) (c : CoreId) (a : Word) (n : Nat) (h : n ≠ c.num) : (s.itagAddr c a).core n = s.core n := by
  unfold State.itagAddr
  dsimp only
  split
  · rfl
  · exact State.core_setCore_ne _ _ _ _ h

theorem State.Beside.issued (s : State) (c : CoreId) (w : Nat) : s.Beside c (s.issued c w) :=
  .of_regs (s.itagIssue_now c w) (s.itagIssue_tmem c w) (s.itagIssue_cmem c w) (s.itagIssue_regs c w)
    fun n hn => s.itagIssue_core_ne c w n hn

theorem State.Beside.addressed (s : State) (c : CoreId) (w : Nat) (a : Word) : s.Beside c (s.addressed c w a) :=
  (State.Beside.issued s c w).trans (.of_regs (State.itagAddr_now _ _ _) (State.itagAddr_tmem _ _ _) (State.itagAddr_cmem _ _ _)
    (State.itagAddr_regs _ _ _) fun n hn => State.itagAddr_core_ne _ c a n hn)

/-- A core whose instruction has been issued differs in its tagged instruction alone. -/
theorem State.issued_core (s : State) (c : CoreId) (w : Nat) (n : Nat) : ∃ t, (s.issued c w).core n = { s.core n with itag := t } :=
  s.itagIssue_core c w n

theorem State.addressed_core (s : State) (c : CoreId) (w : Nat) (a : Word) (n : Nat) :
    ∃ t, (s.addressed c w a).core n = { s.core n with itag := t } := by
  obtain ⟨t, h⟩ := s.issued_core c w n
  obtain ⟨t', h'⟩ := (s.issued c w).itagAddr_core c a n
  exact ⟨t', h'.trans (by rw [h])⟩

@[simp] theorem State.issued_ctx (s : State) (c d : CoreId) (w : Nat) : (s.issued c w).ctx d = s.ctx d := s.itagIssue_ctx c w d

@[simp] theorem State.issued_greg (s : State) (c d : CoreId) (w n : Nat) : (s.issued c w).greg d n = s.greg d n := s.itagIssue_greg c w d n

@[simp] theorem State.issued_now (s : State) (c : CoreId) (w : Nat) : (s.issued c w).now = s.now := s.itagIssue_now c w

@[simp] theorem State.issued_sbuf (s : State) (c : CoreId) (w n : Nat) : ((s.issued c w).core n).sbuf = (s.core n).sbuf :=
  s.itagIssue_sbuf c w n

@[simp] theorem State.addressed_ctx (s : State) (c d : CoreId) (w : Nat) (a : Word) : (s.addressed c w a).ctx d = s.ctx d :=
  ((s.issued c w).itagAddr_ctx c a d).trans (s.issued_ctx c d w)

@[simp] theorem State.addressed_now (s : State) (c : CoreId) (w : Nat) (a : Word) : (s.addressed c w a).now = s.now :=
  ((s.issued c w).itagAddr_now c a).trans (s.issued_now c w)

@[simp] theorem State.addressed_sbuf (s : State) (c : CoreId) (w : Nat) (a : Word) (n : Nat) :
    ((s.addressed c w a).core n).sbuf = (s.core n).sbuf :=
  ((s.issued c w).itagAddr_sbuf c a n).trans (s.issued_sbuf c w n)

@[simp] theorem State.issued_fd (s : State) (c : CoreId) (w : Nat) (x : Field) : (s.issued c w).fd x = s.fd x :=
  congrArg (wField x.lo x.width) (State.rg_congr (s.itagIssue_tmem c w) (s.itagIssue_regs c w) x.reg)

@[simp] theorem State.issued_fb (s : State) (c : CoreId) (w : Nat) (x : Field) : (s.issued c w).fb x = s.fb x := by
  rw [State.fb, s.issued_fd c w x, State.fb]

theorem tableView_itraced : tableView R.TRC_CNT_ITRACED.reg = none := by decide

/-- The end of a tagged instruction leaves the core without one. -/
theorem State.itagEnd_core_self (s : State) (c : CoreId) (how code : Nat) :
    (s.itagEnd c how code).core c.num = { s.core c.num with itag := none } := by
  unfold State.itagEnd
  dsimp only
  split
  · next h => rw [← h]
  · split
    · exact State.core_setCore_self _ _ _
    · exact (State.core_congr (State.setRg_cores _ _ _) _).trans (State.core_setCore_self _ _ _)

theorem State.Beside.itagEnd (s : State) (c : CoreId) (how code : Nat) : s.Beside c (s.itagEnd c how code) := by
  unfold State.itagEnd
  dsimp only
  split
  · exact .rfl'
  · split
    · exact .setCore s c _
    · refine (State.Beside.setCore s c { s.core c.num with itag := none }).trans
        ⟨State.setRg_now _ _ _, State.setRg_tmem _ _ _ tableView_itraced, State.setRg_cmem _ _ _, fun n _ => ?_, fun a ha => ?_⟩
      · exact State.core_congr (State.setRg_cores _ _ _) n
      · exact State.rg_setRg_ne _ _ a _ tableView_itraced ha

theorem State.cntCore_eq (s : State) (c : CoreId) (k : Nat) : ∃ p : PcnState, s.cntCore c k = { s with pcn := p } := s.cntDev_eq _ _

theorem State.cntCore_core (s : State) (c : CoreId) (k n : Nat) : (s.cntCore c k).core n = s.core n := by
  obtain ⟨p, h⟩ := s.cntCore_eq c k
  rw [h]
  rfl

theorem State.Beside.cntCore (s : State) (c : CoreId) (k : Nat) : s.Beside c (s.cntCore c k) := by
  obtain ⟨p, h⟩ := s.cntCore_eq c k
  rw [h]
  exact .of_regs rfl rfl rfl rfl fun _ _ => rfl

theorem State.retire_core_self (s : State) (c : CoreId) : (s.retire c).core c.num = { s.core c.num with itag := none } :=
  (State.cntCore_core _ _ _ _).trans (s.itagEnd_core_self c 1 0)

theorem State.Beside.retire (s : State) (c : CoreId) : s.Beside c (s.retire c) :=
  (State.Beside.itagEnd s c 1 0).trans (.cntCore _ c 1)

/-- A core that goes on at an address: its instruction has retired, and nothing else of it has changed. -/
theorem State.goto_core_self (s : State) (c : CoreId) (pc : Word) :
    (s.goto c pc).core c.num = { s.core c.num with itag := none, ctx := { s.ctx c with pc := pc } } := by
  simp only [State.goto, State.core_setCtx_self, State.ctx, s.retire_core_self c]

theorem State.Beside.goto (s : State) (c : CoreId) (pc : Word) : s.Beside c (s.goto c pc) :=
  (State.Beside.retire s c).trans (.setCtx _ c _)

theorem State.advance_core_self (s : State) (c : CoreId) :
    (s.advance c).core c.num = { s.core c.num with itag := none, ctx := { s.ctx c with pc := (s.ctx c).pc + 4 } } :=
  s.goto_core_self c _

theorem State.Beside.advance (s : State) (c : CoreId) : s.Beside c (s.advance c) := .goto s c _

/-! ### Exceptions (R59, R61) -/

/-- An exception of a core with EXL = 0: entry of the context, and no reservation or hold is left (R51, R59). -/
theorem State.raise_of_not_exl (s : State) (c : CoreId) (code detail : Nat) (tval : Word) (h : (s.ctx c).exl = false) :
    s.raise c code detail tval = ((s.itagEnd c 2 code).cntCore c 4).setCore c.num
      { s.core c.num with itag := none, ctx := (s.ctx c).enter s.now code detail tval, resv := none, hold := none } := by
  have hk := s.itagEnd_core_self c 2 code
  have hx : (s.core c.num).ctx.exl = false := h
  simp only [State.raise, hk, hx, (State.Beside.itagEnd s c 2 code).now]
  rfl

theorem State.raise_core_self (s : State) (c : CoreId) (code detail : Nat) (tval : Word) (h : (s.ctx c).exl = false) :
    (s.raise c code detail tval).core c.num =
      { s.core c.num with itag := none, ctx := (s.ctx c).enter s.now code detail tval, resv := none, hold := none } := by
  rw [s.raise_of_not_exl c code detail tval h, State.core_setCore_self]

theorem State.Beside.raise (s : State) (c : CoreId) (code detail : Nat) (tval : Word) (h : (s.ctx c).exl = false) :
    s.Beside c (s.raise c code detail tval) := by
  rw [s.raise_of_not_exl c code detail tval h]
  exact ((State.Beside.itagEnd s c 2 code).trans (.cntCore _ c 4)).trans (.setCore _ c _)

/-! ### Instructions that write one register -/

/-- The core after an instruction that writes one register. -/
theorem State.wrote_core_self (s : State) (c : CoreId) (w d : Nat) (v : Word) :
    (s.wrote c w d v).core c.num =
      { s.core c.num with itag := none, ctx := { (s.ctx c).setReg d v with pc := (s.ctx c).pc + 4 } } := by
  obtain ⟨t, h⟩ := s.issued_core c w c.num
  simp [State.wrote, State.advance_core_self, State.setGreg, h]

theorem State.Beside.wrote (s : State) (c : CoreId) (w d : Nat) (v : Word) : s.Beside c (s.wrote c w d v) :=
  ((State.Beside.issued s c w).trans (.setGreg _ c d v)).trans (.advance _ c)

end Sys2Proof.Machine
end

section
/-! PROOFS. The integer, compare, immediate and field instructions: O3 and O6 (R28, R40, R46, R47, R53, R747, R748). -/

namespace Sys2Proof.Machine

/-! ### Operands -/

theorem State.runs_iff (s : State) (c : CoreId) (f : FmtA) : s.runs c f = true ↔ s.fetches c = true ∧ s.guardA c f = true := by
  simp [State.runs]

/-- The sign extension of a field of an instruction word. -/
theorem sextTo_toNat {n : Nat} (x : BitVec n) : sextTo n x.toNat = x.signExtend 64 := by
  rw [BitVec.signExtend, sextTo, Nat.mod_eq_of_lt x.isLt, BitVec.toInt]
  rcases n with _ | n
  · simp [BitVec.of_length_zero]
  · congr 1
    have : 2 ^ (n + 1) = 2 * 2 ^ n := Nat.pow_succ'
    push_cast
    split <;> split <;> omega

/-- A choice by comparison that does not tell equal numbers apart. -/
theorem ite_slt_eq_ite_le {a b x y : Word} (h : a = b → x = y) : (if a.slt b then x else y) = if a.toInt ≤ b.toInt then x else y := by
  rcases lt_trichotomy a.toInt b.toInt with hl | he | hg
  · simp [BitVec.slt, hl, hl.le]
  · simp [h (BitVec.toInt_inj.mp he)]
  · simp [BitVec.slt, hg.not_ge, hg.not_gt]

theorem ite_ult_eq_ite_le {a b x y : Word} (h : a = b → x = y) : (if a.ult b then x else y) = if a.toNat ≤ b.toNat then x else y := by
  rcases lt_trichotomy a.toNat b.toNat with hl | he | hg
  · simp [BitVec.ult, hl, hl.le]
  · simp [h (BitVec.toNat_inj.mp he)]
  · simp [BitVec.ult, hg.not_ge, hg.not_gt]

/-! ### What the instructions of each format do -/

section

variable (s : State) (c : CoreId)

/-- A format A arithmetic instruction that executes writes its result (R46). -/
theorem State.aluExec_runs {f : FmtA} (h : s.runs c f = true) (fn : Nat) (res : Word → Word → Word) :
    s.aluExec c f fn true res =
      s.wrote c (encA 0x01 fn f) f.dst.toNat (res (s.greg c f.srcA.toNat) (s.greg c f.srcB.toNat)) := by
  obtain ⟨hf, hg⟩ := (s.runs_iff c f).mp h
  rw [State.aluExec, hg, s.coreExec_run c _ _ hf, s.issued_greg, s.issued_greg]
  rfl

/-- One whose guard is false moves on (R40). -/
theorem State.aluExec_unguarded {f : FmtA} (h : s.fetches c = true) (hg : s.guardA c f = false) (fn : Nat) (res : Word → Word → Word) :
    s.aluExec c f fn true res = (s.issued c (encA 0x01 fn f)).advance c := by
  rw [State.aluExec, hg, s.coreExec_unguarded c _ _ h]

variable {s c}
variable (h : s.fetches c = true)
include h

theorem execSel_fetches (f : FmtA) : execSel c f s = .next (s.wrote c (encA 0x01 0x13 f) f.dst.toNat
    (if (s.ctx c).pred f.pred.toNat then s.greg c f.srcA.toNat else s.greg c f.srcB.toNat)) := by
  simp only [execSel, s.coreExec_run c _ _ h, State.guardA, State.issued_greg, State.issued_ctx]
  rfl

theorem execCmp_runs (f : FmtA) (k : Cond) (hg : s.guardA c f = true) (hd : f.dst.toNat < 8) :
    execCmp c f k s = .next (((s.issued c (encA 0x02 k.code f)).setCtx c (((s.issued c (encA 0x02 k.code f)).ctx c).setPred
      f.dst.toNat (condHolds k (s.greg c f.srcA.toNat) (s.greg c f.srcB.toNat)))).advance c) := by
  simp only [execCmp, hg, hd, decide_true, s.coreExec_run c _ _ h, State.issued_greg]

theorem execCmp_unguarded (f : FmtA) (k : Cond) (hg : s.guardA c f = false) (hd : f.dst.toNat < 8) :
    execCmp c f k s = .next ((s.issued c (encA 0x02 k.code f)).advance c) := by
  simp only [execCmp, hg, hd, decide_true, s.coreExec_unguarded c _ _ h]

/-- A format I instruction writes its result (R46). -/
theorem State.immExec_fetches (maj : Nat) (f : FmtI) (v : Word) :
    s.immExec c maj f true v = s.wrote c (encI maj f) f.dst.toNat v :=
  s.coreExec_run c _ _ h

theorem execAddi_fetches (f : FmtI) : execAddi c f s =
    .next (s.wrote c (encI 0x03 f) f.dst.toNat (s.greg c f.srcA.toNat + f.imm.signExtend 64)) := by
  rw [execAddi, State.immExec_fetches h, sextTo_toNat]

theorem execAndi_fetches (f : FmtI) : execAndi c f s =
    .next (s.wrote c (encI 0x04 f) f.dst.toNat (s.greg c f.srcA.toNat &&& f.imm.setWidth 64)) := by
  rw [execAndi, State.immExec_fetches h, BitVec.ofNat_toNat]

theorem execOri_fetches (f : FmtI) : execOri c f s =
    .next (s.wrote c (encI 0x05 f) f.dst.toNat (s.greg c f.srcA.toNat ||| f.imm.setWidth 64)) := by
  rw [execOri, State.immExec_fetches h, BitVec.ofNat_toNat]

theorem execLih_fetches (f : FmtI) (hl : f.srcA.toNat < 4) : execLih c f s = .next (s.wrote c (encI 0x06 f) f.dst.toNat
    (insertField (s.greg c f.dst.toNat) (f.imm.setWidth 64) (16 * f.srcA.toNat) 16)) := by
  rw [execLih, decide_eq_true hl, State.immExec_fetches h, BitVec.ofNat_toNat]

/-- The variant of EXT is the lowest bit of its field. -/
theorem execExt_fetches (f : FmtF) (hw : f.pos.toNat + f.width1.toNat + 1 ≤ 64) (hv : f.var.toNat < 2) :
    execExt c f s = .next (s.wrote c (encF 0x07 f) f.dst.toNat
      (extractField (s.greg c f.src.toNat) f.pos.toNat (f.width1.toNat + 1) (f.var.getLsbD 0))) := by
  have hb : f.var.getLsbD 0 = decide (f.var.toNat = 1) := by
    rw [BitVec.getLsbD, Nat.testBit_zero]
    congr 1
    exact propext ⟨fun e => by omega, fun e => by omega⟩
  simp only [execExt, hw, hv, hb, decide_true, Bool.and_self, s.coreExec_run c _ _ h, State.issued_greg]
  rfl

theorem execIns_fetches (f : FmtF) (hw : f.pos.toNat + f.width1.toNat + 1 ≤ 64) (hv : f.var = 0) :
    execIns c f s = .next (s.wrote c (encF 0x08 f) f.dst.toNat
      (insertField (s.greg c f.dst.toNat) (s.greg c f.src.toNat) f.pos.toNat (f.width1.toNat + 1))) := by
  have hn : f.var.toNat = 0 := by rw [hv]; rfl
  simp only [execIns, hw, hn, decide_true, Bool.and_self, s.coreExec_run c _ _ h, State.issued_greg]
  rfl

theorem execNop_fetches : execNop c s = .next ((s.issued c 0x04000003).advance c) := by
  rw [execNop, s.coreExec_run c _ _ h]

end

/-- Settles O3, format by format. -/
theorem aluResults : Obligations.AluResults := by
  refine ⟨fun s c f a b ha hb => ⟨fun h => ?_, fun h => ?_⟩, fun s c h => ⟨fun f k => execCmp_runs h f k,
    fun f => ⟨execAddi_fetches h f, execAndi_fetches h f, execOri_fetches h f, execLih_fetches h f⟩,
    fun f hw => ⟨execExt_fetches h f hw, execIns_fetches h f hw⟩, execNop_fetches h⟩⟩
  · rw [ha, hb]
    exact execSel_fetches h f
  · have run (fn : Nat) (res : Word → Word → Word) (v : Word) (hv : res a b = v) :
        Host.Outcome.next (ρ := Refusal) (φ := Fault) (s.aluExec c f fn true res) =
          .next (s.wrote c (encA 0x01 fn f) f.dst.toNat v) := by
      rw [s.aluExec_runs c h, ← ha, ← hb, hv]
    have one (fn : Nat) (res : Word → Word → Word) (v : Word) (hv : res a b = v) (h0 : f.srcB = 0) :
        Host.Outcome.next (ρ := Refusal) (φ := Fault) (s.aluExec c f fn (decide (f.srcB = 0)) res) =
          .next (s.wrote c (encA 0x01 fn f) f.dst.toNat v) := by
      rw [decide_eq_true h0]
      exact run fn res v hv
    exact ⟨run _ _ _ rfl, run _ _ _ rfl, run _ _ _ rfl, run _ _ _ rfl, run _ _ _ rfl, run _ _ _ rfl, run _ _ _ rfl, run _ _ _ rfl,
      run _ _ _ rfl, run _ _ _ rfl, run _ _ _ rfl, run _ _ _ rfl, run _ _ _ rfl, run _ _ _ rfl, run _ _ _ rfl,
      run _ _ _ (ite_slt_eq_ite_le id), run _ _ _ (ite_ult_eq_ite_le id), run _ _ _ (ite_slt_eq_ite_le Eq.symm),
      run _ _ _ (ite_ult_eq_ite_le Eq.symm), one _ _ _ rfl, one _ _ _ rfl, run _ _ _ rfl, run _ _ _ rfl, run _ _ _ rfl, run _ _ _ rfl⟩

/-! ### What such an instruction leaves unchanged -/

/-- The outcomes of an integer, compare, immediate or field instruction of core `c`: it moves on, with register `d` or predicate `p`
written if it names one, and nothing else. -/
inductive State.RegisterOutcome (s : State) (c : CoreId) (d p : Option Nat) : State → Prop
  | moved (w : Nat) : RegisterOutcome s c d p ((s.issued c w).advance c)
  | wrote (w n : Nat) (v : Word) (hd : d = some n) : RegisterOutcome s c d p (s.wrote c w n v)
  | compared (w n : Nat) (b : Bool) (hp : p = some n) (h8 : n < 8) :
      RegisterOutcome s c d p (((s.issued c w).setCtx c (((s.issued c w).ctx c).setPred n b)).advance c)

namespace State.RegisterOutcome

variable {s t : State} {c : CoreId} {d p : Option Nat}

/-- All such an outcome does to its core: the tagged instruction ends, the address moves on, and of the registers and predicates at most
the ones named differ. -/
theorem core (h : s.RegisterOutcome c d p t) : ∃ (g : SMap Word) (q : BitVec 8),
    t.core c.num = { s.core c.num with itag := none, ctx := { s.ctx c with g := g, p := q, pc := (s.ctx c).pc + 4 } } ∧
    (∀ n, d ≠ some n → Ctx.reg { s.ctx c with g := g } n = (s.ctx c).reg n) ∧
    (∀ n, p ≠ some n → Ctx.pred { s.ctx c with p := q } n = (s.ctx c).pred n) ∧ (p = none → q = (s.ctx c).p) := by
  cases h with
  | moved w =>
    obtain ⟨i, hi⟩ := s.issued_core c w c.num
    exact ⟨_, _, by rw [State.advance_core_self, hi, s.issued_ctx]; rfl, fun _ _ => rfl, fun _ _ => rfl, fun _ => rfl⟩
  | wrote w n v hd =>
    obtain ⟨g, hg⟩ := (s.ctx c).setReg_eq n v
    refine ⟨g, _, by rw [s.wrote_core_self, hg]; rfl, fun m hm => ?_, fun _ _ => rfl, fun _ => rfl⟩
    rw [← hg]
    exact (s.ctx c).reg_setReg_ne v fun e => hm (by rw [hd, e])
  | compared w n b hp h8 =>
    obtain ⟨i, hi⟩ := s.issued_core c w c.num
    obtain ⟨q, hq⟩ := (s.ctx c).setPred_eq n b
    refine ⟨_, q, by rw [State.advance_core_self, State.core_setCtx_self, State.ctx_setCtx_self, hi, s.issued_ctx, hq]; rfl, fun _ _ => rfl,
      fun m hm => ?_, fun e => absurd (hp.symm.trans e) (by simp)⟩
    rw [← hq]
    exact (s.ctx c).pred_setPred_ne b h8 fun e => hm (by rw [hp, e])

theorem beside (h : s.RegisterOutcome c d p t) : s.Beside c t := by
  cases h with
  | moved w => exact (State.Beside.issued s c w).trans (.advance _ c)
  | wrote w n v _ => exact .wrote s c w n v
  | compared w n b _ _ => exact ((State.Beside.issued s c w).trans (.setCtx _ c _)).trans (.advance _ c)

/-- A format A instruction, whatever its guard. -/
theorem alu (s : State) (c : CoreId) (f : FmtA) (fn : Nat) (res : Word → Word → Word) (p : Option Nat) (h : s.fetches c = true) :
    s.RegisterOutcome c (some f.dst.toNat) p (s.aluExec c f fn true res) := by
  cases hg : s.guardA c f with
  | true => rw [s.aluExec_runs c ((s.runs_iff c f).mpr ⟨h, hg⟩)]; exact .wrote _ _ _ rfl
  | false => rw [s.aluExec_unguarded c h hg]; exact .moved _

theorem alu_one_operand (s : State) (c : CoreId) (f : FmtA) (fn : Nat) (res : Word → Word → Word) (p : Option Nat)
    (h : s.fetches c = true) (h0 : f.srcB = 0) :
    s.RegisterOutcome c (some f.dst.toNat) p (s.aluExec c f fn (decide (f.srcB = 0)) res) := by
  rw [decide_eq_true h0]
  exact alu s c f fn res p h

end State.RegisterOutcome

/-- Settles O6: every such instruction ends in one of the outcomes of `RegisterOutcome`, and those leave the rest of the state. -/
theorem registerInstructionFrame : Obligations.RegisterInstructionFrame := by
  intro s t c f g h k i d hf hi ht
  have outcome : ∃ p, s.RegisterOutcome c d p t ∧ (i ≠ .cmp c f k → p = none) ∧ (∀ n, p = some n → n = f.dst.toNat) := by
    have other {u : State} (hu : exec i s = .next u) (ho : s.RegisterOutcome c d none u) :
        ∃ p, s.RegisterOutcome c d p t ∧ (i ≠ .cmp c f k → p = none) ∧ (∀ n, p = some n → n = f.dst.toNat) :=
      ⟨none, Host.Outcome.next.inj (hu.symm.trans ht) ▸ ho, fun _ => rfl, nofun⟩
    rcases hi with hl | ⟨rfl, rfl, h0⟩ | ⟨rfl, rfl, h0⟩ | ⟨rfl, rfl, h8⟩ | ⟨rfl, rfl, h4⟩ | ⟨rfl, rfl, hw, hv⟩ | ⟨rfl, rfl, hw, hv⟩
    · simp only [List.mem_cons, List.not_mem_nil, or_false, Prod.mk.injEq] at hl
      rcases hl with ⟨rfl, rfl⟩ | ⟨rfl, rfl⟩ | ⟨rfl, rfl⟩ | ⟨rfl, rfl⟩ | ⟨rfl, rfl⟩ | ⟨rfl, rfl⟩ | ⟨rfl, rfl⟩ | ⟨rfl, rfl⟩ | ⟨rfl, rfl⟩ |
        ⟨rfl, rfl⟩ | ⟨rfl, rfl⟩ | ⟨rfl, rfl⟩
      · exact other rfl (.alu s c f _ _ none hf)
      · exact other rfl (.alu s c f _ _ none hf)
      · exact other rfl (.alu s c f _ _ none hf)
      · exact other rfl (.alu s c f _ _ none hf)
      · exact other rfl (.alu s c f _ _ none hf)
      · exact other (execSel_fetches hf f) (.wrote _ _ _ rfl)
      · exact other rfl (.alu s c f _ _ none hf)
      · exact other rfl (.alu s c f _ _ none hf)
      · exact other (execAddi_fetches hf g) (.wrote _ _ _ rfl)
      · exact other (execAndi_fetches hf g) (.wrote _ _ _ rfl)
      · exact other (execOri_fetches hf g) (.wrote _ _ _ rfl)
      · exact other (execNop_fetches hf) (.moved _)
    · exact other rfl (.alu_one_operand s c f _ _ none hf h0)
    · exact other rfl (.alu_one_operand s c f _ _ none hf h0)
    · refine ⟨some f.dst.toNat, ?_, fun e => absurd rfl e, fun n e => (Option.some.inj e).symm⟩
      cases hg : s.guardA c f with
      | true => exact Host.Outcome.next.inj ((execCmp_runs hf f k hg h8).symm.trans ht) ▸ .compared _ _ _ rfl h8
      | false => exact Host.Outcome.next.inj ((execCmp_unguarded hf f k hg h8).symm.trans ht) ▸ .moved _
    · exact other (execLih_fetches hf g h4) (.wrote _ _ _ rfl)
    · exact other (execExt_fetches hf h hw hv) (.wrote _ _ _ rfl)
    · exact other (execIns_fetches hf h hw hv) (.wrote _ _ _ rfl)
  obtain ⟨p, ho, hp, hn⟩ := outcome
  obtain ⟨g', q, hcore, hreg, hpred, hq⟩ := ho.core
  have hctx : t.ctx c = { s.ctx c with g := g', p := q, pc := (s.ctx c).pc + 4 } := congrArg Core.ctx hcore
  have hb := ho.beside
  refine ⟨fun n hd => ?_, fun hne => ?_, fun n hne => ?_, ?_, ?_, ?_, ?_, fun e he => hb.others _ (CoreId.num_ne he), hb.tmem, hb.cmem, hb.rg⟩
  · rw [State.greg, hctx]
    exact hreg n.val hd
  · rw [hctx]
    exact hq (hp hne)
  · rw [hctx]
    exact hpred n.val fun e => hne (hn n.val e)
  · rw [hctx]
  · rw [hctx]
  · rw [hcore]
  · rw [hcore]

end Sys2Proof.Machine
end

section
/-! PROOFS. What an Almanac record and an event of a hardware source leave unchanged, and the double fault of a core: what O15 and O19
need (R61, R127, R145, R148, R691 to R699). -/

namespace Sys2Proof.Machine

/-! ### Registers that records and events write -/

/-- The registers that Almanac records, seal triggers and events write (R127, R692, R698). -/
def noticeReg (a : Nat) : Prop := a = R.ALM_HEAD ∨ a = R.ALM_STS ∨ ∃ q, q < 64 ∧ a = R.EVT_Q_STS q

/-- What records and events leave: the cores, and every register but theirs. -/
structure State.Noted (s t : State) : Prop where
  cores : t.cores = s.cores
  rg : ∀ a, ¬noticeReg a → t.rg a = s.rg a

theorem tableView_of_noticeReg {a : Nat} (h : noticeReg a) : tableView a = none := by
  unfold tableView
  obtain rfl | rfl | ⟨q, hq, rfl⟩ := h
  · decide
  · decide
  · rw [if_neg (by unfold R.EVT_Q_STS; omega), if_neg (by unfold R.EVT_Q_STS; omega)]

namespace State.Noted

variable {s t u : State}

theorem of_eq (hc : t.cores = s.cores) (hm : t.tmem = s.tmem) (hr : t.regs = s.regs) : s.Noted t :=
  ⟨hc, fun a _ => State.rg_congr hm hr a⟩

theorem rfl' : s.Noted s := of_eq rfl rfl rfl

theorem trans (h : s.Noted t) (h' : t.Noted u) : s.Noted u :=
  ⟨h'.cores.trans h.cores, fun a ha => (h'.rg a ha).trans (h.rg a ha)⟩

theorem setFd (s : State) (x : Field) (v : Nat) (hx : noticeReg x.reg) : s.Noted (s.setFd x v) :=
  ⟨s.setRg_cores _ _, fun a ha => s.rg_setRg_ne _ a _ (tableView_of_noticeReg hx) fun e => ha (e ▸ hx)⟩

/-- A field set in a state that differs in neither the cores nor what the registers are read from. -/
theorem of_setFd (h : t.cores = s.cores ∧ t.tmem = s.tmem ∧ t.regs = s.regs) (x : Field) (v : Nat) (hx : noticeReg x.reg) :
    s.Noted (t.setFd x v) :=
  (of_eq h.1 h.2.1 h.2.2).trans (setFd t x v hx)

theorem setFb (s : State) (x : Field) (b : Bool) (hx : noticeReg x.reg) : s.Noted (s.setFb x b) := setFd s x _ hx

theorem ite {p : Prop} [Decidable p] (h : s.Noted t) (h' : s.Noted u) : s.Noted (if p then t else u) := by
  split
  · exact h
  · exact h'

theorem almAppend (s : State) (src flags code : Nat) (p0 p1 : Word) : s.Noted (s.almAppend src flags code p0 p1) := by
  unfold State.almAppend
  apply of_setFd
  · exact ⟨rfl, rfl, rfl⟩
  · exact .inl rfl

theorem almSuppress (s : State) (t : Trigger) : s.Noted (s.almSuppress t) :=
  (almAppend s Src.alm.code 0 0x0003 (BitVec.ofNat 64 t.code) 0).trans (setFd (s.almAppend Src.alm.code 0 0x0003 (BitVec.ofNat 64 t.code) 0) R.ALM_STS_SUPPR _ (.inr (.inl rfl)))

/-- A pending trigger is shown in ALM_STS. -/
theorem almPending (s : State) (t : Trigger) :
    s.Noted (({ s with alm := { s.alm with waiting := [t] } }).setFb R.ALM_STS_PEND true) := by
  unfold State.setFb
  apply of_setFd
  · exact ⟨rfl, rfl, rfl⟩
  · exact .inr (.inl rfl)

theorem almTrigger (s : State) (code recSeq : Nat) : s.Noted (s.almTrigger code recSeq) := by
  have happ := almAppend s Src.alm.code 0 (0x0010 + code) (BitVec.ofNat 64 recSeq) 0
  unfold State.almTrigger
  dsimp only
  refine ite rfl' (ite (happ.trans (almSuppress _ _)) ?_)
  split
  · exact ite (happ.trans (almSuppress _ _)) (happ.trans (almPending _ _))
  · exact ite ((happ.trans (almSuppress _ _)).trans (almPending _ _)) (happ.trans (almSuppress _ _))

theorem almRecord (s : State) (src flags code : Nat) (p0 p1 : Word) : s.Noted (s.almRecord src flags code p0 p1) :=
  ite ((almAppend s src flags code p0 p1).trans (almTrigger _ _ _)) (almAppend s src flags code p0 p1)

theorem queueEvent (s : State) (src q : Nat) (e : Event) (hq : q < 64) : s.Noted (s.queueEvent src q e) :=
  ite (ite (of_eq rfl rfl rfl) (of_eq rfl rfl rfl))
    (ite (setFd s (R.EVT_Q_STS_COALESCED q) _ (.inr (.inr ⟨q, hq, rfl⟩))) (of_eq rfl rfl rfl))

theorem postEvent (s : State) (src : Src) (unit : Nat) (q : Option Nat) (typ arg : Nat) (detail : Word) (hq : ∀ n, q = some n → n < 64) :
    s.Noted (s.postEvent src unit q typ arg detail) := by
  cases q with
  | none => exact almRecord s src.code 1 (typ * 256) (BitVec.ofNat 64 arg) detail
  | some n => exact (almRecord s src.code 1 (typ * 256) (BitVec.ofNat 64 arg) detail).trans (queueEvent _ _ n _ (hq n rfl))

end State.Noted

/-- A queue that a register names is one of the 64. -/
theorem State.evTarget_lt (s : State) (v q : Field) (hw : q.width = 6) (n : Nat) (h : s.evTarget v q = some n) : n < 64 := by
  unfold State.evTarget at h
  split at h
  · rw [← Option.some.inj h]
    exact (s.fd_lt q).trans_eq (by rw [hw]; rfl)
  · cases h

theorem State.Noted.coreFaultEvent (s : State) (cl core kind i : Nat) : s.Noted (s.coreFaultEvent cl core kind i) :=
  .postEvent s _ _ _ _ _ _ fun n hn => s.evTarget_lt _ _ rfl n hn

/-! ### The core fault log (R148) -/

/-- The registers of a cluster's fault log lie apart from those that events write. -/
theorem not_noticeReg_of_ccl {a : Nat} (h1 : 0x300000 ≤ a) (h2 : a < 0x340000) : ¬noticeReg a := by
  rintro (rfl | rfl | ⟨q, _, rfl⟩)
  · exact absurd h2 (by decide)
  · exact absurd h2 (by decide)
  · unfold R.EVT_Q_STS at h2
    omega

theorem tableView_of_ccl {a : Nat} (h2 : a < 0x340000) : tableView a = none := by
  unfold tableView
  rw [if_neg (by omega), if_neg (by omega)]

theorem State.faultRecord_cores (s : State) (cl kind core : Nat) (w1 w2 : Option Word) (code detail : Option Nat) :
    (s.faultRecord cl kind core w1 w2 code detail).cores = s.cores := by
  simp [State.faultRecord, State.setFd]

/-- A record of a core's fault, in the four registers at the log's head, and the head moved on. -/
theorem State.rg_faultRecord (s : State) (cl : Fin 4) (kind core : Nat) (w1 w2 : Word) (code detail i : Nat)
    (hi : s.fd (R.CCL_FLTHD_IDX cl) = i) :
    let t := s.faultRecord cl kind core (some w1) (some w2) (some code) (some detail)
    t.rg (R.CCL_FLT cl (4 * i + 1)) = w1 ∧ t.rg (R.CCL_FLT cl (4 * i + 2)) = w2 ∧
    t.rg (R.CCL_FLT cl (4 * i + 3)) = BitVec.ofNat 64 (kind + 256 * code + 65536 * detail + 2 ^ 24 * core +
      2 ^ 32 * (s.evt.fltSeq.get 0 cl % 2 ^ 32)) ∧
    t.fd (R.CCL_FLTHD_IDX cl) = (i + 1) % 2 ^ (R.CCL_FLTHD_IDX cl).width := by
  have hlt : i < 64 := by rw [← hi]; exact s.fd_lt _
  have hcl := cl.isLt
  have hv (j : Nat) (hj : j < 256) : tableView (R.CCL_FLT cl j) = none := tableView_of_ccl (by unfold R.CCL_FLT; omega)
  have hh : tableView (R.CCL_FLTHD cl) = none := tableView_of_ccl (by unfold R.CCL_FLTHD; omega)
  have hne (j : Nat) (hj : j < 256) : R.CCL_FLT cl j ≠ R.CCL_FLTHD cl := by unfold R.CCL_FLT R.CCL_FLTHD; omega
  have hinj {j k : Nat} (h : j ≠ k) : R.CCL_FLT cl j ≠ R.CCL_FLT cl k := by unfold R.CCL_FLT; omega
  have hset (u : State) (j : Nat) (hj : j < 256) (w : Word) (x : Nat) (hx : tableView x = none) :
      (u.setRg (R.CCL_FLT cl j) w).rg x = if x = R.CCL_FLT cl j then w else u.rg x := u.rg_setRg _ x w (hv j hj) hx
  have hhead (u : State) (v x : Nat) (hx : x ≠ R.CCL_FLTHD cl) : (u.setFd (R.CCL_FLTHD_IDX cl) v).rg x = u.rg x :=
    u.rg_setRg_ne _ x _ hh hx
  have h1 : 4 * i + 1 < 256 := by omega
  have h2 : 4 * i + 2 < 256 := by omega
  have h3 : 4 * i + 3 < 256 := by omega
  intro t
  have ht : ∃ u : State, (∀ x, t.rg x = (u.setFd (R.CCL_FLTHD_IDX cl) (i + 1)).rg x) ∧ u = (((s.setRg (R.CCL_FLT cl (4 * i)) s.time).setRg
      (R.CCL_FLT cl (4 * i + 1)) w1).setRg (R.CCL_FLT cl (4 * i + 2)) w2).setRg (R.CCL_FLT cl (4 * i + 3)) (BitVec.ofNat 64
        (kind + 256 * code + 65536 * detail + 2 ^ 24 * core + 2 ^ 32 * (s.evt.fltSeq.get 0 cl % 2 ^ 32))) := by
    refine ⟨_, fun x => ?_, rfl⟩
    subst hi
    exact State.rg_congr rfl rfl x
  obtain ⟨u, ht, rfl⟩ := ht
  refine ⟨?_, ?_, ?_, ?_⟩
  · rw [ht, hhead _ _ _ (hne _ h1), hset _ _ h3 _ _ (hv _ h1), if_neg (hinj (by omega)), hset _ _ h2 _ _ (hv _ h1),
      if_neg (hinj (by omega)), hset _ _ h1 _ _ (hv _ h1), if_pos rfl]
  · rw [ht, hhead _ _ _ (hne _ h2), hset _ _ h3 _ _ (hv _ h2), if_neg (hinj (by omega)), hset _ _ h2 _ _ (hv _ h2), if_pos rfl]
  · rw [ht, hhead _ _ _ (hne _ h3), hset _ _ h3 _ _ (hv _ h3), if_pos rfl]
  · rw [State.fd, ht]
    exact State.fd_setFd _ _ _ hh (show 0 + 6 ≤ 64 by omega)

/-! ### The double fault (R61, R145) -/

/-- An exception of a core with EXL = 1: the core stops, its record is logged and its event posted. -/
theorem State.raise_of_exl (s : State) (c : CoreId) (code detail : Nat) (tval : Word) (h : (s.ctx c).exl = true) :
    ∃ u : State, s.Beside c u ∧
      u.core c.num = { s.core c.num with itag := none, running := false, faulted := true, resv := none, hold := none } ∧
      s.raise c code detail tval = (u.faultRecord c.cluster 1 c.core (some (s.ctx c).epc) (some tval) (some code) (some detail)).coreFaultEvent
        c.cluster c.core 1 (s.fd (R.CCL_FLTHD_IDX c.cluster)) := by
  have hk := s.itagEnd_core_self c 2 code
  have hx : (s.core c.num).ctx.exl = true := h
  have hb := State.Beside.itagEnd s c 2 code
  have hi : (s.itagEnd c 2 code).fd (R.CCL_FLTHD_IDX c.cluster) = s.fd (R.CCL_FLTHD_IDX c.cluster) :=
    congrArg (wField 0 6) (hb.rg (R.CCL_FLTHD c.cluster) (by unfold R.CCL_FLTHD; show _ ≠ 0x1E20010; omega))
  refine ⟨_, hb.trans (.setCore _ c _), State.core_setCore_self _ _ _, ?_⟩
  simp only [State.raise, hk, hx, hi]
  rfl

/-- The core of a double fault keeps the registers of its first exception. -/
theorem State.raise_exl_core_self (s : State) (c : CoreId) (code detail : Nat) (tval : Word) (h : (s.ctx c).exl = true) :
    (s.raise c code detail tval).core c.num =
      { s.core c.num with itag := none, running := false, faulted := true, resv := none, hold := none } := by
  obtain ⟨u, -, hcore, hr⟩ := s.raise_of_exl c code detail tval h
  rw [hr, ← hcore]
  exact State.core_congr ((State.Noted.coreFaultEvent _ _ _ _ _).cores.trans (u.faultRecord_cores _ _ _ _ _ _ _)) _

/-- The record of a double fault in its cluster's log. -/
theorem State.raise_exl_record (s : State) (c : CoreId) (code detail : Nat) (tval : Word) (h : (s.ctx c).exl = true) (i : Nat)
    (hi : s.fd (R.CCL_FLTHD_IDX c.cluster) = i) :
    (s.raise c code detail tval).rg (R.CCL_FLT c.cluster (4 * i + 1)) = (s.ctx c).epc ∧
    (s.raise c code detail tval).rg (R.CCL_FLT c.cluster (4 * i + 2)) = tval ∧
    (∃ n : Nat, (s.raise c code detail tval).rg (R.CCL_FLT c.cluster (4 * i + 3)) =
      BitVec.ofNat 64 (1 + 256 * code + 65536 * detail + 2 ^ 24 * n)) ∧
    (s.raise c code detail tval).fd (R.CCL_FLTHD_IDX c.cluster) = (i + 1) % 2 ^ (R.CCL_FLTHD_IDX c.cluster).width := by
  obtain ⟨u, hb, -, hr⟩ := s.raise_of_exl c code detail tval h
  have hlt : i < 64 := by rw [← hi]; exact s.fd_lt _
  have hcl := c.cluster.isLt
  have hu : u.fd (R.CCL_FLTHD_IDX c.cluster) = i :=
    (congrArg (wField 0 6) (hb.rg (R.CCL_FLTHD c.cluster) (by unfold R.CCL_FLTHD; show _ ≠ 0x1E20010; omega))).trans hi
  have hn := State.Noted.coreFaultEvent (u.faultRecord c.cluster 1 c.core (some (s.ctx c).epc) (some tval) (some code) (some detail))
    c.cluster c.core 1 (s.fd (R.CCL_FLTHD_IDX c.cluster))
  have hflt (j : Nat) (hj : j < 256) : ¬noticeReg (R.CCL_FLT c.cluster j) :=
    not_noticeReg_of_ccl (by unfold R.CCL_FLT; omega) (by unfold R.CCL_FLT; omega)
  have hhd : ¬noticeReg (R.CCL_FLTHD c.cluster) := not_noticeReg_of_ccl (by unfold R.CCL_FLTHD; omega) (by unfold R.CCL_FLTHD; omega)
  obtain ⟨h1, h2, h3, h4⟩ := u.rg_faultRecord c.cluster 1 c.core (s.ctx c).epc tval code detail i hu
  rw [hr]
  refine ⟨(hn.rg _ (hflt _ (by omega))).trans h1, (hn.rg _ (hflt _ (by omega))).trans h2,
    ⟨c.core + 256 * (u.evt.fltSeq.get 0 c.cluster % 2 ^ 32), (hn.rg _ (hflt _ (by omega))).trans (h3.trans (congrArg _ (by ring)))⟩,
    (congrArg (wField 0 6) (hn.rg _ hhd)).trans h4⟩

end Sys2Proof.Machine
end

section
/-! PROOFS. Control transfer, special registers, modes and exceptions of a core: O13 to O18 (R33 to R37, R53, R58 to R68, R107, R115). -/

namespace Sys2Proof.Machine

/-! ### Instructions in execution -/

section

variable (s : State) (c : CoreId)

/-- The exception of an instruction that has been issued, or has its address besides (R59). -/
theorem State.raise_core_issued (u : State) (hu : ∃ i, u.core c.num = { s.core c.num with itag := i }) (hn : u.now = s.now)
    (hx : (s.ctx c).exl = false) (code detail : Nat) (tval : Word) : (u.raise c code detail tval).core c.num =
      { s.core c.num with itag := none, ctx := (s.ctx c).enter s.now code detail tval, resv := none, hold := none } := by
  obtain ⟨i, hi⟩ := hu
  have hc : u.ctx c = s.ctx c := (congrArg Core.ctx hi).trans rfl
  rw [u.raise_core_self c code detail tval (hc ▸ hx), hc, hn, hi]

/-- An open critical section is suspended with the time it has used and the address of its CRIT (R60). -/
theorem Ctx.enter_suspends (x : Ctx) (now code detail : Nat) (tval : Word) (h : x.crit = true) :
    (x.enter now code detail tval).pcritPc = x.critPc ∧
    (x.enter now code detail tval).pcritUsedPs = x.critUsedPs + (now - x.critStartPs) := by
  simp [Ctx.enter, Ctx.critPause, h]

@[simp] theorem State.issued_cycle (w : Nat) : (s.issued c w).cycle c = s.cycle c := by
  obtain ⟨l, k, h⟩ := s.itagIssue_eq c w
  rw [State.issued, h]
  rfl

@[simp] theorem State.issued_specialReg (w n : Nat) : (s.issued c w).specialReg c n = s.specialReg c n := by
  have ht : (s.issued c w).time = s.time := by
    obtain ⟨l, k, h⟩ := s.itagIssue_eq c w
    rw [State.issued, h]
    rfl
  simp only [State.specialReg, State.statusWord, State.issued_ctx, State.issued_cycle, ht]

@[simp] theorem State.issued_evq (w q : Nat) : (s.issued c w).evq q = s.evq q :=
  congrArg (fun e : EvtState => e.queues.get [] q) (s.itagIssue_evt c w)

@[simp] theorem State.issued_evqRoom (w q : Nat) : (s.issued c w).evqRoom q = s.evqRoom q := by
  rw [State.evqRoom, State.evqDepth, State.issued_fb, State.issued_fd, State.issued_evq]
  rfl

variable {s c}

theorem noRegs_iff (f : FmtA) : noRegs f = true ↔ f.dst = 0 ∧ f.srcA = 0 ∧ f.srcB = 0 := by
  simp [noRegs, and_assoc]

variable (h : s.fetches c = true)
include h

/-! ### Control transfer (R41, R53) -/

theorem execBp_taken (f : FmtB) (hp : ((s.ctx c).pred f.pred.toNat != f.negate) = true) :
    execBp c f s = .next ((s.issued c (encB 0x20 f)).goto c ((s.ctx c).pc + 4 * f.offset.signExtend 64)) := by
  simp only [execBp, State.guardB, hp, s.coreExec_run c _ _ h, State.branchTarget, State.issued_ctx, sextTo_toNat]

theorem execCall_taken (f : FmtB) (hp : ((s.ctx c).pred f.pred.toNat != f.negate) = true) :
    execCall c f s = .next (((s.issued c (encB 0x21 f)).setGreg c 31 ((s.ctx c).pc + 4)).goto c
      ((s.ctx c).pc + 4 * f.offset.signExtend 64)) := by
  simp only [execCall, State.guardB, hp, s.coreExec_run c _ _ h, State.branchTarget, State.issued_ctx, sextTo_toNat]

theorem execRet_aligned (f : FmtA) (hg : s.guardA c f = true) (hd : f.dst = 0) (hb : f.srcB = 0)
    (ha : (s.greg c f.srcA.toNat).toNat % 4 = 0) :
    execRet c f s = .next ((s.issued c (encA 0x22 0 f)).goto c (s.greg c f.srcA.toNat)) := by
  simp [execRet, hg, hd, hb, s.coreExec_run c _ _ h, ha]

/-- WAIT of the supervisor (R53). -/
theorem execWait_supervisor (f : FmtA) (hg : s.guardA c f = true) (hd : f.dst = 0) (hb : f.srcB = 0) (hs : (s.ctx c).sup = true) :
    execWait c f s = .next (if s.greg c f.srcA.toNat ≠ 0 ∧ (s.greg c f.srcA.toNat).toNat ≤ (s.cycle c).toNat then
      (s.issued c (encA 0x31 0 f)).advance c
      else ((s.issued c (encA 0x31 0 f)).advance c).setCore c.num
        { ((s.issued c (encA 0x31 0 f)).advance c).core c.num with waitUntil := some (s.greg c f.srcA.toNat) }) := by
  simp [execWait, hg, hd, hb, s.coreExec_run c _ _ h, hs, BitVec.ule]

/-- WAIT of a handler (R62). -/
theorem execWait_handler (f : FmtA) (hg : s.guardA c f = true) (hd : f.dst = 0) (hb : f.srcB = 0) (hs : (s.ctx c).sup = false) :
    execWait c f s = .next ((s.issued c (encA 0x31 0 f)).raise c 0x02 0 (BitVec.ofNat 64 (encA 0x31 0 f))) := by
  simp [execWait, hg, hd, hb, s.coreExec_run c _ _ h, hs]

theorem execHalt_supervisor (f : FmtA) (hg : s.guardA c f = true) (hr : noRegs f = true) (hs : (s.ctx c).sup = true) :
    execHalt c f s = .next (((s.issued c (encA 0x38 0 f)).advance c).setCore c.num
      { ((s.issued c (encA 0x38 0 f)).advance c).core c.num with halting := true, resv := none, hold := none }) := by
  simp [execHalt, hg, hr, s.coreExec_run c _ _ h, hs]

theorem execHalt_handler (f : FmtA) (hg : s.guardA c f = true) (hr : noRegs f = true) (hs : (s.ctx c).sup = false) :
    execHalt c f s = .next ((s.issued c (encA 0x38 0 f)).raise c 0x02 0 (BitVec.ofNat 64 (encA 0x38 0 f))) := by
  simp [execHalt, hg, hr, s.coreExec_run c _ _ h, hs]

/-! ### Special registers, traps and modes (R33 to R37, R60, R62, R67, R68) -/

theorem execMfs_named (f : FmtI) (v : Word) (ha : f.srcA = 0) (hv : s.specialReg c f.imm.toNat = some v) :
    execMfs c f s = .next (s.wrote c (encI 0x32 f) f.dst.toNat v) := by
  simp [execMfs, ha, hv, s.coreExec_run c _ _ h, State.wrote]

theorem execMts_supervisor (f : FmtI) (x : Ctx) (hd : f.dst = 0) (hs : (s.ctx c).sup = true)
    (hx : (s.ctx c).setSpecial f.imm.toNat (s.greg c f.srcA.toNat) = some x) :
    execMts c f s = .next (((s.issued c (encI 0x33 f)).setCtx c x).advance c) := by
  simp [execMts, hd, s.coreExec_run c _ _ h, hs, hx]

theorem execMts_handler (f : FmtI) (hd : f.dst = 0) (hs : (s.ctx c).sup = false) :
    execMts c f s = .next ((s.issued c (encI 0x33 f)).raise c 0x02 0 (BitVec.ofNat 64 (encI 0x33 f))) := by
  simp [execMts, hd, s.coreExec_run c _ _ h, hs]

theorem execTrap_fetches (f : FmtI) (hd : f.dst = 0) (ha : f.srcA = 0) :
    execTrap c f s = .next ((s.issued c (encI 0x34 f)).raise c 0x09 0 (f.imm.setWidth 64)) := by
  simp [execTrap, hd, ha, s.coreExec_run c _ _ h, BitVec.ofNat_toNat]

theorem execReservedOpcode_fetches (w : BitVec 32) (hw : reservedWord w.toNat = true) :
    execReservedOpcode c w s = .next ((s.issued c w.toNat).raise c 0x01 0 (w.setWidth 64)) := by
  simp [execReservedOpcode, hw, s.coreExec_illegal c _ _ _ h, BitVec.ofNat_toNat]

theorem execEret_exl (f : FmtA) (hg : s.guardA c f = true) (hr : noRegs f = true) (hx : (s.ctx c).exl = true) :
    execEret c f s = .next (((s.issued c (encA 0x35 0 f)).retire c).setCore c.num
      { ((s.issued c (encA 0x35 0 f)).retire c).core c.num with
        ctx := (((s.issued c (encA 0x35 0 f)).retire c).ctx c).leave s.now, resv := none, hold := none }) := by
  simp only [execEret, hg, hr, s.coreExec_run c _ _ h, State.issued_ctx, hx, if_true, (State.Beside.retire _ c).now, State.issued_now]
  rfl

/-- PRIO of a value from 0 to 7 (R68). -/
theorem execPrio_fetches (f : FmtI) (hd : f.dst = 0) (ha : f.srcA = 0) (hi : f.imm.toNat < 8) :
    execPrio c f s = .next (if (s.ctx c).sup = false ∧ f.imm.toNat < (s.ctx c).disp.toNat then
        (s.issued c (encI 0x36 f)).raise c 0x02 0 (BitVec.ofNat 64 (encI 0x36 f))
      else ((s.issued c (encI 0x36 f)).setCtx c { (s.issued c (encI 0x36 f)).ctx c with cur := f.imm.setWidth 3 }).advance c) := by
  simp [execPrio, hd, ha, hi, s.coreExec_run c _ _ h, BitVec.ofNat_toNat]

theorem execCrit_guarded (f : FmtA) (hg : s.guardA c f = true) (hr : noRegs f = true) :
    execCrit c f s = .next (if (s.ctx c).crit = true then (s.issued c (encA 0x37 0 f)).advance c
      else ((s.issued c (encA 0x37 0 f)).setCtx c { (s.issued c (encA 0x37 0 f)).ctx c with
        crit := true, critUsedPs := 0, critStartPs := s.now, critPc := some (s.ctx c).pc }).advance c) := by
  simp [execCrit, hg, hr, s.coreExec_run c _ _ h]

theorem execEndcrit_guarded (f : FmtA) (hg : s.guardA c f = true) (hr : noRegs f = true) :
    execEndcrit c f s = .next (((s.issued c (encA 0x37 1 f)).setCtx c
      { (s.issued c (encA 0x37 1 f)).ctx c with crit := false }).advance c) := by
  simp [execEndcrit, hg, hr, s.coreExec_run c _ _ h]

/-- SEND (R127, R128): accepted by a queue with room, else refused and counted. -/
theorem execSend_guarded (f : FmtA) (q : Nat) (hg : s.guardA c f = true) (hq : q = (s.greg c f.srcA.toNat).toNat % 64) :
    execSend c f s = .next (if s.evqRoom q = true then
        (((s.issued c (encA 0x30 0 f)).setEvq q (s.evq q ++ [⟨0x40, c.cluster.val + 4 * c.core.val, s.greg c f.srcB.toNat⟩])).setGreg
          c f.dst.toNat 1).advance c
      else (((s.issued c (encA 0x30 0 f)).addFd (R.EVT_Q_STS_REFUSED q) 1).setGreg c f.dst.toNat 0).advance c) := by
  subst hq
  cases hr : s.evqRoom ((s.greg c f.srcA.toNat).toNat % 64) <;>
    simp [execSend, hg, s.coreExec_run c _ _ h, State.sendEvent, hr]

end

/-! ### The statements -/

/-- Settles O13. -/
theorem controlTransferResults : Obligations.ControlTransferResults := by
  refine ⟨fun s c f h hp => ⟨execBp_taken h f hp, execCall_taken h f hp⟩, fun s c f h hd hb => ?_, fun s c a hw ha hl => ?_,
    fun s c hh hb => ?_⟩
  · obtain ⟨hf, hg⟩ := (s.runs_iff c f).mp h
    refine ⟨execRet_aligned hf f hg hd hb, fun hs h0 hc => ?_, fun hs hc => ?_,
      fun hs ha => execHalt_supervisor hf f hg ((noRegs_iff f).mpr ⟨hd, ha, hb⟩) hs⟩
    · exact (execWait_supervisor hf f hg hd hb hs).trans (by rw [if_pos ⟨h0, hc⟩])
    · refine (execWait_supervisor hf f hg hd hb hs).trans (congrArg Host.Outcome.next (if_neg ?_))
      rintro ⟨h0, hle⟩
      exact hc.elim h0 (Nat.not_lt.mpr hle)
  · have hn : ¬(a = 0 ∨ (!s.live (13 + c.cluster.val)) = true) := by rw [hl]; simpa using ha
    show execWaitTimeout c s = _
    rw [execWaitTimeout, hw]
    exact congrArg Host.Outcome.next (if_neg hn)
  · show execHaltStop c s = _
    simp [execHaltStop, hh, hb]

/-- Settles O14. -/
theorem systemInstructionResults : Obligations.SystemInstructionResults := by
  refine fun s c h => ⟨fun f v ha hv => execMfs_named h f v ha hv, fun f x hd hs hx => ?_, fun f hd ha hi hp => ?_,
    fun f hg hd ha hb => ?_, fun f q hg hq => ⟨fun hr => ?_, fun hr => ?_⟩⟩
  · exact execMts_supervisor h f x hd hs (s.issued_ctx c c (encI 0x33 f) ▸ hx)
  · refine (execPrio_fetches h f hd ha hi).trans (congrArg Host.Outcome.next (if_neg ?_))
    rintro ⟨hs, hlt⟩
    exact hp.elim (fun e => absurd (hs.symm.trans e) (by decide)) (Nat.not_le.mpr hlt)
  · have hr : noRegs f = true := (noRegs_iff f).mpr ⟨hd, ha, hb⟩
    exact ⟨fun hc => (execCrit_guarded h f hg hr).trans (by simp [hc]), fun hc => (execCrit_guarded h f hg hr).trans (by simp [hc]),
      execEndcrit_guarded h f hg hr, execEret_exl h f hg hr⟩
  · exact (execSend_guarded h f q hg hq).trans (by rw [if_pos hr])
  · exact (execSend_guarded h f q hg hq).trans (by simp [hr])

/-- Settles O18. -/
theorem trapAndReservedWordsComplete : Obligations.TrapAndReservedWordsComplete := by
  refine ⟨fun s c g h hd ha => execTrap_fetches h g hd ha, fun s c w h hw => execReservedOpcode_fetches h w hw, fun s c hc hr => ?_,
    fun s c r t hh => ?_⟩
  · show execCritBudgetExpiry c s = _
    simp [execCritBudgetExpiry, hc, hr]
  · show execReservationHoldExpiry c s = _
    simp [execReservationHoldExpiry, hh]

/-- Settles O16: what ERET does is `Ctx.leave` of the context, with the reservation cleared. -/
theorem exceptionReturn : Obligations.ExceptionReturn := by
  intro s c h hx
  obtain ⟨i, hi⟩ := s.issued_core c (encA 0x35 0 ⟨0, 0, 0, 0⟩) c.num
  have hk := (s.issued c (encA 0x35 0 ⟨0, 0, 0, 0⟩)).retire_core_self c
  have hb := (State.Beside.issued s c (encA 0x35 0 ⟨0, 0, 0, 0⟩)).trans (.retire _ c)
  refine ⟨_, execEret_exl h _ rfl rfl hx, ?_⟩
  unfold State.greg State.ctx
  rw [State.core_setCore_self, hk, hi]
  exact ⟨rfl, rfl, rfl, rfl, rfl, rfl, rfl, rfl, rfl, fun _ => rfl, rfl,
    fun e he => (State.core_setCore_ne _ _ _ _ (CoreId.num_ne he)).trans (hb.others _ (CoreId.num_ne he))⟩

/-- Settles O17: each of the named instructions raises, and `Ctx.enter` says what that does. -/
theorem exceptionEntry : Obligations.ExceptionEntry := by
  intro s c f g w i code tval h hx hi
  have raised : ∃ n, exec i s = .next ((s.issued c n).raise c code 0 tval) := by
    rcases hi with ⟨rfl, hd, ha, rfl, rfl⟩ | ⟨rfl, hw, rfl, rfl⟩ | ⟨hs, hg, hd, hb, rfl, ⟨rfl, rfl⟩ | ⟨rfl, ha, rfl⟩⟩ |
      ⟨hs, rfl, hd, rfl, rfl⟩
    · exact ⟨_, execTrap_fetches h g hd ha⟩
    · exact ⟨_, execReservedOpcode_fetches h w hw⟩
    · exact ⟨_, execWait_handler h f hg hd hb hs⟩
    · exact ⟨_, execHalt_handler h f hg ((noRegs_iff f).mpr ⟨hd, ha, hb⟩) hs⟩
    · exact ⟨_, execMts_handler h g hd hs⟩
  obtain ⟨n, hn⟩ := raised
  have hk := s.raise_core_issued c _ (s.issued_core c n c.num) (s.issued_now c n) hx code 0 tval
  refine ⟨_, hn, ?_⟩
  unfold State.greg State.ctx
  rw [hk]
  exact ⟨rfl, rfl, rfl, rfl, rfl, rfl, rfl, rfl, rfl, rfl, rfl, rfl, rfl, rfl, rfl, fun hc => (s.ctx c).enter_suspends s.now code 0 tval hc,
    fun _ => rfl, rfl⟩

/-- The core of an exception that is a double fault or not: either way its PRIO stays. -/
theorem State.raise_cur (s : State) (c : CoreId) (code detail : Nat) (tval : Word) :
    ((s.raise c code detail tval).ctx c).cur = (s.ctx c).cur := by
  unfold State.ctx
  cases hx : (s.ctx c).exl with
  | true => rw [s.raise_exl_core_self c code detail tval hx]
  | false => rw [s.raise_core_self c code detail tval hx]; rfl

/-- Settles O15. -/
theorem priorityRule : Obligations.PriorityRule := by
  intro s c n h
  have hn : (BitVec.ofNat 16 n.val).toNat = n.val := by
    rw [BitVec.toNat_ofNat]
    exact Nat.mod_eq_of_lt (by omega)
  have hw : (BitVec.ofNat 16 n.val).setWidth 3 = BitVec.ofNat 3 n.val := by
    apply BitVec.eq_of_toNat_eq
    rw [BitVec.toNat_setWidth, hn, BitVec.toNat_ofNat]
  have hp := execPrio_fetches h ⟨0, 0, BitVec.ofNat 16 n.val⟩ rfl rfl (hn.trans_lt n.isLt)
  rw [hn, hw, s.issued_ctx] at hp
  by_cases hl : (s.ctx c).sup = false ∧ n.val < (s.ctx c).disp.toNat
  · rw [if_pos hl] at hp
    refine ⟨_, hp, fun hor => ?_, fun _ _ => ⟨(State.raise_cur _ c _ _ _).trans (by rw [s.issued_ctx]), fun hx => ?_⟩⟩
    · exact hor.elim (fun e => absurd (hl.1.symm.trans e) (by decide)) fun e => absurd hl.2 (Nat.not_lt.mpr e)
    · have hk := s.raise_core_issued c _ (s.issued_core c (encI 0x36 ⟨0, 0, BitVec.ofNat 16 n.val⟩) c.num) (s.issued_now c _) hx 0x02 0
        (BitVec.ofNat 64 (encI 0x36 ⟨0, 0, BitVec.ofNat 16 n.val⟩))
      unfold State.ctx
      rw [hk]
      exact ⟨rfl, rfl, rfl⟩
  · rw [if_neg hl] at hp
    refine ⟨_, hp, fun _ => ?_, fun hs hlt => absurd ⟨hs, hlt⟩ hl⟩
    unfold State.ctx
    rw [State.advance_core_self, State.ctx_setCtx_self]
    exact ⟨rfl, rfl, rfl⟩

/-- Settles O19: the double fault of TRAP, with the record that `State.raise_exl_record` gives. -/
theorem doubleFaultStops : Obligations.DoubleFaultStops := by
  intro s c g h hx hd ha
  obtain ⟨i, hi⟩ := s.issued_core c (encI 0x34 g) c.num
  have hx' : ((s.issued c (encI 0x34 g)).ctx c).exl = true := by rw [s.issued_ctx]; exact hx
  have hk := (s.issued c (encI 0x34 g)).raise_exl_core_self c 0x09 0 (g.imm.setWidth 64) hx'
  obtain ⟨h1, h2, ⟨n, h3⟩, h4⟩ := (s.issued c (encI 0x34 g)).raise_exl_record c 0x09 0 (g.imm.setWidth 64) hx' _ (s.issued_fd c _ _)
  have hepc : ((s.issued c (encI 0x34 g)).ctx c).epc = (s.ctx c).epc := by rw [s.issued_ctx]
  have hcode (n : Nat) : wField 0 24 (BitVec.ofNat 64 (1 + 256 * 0x09 + 65536 * 0 + 2 ^ 24 * n)) = 1 + 256 * 0x09 := by
    simp only [wField, natField, BitVec.toNat_ofNat]
    omega
  refine ⟨_, execTrap_fetches h g hd ha, ?_⟩
  rw [State.ctx, hk, hi]
  exact ⟨rfl, rfl, rfl, rfl, hx, h4, h1.trans hepc, h2, (congrArg _ h3).trans (hcode n)⟩

end Sys2Proof.Machine
end

section
/-! PROOFS. Loads of a core from every memory type, the exceptions of accesses, and lookups: O7, O20 and O21 (R48, R49, R53 to R56, R62,
R66, R79, R84, R96, R99, R101). -/

namespace Sys2Proof.Machine

/-! ### Bytes of numbers -/

@[simp] theorem bytesLE_length (n v : Nat) : (bytesLE n v).length = n := by
  induction n generalizing v with
  | zero => rfl
  | succ n ih => rw [bytesLE, List.length_cons, ih]

theorem ofBytesLE_bytesLE (n v : Nat) : ofBytesLE (bytesLE n v) = v % 256 ^ n := by
  induction n generalizing v with
  | zero => simp [bytesLE, ofBytesLE, Nat.mod_one]
  | succ n ih =>
    rw [bytesLE, ofBytesLE, ih, BitVec.toNat_ofNat, Nat.pow_succ' (n := n)]
    exact (Nat.mod_mul (x := v) (a := 256) (b := 256 ^ n)).symm

theorem ofBytesLE_append (l m : List Byte) : ofBytesLE (l ++ m) = ofBytesLE l + 256 ^ l.length * ofBytesLE m := by
  induction l with
  | nil => simp [ofBytesLE]
  | cons b l ih => rw [List.cons_append, ofBytesLE, ofBytesLE, ih, List.length_cons, Nat.pow_succ']; ring

theorem ofBytesLE_lt (l : List Byte) : ofBytesLE l < 256 ^ l.length := by
  induction l with
  | nil => exact Nat.one_pos
  | cons b l ih =>
    have := b.isLt
    rw [ofBytesLE, List.length_cons, Nat.pow_succ']
    omega

/-- The 8 bytes of a word. -/
@[simp] theorem ofNat_ofBytesLE_word (x : Word) : BitVec.ofNat 64 (ofBytesLE (bytesLE 8 x.toNat)) = x := by
  rw [ofBytesLE_bytesLE, Nat.mod_eq_of_lt (show x.toNat < 256 ^ 8 from x.isLt), BitVec.ofNat_toNat, BitVec.setWidth_eq]

/-- The two words of 16 bytes. -/
theorem ofBytesLE_pair (l m : List Byte) (hl : l.length = 8) :
    BitVec.ofNat 64 (ofBytesLE (l ++ m)) = BitVec.ofNat 64 (ofBytesLE l) ∧
    BitVec.ofNat 64 (ofBytesLE (l ++ m) / 2 ^ 64) = BitVec.ofNat 64 (ofBytesLE m) := by
  have h1 := ofBytesLE_lt l
  rw [hl] at h1
  rw [ofBytesLE_append, hl]
  refine ⟨?_, ?_⟩
  · apply BitVec.eq_of_toNat_eq
    simp only [BitVec.toNat_ofNat]
    omega
  · congr 1
    omega

/-! ### What an instruction with its address reads as before -/

section

variable (s : State) (c : CoreId) (w : Nat) (a : Word)

/-- The address of an instruction recorded: the sampling registers and the cores have changed alone. -/
theorem State.addressed_eq : ∃ (l : SMap Nat) (k : SMap Core),
    s.addressed c w a = { s with hpl := { s.hpl with ilfsr := l }, cores := k } := by
  obtain ⟨l, k, h⟩ := s.itagIssue_eq c w
  obtain ⟨k', h'⟩ := (s.issued c w).itagAddr_eq c a
  exact ⟨l, k', h'.trans (by rw [State.issued, h])⟩

@[simp] theorem State.addressed_greg (d : CoreId) (n : Nat) : (s.addressed c w a).greg d n = s.greg d n :=
  congrArg (fun x => Ctx.reg x n) (s.addressed_ctx c d w a)

@[simp] theorem State.issued_effAddr (f : FmtM) : (s.issued c w).effAddr c f = s.effAddr c f := by
  rw [State.effAddr, s.issued_greg, State.effAddr]

@[simp] theorem State.addressed_live (d : Nat) : (s.addressed c w a).live d = s.live d := by
  obtain ⟨l, k, h⟩ := s.addressed_eq c w a
  rw [h]
  rfl

@[simp] theorem State.addressed_tBytes (x n : Nat) : (s.addressed c w a).tBytes x n = s.tBytes x n :=
  State.tBytes_congr (State.Beside.addressed s c w a).tmem x n

@[simp] theorem State.addressed_addBuffered (x n : Nat) : (s.addressed c w a).addBuffered c x n = s.addBuffered c x n := by
  simp only [State.addBuffered, State.addressed_sbuf]

@[simp] theorem State.addressed_remoteHeld (x : Nat) : (s.addressed c w a).remoteHeld c x = s.remoteHeld c x := by
  have hfid (y : Nat) : (s.addressed c w a).remoteFid y = s.remoteFid y := by
    obtain ⟨l, k, h⟩ := s.addressed_eq c w a
    rw [h]
    rfl
  simp only [State.remoteHeld, State.addressed_sbuf, hfid]

/-- The bytes that a core loads, its own buffered stores among them (R84). -/
@[simp] theorem State.addressed_loadBytes (x n : Nat) : (s.addressed c w a).loadBytes c x n = s.loadBytes c x n := by
  have hb := State.Beside.addressed s c w a
  have hbyte (y : Nat) : (s.addressed c w a).loadByte c y = s.loadByte c y := by
    rw [State.loadByte, s.addressed_sbuf, State.cByte_congr hb.cmem, State.tByte_congr hb.tmem]
    rfl
  simp only [State.loadBytes, hbyte]

/-- An instruction that has been issued and whose address is known. -/
theorem State.itagAddr_issued : (s.issued c w).itagAddr c (BitVec.ofNat 64 a.toNat) = s.addressed c w a := by
  rw [BitVec.ofNat_toNat, BitVec.setWidth_eq]
  rfl

theorem State.loadBytes_length (x n : Nat) : (s.loadBytes c x n).length = n := by
  simp [State.loadBytes]

/-- The bytes of a pair are those of its two words. -/
theorem State.loadBytes_pair (x : Nat) : s.loadBytes c x 16 = s.loadBytes c x 8 ++ s.loadBytes c (x + 8) 8 := by
  rw [State.loadBytes, show List.range 16 = List.range 8 ++ (List.range 8).map (8 + ·) from rfl, List.map_append, List.map_map]
  exact congrArg _ (List.map_congr_left fun i _ => by rw [Function.comp, Nat.add_assoc])

end

/-! ### The checks of an access (R62, R79, R99, R101) -/

theorem accessFault_outside {a n det : Nat} (h : memType a = none) : accessFault a n det = some (0x04, det, a) := by
  rw [accessFault, h]

theorem accessFault_misaligned {a n det : Nat} {m : MemType} (h : memType a = some m) (hm : m ≠ .normal) (ha : a % alignOf n ≠ 0) :
    accessFault a n det = some (0x03, 0, a) := by
  rw [accessFault, h]
  exact if_pos ⟨hm, ha⟩

theorem accessFault_short_device {a n det : Nat} (h : memType a = some .device) (hn : n < 8) (ha : a % n = 0) :
    accessFault a n det = some (0x04, det, a) := by
  have hal : alignOf n = n := if_neg (by omega)
  rw [accessFault, h]
  exact (if_neg fun hc => hc.2 (by rw [hal]; exact ha)).trans (if_pos ⟨rfl, hn⟩)

theorem accessFault_past_normal {a n det : Nat} (h : memType a = some .normal) (hl : 0x800000 < a + n) :
    accessFault a n det = some (0x04, det, 0x800000) := by
  rw [accessFault, h]
  exact (if_neg fun hc => hc.1 rfl).trans ((if_neg fun hc => nomatch hc.1).trans (if_pos hl))

/-- A permitted Device access is of 8 bytes at least. -/
theorem size_of_device_access {a n det : Nat} (h : accessFault a n det = none) (hm : memType a = some .device) : 8 ≤ n := by
  by_contra hn
  by_cases ha : a % n = 0
  · exact nomatch h.symm.trans (accessFault_short_device hm (Nat.not_le.mp hn) ha)
  · have hal : alignOf n = n := if_neg (by omega)
    exact nomatch h.symm.trans (accessFault_misaligned hm (by decide) (by rw [hal]; exact ha))

/-- A permitted access touches memory of one of the four types. -/
theorem memType_of_permitted {a n det : Nat} (h : accessFault a n det = none) : ∃ m, memType a = some m := by
  cases hm : memType a with
  | none => exact nomatch h.symm.trans (accessFault_outside hm)
  | some m => exact ⟨m, rfl⟩

theorem device_range {a : Nat} (h : memType a = some .device) : 0x40000000 ≤ a := by
  unfold memType at h
  split at h
  · cases h
  · split at h
    · cases h
    · split at h
      · omega
      · split at h <;> cases h

/-! ### LD and LDP (R48, R96, R99) -/

section

variable (s : State) (c : CoreId)

/-- A load into one register. -/
theorem State.loadApply_single (d n x : Nat) (sg : Bool) (bs : List Byte) (hn : n ≠ 16) : s.loadApply c ⟨d, n, sg, x⟩ bs =
    s.setGreg c d (if sg = true then sextTo (8 * n) (ofBytesLE bs) else BitVec.ofNat 64 (ofBytesLE bs)) :=
  if_neg hn

/-- A load into a register pair. -/
theorem State.loadApply_pair (d x : Nat) (sg : Bool) (l m : List Byte) (hl : l.length = 8) :
    s.loadApply c ⟨d, 16, sg, x⟩ (l ++ m) =
      (s.setGreg c d (BitVec.ofNat 64 (ofBytesLE l))).setGreg c (d + 1) (BitVec.ofNat 64 (ofBytesLE m)) := by
  obtain ⟨h1, h2⟩ := ofBytesLE_pair l m hl
  rw [← h1, ← h2]
  rfl

/-- A load of Normal memory, or of Table memory to whose bytes no CINC is buffered (R84, R85). -/
theorem State.loadAt_memory (r : LoadReq)
    (h : memType r.addr = some .normal ∨ memType r.addr = some .table ∧ s.addBuffered c r.addr r.bytes = false) :
    s.loadAt c r false = (s.loadApply c r (s.loadBytes c r.addr r.bytes)).advance c := by
  rcases h with h | ⟨h, hb⟩
  · simp [State.loadAt, h]
  · simp [State.loadAt, h, hb]

/-- A load of Device registers whose blocks are live. -/
theorem State.loadAt_device {d n a : Nat} {sg bad : Bool} (h : memType a = some .device) (hl : s.deviceLive (a - 0x40000000) n = true) :
    s.loadAt c ⟨d, n, sg, a⟩ bad = ((s.deviceRead c (a - 0x40000000) (n / 8)).2.loadApply c ⟨d, n, sg, a⟩
      (s.deviceRead c (a - 0x40000000) (n / 8)).1).advance c := by
  simp [State.loadAt, h, hl]

/-- A Remote load that nothing holds back and that the windows admit stalls its core in its slot (R96). -/
theorem State.loadAt_remote (r : LoadReq) (bad : Bool) (h : memType r.addr = some .remote) (hh : s.remoteHeld c r.addr = false)
    (t : State) (i : Nat) (ht : s.remoteRequest c 0x20 r.addr r.bytes [] = some (t, i, true)) :
    s.loadAt c r bad = t.setCtx c { t.ctx c with rload := some ⟨r, i, none, false⟩ } := by
  simp [State.loadAt, h, State.remoteLoad, hh, ht]

/-- A load that may access its bytes makes the access when its address has been recorded. -/
theorem State.loadExec_permitted {w d n : Nat} {sg bad : Bool} {a : Word} (hr : (s.ctx c).rload = none)
    (hp : accessFault a.toNat n 1 = none) :
    (s.issued c w).loadExec c d a.toNat n sg bad = (s.addressed c w a).loadAt c ⟨d, n, sg, a.toNat⟩ bad := by
  simp only [State.loadExec, s.issued_ctx, hr, hp, State.itagAddr_issued]

/-- A load that may not access its bytes raises its exception when its address has been recorded. -/
theorem State.loadExec_faults {w d n : Nat} {sg bad : Bool} {a : Word} {x : Nat × Nat × Nat} (hr : (s.ctx c).rload = none)
    (hp : accessFault a.toNat n 1 = some x) :
    (s.issued c w).loadExec c d a.toNat n sg bad = (s.addressed c w a).raiseAccess c x := by
  simp only [State.loadExec, s.issued_ctx, hr, hp, State.itagAddr_issued]

variable {s c}
variable (h : s.fetches c = true) (hr : (s.ctx c).rload = none)
include h hr

theorem execLd_permitted (f : FmtM) (bad : Bool) (hz : f.size.toNat ≠ 7)
    (hp : accessFault (s.effAddr c f).toNat (2 ^ (f.size.toNat % 4)) 1 = none) :
    execLd c f bad s = .next ((s.addressed c (encM 0x10 f) (s.effAddr c f)).loadAt c
      ⟨f.data.toNat, 2 ^ (f.size.toNat % 4), decide (4 ≤ f.size.toNat), (s.effAddr c f).toNat⟩ bad) := by
  simp only [execLd, hz, ne_eq, not_false_eq_true, decide_true, s.coreExec_run c _ _ h, State.issued_effAddr, sizeBytes,
    s.loadExec_permitted c hr hp]

theorem execLd_faults (f : FmtM) (bad : Bool) (x : Nat × Nat × Nat) (hz : f.size.toNat ≠ 7)
    (hp : accessFault (s.effAddr c f).toNat (2 ^ (f.size.toNat % 4)) 1 = some x) :
    execLd c f bad s = .next ((s.addressed c (encM 0x10 f) (s.effAddr c f)).raiseAccess c x) := by
  simp only [execLd, hz, ne_eq, not_false_eq_true, decide_true, s.coreExec_run c _ _ h, State.issued_effAddr, sizeBytes,
    s.loadExec_faults c hr hp]

theorem execLdp_permitted (f : FmtM) (bad : Bool) (hz : f.size = 0) (hd : f.data.toNat % 2 = 0)
    (hp : accessFault (s.effAddr c f).toNat 16 1 = none) :
    execLdp c f bad s = .next ((s.addressed c (encM 0x12 f) (s.effAddr c f)).loadAt c
      ⟨f.data.toNat, 16, false, (s.effAddr c f).toNat⟩ bad) := by
  have hz' : f.size.toNat = 0 := by rw [hz]; rfl
  simp only [execLdp, hz', hd, decide_true, Bool.and_self, s.coreExec_run c _ _ h, State.issued_effAddr,
    s.loadExec_permitted c hr hp]

end

/-! ### Accesses of Device registers (R49) -/

section

variable (s : State) (c : CoreId)

theorem State.deviceRead_one (off : Nat) :
    s.deviceRead c off 1 = (bytesLE 8 (s.regLoad (.core c) off).1.toNat, (s.regLoad (.core c) off).2) := by
  simp [State.deviceRead]

/-- Two registers read, the second after the first. -/
theorem State.deviceRead_two (off : Nat) {u v : State} {x y : Word} (hx : s.regLoad (.core c) off = (x, u))
    (hy : u.regLoad (.core c) (off + 8) = (y, v)) :
    s.deviceRead c off 2 = (bytesLE 8 x.toNat ++ bytesLE 8 y.toNat, v) := by
  simp [State.deviceRead, hx, hy]

theorem State.deviceLive_one (off : Nat) (h : s.live (domainOf off) = true) : s.deviceLive off 8 = true := by
  simp [State.deviceLive, h]

theorem State.deviceLive_two (off : Nat) (h : s.live (domainOf off) = true) (h' : s.live (domainOf (off + 8)) = true) :
    s.deviceLive off 16 = true := by
  simp [State.deviceLive, h, h']

end

theorem two_pow_mod_four_ne (z : Nat) : 2 ^ (z % 4) ≠ 16 := by
  have : z % 4 < 4 := Nat.mod_lt _ (by decide)
  generalize z % 4 = k at this
  interval_cases k <;> decide

/-- The size codes of 8 bytes: LD.d, and the one that is reserved (R45). -/
theorem size_eq_three {z : BitVec 3} (h7 : z.toNat ≠ 7) (h : 8 ≤ 2 ^ (z.toNat % 4)) : z.toNat = 3 := by
  have hz := z.isLt
  generalize z.toNat = k at *
  interval_cases k <;> simp_all

/-- Settles O7, by memory type. -/
theorem loadResults : Obligations.LoadResults := by
  rintro s c f a h hr rfl
  refine ⟨fun hz hp => ⟨fun hm => ?_, fun hm hl => ?_, fun hm hh t i ht => ?_⟩,
    fun hz hd hp => ⟨fun hm => ?_, fun hm hl hl' u v x y hx hy => ?_, fun hm hh t i ht => ?_⟩⟩
  · refine (execLd_permitted h hr f false hz hp).trans ?_
    rw [State.loadAt_memory _ c _ (by simpa using hm), State.loadApply_single _ _ _ _ _ _ _ (two_pow_mod_four_ne _),
      State.addressed_loadBytes]
    simp only [decide_eq_true_eq]
  · have h3 := size_eq_three hz (size_of_device_access hp hm)
    have h8 : 2 ^ (f.size.toNat % 4) = 8 := by rw [h3]; rfl
    refine (execLd_permitted h hr f false hz hp).trans ?_
    rw [h8, State.loadAt_device _ c hm (State.deviceLive_one _ _ (by simpa using hl)), show 8 / 8 = 1 from rfl, State.deviceRead_one,
      State.loadApply_single _ _ _ _ _ _ _ (by decide), ofNat_ofBytesLE_word, if_neg (by simp [h3])]
  · exact (execLd_permitted h hr f false hz hp).trans (congrArg _ (State.loadAt_remote _ c _ _ hm (by simpa using hh) t i ht))
  · refine (execLdp_permitted h hr f false hz hd hp).trans ?_
    rw [State.loadAt_memory _ c _ (by simpa using hm), State.addressed_loadBytes, State.loadBytes_pair,
      State.loadApply_pair _ _ _ _ _ _ _ (s.loadBytes_length c _ _)]
  · refine (execLdp_permitted h hr f false hz hd hp).trans ?_
    rw [State.loadAt_device _ c hm (State.deviceLive_two _ _ (by simpa using hl) (by simpa using hl')), show 16 / 8 = 2 from rfl,
      State.deviceRead_two _ c _ hx hy, State.loadApply_pair _ _ _ _ _ _ _ (bytesLE_length _ _), ofNat_ofBytesLE_word,
      ofNat_ofBytesLE_word]
  · exact (execLdp_permitted h hr f false hz hd hp).trans (congrArg _ (State.loadAt_remote _ c _ _ hm (by simpa using hh) t i ht))

/-! ### ST and STP (R48, R49, R66) -/

section

variable (s : State) (c : CoreId)

/-- A store that may access its bytes makes the access when its address has been recorded. -/
theorem State.storeExec_permitted {w : Nat} {a : Word} {bs : List Byte} (hp : accessFault a.toNat bs.length 2 = none) :
    (s.issued c w).storeExec c a.toNat bs = (s.addressed c w a).storeAt c a.toNat bs := by
  simp only [State.storeExec, hp, State.itagAddr_issued]

/-- A store that may not access its bytes raises its exception when its address has been recorded. -/
theorem State.storeExec_faults {w n : Nat} {a : Word} {bs : List Byte} {x : Nat × Nat × Nat} (hn : bs.length = n)
    (hp : accessFault a.toNat n 2 = some x) :
    (s.issued c w).storeExec c a.toNat bs = (s.addressed c w a).raiseAccess c x := by
  simp only [State.storeExec, hn, hp, State.itagAddr_issued]

/-- A store to other than Device memory joins the store buffer. -/
theorem State.storeAt_buffered {a : Nat} (bs : List Byte) (h : memType a ≠ some .device) :
    s.storeAt c a bs = s.storeBuffered c ⟨a, bs, false⟩ := by
  unfold State.storeAt
  split
  · next hm => exact absurd hm h
  · rfl

/-- A Device store that a handler may not make (R66). -/
theorem State.storeAt_guarded {a o : Nat} (bs : List Byte) (h : memType a = some .device)
    (ho : s.guardedPiece c (a - 0x40000000) bs.length = some o) :
    s.storeAt c a bs = s.raise c 0x04 2 (BitVec.ofNat 64 (0x40000000 + o)) := by
  simp [State.storeAt, h, ho]

/-- A Device store is made at once, register by register. -/
theorem State.storeAt_device {a : Nat} (bs : List Byte) (h : memType a = some .device)
    (ho : s.guardedPiece c (a - 0x40000000) bs.length = none) (hl : s.deviceLive (a - 0x40000000) bs.length = true) :
    s.storeAt c a bs = (s.advance c).deviceWrite c (a - 0x40000000)
      ((List.range (bs.length / 8)).map fun k => BitVec.ofNat 64 (ofBytesLE ((bs.drop (8 * k)).take 8))) := by
  simp [State.storeAt, h, ho, hl]

theorem State.guardedPiece_supervisor (off n : Nat) (h : (s.ctx c).sup = true) : s.guardedPiece c off n = none := if_pos h

theorem State.guardedPiece_handler (off : Nat) (h : (s.ctx c).sup = false) (hg : guardedReg off = true) :
    s.guardedPiece c off 8 = some off := by
  simp [State.guardedPiece, h, List.range_succ, hg]

variable {s c}
variable (h : s.fetches c = true)
include h

theorem execSt_permitted (f : FmtM) (hz : f.size.toNat < 4) (hp : accessFault (s.effAddr c f).toNat (2 ^ f.size.toNat) 2 = none) :
    execSt c f s = .next ((s.addressed c (encM 0x11 f) (s.effAddr c f)).storeAt c (s.effAddr c f).toNat
      (bytesLE (2 ^ f.size.toNat) (s.greg c f.data.toNat).toNat)) := by
  simp only [execSt, hz, decide_true, s.coreExec_run c _ _ h, State.issued_effAddr, State.issued_greg, sizeBytes,
    Nat.mod_eq_of_lt hz, State.storeExec_permitted, bytesLE_length, hp]

theorem execSt_faults (f : FmtM) (x : Nat × Nat × Nat) (hz : f.size.toNat < 4)
    (hp : accessFault (s.effAddr c f).toNat (2 ^ f.size.toNat) 2 = some x) :
    execSt c f s = .next ((s.addressed c (encM 0x11 f) (s.effAddr c f)).raiseAccess c x) := by
  simp only [execSt, hz, decide_true, s.coreExec_run c _ _ h, State.issued_effAddr, State.issued_greg, sizeBytes,
    Nat.mod_eq_of_lt hz, s.storeExec_faults c (bytesLE_length _ _) hp]

theorem execStp_permitted (f : FmtM) (hz : f.size = 0) (hd : f.data.toNat % 2 = 0)
    (hp : accessFault (s.effAddr c f).toNat 16 2 = none) :
    execStp c f s = .next ((s.addressed c (encM 0x13 f) (s.effAddr c f)).storeAt c (s.effAddr c f).toNat
      (bytesLE 8 (s.greg c f.data.toNat).toNat ++ bytesLE 8 (s.greg c (f.data.toNat + 1)).toNat)) := by
  have hz' : f.size.toNat = 0 := by rw [hz]; rfl
  simp only [execStp, hz', hd, decide_true, Bool.and_self, s.coreExec_run c _ _ h, State.issued_effAddr, State.issued_greg,
    State.storeExec_permitted, List.length_append, bytesLE_length, Nat.reduceAdd, hp]

end

/-! ### Exceptions of accesses -/

section

variable {s t : State} {c : CoreId}

/-- An exception raised once the address of an access is known: its cause, and what it leaves unchanged (R49). -/
theorem State.addressed_raise (hx : (s.ctx c).exl = false) (w code detail : Nat) (a tval : Word)
    (ht : t = (s.addressed c w a).raise c code detail tval) :
    (t.ctx c).causeCode = BitVec.ofNat 8 code ∧ (t.ctx c).causeDetail = BitVec.ofNat 8 detail ∧ (t.ctx c).tval = tval ∧
    (∀ n : Nat, t.greg c n = s.greg c n) ∧ (t.core c.num).sbuf = (s.core c.num).sbuf ∧ s.Beside c t := by
  subst ht
  have hk := s.raise_core_issued c _ (s.addressed_core c w a c.num) (s.addressed_now c w a) hx code detail tval
  unfold State.greg State.ctx
  rw [hk]
  exact ⟨rfl, rfl, rfl, fun _ => rfl, rfl, (State.Beside.addressed s c w a).trans (.raise _ c _ _ _ (by simpa using hx))⟩

end

/-- Settles O20. -/
theorem accessExceptions : Obligations.AccessExceptions := by
  refine ⟨fun a n det => accessFault_outside, fun a n det m hm hn ha => accessFault_misaligned hm hn ha,
    fun a n det hm hn ha => accessFault_short_device hm hn ha, fun a n det hm hl => accessFault_past_normal hm hl,
    fun s t c f i x h hx hi ht => ?_, fun s t c f h hx hs hz hp hm hg ht => ?_⟩
  · have raised : ∃ w, t = (s.addressed c w (s.effAddr c f)).raise c x.1 x.2.1 (BitVec.ofNat 64 x.2.2) := by
      rcases hi with ⟨rfl, hz, hr, hp⟩ | ⟨rfl, hz, hp⟩
      · exact ⟨_, Host.Outcome.next.inj (ht.symm.trans (execLd_faults h hr f false x hz hp))⟩
      · exact ⟨_, Host.Outcome.next.inj (ht.symm.trans (execSt_faults h f x hz hp))⟩
    obtain ⟨w, ht⟩ := raised
    obtain ⟨hcode, hdet, htval, hreg, hbuf, hb⟩ := State.addressed_raise hx w x.1 x.2.1 _ _ ht
    exact ⟨hcode, hdet, htval, fun n => hreg n.val, hb.tmem, hb.cmem, hbuf, hb.rg⟩
  · have h3 : f.size.toNat = 3 := by rw [hz]; rfl
    have ht' := execSt_permitted h f (by omega) (by rw [h3]; exact hp)
    have hpiece : (s.addressed c (encM 0x11 f) (s.effAddr c f)).guardedPiece c ((s.effAddr c f).toNat - 0x40000000)
        (bytesLE (2 ^ f.size.toNat) (s.greg c f.data.toNat).toNat).length = some ((s.effAddr c f).toNat - 0x40000000) := by
      rw [bytesLE_length, h3]
      exact State.guardedPiece_handler _ c _ (by simpa using hs) hg
    rw [State.storeAt_guarded _ c _ hm hpiece, Nat.add_sub_cancel' (device_range hm), BitVec.ofNat_toNat, BitVec.setWidth_eq] at ht'
    obtain ⟨hcode, hdet, htval, -, -, hb⟩ := State.addressed_raise hx _ _ _ _ _ (Host.Outcome.next.inj (ht.symm.trans ht'))
    exact ⟨hcode, hdet, htval, hb.rg⟩

/-! ### Lookups (R53 to R56) -/

section

variable (s : State) (c : CoreId)

@[simp] theorem State.issued_tableOk (w t kind n : Nat) : (s.issued c w).tableOk t kind n = s.tableOk t kind n := by
  obtain ⟨l, k, h⟩ := s.itagIssue_eq c w
  rw [State.issued, h]
  rfl

/-- A lookup whose descriptor is as it must be (R54): of a table configured as the instruction names it, or of another. -/
theorem State.lkpExec_fetches (f : FmtL) (maj n : Nat) (use : Bool) (h : s.fetches c = true) (hn : n = f.desc.toNat % 16 + 1)
    (h4 : f.desc.getLsbD 4 = false) (hk : n ≤ 8 ∨ f.key.toNat % 2 = 0) (u : State) (hu : u = s.issued c (encL maj f)) (r : LkpRes)
    (hr : r = u.lookup f.table.toNat (lkpKey n (s.greg c f.key.toNat) (s.greg c (f.key.toNat + 1))).1
      (lkpKey n (s.greg c f.key.toNat) (s.greg c (f.key.toNat + 1))).2 u.tntVer u.rver (Config.freeWord u.fv)) (v : State)
    (hv : v = (u.bumpFv.setGreg c f.dst.toNat r.word).setCtx c
      (((u.bumpFv.setGreg c f.dst.toNat r.word).ctx c).setPred (f.desc.toNat / 32) r.hit)) :
    s.lkpExec c f maj use = if s.tableOk f.table.toNat f.kind.toNat n = true then (if use = true then v.setMark r.mark else v).advance c
      else u.raise c 0x08 f.table.toNat (BitVec.ofNat 64 (encL maj f)) := by
  have hb : natField 4 1 f.desc.toNat = 0 := by
    have hbit : f.desc.toNat.testBit 4 = false := h4
    rw [Nat.testBit_eq_decide_div_mod_eq, decide_eq_false_iff_not] at hbit
    unfold natField
    omega
  have hl : (decide (natField 4 1 f.desc.toNat = 0) && (decide (n ≤ 8) || decide (f.key.toNat % 2 = 0))) = true := by
    simpa [hb] using hk
  subst hn hu hr hv
  unfold State.lkpExec
  dsimp only
  rw [hl, s.coreExec_run c _ _ h, State.issued_tableOk]
  cases hok : s.tableOk f.table.toNat f.kind.toNat (f.desc.toNat % 16 + 1) with
  | false => rfl
  | true => simp only [Bool.not_true, Bool.false_eq_true, if_false, State.issued_greg, if_true]

end

/-- Settles O21. -/
theorem lookupResults : Obligations.LookupResults := by
  refine fun s c f n h hn h4 hk => ⟨fun u r hu hok hr => ?_, fun u r hu hok hr => ?_, fun hok => ?_⟩
  · exact congrArg _ ((s.lkpExec_fetches c f 0x28 n false h hn h4 hk u hu r hr _ rfl).trans (if_pos hok))
  · exact congrArg _ ((s.lkpExec_fetches c f 0x29 n true h hn h4 hk u hu r hr _ rfl).trans (if_pos hok))
  · exact congrArg _ ((s.lkpExec_fetches c f 0x28 n false h hn h4 hk _ rfl _ rfl _ rfl).trans (if_neg (by simp [hok])))

end Sys2Proof.Machine
end

section
/-! PROOFS. Stores, the store buffer, reservations and atomic operations: O8, O9 and O11 (R48, R49, R82, R83, R100 to R109). -/

namespace Sys2Proof.Machine

/-! ### Stores that join the store buffer (R83, R118) -/

theorem State.storeBuffered_room (s : State) (c : CoreId) (b : BufStore) (h : (s.core c.num).sbuf.length < 16) :
    s.storeBuffered c b = (s.setCore c.num { s.core c.num with sbuf := (s.core c.num).sbuf ++ [b] }).advance c :=
  if_neg (Nat.not_le.mpr h)

/-- An instruction with its address puts its store behind those that its core has buffered. -/
theorem State.addressed_storeBuffered (s : State) (c : CoreId) (w : Nat) (a : Word) (b : BufStore) (h : (s.core c.num).sbuf.length < 16) :
    (s.addressed c w a).storeBuffered c b = ((s.addressed c w a).setCore c.num
      { (s.addressed c w a).core c.num with sbuf := (s.core c.num).sbuf ++ [b] }).advance c := by
  rw [State.storeBuffered_room _ c b (by rw [s.addressed_sbuf]; exact h), s.addressed_sbuf]

/-! ### Stores to Device registers (R49, R66) -/

section

variable (s : State) (c : CoreId)

theorem State.guardedPiece_one (off : Nat) (h : (s.ctx c).sup = true ∨ guardedReg off = false) : s.guardedPiece c off 8 = none := by
  rcases h with h | h
  · exact s.guardedPiece_supervisor c off 8 h
  · simp [State.guardedPiece, List.range_succ, h]

theorem State.guardedPiece_two (off : Nat) (h : (s.ctx c).sup = true ∨ guardedReg off = false ∧ guardedReg (off + 8) = false) :
    s.guardedPiece c off 16 = none := by
  rcases h with h | ⟨h, h'⟩
  · exact s.guardedPiece_supervisor c off 16 h
  · simp [State.guardedPiece, List.range_succ, h, h']

theorem State.storeAt_device_one {a : Nat} (v : Word) (h : memType a = some .device) (hl : s.live (domainOf (a - 0x40000000)) = true)
    (hg : (s.ctx c).sup = true ∨ guardedReg (a - 0x40000000) = false) :
    s.storeAt c a (bytesLE 8 v.toNat) = (s.advance c).regWrite (.core c) (a - 0x40000000) v := by
  rw [State.storeAt_device s c _ h (by rw [bytesLE_length]; exact s.guardedPiece_one c _ hg)
    (by rw [bytesLE_length]; exact s.deviceLive_one _ hl), bytesLE_length]
  have htake : (bytesLE 8 v.toNat).take 8 = bytesLE 8 v.toNat := List.take_of_length_le (by rw [bytesLE_length])
  simp [State.deviceWrite, List.range_succ, htake]

theorem State.storeAt_device_two {a : Nat} (v v' : Word) (h : memType a = some .device)
    (hl : s.live (domainOf (a - 0x40000000)) = true) (hl' : s.live (domainOf (a - 0x40000000 + 8)) = true)
    (hg : (s.ctx c).sup = true ∨ guardedReg (a - 0x40000000) = false ∧ guardedReg (a - 0x40000000 + 8) = false) :
    s.storeAt c a (bytesLE 8 v.toNat ++ bytesLE 8 v'.toNat) =
      ((s.advance c).regWrite (.core c) (a - 0x40000000) v).regWrite (.core c) (a - 0x40000000 + 8) v' := by
  have hlen : (bytesLE 8 v.toNat ++ bytesLE 8 v'.toNat).length = 16 := by simp
  have hfirst : (bytesLE 8 v.toNat ++ bytesLE 8 v'.toNat).take 8 = bytesLE 8 v.toNat := List.take_left' (bytesLE_length _ _)
  have hdrop : (bytesLE 8 v.toNat ++ bytesLE 8 v'.toNat).drop 8 = bytesLE 8 v'.toNat := List.drop_left' (bytesLE_length _ _)
  have hsecond : (bytesLE 8 v'.toNat).take 8 = bytesLE 8 v'.toNat := List.take_of_length_le (by rw [bytesLE_length])
  rw [State.storeAt_device s c _ h (by rw [hlen]; exact s.guardedPiece_two c _ hg) (by rw [hlen]; exact s.deviceLive_two _ hl hl'), hlen]
  simp [State.deviceWrite, List.range_succ, hfirst, hdrop, hsecond]

end

/-! ### Stores performed (R82, R100, R104, R107) -/

/-- Entries changed in place change what is read at an index as they change its entry. -/
theorem getD_map_related {α : Type} (d : Nat → α) (f : Nat × α → Nat × α) (r : α → α → Prop) (hf : ∀ e, (f e).1 = e.1 ∧ r e.2 (f e).2)
    (k : Nat) (hd : r (d k) (d k)) (m : SMap α) : r (SMap.getD d m k) (SMap.getD d (m.map f) k) := by
  induction m with
  | nil => exact hd
  | cons e m ih =>
    obtain ⟨hk, hr⟩ := hf e
    simp only [List.map_cons, SMap.getD, hk]
    split
    · exact hr
    · exact ih

/-- A store clears reservations and changes nothing else of a core. -/
theorem State.clearResv_core (s : State) (mine : Nat → Bool) (table : Bool) (a n k : Nat) :
    ∃ r, (s.clearResv mine table a n).core k = { s.core k with resv := r } := by
  refine getD_map_related (fun _ => Core.reset) _ (fun x y => ∃ r, y = { x with resv := r }) (fun e => ?_) k ⟨none, rfl⟩ s.cores
  dsimp only
  generalize (if table = true then 256 else 128) = g
  split
  · split
    · exact ⟨rfl, none, rfl⟩
    · exact ⟨rfl, e.2.resv, rfl⟩
  · exact ⟨rfl, e.2.resv, rfl⟩

theorem State.storeCluster_core (s : State) (cl a : Nat) (bs : List Byte) (k : Nat) :
    ∃ r, (s.storeCluster cl a bs).core k = { s.core k with resv := r } := by
  obtain ⟨r, h⟩ := (s.setCBytes cl a bs).clearResv_core (fun c => decide (c / 8 = cl)) false a bs.length k
  exact ⟨r, h.trans (by rw [State.core_congr (s.setCBytes_cores cl a bs)])⟩

theorem State.tblStore_core (s : State) (a : Nat) (bs : List Byte) (k : Nat) : ∃ r, (s.tblStore a bs).core k = { s.core k with resv := r } := by
  unfold State.tblStore
  split
  · exact ⟨(s.core k).resv, State.core_congr (s.setRg_cores _ _) k⟩
  · obtain ⟨r, h⟩ := (s.setTBytes a (s.tblMerge a bs)).clearResv_core (fun _ => true) true a (s.tblMerge a bs).length k
    exact ⟨r, h.trans (by rw [State.core_congr (s.setTBytes_cores a _)])⟩

section

variable {s : State} {c : CoreId} {b : BufStore} {rest : List BufStore}

/-- A store performed of a core that is not in warm reset is all that the drain does. -/
theorem execStoreBufferDrain_of_drainStore (hl : s.live (13 + c.cluster.val) = true) (hb : (s.core c.num).sbuf = b :: rest)
    (hd : ((s.drainStore c).core c.num).draining = none) : execStoreBufferDrain c s = .next (s.drainStore c) := by
  simp [execStoreBufferDrain, hl, hb, hd]

variable (hb : (s.core c.num).sbuf = b :: rest)
include hb

theorem State.popStore_of_cons : s.popStore c = s.setCore c.num { s.core c.num with sbuf := rest } := by
  rw [State.popStore, hb]
  rfl

/-- The oldest store, to memory that is live and no other core holds, is performed (R82, R109). -/
theorem State.drainStore_performed (hs : s.storeDead b = false) (hm : memType b.addr ≠ some .remote)
    (hg : s.granuleHeld c b.addr b.bytes.length = false) :
    s.drainStore c = if b.add = true then (s.setCore c.num { s.core c.num with sbuf := rest }).addTable b.addr b.bytes
      else (s.setCore c.num { s.core c.num with sbuf := rest }).storePieces c b.addr b.bytes := by
  simp only [State.drainStore, hb, hs, hm, hg, State.popStore_of_cons hb, Bool.false_eq_true, if_false]

/-- The oldest store, to Remote memory that the windows admit, enters the ledger (R91). -/
theorem State.drainStore_remote (hs : s.storeDead b = false) (hm : memType b.addr = some .remote) (t : State) (i : Nat)
    (hr : s.remoteRequest c 0x60 b.addr b.bytes.length b.bytes = some (t, i, true)) (hd : (t.core c.num).draining = none) :
    s.drainStore c = (t.popStore c).setCore c.num
      { (t.popStore c).core c.num with outstanding := (t.core c.num).outstanding ++ [⟨i, 0, b.addr⟩] } := by
  simp [State.drainStore, hb, hs, hm, hr, State.popStore, hd]

end

theorem memType_normal {a : Nat} (h : a < 0x800000) : memType a = some .normal := if_pos h

theorem memType_table {a : Nat} (h1 : 0x10000000 ≤ a) (h2 : a < 0x11800000) : memType a = some .table :=
  (if_neg (by omega)).trans (if_pos ⟨h1, h2⟩)

theorem table_range {a : Nat} (h : memType a = some .table) : 0x10000000 ≤ a ∧ a < 0x11800000 := by
  unfold memType at h
  split at h
  · cases h
  · split at h
    · next hr => exact hr
    · split at h
      · cases h
      · split at h <;> cases h

theorem atomicFault_table {a n : Nat} (h1 : 0x10000000 ≤ a) (h2 : a < 0x11800000) (hn : a % n = 0) : atomicFault a n 2 true = none := by
  simp [atomicFault, memType_table h1 h2, hn]

/-- Bytes stored to Normal memory. -/
theorem State.storePieces_normal (s : State) (c : CoreId) {a : Nat} (bs : List Byte) (h : a < 0x800000) :
    s.storePieces c a bs = s.storeCluster c.cluster a bs := if_pos h

/-- Bytes stored to Table memory inside a doubleword. -/
theorem State.storePieces_table (s : State) (c : CoreId) {a : Nat} (bs : List Byte) (h : 0x10000000 ≤ a) (hd : a % 8 + bs.length ≤ 8) :
    s.storePieces c a bs = s.tblStore (a - 0x10000000) bs := by
  have hn : min bs.length (8 - a % 8) = bs.length := by omega
  rw [State.storePieces, if_neg (by omega)]
  simp only [hn, List.drop_length, if_true, List.take_length]

/-- A store changes the reservations of cores alone: none comes to be in warm reset by it. -/
theorem draining_of_core {k k' : Core} (h : ∃ r, k' = { k with resv := r }) (hd : k.draining = none) : k'.draining = none := by
  obtain ⟨r, rfl⟩ := h
  exact hd

/-- Settles O8: ST and STP by memory type, then the drain of the oldest store by memory type. -/
theorem storeResults : Obligations.StoreResults := by
  refine ⟨?_, fun s c b rest hl hb hd => ⟨fun ha hg hadd => ?_, fun hm h19 hg => ⟨fun hadd hin => ?_, fun hadd => ?_⟩,
    fun t i hm hs hr hdt => ?_⟩⟩
  · rintro s c f a h rfl
    refine ⟨fun hz hp => ⟨fun hm hroom => ?_, fun hm hl hg => ?_⟩, fun hz hd hp => ⟨fun hm hroom => ?_, fun hm hl hl' hg => ?_⟩⟩
    · refine (execSt_permitted h f hz hp).trans ?_
      rw [State.storeAt_buffered _ c _ hm, s.addressed_storeBuffered c _ _ _ hroom]
    · have h8 := size_of_device_access hp hm
      have hz3 : f.size.toNat = 3 := by
        generalize f.size.toNat = z at *
        interval_cases z <;> omega
      refine (execSt_permitted h f hz hp).trans ?_
      rw [hz3, show 2 ^ 3 = 8 from rfl, State.storeAt_device_one _ c _ hm (by simpa using hl) (by simpa using hg)]
    · refine (execStp_permitted h f hz hd hp).trans ?_
      rw [State.storeAt_buffered _ c _ hm, s.addressed_storeBuffered c _ _ _ hroom]
    · refine (execStp_permitted h f hz hd hp).trans ?_
      rw [State.storeAt_device_two _ c _ _ hm (by simpa using hl) (by simpa using hl') (by simpa using hg)]
  · have hm := memType_normal ha
    have hdrain := State.drainStore_performed hb (by simp [State.storeDead, hm]) (by simp [hm]) hg
    rw [if_neg (by simp [hadd]), State.storePieces_normal _ _ _ ha] at hdrain
    refine (execStoreBufferDrain_of_drainStore hl hb ?_).trans (congrArg _ hdrain)
    rw [hdrain]
    exact draining_of_core (State.storeCluster_core _ _ _ _ _) (by rw [State.core_setCore_self]; exact hd)
  · have hdrain := State.drainStore_performed hb (by simp [State.storeDead, hm, h19]) (by simp [hm]) hg
    rw [if_neg (by simp [hadd]), State.storePieces_table _ _ _ (table_range hm).1 hin] at hdrain
    refine (execStoreBufferDrain_of_drainStore hl hb ?_).trans (congrArg _ hdrain)
    rw [hdrain]
    exact draining_of_core (State.tblStore_core _ _ _ _) (by rw [State.core_setCore_self]; exact hd)
  · have hdrain := State.drainStore_performed hb (by simp [State.storeDead, hm, h19]) (by simp [hm]) hg
    rw [if_pos hadd, State.addTable, State.tBytes_congr (State.setCore_tmem _ _ _)] at hdrain
    refine (execStoreBufferDrain_of_drainStore hl hb ?_).trans (congrArg _ hdrain)
    rw [hdrain]
    exact draining_of_core (State.tblStore_core _ _ _ _) (by rw [State.core_setCore_self]; exact hd)
  · have hdrain := State.drainStore_remote hb hs hm t i hr hdt
    refine (execStoreBufferDrain_of_drainStore hl hb ?_).trans (congrArg _ hdrain)
    rw [hdrain, State.core_setCore_self, State.popStore, State.core_setCore_self]
    exact hdt

/-! ### Reservations (R102 to R107) -/

/-- The size codes of LDRV and STCD. -/
theorem reservedSize_legal {f : FmtM} {n : Nat} (hz : f.size = 2 ∧ n = 4 ∨ f.size = 3 ∧ n = 8) (ho : f.offset.toNat < 8) :
    ((decide (f.size.toNat = 2) || decide (f.size.toNat = 3)) && decide (f.offset.toNat < 8)) = true ∧ sizeBytes f.size.toNat = n ∧
      n ≠ 16 := by
  rcases hz with ⟨hz, rfl⟩ | ⟨hz, rfl⟩ <;> simp [hz, ho, sizeBytes]

section

variable {s : State} {c : CoreId} (h : s.fetches c = true)
include h

/-- LDRV at an aligned address to whose bytes no CINC is buffered (R102, R107). -/
theorem execLdrv_permitted (f : FmtM) (n : Nat) (hz : f.size = 2 ∧ n = 4 ∨ f.size = 3 ∧ n = 8) (ho : f.offset.toNat < 8)
    (hp : atomicFault (s.effAddr c f).toNat n 1 false = none) (hb : s.addBuffered c (s.effAddr c f).toNat n = false) (s1 : State)
    (hs : s1 = (s.addressed c (encM 0x14 f) (s.effAddr c f)).setGreg c f.data.toNat
      (BitVec.ofNat 64 (ofBytesLE (s.loadBytes c (s.effAddr c f).toNat n)))) :
    execLdrv c f s = .next ((s1.setCore c.num { s1.core c.num with
      resv := some (granuleOf (s.effAddr c f).toNat), holdNext := false,
      hold := if (s1.core c.num).holdNext then some (granuleOf (s.effAddr c f).toNat, s.now + ctlCyclesPs 64) else (s1.core c.num).hold }).advance
        c) := by
  obtain ⟨hlegal, hn, h16⟩ := reservedSize_legal hz ho
  have hload (u : State) (bs : List Byte) (a : Nat) :
      u.loadApply c ⟨f.data.toNat, n, false, a⟩ bs = u.setGreg c f.data.toNat (BitVec.ofNat 64 (ofBytesLE bs)) :=
    u.loadApply_single c _ n a false bs h16
  subst hs
  unfold execLdrv
  rw [hlegal, s.coreExec_run c _ _ h]
  simp only [hn, State.issued_effAddr, State.itagAddr_issued, hp, State.addressed_addBuffered, hb, State.addressed_loadBytes, hload,
    State.issued_now, Bool.false_eq_true, if_false]

/-- STCD that is permitted: its reservation is on its granule or not (R105, R106). -/
theorem execStcd_permitted (f : FmtM) (n : Nat) (hz : f.size = 2 ∧ n = 4 ∨ f.size = 3 ∧ n = 8) (ho : f.offset.toNat < 8)
    (hp : atomicFault (s.greg c f.base.toNat).toNat n 2 false = none) (s1 : State)
    (hs : s1 = s.addressed c (encM 0x15 f) (s.greg c f.base.toNat)) :
    execStcd c f s = .next (if (s.core c.num).resv ≠ some (granuleOf (s.greg c f.base.toNat).toNat) then
        s1.stcdEnd c f.offset.toNat false
      else if (s.core c.num).sbuf ≠ [] ∨ (s.issued c (encM 0x15 f)).granuleHeld c (s.greg c f.base.toNat).toNat n = true then
        s.issued c (encM 0x15 f)
      else (s1.storePieces c (s.greg c f.base.toNat).toNat (bytesLE n (s.greg c f.data.toNat).toNat)).stcdEnd c f.offset.toNat true) := by
  obtain ⟨hlegal, hn, -⟩ := reservedSize_legal hz ho
  have hresv : ((s.issued c (encM 0x15 f)).core c.num).resv = (s.core c.num).resv := by
    obtain ⟨i, hi⟩ := s.issued_core c (encM 0x15 f) c.num
    rw [hi]
  subst hs
  unfold execStcd
  rw [hlegal, s.coreExec_run c _ _ h]
  simp only [hn, State.issued_greg, State.itagAddr_issued, hp, hresv, State.issued_sbuf]

/-! ### Atomic operations (R108, R109) -/

/-- An atomic operation on an aligned word of Table memory, with no store before it (R108). -/
theorem State.amoExec_permitted (f : FmtA) (code : Nat) (dbl : Bool) (op : Nat → Nat → Nat) (n a : Nat) (hg : s.guardA c f = true)
    (hn : n = if dbl = true then 8 else 4) (ha : a = (s.greg c f.srcA.toNat).toNat) (hlo : 0x10000000 ≤ a) (hhi : a + n ≤ 0x11800000)
    (hal : a % n = 0) (hb : (s.core c.num).sbuf = []) (old b : Nat) (hold : old = ofBytesLE (s.tBytes (a - 0x10000000) n))
    (hbv : b = (s.greg c f.srcB.toNat).toNat % 2 ^ (8 * n)) :
    s.amoExec c f code dbl op = (((s.addressed c (encA 0x16 (code + if dbl = true then 4 else 0) f) (BitVec.ofNat 64 a)).tblStore
      (a - 0x10000000) (bytesLE n (op old b))).setGreg c f.dst.toNat (BitVec.ofNat 64 old)).advance c := by
  have hpos : 0 < n := by rw [hn]; split <;> decide
  have hp := atomicFault_table hlo (by omega) hal
  have haddr (w : Nat) : (s.issued c w).itagAddr c (BitVec.ofNat 64 a) = s.addressed c w (BitVec.ofNat 64 a) := rfl
  unfold State.amoExec
  rw [hg, s.coreExec_run c _ _ h]
  simp only [State.issued_greg, ← hn, ← ha, ← hbv, State.amo, haddr, hp, State.issued_sbuf, hb, ne_eq, not_true_eq_false, if_false,
    State.addressed_tBytes, ← hold]

/-- CINC joins the store buffer as an addition (R109). -/
theorem execCinc_permitted (f : FmtA) (a : Nat) (hg : s.guardA c f = true) (hd : f.dst = 0) (ha : a = (s.greg c f.srcA.toNat).toNat)
    (hlo : 0x10000000 ≤ a) (hhi : a < 0x11800000) (hal : a % 8 = 0) (hroom : (s.core c.num).sbuf.length < 16) (s1 : State)
    (hs : s1 = s.addressed c (encA 0x2C 0 f) (BitVec.ofNat 64 a)) :
    execCinc c f s = .next ((s1.setCore c.num { s1.core c.num with
      sbuf := (s1.core c.num).sbuf ++ [⟨a, bytesLE 8 (s.greg c f.srcB.toNat).toNat, true⟩] }).advance c) := by
  have haddr : (s.issued c (encA 0x2C 0 f)).itagAddr c (BitVec.ofNat 64 a) = s1 := hs.symm
  unfold execCinc
  rw [hg, decide_eq_true hd, s.coreExec_run c _ _ h]
  simp only [State.issued_greg, ← ha, haddr, atomicFault_table hlo hhi hal]
  rw [State.storeBuffered_room _ c _ (by rw [hs, s.addressed_sbuf]; exact hroom)]

end

/-- Settles O9. -/
theorem reservedAndAtomicResults : Obligations.ReservedAndAtomicResults := by
  refine fun s c h => ⟨fun f n a s1 hz ho => ⟨?_, ?_⟩, fun f dbl n a old b hg hn ha hlo hhi hal hb hold hbv => ?_,
    fun f a s1 hg hd ha hlo hhi hal hroom hs => execCinc_permitted h f a hg hd ha hlo hhi hal hroom s1 hs⟩
  · rintro rfl hp hb hs
    exact execLdrv_permitted h f n hz ho hp hb s1 hs
  · rintro rfl hp hs
    refine ⟨fun hr hb hg => ?_, fun hr => ?_⟩
    · refine (execStcd_permitted h f n hz ho hp s1 hs).trans (congrArg _ ?_)
      rw [if_neg (by simp [hr]), if_neg (by simp [hb, hg])]
    · exact (execStcd_permitted h f n hz ho hp s1 hs).trans (congrArg _ (if_pos hr))
  · have amo (code : Nat) (op : Nat → Nat → Nat) :=
      s.amoExec_permitted h f code dbl op n a hg hn ha hlo hhi hal hb old b hold hbv
    cases dbl with
    | true => exact ⟨congrArg _ (amo 0 _), congrArg _ (amo 1 _), congrArg _ (amo 2 _)⟩
    | false => exact ⟨congrArg _ (amo 0 _), congrArg _ (amo 1 _), congrArg _ (amo 2 _)⟩

/-! ### What a store leaves unchanged (R48, R82, R83) -/

/-- A store of an instruction that is buffered, or waits for room: nothing beside its core changes, and of the core's context the address
of its next instruction at most. -/
theorem State.storeBuffered_frame (s : State) (c : CoreId) (b : BufStore) :
    s.Beside c (s.storeBuffered c b) ∧ ∃ pc, (s.storeBuffered c b).ctx c = { s.ctx c with pc := pc } := by
  unfold State.storeBuffered
  dsimp only
  split
  · exact ⟨.rfl', _, rfl⟩
  · refine ⟨(State.Beside.setCore s c _).trans (.advance _ c), (s.ctx c).pc + 4, ?_⟩
    rw [State.ctx, State.advance_core_self, State.ctx_setCore_self]
    rfl

/-- A store instruction to Normal, Table or Remote memory changes no memory, no register and no other core (the first half of O11). -/
theorem storeInstruction_frame (s t : State) (c : CoreId) (f : FmtM) (i : Instr) (n : Nat) (h : s.fetches c = true)
    (hi : i = .st c f ∧ f.size.toNat < 4 ∧ n = 2 ^ f.size.toNat ∨ i = .stp c f ∧ f.size = 0 ∧ f.data.toNat % 2 = 0 ∧ n = 16)
    (hp : accessFault (s.effAddr c f).toNat n 2 = none) (hm : memType (s.effAddr c f).toNat ≠ some .device) (ht : exec i s = .next t) :
    s.Beside c t ∧ (∀ m : Nat, t.greg c m = s.greg c m) ∧ { t.ctx c with pc := 0 } = { s.ctx c with pc := 0 } := by
  have buffered : ∃ w b, t = (s.addressed c w (s.effAddr c f)).storeBuffered c b := by
    rcases hi with ⟨rfl, hz, rfl⟩ | ⟨rfl, hz, hd, rfl⟩
    · exact ⟨_, _, Host.Outcome.next.inj (ht.symm.trans ((execSt_permitted h f hz hp).trans
        (congrArg _ (State.storeAt_buffered _ c _ hm))))⟩
    · exact ⟨_, _, Host.Outcome.next.inj (ht.symm.trans ((execStp_permitted h f hz hd hp).trans
        (congrArg _ (State.storeAt_buffered _ c _ hm))))⟩
  obtain ⟨w, b, rfl⟩ := buffered
  obtain ⟨hb, pc, hpc⟩ := (s.addressed c w (s.effAddr c f)).storeBuffered_frame c b
  rw [s.addressed_ctx] at hpc
  refine ⟨(State.Beside.addressed s c w _).trans hb, fun m => ?_, ?_⟩
  · rw [State.greg, hpc]
    rfl
  · rw [hpc]

/-- Bytes written to a cluster's memory come from that memory alone. -/
theorem State.setCBytes_cmem_congr {s t : State} (h : t.cmem = s.cmem) (c a : Nat) (l : List Byte) :
    (t.setCBytes c a l).cmem = (s.setCBytes c a l).cmem := by
  induction l generalizing s t a with
  | nil => exact h
  | cons b l ih => exact ih (congrArg (fun m : SMap Byte => m.set 0 (c * cmemSize + a) b) h) _

theorem State.cByte_setCBytes (s : State) (c a x : Nat) (l : List Byte) :
    (s.setCBytes c a l).cByte c x = if a ≤ x ∧ x < a + l.length then l.getD (x - a) 0 else s.cByte c x := by
  induction l generalizing s a with
  | nil => simp [State.setCBytes]
  | cons b l ih =>
    simp only [State.setCBytes, ih, State.cByte_setCByte, List.length_cons]
    by_cases h1 : x = a
    · subst h1
      rw [if_neg (by omega), if_pos rfl, if_pos (by omega)]
      simp
    · by_cases h2 : a + 1 ≤ x ∧ x < a + 1 + l.length
      · rw [if_pos h2, if_pos (by omega), show x - a = (x - (a + 1)) + 1 by omega, List.getD_cons_succ]
      · rw [if_neg h2, if_neg h1, if_neg (by omega)]

/-- Bytes stored inside one cluster's memory are none of another's. -/
theorem State.cByte_setCBytes_ne (s : State) (c d a x : Nat) (l : List Byte) (hcd : d ≠ c) (ha : a + l.length ≤ cmemSize) (hx : x < cmemSize) :
    (s.setCBytes c a l).cByte d x = s.cByte d x := by
  induction l generalizing s a with
  | nil => rfl
  | cons b l ih =>
    rw [List.length_cons] at ha
    rw [State.setCBytes, ih _ _ (by omega)]
    refine SMap.get_set_ne _ _ _ _ _ ?_
    unfold cmemSize at *
    omega

/-- A buffered store of at least one byte to Normal memory, performed: its bytes are in its cluster's memory, and nothing else has changed
(the second half of O11, which does not ask for a byte). -/
theorem storeBufferDrain_frame (s t : State) (c : CoreId) (b : BufStore) (rest : List BufStore) (hb : (s.core c.num).sbuf = b :: rest)
    (hd : (s.core c.num).draining = none) (hne : b.bytes ≠ []) (hin : b.addr + b.bytes.length ≤ 0x800000)
    (hl : s.live (13 + c.cluster.val) = true) (hg : s.granuleHeld c b.addr b.bytes.length = false) (hadd : b.add = false)
    (ht : exec (.storeBufferDrain c) s = .next t) :
    (∀ a, a < 0x800000 → (a < b.addr ∨ b.addr + b.bytes.length ≤ a) → t.cByte c.cluster a = s.cByte c.cluster a) ∧
    (∀ k (h : k < b.bytes.length), t.cByte c.cluster (b.addr + k) = b.bytes[k]) ∧
    (∀ (d : Fin 4) (a : Nat), d ≠ c.cluster → a < 0x800000 → t.cByte d a = s.cByte d a) ∧ t.tmem = s.tmem ∧
    (∀ e : CoreId, t.ctx e = s.ctx e) ∧ (t.core c.num).sbuf = rest ∧ ∀ a, t.rg a = s.rg a := by
  have ha : b.addr < 0x800000 := by
    have := List.length_pos_iff.mpr hne
    omega
  obtain ⟨-, hdrain⟩ := storeResults
  obtain ⟨hnormal, -⟩ := hdrain s c b rest hl hb hd
  obtain rfl := Host.Outcome.next.inj (ht.symm.trans (hnormal ha hg hadd))
  have hcore := (s.setCore c.num { s.core c.num with sbuf := rest }).storeCluster_core c.cluster b.addr b.bytes
  have hmem (d a : Nat) : ((s.setCore c.num { s.core c.num with sbuf := rest }).storeCluster c.cluster b.addr b.bytes).cByte d a =
      (s.setCBytes c.cluster b.addr b.bytes).cByte d a := by
    exact State.cByte_congr (State.setCBytes_cmem_congr (s := s)
      (t := s.setCore c.num { s.core c.num with sbuf := rest }) rfl c.cluster b.addr b.bytes) d a
  have htm : ((s.setCore c.num { s.core c.num with sbuf := rest }).storeCluster c.cluster b.addr b.bytes).tmem = s.tmem :=
    State.setCBytes_tmem _ _ _ _
  refine ⟨fun a _ hout => ?_, fun k hk => ?_, fun d a hdc hx => ?_, htm, fun e => ?_, ?_, fun a => ?_⟩
  · rw [hmem, State.cByte_setCBytes, if_neg (by omega)]
  · rw [hmem, State.cByte_setCBytes, if_pos ⟨Nat.le_add_right _ _, by omega⟩, Nat.add_sub_cancel_left, List.getD_eq_getElem _ _ hk]
  · rw [hmem]
    exact s.cByte_setCBytes_ne _ _ _ _ _ (fun e => hdc (Fin.ext e)) hin hx
  · obtain ⟨r, hr⟩ := hcore e.num
    rw [State.ctx, hr]
    by_cases he : e = c
    · rw [he, State.core_setCore_self]
      rfl
    · rw [State.core_setCore_ne _ _ _ _ (CoreId.num_ne he)]
      rfl
  · obtain ⟨r, hr⟩ := hcore c.num
    rw [hr, State.core_setCore_self]
  · exact State.rg_congr htm (State.setCBytes_regs _ _ _ _) a

/-! ### A store of no byte (R83, R161) -/

/-- A core whose oldest buffered store has no byte and lies at the end of Normal memory, in a device with its cluster's domain on. -/
def emptyStoreState : State :=
  { State.reset with
    regs := [(R.PWR_STS, 2 ^ 13)]
    cores := [(0, { Core.reset with sbuf := [⟨0x800000, [], false⟩] })] }

/-- Such a store is no store to Normal memory when it is performed: it is taken for one to table memory, at the copy that is in use. -/
theorem emptyStoreState_drain :
    exec (.storeBufferDrain ⟨0, 0⟩) emptyStoreState =
      .next ((emptyStoreState.setCore 0 Core.reset).setFb R.TBL_STS_INUSE true) := by
  have hperformed : emptyStoreState.drainStore ⟨0, 0⟩ = (emptyStoreState.setCore 0 Core.reset).storePieces ⟨0, 0⟩ 0x800000 [] :=
    State.drainStore_performed (s := emptyStoreState) (c := ⟨0, 0⟩) (b := ⟨0x800000, [], false⟩) (rest := []) rfl (by decide) (by decide)
      (by decide)
  have hbarred : (emptyStoreState.setCore 0 Core.reset).storePieces ⟨0, 0⟩ 0x800000 [] =
      (emptyStoreState.setCore 0 Core.reset).setFb R.TBL_STS_INUSE true := by decide +kernel
  have hdrain := hperformed.trans hbarred
  exact (execStoreBufferDrain_of_drainStore (by decide +kernel) rfl (by rw [hdrain]; decide +kernel)).trans (congrArg _ hdrain)

/-- Refutes O11: a buffered store of no byte at 0x80_0000 sets TBL_STS.INUSE when it is performed, so that a register changes. Every
store that an instruction buffers has a byte; the statement does not ask for one. -/
theorem not_storeFrame : ¬Obligations.StoreFrame := by
  rintro ⟨-, h⟩
  obtain ⟨-, -, -, -, -, -, hrg⟩ := h emptyStoreState _ ⟨0, 0⟩ ⟨0x800000, [], false⟩ [] rfl rfl (by decide) (by decide +kernel)
    (by decide +kernel) rfl emptyStoreState_drain
  exact absurd (hrg R.TBL_STS) (by decide +kernel)

end Sys2Proof.Machine
end

section
/-! PROOFS. Reservations, fences, and how cores start, stop and are reset: O10, O12 and O26 (R63, R90, R92, R95, R102, R105, R115, R119,
R121, R146, R147; log entries 43 and 51). -/

namespace Sys2Proof.Machine

/-! ### Reservations (R102, R105) -/

/-- The end of an STCD leaves its core without a reservation, with the STCD's predicate and the address moved on. -/
theorem State.stcdEnd_core_self (s : State) (c : CoreId) (p : Nat) (ok : Bool) :
    (s.stcdEnd c p ok).core c.num = { s.core c.num with
      itag := none, resv := none, hold := none, stcdFails := if ok then 0 else (s.core c.num).stcdFails + 1,
      holdNext := !ok && decide (3 ≤ (s.core c.num).stcdFails),
      ctx := { (s.ctx c).setPred p ok with pc := (s.ctx c).pc + 4 } } := by
  rw [State.stcdEnd, State.advance_core_self, s.ctx_setCore_self, State.core_setCore_self, Ctx.setPred_pc]
  rfl

/-- Beside its core the end of an STCD changes nothing; a store, if any, has been made before it. -/
theorem State.Beside.stcdEnd (s : State) (c : CoreId) (p : Nat) (ok : Bool) : s.Beside c (s.stcdEnd c p ok) :=
  (State.Beside.setCore s c _).trans (.advance _ c)

/-- Settles O10. The address of an STCD is its base register alone (log entry 43). -/
theorem reservationRules : Obligations.ReservationRules := by
  refine ⟨fun s t c f n h hz ho hp hb ht => ?_, fun s c f n r h hz ho hp hr hne => ?_⟩
  · obtain rfl := Host.Outcome.next.inj (ht.symm.trans (execLdrv_permitted h f n hz ho hp hb _ rfl))
    rw [State.advance_core_self, State.core_setCore_self]
  · have hout : (s.core c.num).resv ≠ some (granuleOf (s.greg c f.base.toNat).toNat) := by
      rw [hr]
      exact fun e => hne (Option.some.inj e)
    have hb := (State.Beside.addressed s c (encM 0x15 f) (s.greg c f.base.toNat)).trans (.stcdEnd _ c f.offset.toNat false)
    refine ⟨_, (execStcd_permitted h f n hz ho hp _ rfl).trans (congrArg _ (if_pos hout)), ?_, hb.tmem, hb.cmem, ?_, fun h0 => ?_⟩
    · rw [State.stcdEnd_core_self]
    · rw [State.stcdEnd_core_self, s.addressed_sbuf]
    · rw [State.ctx, State.stcdEnd_core_self]
      exact Ctx.pred_setPred_self _ false h0 ho

/-! ### Fences (R63, R90, R92, R95) -/

/-- A fence that names no register is pending from its issue on (R90). -/
theorem State.fenceExec_runs (s : State) (c : CoreId) (f : FmtA) (fn : Nat) (k : FenceKind) (h : s.runs c f = true)
    (hr : noRegs f = true) : s.fenceExec c f fn k =
      (s.issued c (encA 0x1C fn f)).setCtx c { (s.issued c (encA 0x1C fn f)).ctx c with fence := some k } := by
  obtain ⟨hf, hg⟩ := (s.runs_iff c f).mp h
  rw [State.fenceExec, hr, hg, s.coreExec_run c _ _ hf]

/-- FENCE.L waits for no store (R90). -/
theorem Core.fenceDone_l {k : Core} (h : k.ctx.fence = some .l) : k.fenceDone = true := by
  rw [Core.fenceDone, h]

/-- FENCE.S and FENCE.F are done when no store is buffered (R90). -/
theorem Core.fenceDone_sf {k : Core} (h : k.ctx.fence = some .s ∨ k.ctx.fence = some .f) (hb : k.sbuf = []) : k.fenceDone = true := by
  rcases h with h | h <;> rw [Core.fenceDone, h, hb] <;> rfl

/-- FENCE.X waits for the outstanding Remote stores as well (R92). -/
theorem Core.fenceDone_x {k : Core} (h : k.ctx.fence = some .x) (hb : k.sbuf = []) (ho : k.outstanding = []) : k.fenceDone = true := by
  rw [Core.fenceDone, h, hb, ho]
  rfl

/-- A fence other than FENCE.X that is done ends. -/
theorem execFenceComplete_done {s : State} {c : CoreId} (h : (s.core c.num).fenceDone = true) (hx : (s.ctx c).fence ≠ some .x) :
    execFenceComplete c s = .next (s.fenceEnd c) := by
  simp [execFenceComplete, h, hx]

section

variable {s : State} {c : CoreId} (hx : (s.ctx c).fence = some .x) (hd : (s.core c.num).fenceDone = true)
include hx hd

/-- A FENCE.X that is done ends when no Remote store has failed (R92). -/
theorem execFenceXComplete_clean (hf : (s.core c.num).rfault = none) : execFenceXComplete c s = .next (s.fenceEnd c) := by
  simp [execFenceXComplete, hx, hd, hf]

/-- One that finds a remote-fault record raises Remote-Store Fault and clears the record (R63). -/
theorem execFenceXComplete_faulted {addr reason : Nat} (hf : (s.core c.num).rfault = some (addr, reason)) (he : (s.ctx c).exl = false) :
    execFenceXComplete c s = .next (((s.setCtx c { s.ctx c with fence := none }).setCore c.num
      { (s.setCtx c { s.ctx c with fence := none }).core c.num with rfault := none }).raise c 0x06 reason (BitVec.ofNat 64 addr)) := by
  simp [execFenceXComplete, hx, hd, hf, he]

end

/-- Settles O12. -/
theorem fenceResults : Obligations.FenceResults := by
  refine ⟨fun s c f h hd ha hb => ?_, fun s c => ⟨?_, fun hx hb ho => ?_⟩⟩
  · have begins (fn : Nat) (k : FenceKind) := s.fenceExec_runs c f fn k h ((noRegs_iff f).mpr ⟨hd, ha, hb⟩)
    exact ⟨congrArg _ (begins 0 .s), congrArg _ (begins 1 .l), congrArg _ (begins 2 .f), congrArg _ (begins 3 .x)⟩
  · rintro (hl | ⟨hk, hb⟩)
    · exact execFenceComplete_done (Core.fenceDone_l hl) (by simp [hl])
    · exact execFenceComplete_done (Core.fenceDone_sf hk hb) (by rcases hk with hk | hk <;> simp [hk])
  · have hd := Core.fenceDone_x hx hb ho
    exact ⟨execFenceXComplete_clean hx hd, fun addr reason hf he => execFenceXComplete_faulted hx hd hf he⟩

/-! ### Core enables, warm resets and watchdogs (R115, R119, R121, R146, R147) -/

theorem State.setCen_core (s : State) (c : CoreId) (b : Bool) (n : Nat) : (s.setCen c b).core n = s.core n :=
  State.core_congr (s.setFd_cores _ _) n

/-- The bits of a number above a field do not count in it. -/
theorem natField_mod_two_pow {lo width m : Nat} (n : Nat) (h : lo + width ≤ m) : natField lo width (n % 2 ^ m) = natField lo width n := by
  obtain ⟨k, rfl⟩ := Nat.exists_eq_add_of_le h
  rw [natField, natField, Nat.add_assoc, Nat.pow_add, Nat.mod_mul_right_div_self,
    Nat.mod_mod_of_dvd _ (Nat.pow_dvd_pow 2 (Nat.le_add_right _ _))]

/-- A core's bit of CCL_CTL.CEN after it has been written. -/
theorem State.coreEnabled_setCen (s : State) (c : CoreId) (b : Bool) : (s.setCen c b).coreEnabled c = b := by
  have hcl := c.cluster.isLt
  have hc := c.core.isLt
  have hv : tableView (R.CCL_CTL_CEN c.cluster).reg = none := tableView_of_ccl
    (show 0x300000 + 0x10000 * c.cluster.val < 0x340000 by omega)
  have hfd : (s.setCen c b).fd (R.CCL_CTL_CEN c.cluster) =
      setNatField c.core 1 (s.fd (R.CCL_CTL_CEN c.cluster)) (if b then 1 else 0) % 2 ^ 6 :=
    s.fd_setFd _ _ hv (show 0 + 6 ≤ 64 by decide)
  rw [State.coreEnabled, hfd, natField_mod_two_pow _ (by omega), natField_setNatField]
  cases b <;> rfl

/-- A rising CEN bit of a powered cluster whose core drains no stores (R119). -/
theorem State.coreEnable_rises {s : State} {c : CoreId} (he : s.coreEnabled c = false) (hl : s.live (13 + c.cluster.val) = true)
    (hd : (s.core c.num).draining = none) : s.coreEnable c = (s.setCen c true).coreStart c := by
  simp [State.coreEnable, he, hl, hd]

section

variable {s : State} {c : CoreId}

/-- A warm reset of a core with nothing buffered is over at once (R146). -/
theorem State.coreWarmReset_of_empty (h : (s.core c.num).sbuf = []) : s.coreWarmReset c = s.coreDrained c := if_pos h

/-- With stores buffered it waits for them (R115). -/
theorem State.coreWarmReset_of_buffered (h : (s.core c.num).sbuf ≠ []) : s.coreWarmReset c = s.setCore c.num { Core.reset with
    sbuf := (s.core c.num).sbuf, draining := some (s.now + ctlCyclesPs 256), fallow := (s.core c.num).fallow } := if_neg h

/-- An enabled core of a cluster that stays on starts again. -/
theorem State.coreDrained_restarts (he : s.coreEnabled c = true) (hg : s.goingOff (13 + c.cluster.val) = false) :
    s.coreDrained c = s.coreStart c := by
  simp [State.coreDrained, he, hg]

/-- A core whose enable bit is 0 is held in reset (R121). -/
theorem State.coreDrained_holds (he : s.coreEnabled c = false) : s.coreDrained c = s.coreHold c := by
  simp [State.coreDrained, he]

variable (hd : (s.core c.num).draining = none)
include hd

/-- A cleared CEN bit holds a core with nothing buffered in reset (R121). -/
theorem State.coreDisable_of_empty (he : s.coreEnabled c = true) (hb : (s.core c.num).sbuf = []) :
    s.coreDisable c = (s.setCen c false).coreHold c := by
  have hreset : s.coreDisable c = (s.setCen c false).coreWarmReset c := if_pos ⟨he, by simp [hd]⟩
  rw [hreset, State.coreWarmReset_of_empty (by rw [State.setCen_core, hb]), State.coreDrained_holds (s.coreEnabled_setCen c false)]

/-- WRST of a core that drains no stores is a warm reset (R146). -/
theorem State.coreWrst_resets (hl : s.live (13 + c.cluster.val) = true) : s.coreWrst c = s.coreWarmReset c :=
  if_pos ⟨hl, by simp [hd]⟩

end

/-- A command of the core enables that finds the cores' registers live (R645). -/
theorem execCoreEnable_live {s : State} (c : CoreId) (h : s.live 21 = true) : execCoreEnable c s = .next (s.coreEnable c) :=
  congrArg _ (if_pos h)

theorem execCoreDisable_live {s : State} (c : CoreId) (h : s.live 21 = true) : execCoreDisable c s = .next (s.coreDisable c) :=
  congrArg _ (if_pos h)

theorem execCoreWarmReset_live {s : State} (c : CoreId) (h : s.live 21 = true) : execCoreWarmReset c s = .next (s.coreWrst c) :=
  congrArg _ (if_pos h)

/-- The expiry of a drain drops the stores left, and the core restarts or is held (R115). -/
theorem execWarmResetDrainExpiry_draining {s : State} {c : CoreId} {t : Nat} (h : (s.core c.num).draining = some t) :
    execWarmResetDrainExpiry c s = .next (((s.waitUntil t).dropStores c).coreDrained c) := by
  rw [execWarmResetDrainExpiry, h]

/-- An enabled watchdog that runs out (R147). -/
theorem execWatchdogExpiry_enabled {s : State} {cl : Fin 4} (hl : s.live 21 = true) (he : s.fb (R.CCL_WDT_EN cl) = true) :
    execWatchdogExpiry cl s = .next ((s.waitUntil (s.evt.wdtPs.get 0 cl + s.fd (R.CCL_WDT_PERIOD cl) * usPs)).wdtExpire cl) := by
  simp [execWatchdogExpiry, hl, he]

/-- Settles O26. The core that a kind-3 record names is a free value (log entry 51). -/
theorem coreLifecycleRows : Obligations.CoreLifecycleRows := by
  refine ⟨fun s c h21 => ⟨fun he hl hd => ?_, fun he hd hb => ?_, fun hl hd => ⟨fun hb he hg => ?_, fun hb => ?_⟩⟩,
    fun s c t hd => execWarmResetDrainExpiry_draining hd, fun s w cl hw => ?_, ?_⟩
  · exact (execCoreEnable_live c h21).trans (congrArg _ (State.coreEnable_rises he hl hd))
  · exact (execCoreDisable_live c h21).trans (congrArg _ (State.coreDisable_of_empty hd he hb))
  · refine (execCoreWarmReset_live c h21).trans (congrArg _ ?_)
    rw [State.coreWrst_resets hd hl, State.coreWarmReset_of_empty hb, State.coreDrained_restarts he hg, State.coreStart]
  · refine (execCoreWarmReset_live c h21).trans (congrArg _ ?_)
    rw [State.coreWrst_resets hd hl, State.coreWarmReset_of_buffered hb]
  · exact congrArg _ (s.regCommand_of_reaches w _ _ (fun u => u.wdtKick cl) hw)
  · rintro s u cl hl he rfl
    exact execWatchdogExpiry_enabled hl he

end Sys2Proof.Machine
end

section
/-! PROOFS. Fields of one register that are set one after another: what O22, O25 and O31 need. -/

namespace Sys2Proof.Machine

/-! ### A field of a register beside one that has been set -/

/-- A field above a field that has been set. -/
theorem natField_setNatField_above (lo width lo' width' n v : Nat) (h : lo + width ≤ lo') :
    natField lo' width' (setNatField lo width n v) = natField lo' width' n := by
  obtain ⟨k, rfl⟩ := Nat.exists_eq_add_of_le h
  have hlow : v % 2 ^ width * 2 ^ lo + n % 2 ^ lo < 2 ^ (lo + width) := by
    calc v % 2 ^ width * 2 ^ lo + n % 2 ^ lo < (v % 2 ^ width + 1) * 2 ^ lo := by
          rw [Nat.succ_mul]
          exact Nat.add_lt_add_left (Nat.mod_lt _ (Nat.two_pow_pos lo)) _
      _ ≤ 2 ^ width * 2 ^ lo := Nat.mul_le_mul_right _ (Nat.mod_lt _ (Nat.two_pow_pos width))
      _ = 2 ^ (lo + width) := by rw [Nat.pow_add, Nat.mul_comm]
  have hhigh : setNatField lo width n v / 2 ^ (lo + width) = n / 2 ^ (lo + width) := by
    rw [setNatField, Nat.add_assoc, Nat.mul_comm (n / _), Nat.mul_add_div (Nat.two_pow_pos _), Nat.div_eq_of_lt hlow, Nat.add_zero]
  rw [natField, natField, Nat.pow_add, ← Nat.div_div_eq_div_mul, ← Nat.div_div_eq_div_mul, hhigh]

/-- A field of a word beside one that has been set. -/
theorem wField_setWField_apart (lo width lo' width' : Nat) (w : Word) (v : Nat) (hw : lo + width ≤ 64)
    (h : lo' + width' ≤ lo ∨ lo + width ≤ lo') : wField lo' width' (setWField lo width w v) = wField lo' width' w := by
  rw [wField, setWField, BitVec.toNat_ofNat, Nat.mod_eq_of_lt (setNatField_lt lo width _ v hw w.isLt)]
  exact h.elim (natField_setNatField_below lo width lo' width' _ v) (natField_setNatField_above lo width lo' width' _ v)

/-- The word of a register after one of its fields has been set. -/
theorem State.rg_setFd_self (s : State) (x : Field) (v : Nat) (hx : tableView x.reg = none) :
    (s.setFd x v).rg x.reg = setWField x.lo x.width (s.rg x.reg) v :=
  (s.rg_setRg _ _ _ hx hx).trans (if_pos rfl)

theorem State.rg_setFd_ne (s : State) (x : Field) (v a : Nat) (hx : tableView x.reg = none) (h : a ≠ x.reg) :
    (s.setFd x v).rg a = s.rg a :=
  s.rg_setRg_ne _ a _ hx h

/-- A field of another register, or one beside it, after a field has been set. -/
theorem State.fd_setFd_apart (s : State) (x y : Field) (v : Nat) (hx : tableView x.reg = none) (hw : x.lo + x.width ≤ 64)
    (h : y.reg ≠ x.reg ∨ y.lo + y.width ≤ x.lo ∨ x.lo + x.width ≤ y.lo) : (s.setFd x v).fd y = s.fd y := by
  by_cases hr : y.reg = x.reg
  · rw [State.fd, State.fd, hr, s.rg_setFd_self x v hx]
    exact wField_setWField_apart _ _ _ _ _ _ hw (h.resolve_left (not_not.mpr hr))
  · rw [State.fd, State.fd, s.rg_setFd_ne x v _ hx hr]

/-- A flag after it has been set. -/
theorem State.fb_setFb (s : State) (x : Field) (b : Bool) (hx : tableView x.reg = none) (hl : x.lo < 64) (hw : x.width = 1) :
    (s.setFb x b).fb x = b := by
  rw [State.fb, State.setFb, s.fd_setFd x _ hx (by omega), hw]
  cases b <;> rfl

theorem State.fd_congr {s t : State} {x : Field} (h : t.rg x.reg = s.rg x.reg) : t.fd x = s.fd x := congrArg (wField x.lo x.width) h

theorem State.fb_congr {s t : State} {x : Field} (h : t.rg x.reg = s.rg x.reg) : t.fb x = s.fb x := by
  rw [State.fb, State.fb, State.fd_congr h]

end Sys2Proof.Machine
end

section
/-! PROOFS. The dispatch of an event to a core: O24 (R51, R126, R131 to R133; log entries 54 and 85). -/

namespace Sys2Proof.Machine

/-! ### The best element of a list -/

/-- A fold that keeps one element, takes each better one for it and none that is worse ends with the best of the list. -/
theorem foldl_pick_best {α β : Type} [Preorder β] (key : α → β) (pick : Option α → α → Option α)
    (hnone : ∀ x, pick none x = some x)
    (hsome : ∀ b x, pick (some b) x = some x ∧ key b ≤ key x ∨ pick (some b) x = some b ∧ key x ≤ key b)
    (l : List α) (m : α) (h : l.foldl pick none = some m) : m ∈ l ∧ ∀ x ∈ l, key x ≤ key m := by
  have from_some (l : List α) : ∀ b, l.foldl pick (some b) = some m → m ∈ b :: l ∧ ∀ x ∈ b :: l, key x ≤ key m := by
    induction l with
    | nil =>
      intro b hb
      obtain rfl := Option.some.inj hb
      simp
    | cons y l ih =>
      intro b hb
      rw [List.foldl_cons] at hb
      rcases hsome b y with ⟨hp, hle⟩ | ⟨hp, hle⟩ <;> rw [hp] at hb <;> obtain ⟨hm, hbest⟩ := ih _ hb
      · refine ⟨List.mem_cons_of_mem _ hm, fun x hx => ?_⟩
        rcases List.mem_cons.mp hx with rfl | hx
        · exact hle.trans (hbest y List.mem_cons_self)
        · exact hbest x hx
      · refine ⟨?_, fun x hx => ?_⟩
        · rcases List.mem_cons.mp hm with rfl | hm
          · exact List.mem_cons_self
          · exact List.mem_cons_of_mem _ (List.mem_cons_of_mem _ hm)
        · rcases List.mem_cons.mp hx with rfl | hx
          · exact hbest x List.mem_cons_self
          · rcases List.mem_cons.mp hx with rfl | hx
            · exact hle.trans (hbest b List.mem_cons_self)
            · exact hbest x (List.mem_cons_of_mem _ hx)
  cases l with
  | nil => cases h
  | cons y l =>
    rw [List.foldl_cons, hnone] at h
    exact from_some l y h

/-- The queue served is one of those offered, and none of them has a higher priority (R131). -/
theorem State.bestQueue_best (s : State) (cl : Nat) (qs : List Nat) (q : Nat) (h : s.bestQueue cl qs = some q) :
    q ∈ qs ∧ ∀ p ∈ qs, s.fd (R.EVT_Q_CFG_PRI p) ≤ s.fd (R.EVT_Q_CFG_PRI q) := by
  refine foldl_pick_best (fun p => s.fd (R.EVT_Q_CFG_PRI p)) _ (fun _ => rfl) (fun b x => ?_) qs q h
  dsimp only
  split
  · next hbetter => exact .inl ⟨rfl, hbetter.elim Nat.le_of_lt fun e => e.1.le⟩
  · next hworse => exact .inr ⟨rfl, Nat.le_of_not_lt fun e => hworse (.inl e)⟩

/-- The core given the event is one of those offered, and none of them has a lower rank (R132). -/
theorem State.bestCore_best (s : State) (cs : List CoreId) (c : CoreId) (h : s.bestCore cs = some c) :
    c ∈ cs ∧ ∀ d ∈ cs, s.coreRank c ≤ s.coreRank d := by
  refine foldl_pick_best (fun d => OrderDual.toDual (s.coreRank d)) _ (fun _ => rfl) (fun b x => ?_) cs c h
  dsimp only
  split
  · next hlower => exact .inl ⟨rfl, OrderDual.toDual_le_toDual.mpr hlower.le⟩
  · next hnot => exact .inr ⟨rfl, OrderDual.toDual_le_toDual.mpr (Nat.le_of_not_lt hnot)⟩

/-! ### The end of the instruction that the event interrupts -/

theorem State.itagEnd_evt (s : State) (c : CoreId) (how code : Nat) : (s.itagEnd c how code).evt = s.evt := by
  unfold State.itagEnd
  dsimp only
  split
  · rfl
  · split
    · rfl
    · exact State.addFd_evt _ _ _

theorem State.evq_congr {s t : State} (h : t.evt = s.evt) (q : Nat) : t.evq q = s.evq q :=
  congrArg (fun e : EvtState => e.queues.get [] q) h

/-- A handler's context comes from its queue's registers, its core's stack and the time (R133). -/
theorem State.handlerCtx_beside {s t : State} {c : CoreId} (h : s.Beside c t) {q : Nat} (hq : q < 64) (e : Event) (x : Ctx) :
    t.handlerCtx c q e x = s.handlerCtx c q e x := by
  have hcl := c.cluster.isLt
  have hitr : 0x400000 ≤ R.TRC_CNT_ITRACED.reg := by decide
  have hcfg : t.rg (R.EVT_Q_CFG q) = s.rg (R.EVT_Q_CFG q) := h.rg _ (by unfold R.EVT_Q_CFG; omega)
  have hhnd : t.rg (R.EVT_Q_HND q) = s.rg (R.EVT_Q_HND q) := h.rg _ (by unfold R.EVT_Q_HND; omega)
  have hstk : t.rg (R.CCL_STK c.cluster (s.fd (R.EVT_Q_CFG_PRI q))) = s.rg (R.CCL_STK c.cluster (s.fd (R.EVT_Q_CFG_PRI q))) := by
    have hp : s.fd (R.EVT_Q_CFG_PRI q) < 2 ^ 3 := s.fd_lt _
    exact h.rg _ (by unfold R.CCL_STK; omega)
  have hpri : t.fd (R.EVT_Q_CFG_PRI q) = s.fd (R.EVT_Q_CFG_PRI q) := State.fd_congr hcfg
  have hbud : t.fd (R.EVT_Q_CFG_BUDGET q) = s.fd (R.EVT_Q_CFG_BUDGET q) := State.fd_congr hcfg
  have haddr : t.fd (R.EVT_Q_HND_ADDR q) = s.fd (R.EVT_Q_HND_ADDR q) := State.fd_congr hhnd
  rw [State.handlerCtx, State.handlerCtx, hpri, hbud, haddr, hstk, h.now]

/-- Of the registers a handler's context differs from the one it is made of in register 30 alone. -/
theorem State.handlerCtx_reg_ne (s : State) (c : CoreId) (q : Nat) (e : Event) (x : Ctx) {n : Nat} (h : n ≠ 30) :
    (s.handlerCtx c q e x).reg n = x.reg n :=
  Ctx.reg_setReg_ne _ _ h

theorem State.handlerCtx_p (s : State) (c : CoreId) (q : Nat) (e : Event) (x : Ctx) : (s.handlerCtx c q e x).p = x.p :=
  Ctx.setReg_p _ _ _

theorem State.handlerCtx_reg_stack (s : State) (c : CoreId) (q : Nat) (e : Event) (x : Ctx) :
    (s.handlerCtx c q e x).reg 30 = s.rg (R.CCL_STK c.cluster (s.fd (R.EVT_Q_CFG_PRI q))) + BitVec.ofNat 64 (8192 * (c.core.val + 1)) :=
  Ctx.reg_setReg_self _ _ (by decide)

/-! ### The start of a handler -/

/-- Core `c` has been given the head event of queue `q`, which leaves it, and has become `k`; the queue's turn is kept (R131, R133). -/
def State.serve (s : State) (c : CoreId) (q : Nat) (rest : List Event) (k : Core) : State :=
  let s1 := (s.setEvq q rest).setCore c.num k
  { s1 with evt := { s1.evt with
      lastServed := s1.evt.lastServed.set 63 (8 * c.cluster.val + s.fd (R.EVT_Q_CFG_PRI q)) q } }

/-- The core `k` with a handler of queue `q` started with event `e` over the contexts `saved` (R133, R51). -/
def State.handling (s : State) (c : CoreId) (q : Nat) (e : Event) (x : Ctx) (saved : List Ctx) (k : Core) : Core :=
  { k with ctx := s.handlerCtx c q e x, saved := saved, waitUntil := none, resv := none, hold := none }

theorem State.handling_ctx (s : State) (c : CoreId) (q : Nat) (e : Event) (x : Ctx) (saved : List Ctx) (k : Core) :
    (s.handling c q e x saved k).ctx = s.handlerCtx c q e x := by
  rw [State.handling]

theorem State.serve_evq_self (s : State) (c : CoreId) (q : Nat) (rest : List Event) (k : Core) : (s.serve c q rest k).evq q = rest :=
  SMap.get_set_self _ _ _ _

theorem State.serve_core_self (s : State) (c : CoreId) (q : Nat) (rest : List Event) (k : Core) : (s.serve c q rest k).core c.num = k :=
  (State.core_congr (t := s.serve c q rest k) (s := (s.setEvq q rest).setCore c.num k) rfl _).trans (State.core_setCore_self _ _ _)

theorem State.serve_tmem (s : State) (c : CoreId) (q : Nat) (rest : List Event) (k : Core) : (s.serve c q rest k).tmem = s.tmem := rfl

theorem State.serve_cmem (s : State) (c : CoreId) (q : Nat) (rest : List Event) (k : Core) : (s.serve c q rest k).cmem = s.cmem := rfl

/-- Counting changes none of what an event's dispatch is about. -/
theorem State.cntCore_cntDev_fields (s : State) (c : CoreId) (k i n : Nat) : ((s.cntCore c k).cntDev i n).cores = s.cores ∧
    ((s.cntCore c k).cntDev i n).evt = s.evt ∧ ((s.cntCore c k).cntDev i n).tmem = s.tmem ∧
    ((s.cntCore c k).cntDev i n).cmem = s.cmem := by
  obtain ⟨p, hp⟩ := s.cntCore_eq c k
  obtain ⟨p', hp'⟩ := (s.cntCore c k).cntDev_eq i n
  rw [hp', hp]
  exact ⟨rfl, rfl, rfl, rfl⟩

section
variable (s : State) (c : CoreId) (q : Nat) (e : Event) (rest : List Event) (hev : s.evq q = e :: rest)
include hev

theorem State.startHandler_eq (x : Ctx) (saved : List Ctx) : s.startHandler c q x saved =
    ((s.serve c q rest (s.handling c q e x saved (s.core c.num))).cntCore c 3).cntDev (1472 + q) 1 := by
  rw [State.startHandler, hev]
  rfl

/-- An event is dispatched to a core when its instruction has ended (R133). -/
theorem State.dispatchTo_eq : s.dispatchTo c q = (s.itagEnd c 4 0).startHandler c q (s.ctx c)
    ((s.ctx c).preempt s.now :: (s.core c.num).saved) := by
  rw [State.dispatchTo, if_neg (by simp [hev])]
  simp only [s.itagEnd_core_self c 4 0, (State.Beside.itagEnd s c 4 0).now, State.ctx]

/-- What the dispatch of the head event of a queue makes of the core, the queue and the memories (R133, R51). -/
theorem State.dispatchTo_fields (hq : q < 64) :
    (s.dispatchTo c q).core c.num = s.handling c q e (s.ctx c) ((s.ctx c).preempt s.now :: (s.core c.num).saved)
      { s.core c.num with itag := none } ∧
    (s.dispatchTo c q).evq q = rest ∧ (s.dispatchTo c q).tmem = s.tmem ∧ (s.dispatchTo c q).cmem = s.cmem := by
  have hb := State.Beside.itagEnd s c 4 0
  have hev' : (s.itagEnd c 4 0).evq q = e :: rest := (State.evq_congr (s.itagEnd_evt c 4 0) q).trans hev
  rw [s.dispatchTo_eq c q e rest hev, State.startHandler_eq _ c q e rest hev']
  obtain ⟨hcores, hevt, htm, hcm⟩ := State.cntCore_cntDev_fields ((s.itagEnd c 4 0).serve c q rest ((s.itagEnd c 4 0).handling c q e
    (s.ctx c) ((s.ctx c).preempt s.now :: (s.core c.num).saved) ((s.itagEnd c 4 0).core c.num))) c 3 (1472 + q) 1
  refine ⟨?_, (State.evq_congr hevt q).trans (State.serve_evq_self _ c q rest _),
    htm.trans ((State.serve_tmem _ c q rest _).trans hb.tmem), hcm.trans ((State.serve_cmem _ c q rest _).trans hb.cmem)⟩
  rw [State.core_congr hcores, State.serve_core_self, s.itagEnd_core_self c 4 0, State.handling, State.handling,
    State.handlerCtx_beside hb hq]

end

theorem execEventDispatch_serves {s : State} {cl : Fin 4} {q : Nat} {c : CoreId}
    (hq : s.bestQueue cl ((List.range 64).filter fun q => s.servable q && (clusterCores cl).any fun c => s.eligible c q) = some q)
    (hc : s.bestCore ((clusterCores cl).filter fun c => s.eligible c q) = some c) :
    execEventDispatch cl s = .next (s.dispatchTo c q) := by
  simp only [execEventDispatch, hq, hc]

/-- Settles O24. A waiting core ranks below every running one (log entry 54); the turn of queues of one priority is kept for each cluster
(log entry 85). -/
theorem eventDispatch : Obligations.EventDispatch := by
  intro s cl q c e rest hq hc hev
  obtain ⟨hqmem, hpri⟩ := s.bestQueue_best _ _ _ hq
  obtain ⟨hcmem, hrank⟩ := s.bestCore_best _ _ hc
  have hq64 : q < 64 := List.mem_range.mp (List.mem_of_mem_filter hqmem)
  obtain ⟨hcore, hrest, htm, hcm⟩ := s.dispatchTo_fields c q e rest hev hq64
  have hctx : (s.dispatchTo c q).ctx c = s.handlerCtx c q e (s.ctx c) := by
    rw [State.ctx, hcore, State.handling_ctx]
  refine ⟨fun p hp hserv helig => hpri p ?_, fun d hd helig => hrank d (List.mem_filter.mpr ⟨hd, helig⟩),
    (List.mem_filter.mp hcmem).2, _, execEventDispatch_serves hq hc, ?_⟩
  · exact List.mem_filter.mpr ⟨List.mem_range.mpr hp, by rw [hserv, List.any_eq_true.mpr helig]; rfl⟩
  · simp only [State.greg, hctx, hcore]
    exact ⟨rfl, rfl, rfl, rfl, rfl, rfl, rfl, s.handlerCtx_reg_stack c q e _, rfl,
      fun n hn => s.handlerCtx_reg_ne c q e _ (Fin.val_ne_of_ne hn), s.handlerCtx_p c q e _, hrest, rfl, rfl, rfl, htm, hcm⟩

end Sys2Proof.Machine
end

section
/-! PROOFS. Events of hardware sources and the configuration of their queues: O22 and O25 (R123 to R127, R692 to R698). -/

namespace Sys2Proof.Machine

/-! ### Almanac records (R692 to R698) -/

/-- What Almanac records and seal triggers leave: the event queues and every register but the Almanac's two; the next sequence number does
not go back. -/
structure State.Recorded (s t : State) : Prop where
  evt : t.evt = s.evt
  seq : s.alm.seqNext ≤ t.alm.seqNext
  rg : ∀ a, a ≠ R.ALM_HEAD → a ≠ R.ALM_STS → t.rg a = s.rg a

namespace State.Recorded

variable {s t u : State}

theorem rfl' : s.Recorded s := ⟨rfl, le_rfl, fun _ _ _ => rfl⟩

theorem trans (h : s.Recorded t) (h' : t.Recorded u) : s.Recorded u :=
  ⟨h'.evt.trans h.evt, h.seq.trans h'.seq, fun a h1 h2 => (h'.rg a h1 h2).trans (h.rg a h1 h2)⟩

theorem ite {p : Prop} [Decidable p] (h : s.Recorded t) (h' : s.Recorded u) : s.Recorded (if p then t else u) := by
  split
  · exact h
  · exact h'

/-- A state that differs in neither the queues nor what the registers are read from. -/
theorem of_eq (he : t.evt = s.evt) (ha : s.alm.seqNext ≤ t.alm.seqNext) (hm : t.tmem = s.tmem) (hr : t.regs = s.regs) : s.Recorded t :=
  ⟨he, ha, fun a _ _ => State.rg_congr hm hr a⟩

/-- A field of the Almanac's registers set. -/
theorem setFd (s : State) (x : Field) (v : Nat) (hx : x.reg = R.ALM_HEAD ∨ x.reg = R.ALM_STS) : s.Recorded (s.setFd x v) := by
  have hv : tableView x.reg = none := by
    rcases hx with e | e <;> rw [e] <;> decide
  refine ⟨s.setFd_evt x v, (congrArg AlmState.seqNext (s.setFd_alm x v)).ge, fun a h1 h2 => ?_⟩
  exact s.rg_setFd_ne x v a hv fun e => hx.elim (fun hx => h1 (e.trans hx)) fun hx => h2 (e.trans hx)

theorem of_setFd (h : s.Recorded t) (x : Field) (v : Nat) (hx : x.reg = R.ALM_HEAD ∨ x.reg = R.ALM_STS) : s.Recorded (t.setFd x v) :=
  h.trans (setFd t x v hx)

end State.Recorded

/-- A record appended takes the next sequence number. -/
theorem State.almAppend_seqNext (s : State) (src flags code : Nat) (p0 p1 : Word) :
    (s.almAppend src flags code p0 p1).alm.seqNext = s.alm.seqNext + 1 := by
  rw [State.almAppend, State.setFd_alm]

namespace State.Recorded

theorem almAppend (s : State) (src flags code : Nat) (p0 p1 : Word) : s.Recorded (s.almAppend src flags code p0 p1) := by
  unfold State.almAppend
  apply of_setFd
  · exact of_eq rfl (Nat.le_succ _) rfl rfl
  · exact .inl rfl

theorem almSuppress (s : State) (t : Trigger) : s.Recorded (s.almSuppress t) :=
  (almAppend s Src.alm.code 0 0x0003 (BitVec.ofNat 64 t.code) 0).of_setFd R.ALM_STS_SUPPR _ (.inr rfl)

/-- A pending trigger is shown in ALM_STS. -/
theorem almPending (s : State) (t : Trigger) :
    s.Recorded (({ s with alm := { s.alm with waiting := [t] } }).setFb R.ALM_STS_PEND true) := by
  unfold State.setFb
  apply of_setFd
  · exact of_eq rfl le_rfl rfl rfl
  · exact .inr rfl

/-- A trigger is recorded, and is pending or suppressed (R698). -/
theorem almTrigger (s : State) (code recSeq : Nat) : s.Recorded (s.almTrigger code recSeq) := by
  have happ := almAppend s Src.alm.code 0 (0x0010 + code) (BitVec.ofNat 64 recSeq) 0
  unfold State.almTrigger
  dsimp only
  refine ite rfl' (ite (happ.trans (almSuppress _ _)) ?_)
  split
  · exact ite (happ.trans (almSuppress _ _)) (happ.trans (almPending _ _))
  · exact ite ((happ.trans (almSuppress _ _)).trans (almPending _ _)) (happ.trans (almSuppress _ _))

/-- A record may trigger a seal (R696). -/
theorem almRecord_almAppend (s : State) (src flags code : Nat) (p0 p1 : Word) :
    (s.almAppend src flags code p0 p1).Recorded (s.almRecord src flags code p0 p1) :=
  ite (almTrigger _ _ _) rfl'

theorem almRecord (s : State) (src flags code : Nat) (p0 p1 : Word) : s.Recorded (s.almRecord src flags code p0 p1) :=
  (almAppend s src flags code p0 p1).trans (almRecord_almAppend s src flags code p0 p1)

end State.Recorded

/-- A record advances the Almanac's next sequence number (R692). -/
theorem State.seqNext_lt_almRecord (s : State) (src flags code : Nat) (p0 p1 : Word) :
    s.alm.seqNext < (s.almRecord src flags code p0 p1).alm.seqNext := by
  have h := (State.Recorded.almRecord_almAppend s src flags code p0 p1).seq
  rw [State.almAppend_seqNext] at h
  exact h

/-! ### The queue of an event (R127) -/

theorem State.evq_setEvq_self (s : State) (q : Nat) (l : List Event) : (s.setEvq q l).evq q = l := SMap.get_set_self _ _ _ _

theorem State.evq_setEvq_ne (s : State) {q p : Nat} (l : List Event) (h : p ≠ q) : (s.setEvq q l).evq p = s.evq p :=
  SMap.get_set_ne _ _ _ _ _ h

theorem tableView_of_evtQueue {a : Nat} (h : a < 0x400000) : tableView a = none := by
  rw [tableView, if_neg (by omega), if_neg (by omega)]

theorem tableView_evtQCfg {q : Nat} (hq : q < 64) : tableView (R.EVT_Q_CFG q) = none :=
  tableView_of_evtQueue (by unfold R.EVT_Q_CFG; omega)

theorem tableView_evtQSts {q : Nat} (hq : q < 64) : tableView (R.EVT_Q_STS q) = none :=
  tableView_of_evtQueue (by unfold R.EVT_Q_STS; omega)

/-- Whether a queue has room depends on its events and its configuration alone. -/
theorem State.evqRoom_congr {s t : State} {q : Nat} (he : t.evt = s.evt) (hr : t.rg (R.EVT_Q_CFG q) = s.rg (R.EVT_Q_CFG q)) :
    t.evqRoom q = s.evqRoom q := by
  have hen : t.fb (R.EVT_Q_CFG_EN q) = s.fb (R.EVT_Q_CFG_EN q) := State.fb_congr hr
  have hdep : t.fd (R.EVT_Q_CFG_LOGDEPTH q) = s.fd (R.EVT_Q_CFG_LOGDEPTH q) := State.fd_congr hr
  rw [State.evqRoom, State.evqRoom, State.evqDepth, State.evqDepth, hen, hdep, State.evq_congr he]

section
variable (s : State) (src q : Nat) (e : Event)

/-- The event is held by its source. -/
def State.holdEvent : State := { s with evt := { s.evt with held := s.evt.held ++ [⟨src, q, e⟩] } }

theorem State.holdEvent_evq (p : Nat) : (s.holdEvent src q e).evq p = s.evq p := rfl

theorem State.holdEvent_held : (s.holdEvent src q e).evt.held = s.evt.held ++ [⟨src, q, e⟩] := rfl

theorem filter_src_eq_nil (l : List HeldEvent) : (l.filter fun h => h.src = src) = [] ↔ ∀ h ∈ l, h.src ≠ src := by
  simp [List.filter_eq_nil_iff]

/-- The event of a source that holds nothing enters its queue when there is room. -/
theorem State.queueEvent_enters (hsrc : ∀ h ∈ s.evt.held, h.src ≠ src) (hroom : s.evqRoom q = true) :
    s.queueEvent src q e = s.setEvq q (s.evq q ++ [e]) := by
  rw [State.queueEvent, if_pos ((filter_src_eq_nil src _).mpr hsrc), if_pos hroom]

theorem State.queueEvent_full (hsrc : ∀ h ∈ s.evt.held, h.src ≠ src) (hroom : s.evqRoom q = false) :
    s.queueEvent src q e = s.holdEvent src q e := by
  rw [State.queueEvent, if_pos ((filter_src_eq_nil src _).mpr hsrc), hroom]
  rfl

/-- An event like one that its source holds is counted. -/
theorem State.queueEvent_coalesces (h : ∃ h ∈ s.evt.held, h.src = src ∧ h.queue = q ∧ h.event.typ = e.typ ∧ h.event.arg = e.arg) :
    s.queueEvent src q e = s.addFd (R.EVT_Q_STS_COALESCED q) 1 := by
  obtain ⟨g, hg, hs, hq, ht, ha⟩ := h
  rw [State.queueEvent, if_neg fun hn => (filter_src_eq_nil src _).mp hn g hg hs, if_pos]
  simp only [List.any_filter, List.any_eq_true]
  exact ⟨g, hg, by simp [hs, hq, ht, ha]⟩

/-- An event behind others that its source holds, none of them like it, is held. -/
theorem State.queueEvent_behind (hsrc : ∃ h ∈ s.evt.held, h.src = src)
    (hnew : ∀ h ∈ s.evt.held, h.src = src → ¬(h.queue = q ∧ h.event.typ = e.typ ∧ h.event.arg = e.arg)) :
    s.queueEvent src q e = s.holdEvent src q e := by
  obtain ⟨g, hg, hs⟩ := hsrc
  rw [State.queueEvent, if_neg fun hn => (filter_src_eq_nil src _).mp hn g hg hs, if_neg]
  · rfl
  simp only [List.any_filter, List.any_eq_true]
  rintro ⟨h, hm, hl⟩
  simp only [Bool.and_eq_true, decide_eq_true_eq] at hl
  exact hnew h hm hl.1 ⟨hl.2.1.1, hl.2.1.2, hl.2.2⟩

/-- An event touches no queue but its own, and not the Almanac. -/
theorem State.queueEvent_others : (∀ p, p ≠ q → (s.queueEvent src q e).evq p = s.evq p) ∧ (s.queueEvent src q e).alm = s.alm := by
  unfold State.queueEvent
  dsimp only
  split
  · split
    · exact ⟨fun p hp => s.evq_setEvq_ne _ hp, rfl⟩
    · exact ⟨fun p _ => s.holdEvent_evq src q e p, rfl⟩
  · split
    · exact ⟨fun p _ => State.evq_congr (s.addFd_evt _ _) p, s.addFd_alm _ _⟩
    · exact ⟨fun p _ => s.holdEvent_evq src q e p, rfl⟩

end

/-- Settles O22: the cases of an event that reaches its queue, after the event's record. -/
theorem hardwareEventsAreNotLost : Obligations.HardwareEventsAreNotLost := by
  rintro s t src unit q typ arg detail e id hq rfl rfl rfl
  have hrec := State.Recorded.almRecord s src.code 1 (typ * 256) (BitVec.ofNat 64 arg) detail
  have hseq := s.seqNext_lt_almRecord src.code 1 (typ * 256) (BitVec.ofNat 64 arg) detail
  simp only [State.postEvent]
  generalize s.almRecord src.code 1 (typ * 256) (BitVec.ofNat 64 arg) detail = u at hrec hseq ⊢
  generalize src.code * 0x100000 + unit = id
  have hcfg : u.rg (R.EVT_Q_CFG q) = s.rg (R.EVT_Q_CFG q) := hrec.rg _ (by unfold R.EVT_Q_CFG R.ALM_HEAD; omega)
    (by unfold R.EVT_Q_CFG R.ALM_STS; omega)
  have hsts : u.rg (R.EVT_Q_STS q) = s.rg (R.EVT_Q_STS q) := hrec.rg _ (by unfold R.EVT_Q_STS R.ALM_HEAD; omega)
    (by unfold R.EVT_Q_STS R.ALM_STS; omega)
  obtain ⟨hothers, halm⟩ := u.queueEvent_others id q ⟨typ, arg, detail⟩
  simp only [← State.evq_congr hrec.evt, ← State.evqRoom_congr hrec.evt hcfg, ← hrec.evt]
  refine ⟨fun hsrc hroom => ?_, fun hsrc hroom => ?_, fun hlike => ?_, fun hsrc hnew => ?_, hothers, halm ▸ hseq⟩
  · rw [u.queueEvent_enters id q _ hsrc hroom]
    exact ⟨u.evq_setEvq_self _ _, rfl⟩
  · rw [u.queueEvent_full id q _ hsrc hroom]
    exact ⟨u.holdEvent_evq _ _ _ _, u.holdEvent_held _ _ _⟩
  · rw [u.queueEvent_coalesces id q _ hlike]
    refine ⟨State.evq_congr (u.addFd_evt _ _) q, congrArg EvtState.held (u.addFd_evt _ _), ?_⟩
    rw [← State.fd_congr (x := R.EVT_Q_STS_COALESCED q) hsts]
    exact u.fd_setFd _ _ (tableView_evtQSts hq) (show 48 + 16 ≤ 64 by decide)
  · rw [u.queueEvent_behind id q _ hsrc hnew]
    exact ⟨u.holdEvent_evq _ _ _ _, u.holdEvent_held _ _ _⟩

end Sys2Proof.Machine
end

section
/-! PROOFS. The configuration of an event queue: O25 (R123 to R125; log entry 52). -/

namespace Sys2Proof.Machine

/-- EVT_Q[q]_CFG with the fields of a write but EN: `pri` and `dep` are the ones that the queue's state lets through (R124). -/
def queueWord (old : Word) (pri dep : Nat) (v : Word) : Word :=
  setWField 32 16 (setWField 12 1 (setWField 6 6 (setWField 4 2 (setWField 16 4 (setWField 0 3 old pri) dep)
    (wField 4 2 v)) (wField 6 6 v)) (wField 12 1 v)) (wField 32 16 v)

/-- What a write of EVT_Q[q]_CFG leaves: the queue's own two registers aside, the registers, table memory's among them, the clusters'
memories and the events. -/
structure State.QueueWritten (q : Nat) (s t : State) : Prop where
  rg : ∀ a, a ≠ R.EVT_Q_CFG q → a ≠ R.EVT_Q_STS q → t.rg a = s.rg a
  tmem : t.tmem = s.tmem
  cmem : t.cmem = s.cmem
  evt : t.evt = s.evt

namespace State.QueueWritten

variable {q : Nat} {s t : State}

theorem rfl' : s.QueueWritten q s := ⟨fun _ _ _ => rfl, rfl, rfl, rfl⟩

theorem setFd (h : s.QueueWritten q t) (x : Field) (v : Nat) (hx : tableView x.reg = none)
    (hr : x.reg = R.EVT_Q_CFG q ∨ x.reg = R.EVT_Q_STS q) : s.QueueWritten q (t.setFd x v) where
  rg a h1 h2 := (t.rg_setFd_ne x v a hx fun e => hr.elim (fun hr => h1 (e.trans hr)) fun hr => h2 (e.trans hr)).trans (h.rg a h1 h2)
  tmem := (t.setRg_tmem _ _ hx).trans h.tmem
  cmem := (t.setFd_cmem x v).trans h.cmem
  evt := (t.setFd_evt x v).trans h.evt

end State.QueueWritten

/-- The state in which the fields of a write of EVT_Q[q]_CFG but EN have been taken. -/
def State.queueFields (s : State) (q pri dep : Nat) (v : Word) : State :=
  (((((s.setFd (R.EVT_Q_CFG_PRI q) pri).setFd (R.EVT_Q_CFG_LOGDEPTH q) dep).setFd
    (R.EVT_Q_CFG_CLUSTER q) (wField 4 2 v)).setFd (R.EVT_Q_CFG_MASK q) (wField 6 6 v)).setFd
    (R.EVT_Q_CFG_SERIAL q) (wField 12 1 v)).setFd (R.EVT_Q_CFG_BUDGET q) (wField 32 16 v)

/-- The enable bit that a write gives: the one written, but for the limit on the depths (R125). -/
def queueEnabled (v : Word) (depths : Nat) : Bool := decide (wField 3 1 v ≠ 0) && decide (depths ≤ 16384)

/-- The sum of the other queues' depths does not depend on a queue's own registers. -/
theorem State.QueueWritten.evqDepths {s t : State} {q : Nat} (h : s.QueueWritten q t) : t.evqDepths q = s.evqDepths q := by
  refine congrArg List.sum (List.map_congr_left fun i hi => ?_)
  by_cases hiq : i = q
  · simp [hiq]
  · have hi64 : i < 64 := List.mem_range.mp hi
    have hrg : t.rg (R.EVT_Q_CFG i) = s.rg (R.EVT_Q_CFG i) := h.rg _ (by unfold R.EVT_Q_CFG; omega)
      (by unfold R.EVT_Q_CFG R.EVT_Q_STS; omega)
    have hen : t.fb (R.EVT_Q_CFG_EN i) = s.fb (R.EVT_Q_CFG_EN i) := State.fb_congr hrg
    have hdep : t.fd (R.EVT_Q_CFG_LOGDEPTH i) = s.fd (R.EVT_Q_CFG_LOGDEPTH i) := State.fd_congr hrg
    rw [State.evqDepth, State.evqDepth, hen, hdep]

section
variable (s : State) {q : Nat} (hq : q < 64) (pri dep : Nat) (v : Word)
include hq

theorem State.queueFields_rg_self : (s.queueFields q pri dep v).rg (R.EVT_Q_CFG q) = queueWord (s.rg (R.EVT_Q_CFG q)) pri dep v := by
  have hset (u : State) (lo width n : Nat) :
      (u.setFd ⟨R.EVT_Q_CFG q, lo, width⟩ n).rg (R.EVT_Q_CFG q) = setWField lo width (u.rg (R.EVT_Q_CFG q)) n :=
    u.rg_setFd_self _ n (tableView_evtQCfg hq)
  simp only [State.queueFields, R.EVT_Q_CFG_PRI, R.EVT_Q_CFG_LOGDEPTH, R.EVT_Q_CFG_CLUSTER, R.EVT_Q_CFG_MASK, R.EVT_Q_CFG_SERIAL,
    R.EVT_Q_CFG_BUDGET, hset, queueWord]

theorem State.queueFields_written : s.QueueWritten q (s.queueFields q pri dep v) := by
  have hset {t : State} (h : s.QueueWritten q t) (lo width n : Nat) : s.QueueWritten q (t.setFd ⟨R.EVT_Q_CFG q, lo, width⟩ n) :=
    h.setFd _ n (tableView_evtQCfg hq) (.inl rfl)
  exact hset (hset (hset (hset (hset (hset .rfl' _ _ _) _ _ _) _ _ _) _ _ _) _ _ _) _ _ _

/-- The queue with its fields and an enable bit set. -/
theorem State.queueFields_setEn (b : Bool) :
    ((s.queueFields q pri dep v).setFb (R.EVT_Q_CFG_EN q) b).rg (R.EVT_Q_CFG q) =
      setWField 3 1 (queueWord (s.rg (R.EVT_Q_CFG q)) pri dep v) (if b then 1 else 0) ∧
    s.QueueWritten q ((s.queueFields q pri dep v).setFb (R.EVT_Q_CFG_EN q) b) := by
  refine ⟨?_, (s.queueFields_written hq pri dep v).setFd _ _ (tableView_evtQCfg hq) (.inl rfl)⟩
  rw [← s.queueFields_rg_self hq pri dep v]
  exact State.rg_setFd_self _ (R.EVT_Q_CFG_EN q) _ (tableView_evtQCfg hq)

end

/-- The fields of EVT_Q[q]_CFG after a write. -/
theorem queueWord_fields (old : Word) (pri dep en : Nat) (v : Word) (w : Word) (hw : w = setWField 3 1 (queueWord old pri dep v) en) :
    wField 0 3 w = pri % 2 ^ 3 ∧ wField 16 4 w = dep % 2 ^ 4 ∧ wField 4 2 w = wField 4 2 v ∧ wField 6 6 w = wField 6 6 v ∧
    wField 12 1 w = wField 12 1 v ∧ wField 32 16 w = wField 32 16 v ∧ wField 3 1 w = en % 2 ^ 1 := by
  have hlt (lo width : Nat) : wField lo width v % 2 ^ width = wField lo width v := Nat.mod_mod _ _
  subst hw
  unfold queueWord
  simp (disch := decide) only [wField_setWField, wField_setWField_apart, hlt, and_self]

/-- A field that is written, or kept, is within its width. -/
theorem State.writtenOrKept_lt (s : State) (x : Field) (v : Word) (b : Bool) :
    (if b then wField x.lo x.width v else s.fd x) < 2 ^ x.width := by
  split
  · exact Nat.mod_lt _ (Nat.two_pow_pos _)
  · exact s.fd_lt x

/-- Whether the queue is open to a new depth and priority (R124). -/
def State.queueOpen (s : State) (q : Nat) : Bool := !s.fb (R.EVT_Q_CFG_EN q) && (s.evq q).isEmpty

section
variable (s : State) {q : Nat} (hq : q < 64) (v : Word) {pri dep : Nat}
  (hpri : pri = if s.queueOpen q then wField 0 3 v else s.fd (R.EVT_Q_CFG_PRI q))
  (hdep : dep = if s.queueOpen q then wField 16 4 v else s.fd (R.EVT_Q_CFG_LOGDEPTH q))
include hq hpri hdep

/-- A write of EVT_Q[q]_CFG takes its fields, and enables the queue unless the depths pass the limit, which sets CFGERR (R124, R125). -/
theorem State.evtQCfg_eq : s.evtQCfg q v =
    if wField 3 1 v = 0 then (s.queueFields q pri dep v).setFb (R.EVT_Q_CFG_EN q) false
    else if 16384 < s.evqDepths q + 2 ^ min 10 (max 4 dep) then
      ((s.queueFields q pri dep v).setFb (R.EVT_Q_CFG_EN q) false).setFb (R.EVT_Q_STS_CFGERR q) true
    else (s.queueFields q pri dep v).setFb (R.EVT_Q_CFG_EN q) true := by
  have hlt : dep < 2 ^ 4 := hdep ▸ s.writtenOrKept_lt (R.EVT_Q_CFG_LOGDEPTH q) v _
  have hfd : (s.queueFields q pri dep v).fd (R.EVT_Q_CFG_LOGDEPTH q) = dep := by
    rw [State.fd]
    refine (congrArg (wField 16 4) (s.queueFields_rg_self hq pri dep v)).trans ?_
    unfold queueWord
    simp (disch := decide) only [wField_setWField, wField_setWField_apart, Nat.mod_eq_of_lt hlt]
  have hdepth : (s.queueFields q pri dep v).evqDepth q = 2 ^ min 10 (max 4 dep) := by rw [State.evqDepth, hfd]
  rw [← hdepth, ← (s.queueFields_written hq pri dep v).evqDepths, hpri, hdep]
  rfl

theorem State.evtQCfg_written : s.QueueWritten q (s.evtQCfg q v) ∧ (s.evtQCfg q v).rg (R.EVT_Q_CFG q) =
    setWField 3 1 (queueWord (s.rg (R.EVT_Q_CFG q)) pri dep v)
      (if queueEnabled v (s.evqDepths q + 2 ^ min 10 (max 4 dep)) then 1 else 0) := by
  obtain ⟨hoff, woff⟩ := s.queueFields_setEn hq pri dep v false
  obtain ⟨hon, won⟩ := s.queueFields_setEn hq pri dep v true
  have hne : R.EVT_Q_CFG q ≠ (R.EVT_Q_STS_CFGERR q).reg := show 0x380000 + 0x40 * q ≠ 0x380010 + 0x40 * q by omega
  rw [s.evtQCfg_eq hq v hpri hdep]
  split
  · next h => exact ⟨woff, hoff.trans (by simp [queueEnabled, h])⟩
  · next h =>
    split
    · next hl =>
      refine ⟨woff.setFd _ _ (tableView_evtQSts hq) (.inr rfl), ?_⟩
      exact ((State.rg_setFd_ne _ _ _ _ (tableView_evtQSts hq) hne).trans hoff).trans (by simp [queueEnabled, Nat.not_le.mpr hl])
    · next hl => exact ⟨won, hon.trans (by simp [queueEnabled, h, Nat.le_of_not_lt hl])⟩

/-- The fields of EVT_Q[q]_CFG after the write. -/
theorem State.evtQCfg_fields : (s.evtQCfg q v).fd (R.EVT_Q_CFG_LOGDEPTH q) = dep ∧ (s.evtQCfg q v).fd (R.EVT_Q_CFG_PRI q) = pri ∧
    (s.evtQCfg q v).fd (R.EVT_Q_CFG_CLUSTER q) = wField 4 2 v ∧ (s.evtQCfg q v).fd (R.EVT_Q_CFG_MASK q) = wField 6 6 v ∧
    (s.evtQCfg q v).fd (R.EVT_Q_CFG_SERIAL q) = wField 12 1 v ∧ (s.evtQCfg q v).fd (R.EVT_Q_CFG_BUDGET q) = wField 32 16 v ∧
    (s.evtQCfg q v).fb (R.EVT_Q_CFG_EN q) = queueEnabled v (s.evqDepths q + 2 ^ min 10 (max 4 dep)) := by
  have hprilt : pri < 2 ^ 3 := hpri ▸ s.writtenOrKept_lt (R.EVT_Q_CFG_PRI q) v _
  have hdeplt : dep < 2 ^ 4 := hdep ▸ s.writtenOrKept_lt (R.EVT_Q_CFG_LOGDEPTH q) v _
  obtain ⟨-, hcfg⟩ := s.evtQCfg_written hq v hpri hdep
  obtain ⟨h0, h16, h4, h6, h12, h32, h3⟩ := queueWord_fields _ _ _ _ v _ hcfg
  refine ⟨h16.trans (Nat.mod_eq_of_lt hdeplt), h0.trans (Nat.mod_eq_of_lt hprilt), h4, h6, h12, h32,
    (congrArg (fun n => decide (n ≠ 0)) h3).trans ?_⟩
  cases queueEnabled v (s.evqDepths q + 2 ^ min 10 (max 4 dep)) <;> rfl

/-- A queue that the limit keeps from being enabled shows CFGERR (R125). -/
theorem State.evtQCfg_cfgerr (hv : wField 3 1 v = 1) (hl : 16384 < s.evqDepths q + 2 ^ min 10 (max 4 dep)) :
    (s.evtQCfg q v).fb (R.EVT_Q_STS_CFGERR q) = true := by
  rw [s.evtQCfg_eq hq v hpri hdep, if_neg (by omega), if_pos hl]
  exact State.fb_setFb _ _ _ (tableView_evtQSts hq) (show 13 < 64 by decide) rfl

end

theorem execEvtQCfgWrite_reaches {s : State} {w : Writer} {q : Fin 64} (v : Word) (h : s.reaches w (R.EVT_Q_CFG q) = true) :
    execEvtQCfgWrite w q v s = .next (s.evtQCfg q v) :=
  congrArg _ (s.regCommand_of_reaches w _ v _ h)

/-- Settles O25. LOGDEPTH is held to 4 to 10 (log entry 52). -/
theorem queueConfigurationRule : Obligations.QueueConfigurationRule := by
  rintro s w q v open_ others lg hw hopen hothers rfl
  have hq := q.isLt
  have hopen : open_ = s.queueOpen q := by
    rw [hopen, State.queueOpen]
    cases s.evq q <;> rfl
  subst hopen
  have hdepths : s.evqDepths q = others := hothers.symm
  obtain ⟨hwr, -⟩ := s.evtQCfg_written hq v rfl rfl
  obtain ⟨hdep, hpri, hcl, hmask, hser, hbud, hen⟩ := s.evtQCfg_fields hq v rfl rfl
  rw [hdepths] at hen
  refine ⟨_, execEvtQCfgWrite_reaches v hw, hdep, hpri, hcl, hmask, hser, hbud, fun hv => ?_, fun hv hl => ?_, fun hv hl => ⟨?_, ?_⟩,
    hwr.rg, hwr.tmem, hwr.cmem, hwr.evt⟩
  · rw [hen]
    simp [queueEnabled, hv]
  · rw [hen]
    simp [queueEnabled, hv, hl]
  · rw [hen]
    simp [queueEnabled, Nat.not_le.mpr hl]
  · exact s.evtQCfg_cfgerr hq v rfl rfl hv (hdepths ▸ hl)

end Sys2Proof.Machine
end

section
/-! PROOFS. Held events, budgets, timers and mailboxes: O23 (R127, R137, R141 to R144, R148; log entries 51, 54 and 89). -/

namespace Sys2Proof.Machine

/-- The oldest held event is the one that enters its queue (R127). -/
theorem State.releaseHeld_oldest {s : State} {h : HeldEvent} {rest : List HeldEvent} (hheld : s.evt.held = h :: rest)
    (hroom : s.evqRoom h.queue = true) : s.releaseHeld h.queue = { s.setEvq h.queue (s.evq h.queue ++ [h.event]) with
      evt := { (s.setEvq h.queue (s.evq h.queue ++ [h.event])).evt with held := rest } } := by
  have hfind : State.releaseHeld.find h.queue [] s.evt.held = some (h, rest) := by
    simp [hheld, State.releaseHeld.find]
  rw [State.releaseHeld, if_pos hroom, hfind]

/-- The handler of a core passes a budget that it had and has not passed before (R137). -/
theorem execHandlerBudgetExceeded_once {s : State} {c : CoreId} {h : Handler} (hh : (s.ctx c).handler = some h)
    (hov : h.overBudget = false) (hb : h.budget * 100000 ≠ 0) : execHandlerBudgetExceeded c s =
    .next ((((s.waitUntil (h.startPs + (h.budget * 100000 - h.usedPs))).setCtx c
      { s.ctx c with handler := some { h with overBudget := true } }).faultRecord c.cluster 4 c.core (some (s.ctx c).epc) none none
      (some h.queue)).coreFaultEvent c.cluster c.core 4 (s.fd (R.CCL_FLTHD_IDX c.cluster))) := by
  have hps : h.budget * 100 * nsPs = h.budget * 100000 := Nat.mul_assoc _ _ _
  simp only [execHandlerBudgetExceeded, hh, hps, hov]
  rw [if_neg (by simp [hb])]

section
variable (s : State) (n : Nat)

/-- The state in which a timer's event has been posted and FIRED counted, with `m` the periods missed (R141). -/
def State.timerPosted (m : Nat) : State :=
  (s.bumpFv.postEvent .evt n (some (s.fd (R.EVT_TMR_CTL_Q n))) 0x05 (n + 65536 * m)
    (BitVec.ofNat 64 (s.fd (R.EVT_TMR_CMP_TIME n)))).addFd (R.EVT_TMR_CTL_FIRED n) 1

theorem State.timerFires_oneShot (hp : s.fd (R.EVT_TMR_PER_PERIOD n) = 0) :
    s.timerFires n = (s.timerPosted n 0).setFb (R.EVT_TMR_CTL_EN n) false := by
  simp only [State.timerFires, hp, if_true, Nat.zero_lt_succ]
  rfl

theorem State.timerFires_periodic {per k : Nat} (hper : per = s.fd (R.EVT_TMR_PER_PERIOD n)) (hp : per ≠ 0)
    (hk : k = (s.time.toNat - s.fd (R.EVT_TMR_CMP_TIME n)) / per) (hlt : k < 65536) :
    s.timerFires n = (s.timerPosted n k).setFd (R.EVT_TMR_CMP_TIME n) (s.fd (R.EVT_TMR_CMP_TIME n) + per * (k + 1)) := by
  simp only [State.timerFires, ← hper, if_neg hp, ← hk, if_pos hlt]
  rfl

end

/-- An enabled timer fires when its time has come (R141). -/
theorem execTimerFire_enabled {s : State} {n : Fin 64} (hl : s.live 21 = true) (he : s.fb (R.EVT_TMR_CTL_EN n) = true) :
    execTimerFire n s = .next ((s.waitUntil (ckAoCeil (s.now + (s.fd (R.EVT_TMR_CMP_TIME n) - s.time.toNat) * 1000))).timerFires n) := by
  rw [execTimerFire, hl, he]
  rfl

theorem State.waitUntil_fd (s : State) (t : Nat) (x : Field) : (s.waitUntil t).fd x = s.fd x := State.fd_congr (State.rg_congr rfl rfl _)

/-- Settles O23. The EPC of a kind-4 record is the core's EPC register (log entry 51), BUSY, DONE and OVW lie where log entry 54 puts
them, and the length of a doorbell is taken as it is written (log entry 89). -/
theorem eventRows : Obligations.EventRows := by
  refine ⟨?_, ?_, ?_, fun s w m v hw => ⟨fun hbusy => ?_, fun hbusy => ?_⟩, fun s w m v hw => ?_⟩
  · intro s q h rest hheld hq hroom
    rw [← hq] at hroom ⊢
    exact congrArg Host.Outcome.next ((congrArg s.releaseHeld hq.symm).trans (State.releaseHeld_oldest hheld hroom))
  · rintro s u c h b hh hov rfl hb rfl
    exact execHandlerBudgetExceeded_once hh hov hb
  · rintro s u n cmp per hl he rfl rfl rfl
    refine ⟨fun hp => ?_, fun hp hlt => ?_⟩
    · refine (execTimerFire_enabled hl he).trans (congrArg _ ?_)
      rw [State.timerFires_oneShot _ _ ((s.waitUntil_fd _ _).trans hp), State.timerPosted]
      rfl
    · refine (execTimerFire_enabled hl he).trans (congrArg _ ?_)
      rw [State.timerFires_periodic _ _ (s.waitUntil_fd _ _).symm hp rfl hlt]
      rfl
  · refine congrArg _ ((s.regCommand_of_reaches w _ v _ hw).trans ?_)
    rw [State.mbxDb, hbusy]
    rfl
  · refine congrArg _ ((s.regCommand_of_reaches w _ v _ hw).trans ?_)
    rw [State.mbxDb, hbusy]
    rfl
  · exact congrArg _ (s.regCommand_of_reaches w _ v _ hw)

end Sys2Proof.Machine
end

section
/-! PROOFS. The boot of the device and the handover of a cluster to an image: O31 (R149, R150, R152, R153, R157, R663). -/

namespace Sys2Proof.Machine

/-! ### The choice of an image (R152) -/

section
variable {s : State} (a b : ImageCheck) (ra rb : Nat)

theorem State.bootChoose_neither (ha : ra ≠ 0) (hb : rb ≠ 0) :
    s.bootChoose a b ra rb =
      let v := ((((s.setFd R.SEC_BOOT_STS_RESA ra).setFd R.SEC_BOOT_STS_RESB rb).setFb R.SEC_BOOT_STS_RECOV true).setFb
        R.GLB_RSTC_RECOV true).setFd R.GLB_STS_PHASE 1
      ((List.range 128).filter fun p => v.mgmtPort p).foldl (fun t p => t.train p) { v with pwr := { v.pwr with boot := 5 } } :=
  if_pos ⟨ha, hb⟩

theorem State.bootChoose_first (ha : ra = 0) (h : rb ≠ 0 ∨ b.seq.toNat ≤ a.seq.toNat) :
    s.bootChoose a b ra rb = ((s.setFd R.SEC_BOOT_STS_RESA ra).setFd R.SEC_BOOT_STS_RESB rb).bootFrom false a.seq := by
  rw [State.bootChoose, if_neg fun hn => hn.1 ha, if_pos (h.imp_right fun h => ⟨ha, h⟩)]

theorem State.bootChoose_second (hb : rb = 0) (h : ra ≠ 0 ∨ a.seq.toNat < b.seq.toNat) :
    s.bootChoose a b ra rb = ((s.setFd R.SEC_BOOT_STS_RESA ra).setFd R.SEC_BOOT_STS_RESB rb).bootFrom true b.seq := by
  rw [State.bootChoose, if_neg fun hn => hn.2 hb, if_neg]
  rintro (hn | ⟨ha, hle⟩)
  · exact hn hb
  · exact h.elim (fun h => h ha) fun h => Nat.not_lt.mpr hle h

theorem execBootImageChosen_boot (hboot : s.pwr.boot = 1) (hl : s.live 22 = true) (hv : s.pwr.vigilBoot = none) :
    execBootImageChosen a b s = .next (s.bootChoose a b (a.code Config.svnFused.toNat Config.ownerFused)
      (b.code Config.svnFused.toNat Config.ownerFused)) := by
  simp only [execBootImageChosen, hboot, hl, hv]
  rfl

end

/-- The state after the choice names the flash, the running flash and the sequence number of the image (R152). -/
theorem State.bootFrom_fields (s : State) (f : Bool) (q : Word) : (s.bootFrom f q).fb R.SEC_BOOT_STS_FLASH = f ∧
    (s.bootFrom f q).fb R.SEC_BOOT_STS_RUN = f ∧ (s.bootFrom f q).rg R.SEC_RUNSEQ = q ∧ (s.bootFrom f q).pwr.boot = 2 ∧
    (s.bootFrom f q).sec.clusterImg = [] := by
  have hsts : tableView R.SEC_BOOT_STS = none := by decide
  have hseq : tableView R.SEC_RUNSEQ = none := by decide
  have hrg (x : Nat) : (s.bootFrom f q).rg x =
      (((s.setFb R.SEC_BOOT_STS_FLASH f).setFb R.SEC_BOOT_STS_RUN f).setRg R.SEC_RUNSEQ q).rg x := State.rg_congr rfl rfl x
  have hboot : (s.bootFrom f q).rg R.SEC_BOOT_STS = ((s.setFb R.SEC_BOOT_STS_FLASH f).setFb R.SEC_BOOT_STS_RUN f).rg R.SEC_BOOT_STS :=
    (hrg _).trans (State.rg_setRg_ne _ _ _ _ hseq (by decide))
  refine ⟨?_, ?_, ?_, rfl, rfl⟩
  · refine (State.fb_congr hboot).trans ?_
    rw [State.fb, State.setFb, State.fd_setFd_apart _ _ _ _ hsts (by decide) (by decide)]
    exact State.fb_setFb s R.SEC_BOOT_STS_FLASH f hsts (by decide) rfl
  · exact (State.fb_congr hboot).trans (State.fb_setFb _ R.SEC_BOOT_STS_RUN f hsts (by decide) rfl)
  · exact (hrg _).trans ((State.rg_setRg _ _ _ _ hseq hseq).trans (if_pos rfl))

/-! ### The copies (R153, R157) -/

theorem execBootEarlyCopied_boot {s : State} (img : List Byte) (hboot : s.pwr.boot = 2) : execBootEarlyCopied img s =
    .next (let u := ((imgSections img).filter fun x => x.first).foldl (fun t x => t.bootSection img x) s
      ((({ u with pwr := { u.pwr with boot := 3 } }).setCen ⟨0, 0⟩ true).coreStart ⟨0, 0⟩).settle) :=
  congrArg _ (if_neg (not_not.mpr hboot))

theorem execBootSectionsCopied_boot {s : State} (img : List Byte) (hboot : s.pwr.boot = 3) : execBootSectionsCopied img s =
    .next (let u := ((imgSections img).filter fun x => !x.first).foldl (fun t x => t.bootSection img x) s
      let v := (u.setFb R.SEC_BOOT_STS_DONE true).setFd R.GLB_STS_PHASE 2
      ({ v with pwr := { v.pwr with boot := 4, vigilBoot := none } }).settle) :=
  congrArg _ (if_neg (not_not.mpr hboot))

/-- The images that the clusters hold after one of them has taken an image (R157). -/
def State.heldImages (s : State) (cl : Nat) (b : Bool) (img : List Byte) : SMap (Option (Bool × Word)) :=
  (s.copyCluster cl img).sec.clusterImg.set none cl (some (b, imgSeq img))

section
variable {s : State} {cl : Fin 4} (b : Bool) (img : List Byte) (hl : s.live 22 = true) (hc : s.live (13 + cl.val) = true)
include hl hc

/-- A cluster takes an image, which runs when all four have it (R157). -/
theorem State.handOver_live : s.handOver cl b img =
    let u : State := { s.copyCluster cl img with sec := { (s.copyCluster cl img).sec with clusterImg := s.heldImages cl b img } }
    if ∀ c : Fin 4, (s.heldImages cl b img).get none c.val = some (b, imgSeq img) then
      (u.setRg R.SEC_RUNSEQ (imgSeq img)).setFb R.SEC_BOOT_STS_RUN b
    else u := by
  have hall : (((List.range 4).all fun c => (s.heldImages cl b img).get none c = some (b, imgSeq img)) = true) ↔
      ∀ c : Fin 4, (s.heldImages cl b img).get none c.val = some (b, imgSeq img) := by
    simp [Fin.forall_iff]
  rw [State.handOver, if_neg (by simp [hl, hc])]
  exact if_congr hall rfl rfl

end

/-- The sections of an image that go to a cluster's memory, when there is one section and it does (R157). -/
theorem State.copyCluster_one (s : State) {cl : Nat} {img : List Byte} {x : Section} (hx : imgSections img = [x])
    (hk : x.kind = 1 ∨ x.kind = 2) (hm : natField cl 1 x.clusters = 1) (hd : x.dest < cmemSize) :
    s.copyCluster cl img = s.storeCluster cl x.dest ((x.bytes img).take (cmemSize - x.dest)) := by
  rw [State.copyCluster, hx, List.filter_cons_of_pos (by simp [hk, hm, hd])]
  rfl

/-- Settles O31. -/
theorem bootRows : Obligations.BootRows := by
  refine ⟨?_, ?_, ?_, ?_, fun s cl img x hx hk hm hd => s.copyCluster_one hx hk hm hd⟩
  · rintro s u a b ra rb hboot hl hv rfl rfl rfl
    have hexec := execBootImageChosen_boot a b hboot hl hv
    refine ⟨fun ha hb v hv => ?_, fun ha h => ?_, fun hb h => ?_, ?_⟩
    · exact hexec.trans (congrArg _ (hv ▸ State.bootChoose_neither a b _ _ ha hb))
    · exact hexec.trans (congrArg _ (State.bootChoose_first a b _ _ ha h))
    · exact hexec.trans (congrArg _ (State.bootChoose_second a b _ _ hb h))
    · rintro f q t rfl
      exact State.bootFrom_fields _ f q
  · rintro s u img hboot rfl
    exact execBootEarlyCopied_boot img hboot
  · rintro s u img hboot rfl v rfl
    exact execBootSectionsCopied_boot img hboot
  · rintro s u cl b img hdr tbl rest m hl hc rfl rfl rfl
    have htakes := State.handOver_live b (hdr ++ tbl ++ rest) hl hc
    refine ⟨fun hother => ?_, fun hall => ?_⟩
    · exact congrArg _ (htakes.trans (if_neg (not_forall.mpr hother)))
    · exact congrArg _ (htakes.trans (if_pos hall))

end Sys2Proof.Machine
end

section
/-! PROOFS. What reset leaves: O60. -/

namespace Sys2Proof.Machine

/-- No register is listed after reset, so each holds its reset value. -/
theorem State.reset_rg {a : Nat} (ha : tableView a = none) : State.reset.rg a = regReset a := by
  unfold State.rg
  rw [ha]
  rfl

/-- No byte is listed after reset. -/
theorem State.reset_tByte (a : Nat) : State.reset.tByte a = 0 := rfl

/-- PWR_STS resets with no domain on, so VDD_AO's domain alone is alive (R641). -/
theorem State.reset_live {d : Fin 25} (hd : d ≠ 0) : State.reset.live d = false := by
  have hsts : State.reset.rg R.PWR_STS = 0 := State.reset_rg (by decide)
  have hd' : ¬ (d : Nat) = 0 := fun h => hd (Fin.ext h)
  simp [State.live, hd', hsts, natField]

/-- Settles O60: the lists of the state after reset are empty, so that each read falls back on the reset value of what it reads. -/
theorem resetState : Obligations.ResetState :=
  ⟨reset_memory_wf, reset_registers_wf, rfl, fun _ => State.reset_rg, State.reset_tByte, rfl, rfl, fun _ => State.reset_live, fun _ => rfl,
    rfl, rfl, rfl, rfl, rfl⟩

end Sys2Proof.Machine
end

section
/-! PROOFS. The operations on fields, cores, events and tables keep the canonical forms of memory and registers, and those beside the ports
keep the state of the links too. -/

namespace Sys2Proof.Machine

/-! ### What is kept -/

/-- The registers that tell of a PCIe/CXL port's link and its resets: PRT[p]_LSTS and PRT[p]_RST. -/
def linkReg (a : Nat) : Bool :=
  decide (0x400000 ≤ a) && decide (a < 0x600000) && decide (a % 0x4000 < 0x20) && decide (a % 16 = 8)

theorem linkReg_above {a : Nat} (h : 0x600000 ≤ a) : linkReg a = false := by
  simp [linkReg, Nat.not_lt.mpr h]

theorem linkReg_even {a : Nat} (h : a % 16 = 0) : linkReg a = false := by
  simp [linkReg, h]

theorem linkReg_beside {a : Nat} (h : 0x20 ≤ a % 0x4000) : linkReg a = false := by
  simp [linkReg, Nat.not_lt.mpr h]

/-! #### Registers that are none of a link -/

theorem linkReg_evtQSts {i : Nat} : linkReg (R.EVT_Q_STS i) = false := linkReg_even (by unfold R.EVT_Q_STS; omega)

theorem linkReg_cclFlthd {i : Nat} : linkReg (R.CCL_FLTHD i) = false := linkReg_even (by unfold R.CCL_FLTHD; omega)

theorem linkReg_cclFlt {i j : Nat} (hj : j < 256) : linkReg (R.CCL_FLT i j) = false := linkReg_beside (by unfold R.CCL_FLT; omega)

theorem linkReg_hplPsts {i : Nat} : linkReg (R.HPL_PSTS i) = false := linkReg_above (Nat.le_add_right_of_le (by decide))

theorem linkReg_prtVdl {p v : Nat} (hv : v < 256) : linkReg (R.PRT_VDL p v) = false := linkReg_beside (by unfold R.PRT_VDL; omega)

theorem linkReg_ffnFnCnt {i : Nat} : linkReg (R.FFN_FN_CNT i) = false := linkReg_even (by unfold R.FFN_FN_CNT; omega)

theorem linkReg_mirSesCnt {i : Nat} : linkReg (R.MIR_SES_CNT i) = false := linkReg_even (by unfold R.MIR_SES_CNT; omega)

theorem linkReg_fnPba {f : Nat} : linkReg (R.FN_PBA f) = false := linkReg_above (Nat.le_add_right_of_le (by decide))

theorem linkReg_fnLogCfg {f : Nat} : linkReg (R.FN_LOG_CFG f) = false := linkReg_above (Nat.le_add_right_of_le (by decide))

theorem linkReg_dlCtl {k : Nat} : linkReg (R.DL_CTL k) = false := linkReg_above (Nat.le_add_right_of_le (by decide))

theorem linkReg_dlSts {k : Nat} : linkReg (R.DL_STS k) = false := linkReg_above (Nat.le_add_right_of_le (by decide))

theorem linkReg_dmaChSts {e n : Nat} : linkReg (R.DMA_CH_STS e n) = false := linkReg_above (by unfold R.DMA_CH_STS; omega)

theorem linkReg_dmaChFaddr {e n : Nat} : linkReg (R.DMA_CH_FADDR e n) = false := linkReg_above (by unfold R.DMA_CH_FADDR; omega)

/-- The operations of which something is kept: those beside the ports, or all of them. -/
inductive Extent where
  | beside
  | all

/-- What is kept from a state to one with the given stores. -/
structure KeepsStores (ε : Extent) (s : State) (regs : SMap Word) (tmem cmem : SMap Byte) (ports : SMap PciPort) (ups : SMap UpBridge)
    (perstIn : BitVec 32) : Prop where
  memory : Memory.wf s = true → SMap.wf (fun _ => 0) tmem = true ∧ SMap.wf (fun _ => 0) cmem = true
  registers : Registers.wf s = true → SMap.wf regReset regs = true
  beside : ε = .beside → ports = s.ports ∧ ups = s.ups ∧ perstIn = s.perstIn ∧
    ∀ a, linkReg a = true → regs.getD regReset a = s.regs.getD regReset a

/-- What operations of an extent keep from one state to another. It speaks of the stores alone, so an update of anything else keeps it by
definition. -/
def State.Keeps (s : State) (ε : Extent) (t : State) : Prop := KeepsStores ε s t.regs t.tmem t.cmem t.ports t.ups t.perstIn

/-- A virtual device below a port has one of 256 numbers. -/
theorem State.bindings_lt {s : State} {b : Nat × Nat} (hb : b ∈ s.bindings) : b.2 < 256 := by
  obtain ⟨kv, -, hkv⟩ := List.mem_filterMap.mp hb
  split at hkv
  · simp only [Option.ite_none_right_eq_some, Option.some.injEq] at hkv
    obtain ⟨⟨_, hlt, _⟩, rfl⟩ := hkv
    exact Nat.div_lt_of_lt_mul (by omega)
  · cases hkv

namespace State.Keeps

variable {ε : Extent} {s₀ s t : State}

theorem refl : s.Keeps ε s :=
  ⟨fun h => by simpa [Memory.wf] using h, id, fun _ => ⟨rfl, rfl, rfl, fun _ _ => rfl⟩⟩

/-- An operation beside the ports, as one of all. -/
theorem all (h : s₀.Keeps ε s) : s₀.Keeps .all s := ⟨h.memory, h.registers, nofun⟩

theorem either {u : State} {p : Prop} {_ : Decidable p} (h : s₀.Keeps ε t) (h' : s₀.Keeps ε u) : s₀.Keeps ε (if p then t else u) := by
  split
  · exact h
  · exact h'

theorem eitherFst {α : Type} {r q : State × α} {p : Prop} {_ : Decidable p} (h : s₀.Keeps ε r.1) (h' : s₀.Keeps ε q.1) :
    s₀.Keeps ε (if p then r else q).1 := by
  split
  · exact h
  · exact h'

theorem getDFst {α : Type} {o : Option (State × α)} {r : State × α} (ho : ∀ {t a}, o = some (t, a) → s₀.Keeps ε t)
    (h : s₀.Keeps ε r.1) : s₀.Keeps ε (o.getD r).1 := by
  cases o with
  | none => exact h
  | some r => exact ho rfl

theorem foldl {α : Type} {l : List α} {f : State → α → State} (h : s₀.Keeps ε s)
    (hf : ∀ {t a}, s₀.Keeps ε t → s₀.Keeps ε (f t a)) : s₀.Keeps ε (l.foldl f s) := by
  induction l generalizing s with
  | nil => exact h
  | cons a l ih => exact ih (hf h)

theorem foldlFst {α β : Type} {l : List α} {f : State × β → α → State × β} {b : β} (h : s₀.Keeps ε s)
    (hf : ∀ {r a}, s₀.Keeps ε r.1 → s₀.Keeps ε (f r a).1) : s₀.Keeps ε (l.foldl f (s, b)).1 := by
  suffices ∀ r : State × β, s₀.Keeps ε r.1 → s₀.Keeps ε (l.foldl f r).1 from this (s, b) h
  intro r h
  induction l generalizing r with
  | nil => exact h
  | cons a l ih => exact ih _ (hf h)

theorem of_fst {α : Type} {r : State × α} {a : α} (h : s₀.Keeps ε r.1) (e : r = (t, a)) : s₀.Keeps ε t := by
  rwa [e] at h

theorem eitherSnd {α : Type} {r q : α × State} {p : Prop} {_ : Decidable p} (h : s₀.Keeps ε r.2) (h' : s₀.Keeps ε q.2) :
    s₀.Keeps ε (if p then r else q).2 := by
  split
  · exact h
  · exact h'

theorem foldlMem {α : Type} {l : List α} {f : State → α → State} (h : s₀.Keeps ε s)
    (hf : ∀ {t a}, a ∈ l → s₀.Keeps ε t → s₀.Keeps ε (f t a)) : s₀.Keeps ε (l.foldl f s) := by
  induction l generalizing s with
  | nil => exact h
  | cons a l ih => exact ih (hf (.head l) h) fun ha => hf (.tail _ ha)

theorem foldlSnd {α β : Type} {l : List α} {f : β × State → α → β × State} {b : β} (h : s₀.Keeps ε s)
    (hf : ∀ {r a}, s₀.Keeps ε r.2 → s₀.Keeps ε (f r a).2) : s₀.Keeps ε (l.foldl f (b, s)).2 := by
  suffices ∀ r : β × State, s₀.Keeps ε r.2 → s₀.Keeps ε (l.foldl f r).2 from this (b, s) h
  intro r h
  induction l generalizing r with
  | nil => exact h
  | cons a l ih => exact ih _ (hf h)

/-! ### Fields, counts, Almanac records and events -/

theorem bumpFv (h : s₀.Keeps ε s) : s₀.Keeps ε s.bumpFv := h

theorem setTByte {a : Nat} {b : Byte} (h : s₀.Keeps ε s) : s₀.Keeps ε (s.setTByte a b) :=
  ⟨fun hm => ⟨SMap.wf_set _ _ _ (h.memory hm).1, (h.memory hm).2⟩, h.registers, h.beside⟩

theorem setTBytes {a : Nat} {l : List Byte} (h : s₀.Keeps ε s) : s₀.Keeps ε (s.setTBytes a l) := by
  induction l generalizing s a with
  | nil => exact h
  | cons b l ih => exact ih h.setTByte

theorem setTWord {a : Nat} {w : Word} (h : s₀.Keeps ε s) : s₀.Keeps ε (s.setTWord a w) := h.setTBytes

theorem setCByte {c a : Nat} {b : Byte} (h : s₀.Keeps .all s) : s₀.Keeps .all (s.setCByte c a b) :=
  ⟨fun hm => ⟨(h.memory hm).1, SMap.wf_set _ _ _ (h.memory hm).2⟩, h.registers, nofun⟩

theorem setCBytes {c a : Nat} {l : List Byte} (h : s₀.Keeps .all s) : s₀.Keeps .all (s.setCBytes c a l) := by
  induction l generalizing s a with
  | nil => exact h
  | cons b l ih => exact ih h.setCByte

/-- A write of a register that is none of a link. -/
theorem setRgOff {a : Nat} {w : Word} (h : s₀.Keeps ε s) (ha : linkReg a = false) : s₀.Keeps ε (s.setRg a w) := by
  unfold State.setRg
  split
  · exact h.setTWord
  · refine ⟨h.memory, fun hr => SMap.wf_setD _ _ _ (h.registers hr), fun he => ?_⟩
    obtain ⟨hp, hu, hi, hregs⟩ := h.beside he
    refine ⟨hp, hu, hi, fun b hb => ?_⟩
    rw [SMap.getD_setD, if_neg (by rintro rfl; simp [hb] at ha)]
    exact hregs b hb

theorem setFdOff {f : Field} {v : Nat} (h : s₀.Keeps ε s) (ha : linkReg f.reg = false) : s₀.Keeps ε (s.setFd f v) := h.setRgOff ha
theorem setFbOff {f : Field} {b : Bool} (h : s₀.Keeps ε s) (ha : linkReg f.reg = false) : s₀.Keeps ε (s.setFb f b) := h.setRgOff ha
theorem addFdOff {f : Field} {n : Nat} (h : s₀.Keeps ε s) (ha : linkReg f.reg = false) : s₀.Keeps ε (s.addFd f n) := h.setRgOff ha

theorem setRg {a : Nat} {w : Word} (h : s₀.Keeps .all s) : s₀.Keeps .all (s.setRg a w) := by
  unfold State.setRg
  split
  · exact h.setTWord
  · exact ⟨h.memory, fun hr => SMap.wf_setD _ _ _ (h.registers hr), nofun⟩

theorem setFd {f : Field} {v : Nat} (h : s₀.Keeps .all s) : s₀.Keeps .all (s.setFd f v) := h.setRg
theorem setFb {f : Field} {b : Bool} (h : s₀.Keeps .all s) : s₀.Keeps .all (s.setFb f b) := h.setFd
theorem addFd {f : Field} {n : Nat} (h : s₀.Keeps .all s) : s₀.Keeps .all (s.addFd f n) := h.setFd
theorem waitUntil {t : Nat} (h : s₀.Keeps .all s) : s₀.Keeps .all (s.waitUntil t) := h
theorem cnt {k n : Nat} (h : s₀.Keeps ε s) : s₀.Keeps ε (s.cnt k n) := either h h
theorem cntDev {i n : Nat} (h : s₀.Keeps ε s) : s₀.Keeps ε (s.cntDev i n) := h.cnt
theorem cntPort {p k n : Nat} (h : s₀.Keeps ε s) : s₀.Keeps ε (s.cntPort p k n) := either h h.cnt
theorem cntTnt {t k n : Nat} (h : s₀.Keeps ε s) : s₀.Keeps ε (s.cntTnt t k n) := h.cnt
theorem cntCore {c : CoreId} {k : Nat} (h : s₀.Keeps ε s) : s₀.Keeps ε (s.cntCore c k) := h.cntDev

/-! A new value of a store of its own changes none of the stores that the relation speaks of. -/

theorem withPending {l : List Instr} (h : s₀.Keeps ε s) : s₀.Keeps ε { s with pending := l } := h

theorem withNow {n : Nat} (h : s₀.Keeps ε s) : s₀.Keeps ε { s with now := n } := h
theorem withFv {n : Nat} (h : s₀.Keeps ε s) : s₀.Keeps ε { s with fv := n } := h
theorem withAlm {x : AlmState} (h : s₀.Keeps ε s) : s₀.Keeps ε { s with alm := x } := h
theorem withEvt {x : EvtState} (h : s₀.Keeps ε s) : s₀.Keeps ε { s with evt := x } := h
theorem withLdg {x : LdgState} (h : s₀.Keeps ε s) : s₀.Keeps ε { s with ldg := x } := h
theorem withSes {x : SesState} (h : s₀.Keeps ε s) : s₀.Keeps ε { s with ses := x } := h
theorem withTbl {x : TblState} (h : s₀.Keeps ε s) : s₀.Keeps ε { s with tbl := x } := h
theorem withHpl {x : HplState} (h : s₀.Keeps ε s) : s₀.Keeps ε { s with hpl := x } := h
theorem withSch {x : SchState} (h : s₀.Keeps ε s) : s₀.Keeps ε { s with sch := x } := h
theorem withFfn {x : FfnState} (h : s₀.Keeps ε s) : s₀.Keeps ε { s with ffn := x } := h
theorem withDma {x : DmaState} (h : s₀.Keeps ε s) : s₀.Keeps ε { s with dma := x } := h
theorem withPwr {x : PwrState} (h : s₀.Keeps ε s) : s₀.Keeps ε { s with pwr := x } := h
theorem withSec {x : SecState} (h : s₀.Keeps ε s) : s₀.Keeps ε { s with sec := x } := h
theorem withPcn {x : PcnState} (h : s₀.Keeps ε s) : s₀.Keeps ε { s with pcn := x } := h
theorem withGln {x : GlnState} (h : s₀.Keeps ε s) : s₀.Keeps ε { s with gln := x } := h
theorem withSvc {x : SvcState} (h : s₀.Keeps ε s) : s₀.Keeps ε { s with svc := x } := h
theorem emit {o : Output} (h : s₀.Keeps ε s) : s₀.Keeps ε (s.emit o) := h
theorem setCore {n : Nat} {k : Core} (h : s₀.Keeps ε s) : s₀.Keeps ε (s.setCore n k) := h
theorem glnPut {r : List Byte} (h : s₀.Keeps ε s) : s₀.Keeps ε (s.glnPut r) := h

theorem almAppend {src flags code : Nat} {p0 p1 : Word} (h : s₀.Keeps ε s) : s₀.Keeps ε (s.almAppend src flags code p0 p1) :=
  setFdOff h.withAlm rfl

theorem almSuppress {t : Trigger} (h : s₀.Keeps ε s) : s₀.Keeps ε (s.almSuppress t) := h.almAppend.addFdOff rfl

theorem almTrigger {code recSeq : Nat} (h : s₀.Keeps ε s) : s₀.Keeps ε (s.almTrigger code recSeq) := by
  unfold State.almTrigger
  extract_lets
  have hpend : ∀ {u : State} {x : AlmState}, s₀.Keeps ε u → s₀.Keeps ε (({ u with alm := x }).setFb R.ALM_STS_PEND true) :=
    fun hu => setFbOff hu.withAlm rfl
  split
  · exact h
  · split
    · exact h.almAppend.almSuppress
    · split
      · exact either h.almAppend.almSuppress (hpend h.almAppend)
      · exact either (hpend h.almAppend.almSuppress) h.almAppend.almSuppress

theorem almRecord {src flags code : Nat} {p0 p1 : Word} (h : s₀.Keeps ε s) : s₀.Keeps ε (s.almRecord src flags code p0 p1) :=
  either h.almAppend.almTrigger h.almAppend

theorem almSource {src : Src} {kind : Nat} (h : s₀.Keeps ε s) : s₀.Keeps ε (s.almSource src kind) := h.almRecord.bumpFv.bumpFv
theorem wearRearm {kind idx : Nat} (h : s₀.Keeps .all s) : s₀.Keeps .all (s.wearRearm kind idx) := h
theorem setEvq {q : Nat} {l : List Event} (h : s₀.Keeps ε s) : s₀.Keeps ε (s.setEvq q l) := h

theorem queueEvent {src q : Nat} {e : Event} (h : s₀.Keeps ε s) : s₀.Keeps ε (s.queueEvent src q e) :=
  either (either h.setEvq h) (either (h.addFdOff linkReg_evtQSts) h)

theorem postEvent {src : Src} {unit : Nat} {q : Option Nat} {typ arg : Nat} {detail : Word} (h : s₀.Keeps ε s) :
    s₀.Keeps ε (s.postEvent src unit q typ arg detail) := by
  unfold State.postEvent
  extract_lets
  split
  · exact h.almRecord
  · exact h.almRecord.queueEvent

theorem errorReport {src : Src} {unit : Nat} {q : Option Nat} {merged code : Nat} {detail : Word} (h : s₀.Keeps ε s) :
    s₀.Keeps ε (s.errorReport src unit q merged code detail) :=
  h.postEvent

theorem badAccess {off : Nat} (h : s₀.Keeps .all s) : s₀.Keeps .all (s.badAccess off) := h.setFb.setFd

theorem regCommand {w : Writer} {off : Nat} {v : Word} {effect : State → State} (h : s₀.Keeps .all s)
    (hf : ∀ {t}, s₀.Keeps .all t → s₀.Keeps .all (effect t)) :
    s₀.Keeps .all (s.regCommand w off v effect) :=
  either h (either h.badAccess (either (hf h) h))

theorem setVdp {p v : Nat} {x : VdpState} (h : s₀.Keeps ε s) : s₀.Keeps ε (s.setVdp p v x) := h

theorem slotEvent {p v en : Nat} {f : VdpState → VdpState} (h : s₀.Keeps ε s) : s₀.Keeps ε (s.slotEvent p v en f) :=
  either h.setVdp.emit h.setVdp

theorem slotDll {p v : Nat} (h : s₀.Keeps ε s) : s₀.Keeps ε (s.slotDll p v) := h.slotEvent
theorem slotPresence {p v : Nat} (h : s₀.Keeps ε s) : s₀.Keeps ε (s.slotPresence p v) := h.slotEvent

/-! ### Operands -/

theorem setCtx {c : CoreId} {x : Ctx} (h : s₀.Keeps ε s) : s₀.Keeps ε (s.setCtx c x) := h.setCore
theorem setGreg {c : CoreId} {n : Nat} {v : Word} (h : s₀.Keeps ε s) : s₀.Keeps ε (s.setGreg c n v) := h.setCtx

/-! ### The cores -/

theorem faultRecord {cl kind core : Nat} {w1 w2 : Option Word} {code detail : Option Nat} (h : s₀.Keeps ε s) :
    s₀.Keeps ε (s.faultRecord cl kind core w1 w2 code detail) := by
  unfold State.faultRecord
  extract_lets i
  have hi : i < 64 := Nat.mod_lt _ (Nat.two_pow_pos 6)
  have hrec : ∀ {k : Nat}, k < 4 → linkReg (R.CCL_FLT cl (4 * i + k)) = false := fun hk => linkReg_cclFlt (by omega)
  exact setFdOff (setRgOff (setRgOff (setRgOff (setRgOff h (hrec (k := 0) (by decide))) (hrec (by decide))) (hrec (by decide)))
    (hrec (by decide))) linkReg_cclFlthd

theorem coreFaultEvent {cl core kind i : Nat} (h : s₀.Keeps ε s) : s₀.Keeps ε (s.coreFaultEvent cl core kind i) := h.postEvent

theorem itagIssue {c : CoreId} {word : Nat} (h : s₀.Keeps .all s) : s₀.Keeps .all (s.itagIssue c word) :=
  either h (either (setCore h) h)

theorem itagAddr {c : CoreId} {a : Word} (h : s₀.Keeps .all s) : s₀.Keeps .all (s.itagAddr c a) := by
  unfold State.itagAddr
  extract_lets
  split
  · exact h
  · exact h.setCore

theorem itagEnd {c : CoreId} {how code : Nat} (h : s₀.Keeps ε s) : s₀.Keeps ε (s.itagEnd c how code) := by
  unfold State.itagEnd
  extract_lets
  split
  · exact h
  · exact either h.setCore (addFdOff (glnPut (withFv h.setCore)) rfl)

theorem retire {c : CoreId} (h : s₀.Keeps ε s) : s₀.Keeps ε (s.retire c) := h.itagEnd.cntCore

theorem raise {c : CoreId} {code detail : Nat} {tval : Word} (h : s₀.Keeps ε s) : s₀.Keeps ε (s.raise c code detail tval) :=
  either h.itagEnd.setCore.faultRecord.coreFaultEvent h.itagEnd.cntCore.setCore

theorem goto {c : CoreId} {pc : Word} (h : s₀.Keeps ε s) : s₀.Keeps ε (s.goto c pc) := h.retire.setCtx
theorem advance {c : CoreId} (h : s₀.Keeps ε s) : s₀.Keeps ε (s.advance c) := h.goto

theorem coreExec {c : CoreId} {word : Nat} {legal guard : Bool} {f : State → State} (h : s₀.Keeps .all s)
    (hf : ∀ {t}, s₀.Keeps .all t → s₀.Keeps .all (f t)) :
    s₀.Keeps .all (s.coreExec c word legal guard f) :=
  either h (either h.itagIssue.raise (either h.itagIssue.raise (either h.itagIssue.advance (hf h.itagIssue))))

theorem coreStart {c : CoreId} (h : s₀.Keeps .all s) : s₀.Keeps .all (s.coreStart c) := h.setCore
theorem coreHold {c : CoreId} (h : s₀.Keeps .all s) : s₀.Keeps .all (s.coreHold c) := h.setCore
theorem coreDrained {c : CoreId} (h : s₀.Keeps .all s) : s₀.Keeps .all (s.coreDrained c) := either h.coreStart h.coreHold
theorem coreWarmReset {c : CoreId} (h : s₀.Keeps .all s) : s₀.Keeps .all (s.coreWarmReset c) := either h.coreDrained h.setCore
theorem dropRecord {c : CoreId} {b : BufStore} (h : s₀.Keeps .all s) : s₀.Keeps .all (s.dropRecord c b) := h.faultRecord
theorem dropStores {c : CoreId} (h : s₀.Keeps .all s) : s₀.Keeps .all (s.dropStores c) := h.foldl fun h => h.dropRecord

theorem loadApply {c : CoreId} {r : LoadReq} {bs : List Byte} (h : s₀.Keeps ε s) : s₀.Keeps ε (s.loadApply c r bs) :=
  either h.setGreg.setGreg h.setGreg

theorem loadFinish {c : CoreId} {r : LoadReq} {res : LoadResult} (h : s₀.Keeps ε s) : s₀.Keeps ε (s.loadFinish c r res) := by
  unfold State.loadFinish
  extract_lets
  split
  · exact h.setCtx.loadApply.advance
  · exact h.setCtx.raise

theorem coreLoadDone {c : CoreId} {e : Nat} {res : LoadResult} (h : s₀.Keeps ε s) : s₀.Keeps ε (s.coreLoadDone c e res) := by
  unfold State.coreLoadDone
  extract_lets
  split
  · exact either h.loadFinish h.setCore
  · exact h.setCore

theorem coreStoreDone {c : CoreId} {e i : Nat} (h : s₀.Keeps ε s) : s₀.Keeps ε (s.coreStoreDone c e i) := h.setCore

theorem coreStoreFail {c : CoreId} {e i reason : Nat} (h : s₀.Keeps ε s) : s₀.Keeps ε (s.coreStoreFail c e i reason) := by
  unfold State.coreStoreFail
  extract_lets
  split
  · exact h
  · exact h.setCore.coreStoreDone

theorem startHandler {c : CoreId} {q : Nat} {x : Ctx} {saved : List Ctx} (h : s₀.Keeps .all s) :
    s₀.Keeps .all (s.startHandler c q x saved) := by
  unfold State.startHandler
  split
  · exact h
  · exact cntDev (cntCore (withEvt h.setEvq.setCore))

theorem dispatchTo {c : CoreId} {q : Nat} (h : s₀.Keeps .all s) : s₀.Keeps .all (s.dispatchTo c q) :=
  either h h.itagEnd.startHandler

theorem endHandler {c : CoreId} (h : s₀.Keeps .all s) : s₀.Keeps .all (s.endHandler c) := by
  unfold State.endHandler
  split
  · exact h.setCore.advance
  · extract_lets
    split
    · exact h.retire.setCore
    · exact h.retire.startHandler

/-! ### Handlers, timers and mailboxes -/

theorem releaseHeld {q : Nat} (h : s₀.Keeps .all s) : s₀.Keeps .all (s.releaseHeld q) := by
  unfold State.releaseHeld
  split
  · split
    · exact h
    · exact withEvt h.setEvq
  · exact h

theorem evtQCfg {q : Nat} {v : Word} (h : s₀.Keeps .all s) : s₀.Keeps .all (s.evtQCfg q v) := by
  unfold State.evtQCfg
  extract_lets _ _ _ s1
  have h1 : s₀.Keeps .all s1 := h.setFd.setFd.setFd.setFd.setFd.setFd
  exact either h1.setFb (either h1.setFb.setFb h1.setFb)

theorem timerFires {n : Nat} (h : s₀.Keeps .all s) : s₀.Keeps .all (s.timerFires n) :=
  either h.bumpFv.postEvent.addFd.setFb h.bumpFv.postEvent.addFd.setFd

theorem mbxDb {m : Nat} {v : Word} (h : s₀.Keeps .all s) : s₀.Keeps .all (s.mbxDb m v) :=
  either h.setFb h.setFd.setFd.setFb.postEvent

theorem setCen {c : CoreId} {b : Bool} (h : s₀.Keeps .all s) : s₀.Keeps .all (s.setCen c b) := h.setFd
theorem coreEnable {c : CoreId} (h : s₀.Keeps .all s) : s₀.Keeps .all (s.coreEnable c) := either h.setCen h.setCen.coreStart
theorem coreDisable {c : CoreId} (h : s₀.Keeps .all s) : s₀.Keeps .all (s.coreDisable c) := either h.setCen.coreWarmReset h.setCen
theorem coreWrst {c : CoreId} (h : s₀.Keeps .all s) : s₀.Keeps .all (s.coreWrst c) := either h.coreWarmReset h
theorem wdtKick {cl : Nat} (h : s₀.Keeps .all s) : s₀.Keeps .all (s.wdtKick cl) := h

theorem wdtExpire {cl : Fin 4} (h : s₀.Keeps .all s) : s₀.Keeps .all (s.wdtExpire cl) := by
  unfold State.wdtExpire
  extract_lets _ _ _ s1
  have h1 : s₀.Keeps .all s1 := h.bumpFv.foldl fun h => either h.coreWrst h
  exact h1.faultRecord.coreFaultEvent.wdtKick.setFd.almTrigger

/-! ### Marks, reservations and the tables -/

theorem setMark {m : Option (Nat × Nat)} (h : s₀.Keeps .all s) : s₀.Keeps .all (s.setMark m) := by
  unfold State.setMark
  split
  · exact h
  · exact h

theorem advanceRr {k : Option Nat} (h : s₀.Keeps ε s) : s₀.Keeps ε (s.advanceRr k) := by
  unfold State.advanceRr
  split
  · exact h
  · exact h

theorem advanceFor {v fid : Nat} (h : s₀.Keeps ε s) : s₀.Keeps ε (s.advanceFor v fid) := h.advanceRr

theorem clearResv {mine : Nat → Bool} {table : Bool} {a n : Nat} (h : s₀.Keeps .all s) : s₀.Keeps .all (s.clearResv mine table a n) :=
  h

theorem storeTable {a : Nat} {bs : List Byte} (h : s₀.Keeps .all s) : s₀.Keeps .all (s.storeTable a bs) := h.setTBytes.clearResv

theorem storeCluster {cl a : Nat} {bs : List Byte} (h : s₀.Keeps .all s) : s₀.Keeps .all (s.storeCluster cl a bs) :=
  h.setCBytes.clearResv

end State.Keeps
end Sys2Proof.Machine
end

section
/-! PROOFS. The operations on packets, the ledger, functions and sessions keep the canonical forms and, beside the ports, the state of
the links. -/

namespace Sys2Proof.Machine
namespace State.Keeps

variable {ε : Extent} {s₀ s t : State}

/-! ### Packets -/

theorem setPkt {k : Pkt} (h : s₀.Keeps ε s) : s₀.Keeps ε (s.setPkt k) := h
theorem movePkt {k : Pkt} (h : s₀.Keeps ε s) : s₀.Keeps ε (s.movePkt k) := h
theorem addPkt {k : Pkt} (h : s₀.Keeps ε s) : s₀.Keeps ε (s.addPkt k) := h

theorem drainCheck (h : s₀.Keeps ε s) : s₀.Keeps ε s.drainCheck :=
  h.foldl fun h => either (either (emit (setFbOff h rfl)) (setFbOff h rfl)) h

theorem storeMark (h : s₀.Keeps ε s) : s₀.Keeps ε s.storeMark := either h (either h h)

theorem progDrained {n before : Nat} (h : s₀.Keeps ε s) : s₀.Keeps ε (s.progDrained n before) :=
  either (h.setFbOff linkReg_hplPsts) h

theorem dropPkt {id : Nat} (h : s₀.Keeps ε s) : s₀.Keeps ε (s.dropPkt id) := by
  unfold State.dropPkt
  split
  · exact h
  · refine drainCheck (storeMark ?_)
    split
    · exact progDrained h
    · exact h

theorem traceEnd {t : Trace} {reason : Nat} {failed : Bool} (h : s₀.Keeps ε s) : s₀.Keeps ε (s.traceEnd t reason failed) :=
  either h ((h.glnPut.addFdOff rfl).cntTnt)

theorem pktTraceEnd {k : Pkt} {reason : Nat} {failed : Bool} (h : s₀.Keeps ε s) : s₀.Keeps ε (s.pktTraceEnd k reason failed) := by
  unfold State.pktTraceEnd
  split
  · exact h
  · exact h.traceEnd.setPkt

theorem itemTraceEnd {idx i reason : Nat} {failed : Bool} (h : s₀.Keeps ε s) : s₀.Keeps ε (s.itemTraceEnd idx i reason failed) := by
  unfold State.itemTraceEnd
  extract_lets
  split
  · exact h.foldl fun h => h.pktTraceEnd
  · extract_lets s2
    have h2 : s₀.Keeps ε s2 := (h.foldl fun h => h.pktTraceEnd).foldl fun h => h.traceEnd
    exact h2

theorem setPort {p : Nat} {x : PciPort} (h : s₀.Keeps .all s) : s₀.Keeps .all (s.setPort p x) := ⟨h.memory, h.registers, nofun⟩

theorem shedMirror {ok : State → Bool} {n : Nat} (h : s₀.Keeps ε s) : s₀.Keeps ε (s.shedMirror ok n) := by
  induction n generalizing s with
  | zero => exact h
  | succ n ih =>
    unfold State.shedMirror
    split
    · exact h
    · split
      · exact h
      · exact ih (h.dropPkt.addFdOff linkReg_mirSesCnt).cntDev

theorem drawC {p id n : Nat} {q : Pool} (h : s₀.Keeps ε s) (e : s.drawC p id n = some (t, q)) : s₀.Keeps ε t := by
  obtain ⟨_, _, he⟩ := Option.map_eq_some_iff.mp e
  cases he
  exact h.shedMirror

/-! ### Edge messages -/

theorem sendMsg {typ ses dfid code sctx seq subj : Nat} {arg : Word} (h : s₀.Keeps ε s) :
    s₀.Keeps ε (s.sendMsg typ ses dfid code sctx seq subj arg) := by
  unfold State.sendMsg
  extract_lets
  split
  · exact h
  · split
    · exact h
    · refine storeMark ?_
      split
      · exact h.advanceFor.addPkt
      · next _ _ e =>
          exact (h.advanceFor.drawC e).addPkt

theorem setSctx {c : Nat} {x : Option SendCtx} (h : s₀.Keeps ε s) : s₀.Keeps ε (s.setSctx c x) := h
theorem setRctx {c : Nat} {x : Option RecvCtx} (h : s₀.Keeps ε s) : s₀.Keeps ε (s.setRctx c x) := h

theorem receipt {rctx : Nat} (h : s₀.Keeps ε s) : s₀.Keeps ε (s.receipt rctx) := by
  unfold State.receipt
  split
  · exact h
  · exact h.setRctx.sendMsg.cntPort

theorem answer {rctx code seq : Nat} {arg : Word} (h : s₀.Keeps .all s) : s₀.Keeps .all (s.answer rctx code seq arg) := by
  unfold State.answer
  split
  · exact h
  · exact h.sendMsg.cntPort

theorem coverable {rctx seq : Nat} (h : s₀.Keeps ε s) : s₀.Keeps ε (s.coverable rctx seq) := by
  unfold State.coverable
  split
  · exact h
  · exact either h (either h.setRctx.receipt h.setRctx)

theorem sendSrc {c typ code seq : Nat} {arg : Word} (h : s₀.Keeps ε s) : s₀.Keeps ε (s.sendSrc c typ code seq arg) := by
  unfold State.sendSrc
  split
  · exact h
  · exact h.sendMsg

theorem notice {c typ code seq : Nat} {arg : Word} (h : s₀.Keeps ε s) : s₀.Keeps ε (s.notice c typ code seq arg) := by
  unfold State.notice
  split
  · exact h
  · exact h.setSctx.sendSrc

theorem skipNumbers {l : List (Nat × Nat)} (h : s₀.Keeps ε s) : s₀.Keeps ε (s.skipNumbers l) := h.foldl fun h => h.notice

theorem skipCopy {k : Pkt} (h : s₀.Keeps ε s) : s₀.Keeps ε (s.skipCopy k) := by
  unfold State.skipCopy
  split
  · exact h.dropPkt
  · exact h.dropPkt.skipNumbers

theorem sendEvict {k : Pkt} {kind : Nat} (h : s₀.Keeps ε s) : s₀.Keeps ε (s.sendEvict k kind) := either h h.sendMsg.cntPort
theorem sendFail {k : Pkt} {reason : Nat} (h : s₀.Keeps ε s) : s₀.Keeps ε (s.sendFail k reason) := h.sendMsg.cntPort

/-- GONE is set in a state that keeps it. -/
theorem setGoneIf {p v : Nat} (hset : ∀ {t : State}, s₀.Keeps ε t → s₀.Keeps ε (t.setFb (R.PRT_VDL_GONE p v) true)) (h : s₀.Keeps ε s) :
    s₀.Keeps ε (s.setGone p v) := by
  unfold State.setGone
  extract_lets _ s1 s2 s3
  have h1 : s₀.Keeps ε s1 := hset h
  have h2 : s₀.Keeps ε s2 := either h1.slotDll h1
  have h3 : s₀.Keeps ε s3 := either h2.slotPresence h2
  exact either h.setVdp h3.setVdp

theorem setGoneOff {p v : Nat} (h : s₀.Keeps ε s) (hv : v < 256) : s₀.Keeps ε (s.setGone p v) :=
  setGoneIf (fun h => h.setFbOff (linkReg_prtVdl hv)) h

/-! ### Virtual slots -/

theorem setGone {p v : Nat} (h : s₀.Keeps .all s) : s₀.Keeps .all (s.setGone p v) := setGoneIf (fun h => h.setFb) h

theorem goneFor {fid : Nat} (h : s₀.Keeps ε s) : s₀.Keeps ε (s.goneFor fid) :=
  h.foldlMem fun hb h => h.setGoneOff (s.bindings_lt (List.mem_of_mem_filter hb))

theorem proxyAnswer {p v fid status : Nat} {read : Bool} (h : s₀.Keeps ε s) : s₀.Keeps ε (s.proxyAnswer p v fid status read) :=
  either h (either (either h.setVdp.slotDll h.setVdp) (either h.setVdp h))

/-! ### The ledger -/

theorem updEntry {i : Nat} {f : Entry → Entry} (h : s₀.Keeps ε s) : s₀.Keeps ε (s.updEntry i f) := h
theorem delEntry {i : Nat} (h : s₀.Keeps ε s) : s₀.Keeps ε (s.delEntry i) := h

theorem drawEntry {k : Pkt} {role i : Nat} (h : s₀.Keeps ε s) (e : s.drawEntry k role = some (t, i)) : s₀.Keeps ε t := by
  unfold State.drawEntry at e
  split at e
  · cases e
  · split at e
    · cases e
    · cases e
      exact cntDev (bumpFv h.withLdg)

theorem tagLost {e : Entry} {reason : Nat} (h : s₀.Keeps ε s) : s₀.Keeps ε (s.tagLost e reason) := by
  unfold State.tagLost
  extract_lets
  split
  · exact h
  · exact either h h

theorem ldgReport {t reason idx : Nat} (h : s₀.Keeps ε s) : s₀.Keeps ε (s.ldgReport t reason idx) := either (postEvent h) h
theorem sendRecord {r : Rec} {hfid token : Nat} (h : s₀.Keeps ε s) : s₀.Keeps ε (s.sendRecord r hfid token) := h.sendMsg.cntDev

theorem sendRecords (h : s₀.Keeps ε s) : s₀.Keeps ε s.sendRecords :=
  h.foldl fun h => by
    split
    · exact either (sendRecord h) h
    · exact h

theorem placeRecord {r : Rec} {toZero : Bool} {idx : Nat} (h : s₀.Keeps ε s) : s₀.Keeps ε (s.placeRecord r toZero idx) := by
  unfold State.placeRecord
  extract_lets _ _ _ _ _ _ _ _ s1 s2 s3 s4
  have h2 : s₀.Keeps ε s2 := cntTnt h.withLdg
  have h3 : s₀.Keeps ε s3 := either h2.ldgReport h2
  have h4 : s₀.Keeps ε s4 := either h3.ldgReport h3
  exact either h4 h4.sendRecords

theorem putRecord {r : Rec} {toZero : Bool} {idx : Nat} (h : s₀.Keeps ε s) : s₀.Keeps ε (s.putRecord r toZero idx) :=
  either h.placeRecord h

theorem placeWaiting (h : s₀.Keeps .all s) : s₀.Keeps .all s.placeWaiting := foldl h fun h => h.putRecord

theorem sendCpl {p status : Nat} {withData : Bool} {data : List Byte} {rid tag tc attrs addr : Nat} (h : s₀.Keeps ε s) :
    s₀.Keeps ε (s.sendCpl p status withData data rid tag tc attrs addr) :=
  either h (either (h.foldlFst fun h => h.emit) h.emit)

theorem sendCxl {p code : Nat} {poison : Bool} {tag : Nat} {data : List Byte} (h : s₀.Keeps ε s) :
    s₀.Keeps ε (s.sendCxl p code poison tag data) :=
  either h h.emit

theorem failResponse {e : Entry} {failrd : Nat} (h : s₀.Keeps ε s) : s₀.Keeps ε (s.failResponse e failrd) :=
  either h.sendCxl (either h.sendCxl (either h.sendCxl (either h (either h.sendCpl (either h.sendCpl (either h.sendCpl h.sendCpl))))))

theorem failOwn {e : Entry} {i reason failrd : Nat} (h : s₀.Keeps ε s) : s₀.Keeps ε (s.failOwn e i reason failrd) :=
  either h (either (either h.coreLoadDone h.coreStoreFail) h)

theorem countFailed {e : Entry} (h : s₀.Keeps ε s) : s₀.Keeps ε (s.countFailed e) :=
  (((h.addFdOff rfl).cntTnt).cntPort).cntPort

theorem failItem {e : Entry} {i reason remaining : Nat} (h : s₀.Keeps ε s) : s₀.Keeps ε (s.failItem e i reason remaining) := by
  unfold State.failItem
  extract_lets _ _ s1
  have h1 : s₀.Keeps ε s1 := either h.countFailed.itemTraceEnd.goneFor.goneFor h.countFailed.itemTraceEnd
  split
  · exact either h1.failResponse h1.failOwn
  · exact (either h1.failResponse h1.failOwn).putRecord

theorem setEntry {e : Entry} (h : s₀.Keeps ε s) : s₀.Keeps ε (s.setEntry e) := h

theorem failItems {idx reason : Nat} {l : List Nat} (h : s₀.Keeps ε s) : s₀.Keeps ε (s.failItems idx reason l) := by
  induction l generalizing s with
  | nil => exact h
  | cons i l ih =>
    unfold State.failItems
    split
    · exact h
    · refine either h.setEntry (ih ?_)
      split
      · exact h.failItem
      · exact h.failItem.setEntry

theorem releasePkts {idx : Nat} (h : s₀.Keeps ε s) : s₀.Keeps ε (s.releasePkts idx) :=
  (h.foldl fun h => by
    extract_lets t1
    have h1 : s₀.Keeps ε t1 := by
      unfold t1
      split
      · exact h.cntDev
      · exact h
    exact either h1.setPkt h1.dropPkt).skipNumbers

theorem retireIfDone {idx : Nat} (h : s₀.Keeps ε s) : s₀.Keeps ε (s.retireIfDone idx) := by
  unfold State.retireIfDone
  split
  · exact h
  · exact either h.releasePkts.delEntry h

theorem failDest {e : Entry} {reason : Nat} (h : s₀.Keeps ε s) : s₀.Keeps ε (s.failDest e reason) := by
  unfold State.failDest
  extract_lets _ _ _ s2
  have h2 : s₀.Keeps ε s2 := h.countFailed.itemTraceEnd.sendMsg.tagLost.coverable
  exact ((h2.foldl fun h => h.dropPkt).delEntry).cntPort

theorem setAside {idx : Nat} (h : s₀.Keeps ε s) : s₀.Keeps ε (s.setAside idx) :=
  h.foldl fun h => by
    extract_lets
    split
    · exact h.setPkt.progDrained.cntDev
    · exact h.setPkt

theorem resolve {idx reason : Nat} (h : s₀.Keeps ε s) : s₀.Keeps ε (s.resolve idx reason) := by
  unfold State.resolve
  split
  · exact h
  · extract_lets s1 s2 s3 s4
    have h1 : s₀.Keeps ε s1 := h.cntDev
    have h2 : s₀.Keeps ε s2 := either h1.ldgReport h1
    have h3 : s₀.Keeps ε s3 := either h2.tagLost h2
    have h4 : s₀.Keeps ε s4 := h3.updEntry
    exact either h (either h2.failDest (either (h2.delEntry.foldl fun h => h.sendFail.pktTraceEnd.dropPkt)
      (either h2.itemTraceEnd.releasePkts.delEntry h4.setAside.failItems.retireIfDone)))

theorem resolveWhere {f : Entry → Bool} {reason : Nat} (h : s₀.Keeps ε s) : s₀.Keeps ε (s.resolveWhere f reason) :=
  h.foldl fun h => h.resolve

theorem resumeResolving (h : s₀.Keeps .all s) : s₀.Keeps .all s.resumeResolving :=
  h.placeWaiting.foldl fun h => h.failItems.retireIfDone

theorem voidEntry {e : Entry} (h : s₀.Keeps ε s) : s₀.Keeps ε (s.voidEntry e) :=
  either h.releasePkts.delEntry.setCore h.releasePkts.delEntry

theorem deliverItems {idx upto : Nat} (h : s₀.Keeps .all s) : s₀.Keeps .all (s.deliverItems idx upto) := by
  unfold State.deliverItems
  split
  · exact h
  · split
    · exact h
    · extract_lets _ _ s1
      have h1 : s₀.Keeps .all s1 := ((h.foldl fun h => h.itemTraceEnd).updEntry).retireIfDone
      exact either (h1.foldl fun h => h.coreStoreDone) (either h1 h1)

/-! ### Upstream bridges -/

theorem setUp {p : Nat} {x : UpBridge} (h : s₀.Keeps .all s) : s₀.Keeps .all (s.setUp p x) := ⟨h.memory, h.registers, nofun⟩

/-! ### Functions and dirty logs -/

theorem setFn {f : Nat} {x : FnState} (h : s₀.Keeps ε s) : s₀.Keeps ε (s.setFn f x) := h

theorem hostWrite {f : Nat} {addr : Word} {data : List Byte} (h : s₀.Keeps .all s) : s₀.Keeps .all (s.hostWrite f addr data) := by
  unfold State.hostWrite
  split
  · exact h
  · exact h.emit

theorem msix {f vec : Nat} (h : s₀.Keeps ε s) : s₀.Keeps ε (s.msix f vec) := either h (either h.emit (h.setRgOff linkReg_fnPba))

theorem msixFlush {f : Nat} (h : s₀.Keeps .all s) : s₀.Keeps .all (s.msixFlush f) :=
  either (h.foldl fun h => either h.setRg.emit h) h

theorem mgrVector {vec : Nat} (h : s₀.Keeps .all s) : s₀.Keeps .all (s.mgrVector vec) := by
  unfold State.mgrVector
  split
  · exact h
  · exact h.msix

theorem logVector {f : Nat} (h : s₀.Keeps .all s) : s₀.Keeps .all (s.logVector f) := either h.setFn h.setFn.msix

theorem logWrite {f : Nat} (h : s₀.Keeps .all s) : s₀.Keeps .all (s.logWrite f) := by
  unfold State.logWrite
  split
  · exact h
  · split
    · exact h
    · exact resumeResolving (either (logVector h.hostWrite.addFd) h.hostWrite.addFd)

/-- The state that has counted the completion is a variable here: the kernel would else evaluate it. -/
theorem lateCpl {p rid tag : Nat} (h : s₀.Keeps ε s) : s₀.Keeps ε (s.lateCpl p rid tag) := by
  rw [show State.lateCpl = _ by delta State.lateCpl; rfl]
  obtain ⟨s1, hs1⟩ : ∃ s1, (s.addFd R.LDG_CNT_LATE 1).cntDev 1543 1 = s1 := ⟨_, rfl⟩
  have h1 : s₀.Keeps ε s1 := hs1 ▸ (h.addFdOff rfl).cntDev
  rw [hs1]
  extract_lets
  split
  · exact h1
  · split
    · exact h1
    · exact h1.addFdOff linkReg_ffnFnCnt

theorem dlPurge {k : Nat} (h : s₀.Keeps ε s) : s₀.Keeps ε (s.dlPurge k) := h

theorem dlRecords {k n : Nat} {l : List Word} (h : s₀.Keeps .all s) : s₀.Keeps .all (s.dlRecords k n l) := by
  induction n generalizing s l with
  | zero => exact h
  | succ n ih =>
    cases l with
    | nil => exact h
    | cons w l => exact either h (either h.setFb.dlPurge (ih (addFd h.hostWrite)))

theorem dlSyncEnd {k : Nat} (h : s₀.Keeps .all s) : s₀.Keeps .all (s.dlSyncEnd k) := by
  unfold State.dlSyncEnd
  split
  · exact h
  · extract_lets
    split
    · exact setFd (setFb (dlRecords h))
    · exact msix (setFd (setFb (dlRecords h)))

theorem dlFlush {f : DlEntry → Bool} (h : s₀.Keeps .all s) : s₀.Keeps .all (s.dlFlush f) :=
  foldl h fun h => h.dlSyncEnd.dlRecords

theorem dlPage {k page : Nat} (h : s₀.Keeps .all s) : s₀.Keeps .all (s.dlPage k page) := by
  unfold State.dlPage
  extract_lets u s1
  have hu : s₀.Keeps .all u := by
    unfold u
    split
    · exact h
    · exact h.cntTnt
  refine either hu (either hu.dlSyncEnd.dlRecords (either hu (withFfn ?_)))
  unfold s1
  refine either hu ?_
  split
  · exact hu
  · exact hu.dlFlush

theorem dlSent {p : Nat} {x : Pkt} (h : s₀.Keeps .all s) : s₀.Keeps .all (s.dlSent p x) :=
  either h (h.foldl fun h => h.foldl fun h => h.dlPage)

theorem dlCtl {k : Nat} {v : Word} (h : s₀.Keeps .all s) : s₀.Keeps .all (s.dlCtl k v) :=
  either (either h.setFb h) (either h.setFd.setFd.setFd.setFd
    (either h.setFd.setFd.setFd.setFd.setFb.setFd.setFd h.setFd.setFd.setFd.setFd.setFb))

theorem dlSyncStart {k token : Nat} (h : s₀.Keeps .all s) : s₀.Keeps .all (s.dlSyncStart k token) :=
  either h.setFb h.setFb.dlFlush

theorem dlReset {p : Nat} (h : s₀.Keeps ε s) : s₀.Keeps ε (s.dlReset p) :=
  h.foldl fun h => by
    extract_lets t1
    have h1 : s₀.Keeps ε t1 := ((h.setFbOff linkReg_dlCtl).setFbOff linkReg_dlSts).dlPurge
    exact h1

/-! ### Queues and the edges of the fabric -/

theorem enqueue {k : Pkt} {q : Nat} (h : s₀.Keeps ε s) : s₀.Keeps ε (s.enqueue k q) := withLdg h.movePkt

theorem growCopies {id : Nat} {bs : List Byte} {last : Bool} (h : s₀.Keeps .all s) : s₀.Keeps .all (s.growCopies id bs last) :=
  h.foldl fun h => h.setPkt

theorem mirrorCopy {ses : Nat} {k : Pkt} {port reason : Nat} {egress dropped : Bool} (h : s₀.Keeps .all s) :
    s₀.Keeps .all (s.mirrorCopy ses k port reason egress dropped) :=
  either h (either h.addFd (either h.glnPut.addFd.cntPort (either h.addFd h.addPkt.addFd.cntPort)))

theorem evictPkt {k : Pkt} {kind : Nat} (h : s₀.Keeps ε s) : s₀.Keeps ε (s.evictPkt k kind) := by
  unfold State.evictPkt
  refine dropPkt ?_
  split
  · exact h.sendEvict.pktTraceEnd
  · exact h.sendEvict.itemTraceEnd.delEntry

theorem pushOut {rank n : Nat} {ok : State → Bool} (h : s₀.Keeps ε s) : s₀.Keeps ε (s.pushOut rank ok n) := by
  induction n generalizing s with
  | zero => exact h
  | succ n ih =>
    unfold State.pushOut
    split
    · exact h
    · split
      · exact h
      · exact ih h.evictPkt.cntPort.cntDev

theorem makeRoom {k : Pkt} {ok short : State → Bool} (h : s₀.Keeps ε s) : s₀.Keeps ε (s.makeRoom k ok short) :=
  either h (either h.shedMirror (either (either h.shedMirror.pushOut h.shedMirror) h.shedMirror))

theorem draw {k : Pkt} {n : Nat} {f : State → Option Pool} {q : Pool} (h : s₀.Keeps ε s) (e : s.draw k n f = some (t, q)) :
    s₀.Keeps ε t := by
  obtain ⟨_, _, he⟩ := Option.map_eq_some_iff.mp e
  cases he
  exact h.makeRoom.cntDev

theorem waitArrival {k : Pkt} {q : Nat} (h : s₀.Keeps ε s) : s₀.Keeps ε (s.waitArrival k q) := h.setPkt
theorem ownJoin {e : Entry} {i : Nat} (h : s₀.Keeps ε s) : s₀.Keeps ε (s.ownJoin e i) := either h.setCore (either h h)

theorem openEntry {k : Pkt} {q role : Nat} {c : Option Nat} (h : s₀.Keeps ε s) : s₀.Keeps ε (s.openEntry k q role c).1 := by
  unfold State.openEntry
  split
  · exact h
  · split
    · exact h.ownJoin.delEntry.updEntry.cntDev
    · exact h.updEntry

theorem completeEntry {k : Pkt} {e : Entry} (h : s₀.Keeps ε s) : s₀.Keeps ε (s.completeEntry k e) :=
  either h.cntTnt.itemTraceEnd.releasePkts.delEntry h.cntTnt.updEntry

theorem ownResponse {k : Pkt} {e : Entry} (h : s₀.Keeps ε s) : s₀.Keeps ε (s.ownResponse k e) :=
  either (either h.completeEntry.dropPkt
    (either h.completeEntry.dropPkt.proxyAnswer h.completeEntry.dropPkt.coreLoadDone)) h.completeEntry.setPkt

theorem deliverCpl {k : Pkt} {q : Nat} (h : s₀.Keeps ε s) : s₀.Keeps ε (s.deliverCpl k q) := by
  unfold State.deliverCpl
  extract_lets e cov
  have hcov : ∀ {t : State}, s₀.Keeps ε t → s₀.Keeps ε (cov t) := fun ht => by
    unfold cov
    split
    · exact ht
    · exact ht.coverable
  split
  · exact hcov h.lateCpl.dropPkt
  · exact either (hcov h.lateCpl.dropPkt) (either (hcov h.ownResponse) h.completeEntry.enqueue)

theorem checkDelivered {k : Pkt} {e : Nat} (h : s₀.Keeps ε s) : s₀.Keeps ε (s.checkDelivered k e) := by
  unfold State.checkDelivered
  split
  · exact h
  · split
    · exact h.resolve
    · split
      · exact h.resolve
      · exact h.resolve.bumpFv
      · split
        · exact h
        · exact either h.voidEntry h.resolve
      · exact h

theorem deliverPkt {k : Pkt} {q : Nat} (h : s₀.Keeps ε s) : s₀.Keeps ε (s.deliverPkt k q) := by
  have hopen : s₀.Keeps ε (s.openEntry k q 3 none).1 := h.openEntry
  exact either h.deliverCpl (checkDelivered (enqueue hopen))

theorem bumpNext {r : Nat} (h : s₀.Keeps ε s) : s₀.Keeps ε (s.bumpNext r) := by
  unfold State.bumpNext
  split
  · exact h
  · exact h.setRctx

theorem advanceNext {r n : Nat} (h : s₀.Keeps ε s) : s₀.Keeps ε (s.advanceNext r n) := by
  induction n generalizing s with
  | zero => exact h
  | succ n ih =>
    unfold State.advanceNext
    split
    · exact h
    · split
      · exact ih h.bumpNext
      · split
        · exact h.setRctx
        · exact ih h.deliverPkt.bumpNext

theorem consume {r seq : Nat} (h : s₀.Keeps ε s) : s₀.Keeps ε (s.consume r seq) := by
  unfold State.consume
  split
  · exact h
  · exact either h h.setRctx

theorem discard {k : Pkt} (h : s₀.Keeps ε s) : s₀.Keeps ε (s.discard k) := by
  unfold State.discard
  refine dropPkt ?_
  split
  · exact h.pktTraceEnd
  · exact h.itemTraceEnd.delEntry

theorem failRevoked {k : Pkt} {fuel : Nat} (h : s₀.Keeps ε s) : s₀.Keeps ε (s.failRevoked k fuel) :=
  h.sendFail.discard.consume.advanceNext

theorem destEdge {k : Pkt} {q : Nat} (h : s₀.Keeps ε s) : s₀.Keeps ε (s.destEdge k q) := by
  unfold State.destEdge
  extract_lets r e
  have hdeclined : ∀ {t : State}, s₀.Keeps ε t → s₀.Keeps ε (((t.addFd R.SES_CNT_DECLINED 1).cntPort k.inPort 55 1).evictPkt k 4) :=
    fun h => (h.addFdOff rfl).cntPort.evictPkt
  split
  · exact h.discard
  · refine either h.discard.receipt (either h.discard (either h.discard (either (hdeclined h) (either h.failRevoked
      (either (advanceNext (bumpNext (deliverPkt ?_))) (either (cntPort (movePkt h.makeRoom))
        (addFdOff h.makeRoom rfl).cntPort.evictPkt))))))
    exact eitherFst h (getDFst h.draw h)

theorem sendOpen {o : Opening} (h : s₀.Keeps ε s) : s₀.Keeps ε (s.sendOpen o) := by
  unfold State.sendOpen
  extract_lets _ c put
  clear_value c
  split
  · exact h.withSes
  · exact cntPort (sendMsg (withSes h.bumpFv))

theorem markSent {k : Pkt} (h : s₀.Keeps ε s) : s₀.Keeps ε (s.markSent k) := by
  unfold State.markSent
  split
  · exact h
  · split
    · exact h
    · exact either h h.setSctx

theorem sendLocal {k : Pkt} {q : Nat} (h : s₀.Keeps ε s) : s₀.Keeps ε (s.sendLocal k q) := by
  unfold State.sendLocal
  extract_lets _ _ _ s2 _ s2'
  have h2 : s₀.Keeps ε s2' := withTbl (addPkt (setPkt h.markSent))
  split
  · exact h2.destEdge
  · split
    · exact h2.dropPkt
    · next _ _ e => exact destEdge (setPkt (h2.drawEntry e))

theorem dropCut {k : Pkt} (h : s₀.Keeps ε s) : s₀.Keeps ε (s.dropCut k) := by
  unfold State.dropCut
  refine skipCopy ?_
  split
  · exact h
  · exact h.delEntry

theorem launch {k : Pkt} {q : Nat} (h : s₀.Keeps ε s) : s₀.Keeps ε (s.launch k q) :=
  either h.enqueue (either h.sendLocal h.dropCut)

theorem numberPkt {k : Pkt} {q c : Nat} (h : s₀.Keeps ε s) : s₀.Keeps ε (s.numberPkt k q c) := by
  unfold State.numberPkt
  split
  · exact h
  · refine launch (setPkt ?_)
    split
    · exact either (((eitherFst h.openEntry h).setSctx).updEntry) ((eitherFst h.openEntry h).setSctx)
    · exact (eitherFst h.openEntry h).setSctx

theorem releaseHeldFor {key : OpenKey} {c : Nat} (h : s₀.Keeps .all s) : s₀.Keeps .all (s.releaseHeldFor key c) :=
  h.foldl fun h => h.numberPkt

theorem fabricTag {k k' : Pkt} (h : s₀.Keeps ε s) (e : s.fabricTag k = some (t, k')) : s₀.Keeps ε t := by
  unfold State.fabricTag at e
  split at e
  · cases e; exact h
  · split at e
    · cases e; exact h
    · split at e
      · cases e; exact h.updEntry
      · split at e
        · cases e
        · cases e; exact h.bumpFv.updEntry

theorem countAdmitted {k : Pkt} (h : s₀.Keeps ε s) : s₀.Keeps ε (s.countAdmitted k) := either h h.cntTnt.cntTnt

theorem sourceEdge {k : Pkt} {q : Nat} (h : s₀.Keeps ε s) : s₀.Keeps ε (s.sourceEdge k q) := by
  unfold State.sourceEdge
  extract_lets
  refine either h.waitArrival.resolve (either h.waitArrival ?_)
  split
  · exact h.waitArrival
  · next s₁ _ e =>
    have h₁ : s₀.Keeps ε s₁ := by
      split at e
      · exact h.fabricTag e
      · cases e; exact h
    split
    · exact h.waitArrival
    · next s₂ _ e =>
      have h₂ : s₀.Keeps ε s₂ := h₁.draw e
      extract_lets s3 _ s4
      have h3 : s₀.Keeps ε s3 := by
        unfold s3
        split
        · split
          · exact h₂.completeEntry
          · exact h₂
        · exact h₂
      have h4 : s₀.Keeps ε s4 := countAdmitted (setPkt h3)
      split
      · exact either (enqueue h4.openEntry) (checkDelivered (enqueue h4.openEntry))
      · split
        · exact h4.numberPkt
        · have h5 : ∀ {u : State} {p : Prop} {_ : Decidable p} {k : Pkt}, s₀.Keeps ε u →
              s₀.Keeps ε ((if p then (u, k) else (s4, k)).1) := fun hu => eitherFst hu h4
          exact either (movePkt (h5 h4.updEntry)) (sendOpen (withSes (movePkt (h5 h4.updEntry))))

theorem transit {k : Pkt} {q : Nat} (h : s₀.Keeps .all s) : s₀.Keeps .all (s.transit k q) := by
  unfold State.transit
  split
  next s1 pool e =>
  have h1 : s₀.Keeps .all s1 := of_fst (getDFst (fun e => h.draw e) h) e
  split
  next s2 k2 e => exact enqueue (of_fst h1.openEntry e)

theorem leaveLanding {k : Pkt} {q : Nat} (h : s₀.Keeps .all s) : s₀.Keeps .all (s.leaveLanding k q) := by
  unfold State.leaveLanding
  split
  · split
    · exact h
    · split
      · exact h
      · next _ _ e =>
          exact (h.draw e).setPkt
  · exact h

theorem dropNative {k : Pkt} {reason : Nat} (h : s₀.Keeps .all s) : s₀.Keeps .all (s.dropNative k reason) := by
  unfold State.dropNative
  split
  · exact h.evictPkt
  · refine dropPkt ?_
    split
    · exact (either h h.sendFail).pktTraceEnd
    · exact ((either h h.sendFail).itemTraceEnd).delEntry

theorem forwardC {k : Pkt} {q : Nat} (h : s₀.Keeps .all s) : s₀.Keeps .all (s.forwardC k q) := by
  unfold State.forwardC
  extract_lets
  split
  · exact either h.dropNative h.discard
  · split
    · exact h.waitArrival
    · next _ _ e =>
        refine movePkt ?_
        split
        · exact h.drawC e
        · exact (h.drawC e).delEntry

theorem forward {k : Pkt} {q : Nat} (h : s₀.Keeps .all s) : s₀.Keeps .all (s.forward k q) := by
  unfold State.forward
  split
  · exact h.forwardC
  · split
    · exact either h.transit (either h.cntPort.discard h.destEdge)
    · exact h.sourceEdge

theorem retryAdmission {k : Pkt} (h : s₀.Keeps .all s) : s₀.Keeps .all (s.retryAdmission k) := by
  unfold State.retryAdmission
  split
  · exact either h.forward h
  · exact h.leaveLanding
  · exact h

theorem failSession {c reason : Nat} (h : s₀.Keeps .all s) : s₀.Keeps .all (s.failSession c reason) := by
  unfold State.failSession
  split
  · exact h
  · exact either h (notice (withSes h.setSctx.addFd.cntDev))

theorem replayPkt {k : Pkt} {counted : Bool} (h : s₀.Keeps .all s) : s₀.Keeps .all (s.replayPkt k counted) := by
  unfold State.replayPkt
  split
  · exact h
  · split
    · exact h
    · split
      · exact h.failSession
      · extract_lets _ s1
        have h1 : s₀.Keeps .all s1 := by
          unfold s1
          split
          · exact h.updEntry
          · exact h
        split
        · split
          · exact h1.resolve
          · exact h1.skipCopy
        · exact (((either h1 h1.advanceFor).setPkt).launch).cntPort

/-! ### Policers -/

theorem police {i l : Nat} (h : s₀.Keeps .all s) : s₀.Keeps .all (s.police i l).1 :=
  eitherFst h (eitherFst h.addFd (eitherFst (addFd h.withSch) h.withSch.withSch))

theorem bufReport {port code : Nat} {detail : Word} (h : s₀.Keeps ε s) : s₀.Keeps ε (s.bufReport port code detail) :=
  either (either (errorReport h) (either h.errorReport h.errorReport)) h.errorReport

theorem ageOut {k : Pkt} {p : Nat} (h : s₀.Keeps .all s) : s₀.Keeps .all (s.ageOut k p) := h.cntPort.bufReport.evictPkt

/-! ### Sessions -/

theorem failPktItem {k : Pkt} {reason : Nat} (h : s₀.Keeps .all s) : s₀.Keeps .all (s.failPktItem k reason) := by
  unfold State.failPktItem
  split
  · exact h
  · split
    · exact h
    · split
      · exact h.resolve
      · split
        · exact h
        · refine retireIfDone ?_
          split
          · exact h.failItems
          · exact either h.failItems.setPkt h.failItems.skipCopy

theorem failPkts {f : Pkt → Bool} {reason : Nat} (h : s₀.Keeps .all s) : s₀.Keeps .all (s.failPkts f reason) :=
  h.foldl fun h => by
    split
    · exact h
    · exact h.failPktItem

theorem setFence {t : Nat} {on : Bool} (h : s₀.Keeps .all s) : s₀.Keeps .all (s.setFence t on) :=
  either h (either h.setRg.failPkts h.setRg)

theorem onAccept {m : EdgeMsg} (h : s₀.Keeps .all s) : s₀.Keeps .all (s.onAccept m) := by
  unfold State.onAccept
  split
  · exact h
  · extract_lets
    split
    · exact releaseHeldFor (sendMsg h)
    · exact releaseHeldFor (cntDev (setSctx h))

theorem coverUpTo {c seq : Nat} (h : s₀.Keeps .all s) : s₀.Keeps .all (s.coverUpTo c seq) := by
  unfold State.coverUpTo
  split
  · exact h
  · exact either h (h.setSctx.foldl fun h => by
        extract_lets _ t1
        have h1 : s₀.Keeps .all t1 := either ((either h.pktTraceEnd h).setPkt) ((either h.pktTraceEnd h).dropPkt)
        split
        · exact h1
        · exact either h1 h1.deliverItems)

theorem answered {c typ : Nat} {f : Notice → Bool} (h : s₀.Keeps .all s) : s₀.Keeps .all (s.answered c typ f) := by
  unfold State.answered
  split
  · exact h
  · split
    · exact h
    · exact h.setSctx

theorem onDelivery {m : EdgeMsg} (h : s₀.Keeps .all s) : s₀.Keeps .all (s.onDelivery m) := by
  unfold State.onDelivery
  split
  · exact h
  · exact h.cntPort.coverUpTo

theorem onRevokeDone {m : EdgeMsg} (h : s₀.Keeps .all s) : s₀.Keeps .all (s.onRevokeDone m) := by
  unfold State.onRevokeDone
  split
  · exact h
  · exact h.cntPort.answered

theorem onSkipDone {m : EdgeMsg} (h : s₀.Keeps .all s) : s₀.Keeps .all (s.onSkipDone m) := by
  unfold State.onSkipDone
  split
  · exact h
  · exact h.cntPort.answered

theorem freeSctx {c : Nat} (h : s₀.Keeps .all s) : s₀.Keeps .all (s.freeSctx c) := withSes h.setSctx

theorem onAbortDone {m : EdgeMsg} (h : s₀.Keeps .all s) : s₀.Keeps .all (s.onAbortDone m) := by
  unfold State.onAbortDone
  split
  · exact h
  · split
    · exact h
    · exact ((h.cntPort.coverUpTo.foldl fun h => either h.setPkt h.dropPkt).foldl fun h => by
          split
          · exact h
          · split
            · exact h
            · exact either h.resolve (either h h.failItems.retireIfDone)).freeSctx

theorem onCloseDone {m : EdgeMsg} (h : s₀.Keeps .all s) : s₀.Keeps .all (s.onCloseDone m) := by
  unfold State.onCloseDone
  split
  · exact h
  · split
    · exact h
    · exact either h.cntPort.freeSctx h

theorem onEvict {m : EdgeMsg} (h : s₀.Keeps .all s) : s₀.Keeps .all (s.onEvict m) := by
  unfold State.onEvict
  split
  · exact h
  · extract_lets _ k s1
    have h1 : s₀.Keeps .all s1 := cntPort (setPkt h)
    refine either (either h1.skipCopy h1) (either h1 (either h1 (either ?_ h1.replayPkt)))
    split
    · exact h1.skipCopy
    · exact h1.failPktItem

theorem lateFail {m : EdgeMsg} (h : s₀.Keeps .all s) : s₀.Keeps .all (s.lateFail m) := by
  unfold State.lateFail
  dsimp only
  split
  · exact h.putRecord
  · exact h.putRecord

theorem onFail {m : EdgeMsg} (h : s₀.Keeps .all s) : s₀.Keeps .all (s.onFail m) := by
  unfold State.onFail
  extract_lets account
  have haccount : ∀ {t : State}, s₀.Keeps .all t → s₀.Keeps .all (account t) := fun ht => by
    unfold account
    split
    · exact ht
    · exact either ht.skipCopy ht.setPkt
  clear_value account
  split
  · have h1 : s₀.Keeps .all (match s.copyOf m with | none => s | some k => s.setPkt { k with copies := max k.copies 1 }) := by
      split
      · exact h
      · exact h.setPkt
    exact haccount (either h1.resolve h1.failItems.retireIfDone)
  · split
    · exact h.lateFail
    · exact either (haccount h.lateFail) (haccount h)

theorem onOpen {m : EdgeMsg} (h : s₀.Keeps .all s) : s₀.Keeps .all (s.onOpen m) := by
  unfold State.onOpen
  extract_lets
  split
  · exact h.sendMsg
  · split
    · exact h.addFd.sendMsg
    · exact sendMsg (withSes (setRctx h.bumpFv))

theorem dropDest {r : Nat} {k : Pkt} {report : Option Nat} (h : s₀.Keeps .all s) : s₀.Keeps .all (s.dropDest r k report) := by
  unfold State.dropDest
  extract_lets _ s1 s2 s3
  have h1 : s₀.Keeps .all s1 := by
    unfold s1
    split
    · exact h
    · exact h.sendFail
  have h2 : s₀.Keeps .all s2 := by
    unfold s2
    split
    · exact h1
    · refine delEntry ?_
      split
      · exact h1.itemTraceEnd
      · exact h1.itemTraceEnd.tagLost
  have h3 : s₀.Keeps .all s3 := h2.dropPkt
  split
  · exact h3
  · exact either h3.coverable h3.consume

theorem onRevoke {m : EdgeMsg} (h : s₀.Keeps .all s) : s₀.Keeps .all (s.onRevoke m) := by
  unfold State.onRevoke
  extract_lets
  split
  · exact h
  · refine answer ?_
    split
    · exact h
    · extract_lets _ s2
      have h2 : s₀.Keeps .all s2 := h.setRctx.foldl fun h => either h.dropDest h
      exact h2.advanceNext

theorem onSkip {m : EdgeMsg} (h : s₀.Keeps .all s) : s₀.Keeps .all (s.onSkip m) := by
  unfold State.onSkip
  extract_lets r n s1
  have h1 : s₀.Keeps .all s1 := h.foldl fun h => either h h.consume
  split
  · exact h
  · exact h1.advanceNext.answer

theorem endRctx {r code seq : Nat} (h : s₀.Keeps .all s) : s₀.Keeps .all (s.endRctx r code seq) := by
  unfold State.endRctx
  split
  · split
    · exact h
    · exact h.sendMsg
  · exact withSes h.answer.setRctx

theorem onAbort {m : EdgeMsg} (h : s₀.Keeps .all s) : s₀.Keeps .all (s.onAbort m) := by
  unfold State.onAbort
  extract_lets
  split
  · exact h.endRctx
  · exact (h.foldl fun h => h.dropDest).endRctx

theorem onRecord {m : EdgeMsg} (h : s₀.Keeps .all s) : s₀.Keeps .all (s.onRecord m) := either h.sendMsg (either h (sendMsg h))

theorem onRack {m : EdgeMsg} (h : s₀.Keeps .all s) : s₀.Keeps .all (s.onRack m) := by
  unfold State.onRack
  extract_lets
  split
  · exact h
  · exact resumeResolving (sendRecords (cntDev h))

theorem rtimExpiry {r : Nat} (h : s₀.Keeps .all s) : s₀.Keeps .all (s.rtimExpiry r) := by
  unfold State.rtimExpiry
  split
  · exact h
  · exact either h h.waitUntil.receipt

theorem rtmoExpiry {c : Nat} (h : s₀.Keeps .all s) : s₀.Keeps .all (s.rtmoExpiry c) := by
  unfold State.rtmoExpiry
  split
  · exact h
  · split
    · exact h
    · split
      · exact h
      · exact either h.waitUntil.failPktItem h.waitUntil.replayPkt

theorem noticeAgain {c : Nat} {x : SendCtx} {n : Notice} (h : s₀.Keeps .all s) : s₀.Keeps .all (s.noticeAgain c x n) :=
  sendSrc (setSctx h.withNow)

theorem strayAgain {c r fid at_ : Nat} (h : s₀.Keeps .all s) : s₀.Keeps .all (s.strayAgain c r fid at_) := sendMsg h.withNow.withSes

theorem noticeRetry {c : Nat} (h : s₀.Keeps .all s) : s₀.Keeps .all (s.noticeRetry c) := by
  unfold State.noticeRetry
  dsimp only
  split
  · exact h
  · exact h.noticeAgain
  · exact h.strayAgain
  · exact either h.noticeAgain h.strayAgain

theorem openAgain {key : OpenKey} (h : s₀.Keeps .all s) : s₀.Keeps .all (s.openAgain key) := by
  unfold State.openAgain
  split
  · exact h
  · exact either h h.waitUntil.sendOpen

theorem idleClose {c : Nat} (h : s₀.Keeps .all s) : s₀.Keeps .all (s.idleClose c) := by
  unfold State.idleClose
  split
  · exact h
  · exact either h (notice (withSes (setSctx h.withNow)))

theorem skipAged {c : Nat} (h : s₀.Keeps .all s) : s₀.Keeps .all (s.skipAged c) := by
  unfold State.skipAged
  split
  · exact h
  · split
    · exact h
    · exact h.waitUntil.skipCopy

theorem recordsAgain {hfid : Nat} (h : s₀.Keeps .all s) : s₀.Keeps .all (s.recordsAgain hfid) := by
  unfold State.recordsAgain
  extract_lets
  split
  · exact h
  · exact h.waitUntil.foldl fun h => by
        split
        · exact h
        · exact either (sendRecord h) h

theorem consumeMsg {typ : Nat} {m : EdgeMsg} (h : s₀.Keeps .all s) : s₀.Keeps .all (s.consumeMsg typ m) := by
  unfold State.consumeMsg
  split
  · exact h.onOpen
  · exact either h.onAccept h
  · split
    · exact h.onDelivery
    · exact h.onRevokeDone
    · exact h.onSkipDone
    · exact h.onAbortDone
    · exact h.onCloseDone
    · exact h
  · exact h.onEvict
  · exact h.onFail
  · exact h.onRevoke
  · exact h.onSkip
  · exact h.onAbort
  · exact h.endRctx
  · exact h.setFence
  · exact h.onRecord
  · exact h.onRack
  · exact h

end State.Keeps
end Sys2Proof.Machine
end

section
/-! PROOFS. The operations of the pipeline, the DMA engines, the fabric function and the ports keep the canonical forms and, beside the
ports, the state of the links. -/

namespace Sys2Proof.Machine
namespace State.Keeps

variable {ε : Extent} {s₀ s t : State}

/-! ### Synchronisation of an area -/

theorem tblStore {a : Nat} {bs : List Byte} (h : s₀.Keeps .all s) : s₀.Keeps .all (s.tblStore a bs) := either h.setFb h.storeTable

/-! ### Commits, synchronisations and fall-back -/

theorem tblDone (h : s₀.Keeps .all s) : s₀.Keeps .all s.tblDone := setFb (setFb h)

theorem tblReject {r : Reject} (h : s₀.Keeps .all s) : s₀.Keeps .all (s.tblReject r) := by
  unfold State.tblReject
  extract_lets s
  have h : s₀.Keeps .all s := by
    unfold s
    split
    · exact h.cntDev
    · exact h.cntDev
    · exact h
  exact h.tblDone.setFb.setFd.setFd.setFd.bumpFv.bumpFv

theorem tblRequest {t : Nat} {route bad : Bool} {j : TblJob} (h : s₀.Keeps .all s) : s₀.Keeps .all (s.tblRequest t route bad j) :=
  either h.setFb (either (tblReject (setFb (setFd (setFb h)))) (either (tblReject (setFb (setFd (setFb h)))) (setFb (setFd (setFb h)))))

theorem flipVer {who : Option Nat} (h : s₀.Keeps .all s) : s₀.Keeps .all (s.flipVer who) := by
  unfold State.flipVer
  split
  · exact h.setFd
  · exact h.setRg

theorem loadDrain {who : Option Nat} {ids : List Nat} (h : s₀.Keeps .all s) : s₀.Keeps .all (s.loadDrain who ids) :=
  either (either (emit (setFb h)) (setFb h)) h

theorem revokeItem {k : Pkt} (h : s₀.Keeps .all s) : s₀.Keeps .all (s.revokeItem k) := by
  unfold State.revokeItem
  split
  · exact h
  · split
    · exact h
    · split
      · exact h
      · exact either h.sendFail.itemTraceEnd.delEntry.dropPkt h.failPktItem

theorem sendRevokes {t old : Nat} (h : s₀.Keeps .all s) : s₀.Keeps .all (s.sendRevokes t old) :=
  h.foldl fun h => by
    split
    · exact h
    · split
      · exact h
      · exact either h h.notice

theorem flipTenant {t : Nat} {revoke : Bool} (h : s₀.Keeps .all s) : s₀.Keeps .all (s.flipTenant t revoke) :=
  either (drainCheck (foldl (either (sendRevokes (loadDrain h.flipVer)) (loadDrain h.flipVer)) (fun h => h.revokeItem)))
    (loadDrain h.flipVer)

theorem rrsClear {t : Nat} (h : s₀.Keeps .all s) : s₀.Keeps .all (s.rrsClear t) := h.foldl fun h => either h.setVdp h

theorem tblFinish (h : s₀.Keeps .all s) : s₀.Keeps .all s.tblFinish := by
  unfold State.tblFinish
  split
  · split
    · exact h.tblReject
    · exact h.flipTenant.cntDev.tblDone.rrsClear
  · split
    · exact h.tblReject
    · exact tblDone (cntDev (loadDrain h.flipVer))
  · exact h

theorem syncArea {base size off v : Nat} (h : s₀.Keeps .all s) : s₀.Keeps .all (s.syncArea base size off v) := by
  refine clearResv (foldl ?_ fun h => h.setTByte)
  exact ⟨fun hm => ⟨SMap.wf_filter _ _ (h.memory hm).1, (h.memory hm).2⟩, h.registers, nofun⟩

theorem tblSynced (h : s₀.Keeps .all s) : s₀.Keeps .all s.tblSynced := by
  unfold State.tblSynced
  split
  · exact (h.syncArea.foldl fun h => h.syncArea).tblDone
  · extract_lets _ _ s2
    have h2 : s₀.Keeps .all s2 := h.syncArea.syncArea.syncArea.foldl fun h => h.syncArea
    exact (h2.foldl fun h => h.syncArea).tblDone
  · exact h

theorem freeReport {src : Src} {unit : Nat} {q : Option Nat} (h : s₀.Keeps .all s) : s₀.Keeps .all (s.freeReport src unit q) :=
  h.errorReport.bumpFv.bumpFv

theorem fbEnter {command : Bool} (h : s₀.Keeps .all s) : s₀.Keeps .all (s.fbEnter command) :=
  either h h.cntDev.setFb.setFb.freeReport

theorem hbKick {w : Writer} (h : s₀.Keeps .all s) : s₀.Keeps .all (s.hbKick w) := h

theorem hbWrite {v : Word} (h : s₀.Keeps .all s) : s₀.Keeps .all (s.hbWrite v) :=
  either (withTbl h.setFd.setFd) h.setFd.setFd

theorem hbMiss (h : s₀.Keeps .all s) : s₀.Keeps .all s.hbMiss := either h h.waitUntil.fbEnter

theorem fbWrite {enter leave : Bool} (h : s₀.Keeps .all s) : s₀.Keeps .all (s.fbWrite enter leave) :=
  either ((either h.fbEnter h).setFb) (either h.fbEnter h)

theorem tblCommitTenant {t : Nat} {revoke : Bool} (h : s₀.Keeps .all s) : s₀.Keeps .all (s.tblCommitTenant t revoke) :=
  h.tblRequest

theorem tblCommitRouting {t : Nat} {revoke : Bool} (h : s₀.Keeps .all s) : s₀.Keeps .all (s.tblCommitRouting t revoke) :=
  h.tblRequest

theorem tblSyncTenant {t : Nat} (h : s₀.Keeps .all s) : s₀.Keeps .all (s.tblSyncTenant t) := h.tblRequest
theorem tblSyncRouting {t : Nat} (h : s₀.Keeps .all s) : s₀.Keeps .all (s.tblSyncRouting t) := h.tblRequest

/-! ### The header pipeline -/

theorem admitHeader {k : Pkt} (h : s₀.Keeps .all s) (e : s.admitHeader k = some t) : s₀.Keeps .all t := by
  unfold State.admitHeader at e
  split at e
  · cases e
  · split at e
    · cases e
    · extract_lets put at e
      split at e
      · cases e; exact h.movePkt
      · split at e
        · cases e
        · next _ _ _ e' => cases e; exact (h.drawEntry e').movePkt

theorem getD {o : Option State} (ho : ∀ {t}, o = some t → s₀.Keeps ε t) (h : s₀.Keeps ε s) : s₀.Keeps ε (o.getD s) := by
  cases o with
  | none => exact h
  | some t => exact ho rfl

theorem arrive {k : Pkt} (h : s₀.Keeps .all s) : s₀.Keeps .all (s.arrive k) :=
  either h.addPkt (getD h.addPkt.admitHeader h.addPkt)

theorem readmit {p ord : Nat} (h : s₀.Keeps .all s) : s₀.Keeps .all (s.readmit p ord) := by
  unfold State.readmit
  split
  · exact h
  · exact getD h.admitHeader h

theorem sample {n : Nat} (h : s₀.Keeps .all s) : s₀.Keeps .all (s.sample n).1 := h

theorem withTrace {k k0 : Pkt} {kind : Nat} {samp tagged : Bool} (h : s₀.Keeps .all s) :
    s₀.Keeps .all (s.withTrace k k0 kind samp tagged).1 :=
  eitherFst h.cntDev h

theorem synthesise {k : Pkt} {status : Nat} (h : s₀.Keeps .all s) : s₀.Keeps .all (s.synthesise k status) := by
  unfold State.synthesise
  split
  · exact h.dropPkt
  · split
    · exact h.dropPkt
    · exact delEntry (releasePkts (itemTraceEnd (cntPort (either h (either h.coreLoadDone (either h.sendCxl (either h.sendCxl
        (either h.sendCxl h.sendCpl))))))))

theorem exitDrop {k : Pkt} {reason : Nat} (h : s₀.Keeps .all s) : s₀.Keeps .all (s.exitDrop k reason) := by
  unfold State.exitDrop
  extract_lets
  split
  · exact h.cntPort.cntDev.dropNative
  · split
    · exact h.cntPort.cntDev.setPkt.pktTraceEnd.dropPkt
    · split
      · exact h.cntPort.cntDev.dropPkt
      · exact either h.cntPort.cntDev.synthesise h.cntPort.cntDev.resolve

theorem exitMirror {k : Pkt} {a : Action} (h : s₀.Keeps .all s) : s₀.Keeps .all (s.exitMirror k a) :=
  either ((either h.mirrorCopy h).mirrorCopy) (either h.mirrorCopy h)

theorem exitFwd {k : Pkt} {a : Action} (h : s₀.Keeps .all s) : s₀.Keeps .all (s.exitFwd k a) := by
  unfold State.exitFwd
  extract_lets
  split
  · exact h.cntDev.setPkt.exitMirror.forward
  · split
    · exact either h.cntDev.setPkt.exitMirror.forward h.cntDev.setPkt.exitMirror.dropPkt
    · split
      · exact h.cntDev.setPkt.exitMirror.forward
      · exact h.cntDev.setPkt.exitMirror.exitDrop
      · exact h.cntDev.setPkt.exitMirror.exitDrop.bumpFv
      · exact either h.cntDev.setPkt.exitMirror.synthesise h.cntDev.setPkt.exitMirror.discard
      · exact h.cntDev.setPkt.exitMirror.discard
      · exact either h.cntDev.setPkt.setVdp.exitMirror.synthesise h.cntDev.setPkt.setVdp.exitMirror.discard
      · exact either h.cntDev.setPkt.exitMirror.setPkt.forward h.cntDev.setPkt.exitMirror.exitDrop

theorem exitRows {k : Pkt} {a : Action} (h : s₀.Keeps .all s) : s₀.Keeps .all (s.exitRows k a).1 := by
  unfold State.exitRows
  extract_lets
  split
  · refine eitherFst h.addFd.cntDev (eitherFst ?_ h)
    split
    · next e => exact of_fst h.police e
    · next e =>
      have h2 : s₀.Keeps .all _ := of_fst h.police e
      dsimp only
      split
      · exact h2.cntTnt
      · exact h2.cntTnt
      · exact h2.cntTnt
  · exact eitherFst h h
  · exact eitherFst h h
  · exact h

theorem deliverAction {k : Pkt} {a : Action} (h : s₀.Keeps .all s) : s₀.Keeps .all (s.deliverAction k a) := by
  unfold State.deliverAction
  extract_lets
  split
  · exact h.setPkt.exitFwd
  · exact h.setPkt.exitMirror.exitDrop
  · exact h.setPkt.exitMirror.cntDev.synthesise

theorem trap {k : Pkt} {a : Action} {slot : Nat} (h : s₀.Keeps .all s) : s₀.Keeps .all (s.trap k a slot) := by
  unfold State.trap
  refine postEvent (movePkt ?_)
  split
  · exact h.exitMirror.bumpFv.cntPort.cntDev
  · exact either h.exitMirror.bumpFv.cntPort.cntDev h.exitMirror.bumpFv.cntPort.cntDev.updEntry

theorem verdict {n kind : Nat} {v : Verdict} (h : s₀.Keeps .all s) : s₀.Keeps .all (s.verdict n kind v) := by
  unfold State.verdict
  split
  · exact h.setFb
  · split
    · exact h.setFb
    · refine deliverAction (exitRows ?_)
      split
      · exact h.setPkt.cntDev.progDrained
      · exact either h.setPkt.cntDev.progDrained h.setPkt.cntDev.progDrained.updEntry

theorem pipeCinc {n ctx : Nat} {a b : Word} (h : s₀.Keeps .all s) : s₀.Keeps .all (s.pipeCinc n ctx a b) :=
  either h.storeTable h.addFd.cntDev

theorem runHeader {k : Pkt} (h : s₀.Keeps .all s) : s₀.Keeps .all (s.runHeader k).1 := by
  unfold State.runHeader
  extract_lets _ _ _ x s1 s2 s3
  split
  · exact h.cntDev
  · have h1 : s₀.Keeps .all s1 := h.foldl fun h => h.pipeCinc
    have h2 : s₀.Keeps .all s2 := h1.foldl fun h => h.setMark
    have h3 : s₀.Keeps .all s3 := h2.foldl fun h => h.advanceRr
    refine eitherFst h3.cntTnt.cntDev ?_
    split
    · exact h3.addFd.cntDev
    · exact h3

theorem runPipeline {n : Nat} (h : s₀.Keeps .all s) : s₀.Keeps .all (s.runPipeline n) := by
  unfold State.runPipeline
  split
  · exact h
  · split
    next s0 samp e =>
    extract_lets s1 k half s2
    have h1 : s₀.Keeps .all s1 := cntPort (cntDev (of_fst h.sample e))
    have h2 : s₀.Keeps .all s2 := either h1.cntDev h1
    split
    · split
      next s2 k e => exact discard (bufReport (cntPort (exitMirror (setPkt (of_fst h1.withTrace e)))))
    · split
      next s3 k1 a0 e =>
      have h3 : s₀.Keeps .all s3 := of_fst h2.runHeader e
      split
      · split
        next s4 k2 e =>
        have h5 : s₀.Keeps .all ((s4.setPkt k2).exitMirror k2 (a0.dropped 0x03)) := exitMirror (setPkt (of_fst h3.withTrace e))
        exact either h5.failRevoked h5.ageOut
      · split
        next s4 a e =>
        have h4 : s₀.Keeps .all s4 := of_fst (eitherFst h3 h3.exitRows) e
        split
        next s5 k2 e =>
        have h5 : s₀.Keeps .all s5 := of_fst h4.withTrace e
        extract_lets s6 s7
        have h6 : s₀.Keeps .all s6 := by
          unfold s6
          split
          · exact h5
          · exact either h5 h5.updEntry
        have h7 : s₀.Keeps .all s7 := h6.setPkt
        split
        · split
          · exact h
          · exact h7.trap
        · exact h7.deliverAction

theorem setLink {n : Nat} {l : Link} (h : s₀.Keeps ε s) : s₀.Keeps ε (s.setLink n l) := h
theorem setPhy {n : Nat} {x : Phy} (h : s₀.Keeps ε s) : s₀.Keeps ε (s.setPhy n x) := h
theorem creditMark {n : Nat} (h : s₀.Keeps .all s) : s₀.Keeps .all (s.creditMark n) := either (emit h) (either (emit h) h)
theorem creditRestart {n : Nat} (h : s₀.Keeps .all s) : s₀.Keeps .all (s.creditRestart n) := either h h
theorem creditMarks (h : s₀.Keeps .all s) : s₀.Keeps .all s.creditMarks := h.foldl fun h => h.creditMark

/-! ### Frames -/

theorem codeFrame {n : Nat} {bs : List Byte} (h : s₀.Keeps ε s) : s₀.Keeps ε (s.codeFrame n bs) :=
  either h.setPhy h.setPhy.emit

theorem txOut {n typ seq dvc len : Nat} {pay : List Byte} (h : s₀.Keeps ε s) : s₀.Keeps ε (s.txOut n typ seq dvc len pay) :=
  h.setLink.emit.codeFrame

theorem sendSeq {n typ dvc len : Nat} {pay : List Byte} {pkt : Option Nat} (h : s₀.Keeps ε s) :
    s₀.Keeps ε (s.sendSeq n typ dvc len pay pkt) :=
  h.setLink.txOut

theorem pump {n id : Nat} (h : s₀.Keeps .all s) : s₀.Keeps .all (s.pump n id) := by
  unfold State.pump
  split
  · exact h
  · extract_lets _ _ _ _ _ _ _ s2
    have h2 : s₀.Keeps .all s2 := (h.foldl fun h => h.sendSeq).setPkt
    exact h2.setLink

theorem chaffOut {n : Nat} (h : s₀.Keeps ε s) : s₀.Keeps ε (s.chaffOut n) := by
  unfold State.chaffOut
  extract_lets
  split
  · exact h
  · extract_lets
    split
    · exact h.setLink.sendSeq.cntPort
    · exact h.setLink.sendSeq.cntPort.setPkt

theorem endCut {p : Nat} (h : s₀.Keeps .all s) : s₀.Keeps .all (s.endCut p) := by
  unfold State.endCut
  split
  · exact h
  · extract_lets
    split
    · exact h.setPort
    · refine dropCut ?_
      split
      · exact either h.setPort.chaffOut h.setPort
      · exact h.setPort

/-! ### Own requests -/

theorem ownRequest {k : Pkt} {i : Nat} (h : s₀.Keeps .all s) (e : s.ownRequest k = some (t, i)) : s₀.Keeps .all t := by
  unfold State.ownRequest at e
  split at e
  · cases e
  · split at e
    · cases e
    · next _ _ e' => cases e; exact (h.drawEntry e').addPkt

theorem ownIssue {k : Pkt} {a i : Nat} {wr ok : Bool} (h : s₀.Keeps .all s) (e : s.ownIssue k a wr = some (t, i, ok)) :
    s₀.Keeps .all t := by
  unfold State.ownIssue at e
  split at e
  · obtain ⟨_, e', he⟩ := Option.map_eq_some_iff.mp e
    cases he
    exact h.ownRequest e'
  · split at e
    · cases e
    · obtain ⟨_, e', he⟩ := Option.map_eq_some_iff.mp e
      cases he
      exact h.drawEntry e'

/-! ### The DMA engines -/

theorem setChan {g : Nat} {c : Chan} (h : s₀.Keeps ε s) : s₀.Keeps ε (s.setChan g c) := h
theorem cntEng {e k n : Nat} (h : s₀.Keeps ε s) : s₀.Keeps ε (s.cntEng e k n) := h.cntDev

theorem chIrq {g : Nat} (h : s₀.Keeps ε s) : s₀.Keeps ε (s.chIrq g) := by
  unfold State.chIrq
  extract_lets
  split
  · exact either h h.setChan
  · exact either h (h.setChan.foldl fun h => h.msix)

theorem chRaise {g : Nat} (h : s₀.Keeps ε s) : s₀.Keeps ε (s.chRaise g) := h.setChan.chIrq

theorem chanEnd {g st reason : Nat} {faddr : Option Nat} {irq : Bool} (h : s₀.Keeps ε s) :
    s₀.Keeps ε (s.chanEnd g st reason faddr irq) := by
  unfold State.chanEnd
  extract_lets c s1 s2 _ s3 s4 s5
  have h1 : s₀.Keeps ε s1 := (h.setFdOff linkReg_dmaChSts).setFdOff linkReg_dmaChSts
  have h2 : s₀.Keeps ε s2 := by
    unfold s2
    split
    · exact either h1 (h1.setFdOff linkReg_dmaChFaddr)
    · exact h1
  have h4 : s₀.Keeps ε s4 := h2.setChan.cntEng
  have h5 : s₀.Keeps ε s5 := either h4.cntEng (either h4.cntEng h4)
  exact either h5.chRaise h5

theorem chanStop {g st reason : Nat} {irq : Bool} (h : s₀.Keeps ε s) : s₀.Keeps ε (s.chanStop g st reason irq) :=
  either h.chanEnd h

theorem fnStop {f st reason : Nat} {irq : Bool} (h : s₀.Keeps ε s) : s₀.Keeps ε (s.fnStop f st reason irq) :=
  h.foldl fun h => h.chanStop

theorem chanBegin {g : Nat} {flush : Bool} (h : s₀.Keeps .all s) : s₀.Keeps .all (s.chanBegin g flush) := h.setFd.setFd.setChan

theorem descDone {g : Nat} (h : s₀.Keeps .all s) : s₀.Keeps .all (s.descDone g) :=
  either h.cntEng.chanEnd (either (either h.cntEng.addFd.chRaise.chanEnd h.cntEng.addFd.chanEnd)
    (((either h.cntEng.addFd.chRaise h.cntEng.addFd).setFd).chanBegin))

theorem descAccepted {g : Nat} (h : s₀.Keeps .all s) : s₀.Keeps .all (s.descAccepted g) := either h.setChan h.descDone
theorem chanZero {g : Nat} (h : s₀.Keeps .all s) : s₀.Keeps .all (s.chanZero g) := either h.descAccepted h

theorem descLoad {g : Nat} (h : s₀.Keeps .all s) : s₀.Keeps .all (s.descLoad g) := by
  unfold State.descLoad
  extract_lets
  split
  · exact h
  · exact h.setFd.setFd.setFd.setChan.chanZero

theorem chanRequest {g typ a n i : Nat} {rlx ok : Bool} {data : List Byte} (h : s₀.Keeps .all s)
    (e : s.chanRequest g typ a n rlx data = some (t, i, ok)) : s₀.Keeps .all t := by
  unfold State.chanRequest at e
  split at e
  · cases e
  · dsimp only at e
    split at e
    · cases e
    · next e' => cases e; exact h.ownIssue e'
    · next e' => cases e; exact withDma (resolve (h.ownIssue e'))

theorem chanWrite {g : Nat} (h : s₀.Keeps .all s) : s₀.Keeps .all (s.chanWrite g) := by
  unfold State.chanWrite
  extract_lets
  split
  · exact h
  · split
    · exact h
    · extract_lets
      split
      · exact either h h.setChan
      · split
        · exact h
        · next _ _ e =>
            exact (h.chanRequest e).chanEnd
        · next _ _ e =>
            extract_lets _ s3
            have h3 : s₀.Keeps .all s3 := ((((h.chanRequest e).setChan).addFd).cntEng).cntTnt
            exact either h3.descAccepted h3

theorem chanWrites {g n : Nat} (h : s₀.Keeps .all s) : s₀.Keeps .all (s.chanWrites g n) := by
  induction n generalizing s with
  | zero => exact h
  | succ n ih => exact either (ih h.chanWrite) h.chanWrite

theorem chanFlush {g : Nat} (h : s₀.Keeps .all s) : s₀.Keeps .all (s.chanFlush g) := by
  unfold State.chanFlush
  extract_lets
  split
  · exact h
  · split
    · exact h
    · next _ _ e =>
        exact (h.chanRequest e).chanEnd
    · next _ _ e =>
        exact (h.chanRequest e).setChan

theorem chanFetch {g : Nat} (h : s₀.Keeps .all s) : s₀.Keeps .all (s.chanFetch g) := by
  unfold State.chanFetch
  extract_lets
  split
  · exact h
  · split
    · exact h.setChan
    · split
      · exact h
      · next _ _ e =>
          exact (h.chanRequest e).chanEnd
      · next _ _ e =>
          exact (h.chanRequest e).setChan

theorem burstRead {g : Nat} {b : Burst} {i : Option Nat} (h : s₀.Keeps .all s) (e : s.burstRead g b = some (t, i)) :
    s₀.Keeps .all t := by
  unfold State.burstRead at e
  split at e
  · cases e
  · next e' => cases e; exact h.chanRequest e'

theorem setEngStop {e : Nat} {x : Option Localise} (h : s₀.Keeps .all s) : s₀.Keeps .all (s.setEngStop e x) := h
theorem dmaReport {e detail : Nat} (h : s₀.Keeps .all s) : s₀.Keeps .all (s.dmaReport e detail) := h.errorReport.bumpFv

theorem rereads {g : Nat} (h : s₀.Keeps .all s) : s₀.Keeps .all (s.rereads g) := by
  refine h.foldl fun {t b} h => ?_
  extract_lets c put
  have hput : ∀ {u : State} {x : Burst}, s₀.Keeps .all u → s₀.Keeps .all (put u x) := fun hu => by
    unfold put
    dsimp only
    split
    · exact setEngStop hu.setChan
    · exact hu.setChan
  split
  · exact h
  · next e => exact hput (h.burstRead e)
  · next e => exact hput (h.burstRead e)

theorem engResume {e failed : Nat} (h : s₀.Keeps .all s) : s₀.Keeps .all (s.engResume e failed) :=
  either h.setEngStop.setFd.setFd.dmaReport.addFd h.setEngStop.setFd.setFd.dmaReport

theorem localise {e n : Nat} (h : s₀.Keeps .all s) : s₀.Keeps .all (s.localise e n) := by
  induction n generalizing s with
  | zero => exact h
  | succ n ih =>
    unfold State.localise
    split
    · exact h
    · split
      · split
        · exact h.engResume
        · exact either (ih (chanEnd h.setEngStop)) (ih (rereads h.setEngStop))
      · extract_lets _ s0
        have h0 : s₀.Keeps .all s0 := h.setEngStop
        refine either h ?_
        split
        · exact ih (setEngStop (setFd h0.chanEnd))
        · exact ih (chanWrites h0.setChan)

theorem localiseAll {e : Nat} (h : s₀.Keeps .all s) : s₀.Keeps .all (s.localiseAll e) := h.localise

theorem engineStop {e : Nat} (h : s₀.Keeps .all s) : s₀.Keeps .all (s.engineStop e) := by
  unfold State.engineStop
  extract_lets _ _ s3
  have h3 : s₀.Keeps .all s3 := h.setFd.addFd.cntEng.dmaReport.foldl fun h => h.setChan
  exact h3.setEngStop.localiseAll

theorem lateWrite {g reason : Nat} {a : Word} (h : s₀.Keeps .all s) : s₀.Keeps .all (s.lateWrite g reason a) :=
  either ((either h h.setFb.setFd.setFd).chRaise) (either h h.setFb.setFd.setFd)

theorem dmaOutcome {o : DmaOutcome} (h : s₀.Keeps .all s) : s₀.Keeps .all (s.dmaOutcome o) := by
  unfold State.dmaOutcome
  extract_lets
  split
  · split
    · exact h.setChan
    · exact h.chanEnd
  · split
    · split
      · exact h.descDone
      · exact h.chanEnd
    · split
      · extract_lets
        split
        · exact h.setChan.cntEng.chanWrites.localiseAll
        · exact either h.engineStop (either h.setChan.localiseAll h.chanEnd.localiseAll)
      · split
        · exact h
        · extract_lets
          split
          · exact h.setChan
          · exact either h.setChan.chanEnd.localiseAll h.setChan.lateWrite

theorem dmaCtl {g : Nat} {v : Word} (h : s₀.Keeps .all s) : s₀.Keeps .all (s.dmaCtl g v) :=
  either h.setFb (either (either h.setFb (either h.setChan h)) (either h.setRg (either h.setRg.chanEnd
    (either h.setRg.chanEnd h.setRg.setFd.setFd.chanBegin.chanZero))))

theorem dmaChanWrite {g off : Nat} {v : Word} (h : s₀.Keeps .all s) : s₀.Keeps .all (s.dmaChanWrite g off v) :=
  either h.setFb h.setRg

theorem fnUnhold {f : Nat} (h : s₀.Keeps .all s) : s₀.Keeps .all (s.fnUnhold f) := h.foldl fun h => h.setFd
theorem dmaPause (h : s₀.Keeps .all s) : s₀.Keeps .all s.dmaPause := h.foldl fun h => either (either h.setFd h) (either h.setFd h)

theorem burstIssue {g : Nat} (h : s₀.Keeps .all s) (e : s.burstIssue g = some t) : s₀.Keeps .all t := by
  unfold State.burstIssue at e
  dsimp only at e
  split at e
  · cases e; exact h.setChan.cntEng
  · split at e
    · cases e
    · next e' => cases e; exact (h.burstRead e').setChan.cntEng
    · next e' => cases e; exact (h.burstRead e').chanEnd

theorem dmaWake {e : Nat} {ready : List Nat} (h : s₀.Keeps .all s) : s₀.Keeps .all (s.dmaWake e ready) :=
  withDma (foldl h fun h => h.withDma)

theorem dmaChoose {e : Nat} (h : s₀.Keeps .all s) : s₀.Keeps .all (s.dmaChoose e) := by
  unfold State.dmaChoose
  extract_lets r ready tnts s1
  have h1 : s₀.Keeps .all s1 := h.dmaWake
  split
  · exact h1
  · split
    · exact h1
    · split
      · exact h1
      · next e => exact withDma (h1.burstIssue e)

theorem abortSample {g : Nat} (h : s₀.Keeps .all s) : s₀.Keeps .all (s.abortSample g) :=
  either h (either h.setChan (either h (either h.chanWrites h.chanEnd)))

theorem chanPump {g : Nat} (h : s₀.Keeps .all s) : s₀.Keeps .all (s.chanPump g) :=
  either h (either h.chanWrites (either h.chanWrites (either h.chanWrites.chanZero.chanFlush.chanFetch h.chanWrites.chanZero.chanFlush)))

theorem dmaRound {e : Nat} (h : s₀.Keeps .all s) : s₀.Keeps .all (s.dmaRound e) := by
  unfold State.dmaRound
  extract_lets _ _ _ s0 s1 s2
  have h0 : s₀.Keeps .all s0 := withDma h.waitUntil
  have h1 : s₀.Keeps .all s1 := either h0 h0.setFd
  have h2 : s₀.Keeps .all s2 := h1.foldl fun h => h.abortSample.chanPump
  split
  · split
    · exact h2.rereads.localiseAll
    · exact h2.localiseAll
  · exact h2.dmaChoose

theorem localWrite {a : Nat} {bs : List Byte} (h : s₀.Keeps .all s) : s₀.Keeps .all (s.localWrite a bs) :=
  either (either h.storeCluster.storeCluster h.storeCluster) h.tblStore

theorem localAccess {g : Nat} (h : s₀.Keeps .all s) : s₀.Keeps .all (s.localAccess g) := by
  unfold State.localAccess
  dsimp only
  split
  · exact h
  · refine either h.chanEnd (either h (either (chanWrites (cntEng h.setChan)) (either ?_ h.setChan)))
    have h3 : ∀ {a : Nat} {l : List Byte} {x : Chan} {f : Field} {n i j t : Nat},
        s₀.Keeps .all (((((s.localWrite a l).setChan g x).addFd f n).cntEng i 2 j).cntTnt t 13 j) :=
      h.localWrite.setChan.addFd.cntEng.cntTnt
    exact either h3.descAccepted h3.chanWrites

theorem localiseTimeout {e : Nat} (h : s₀.Keeps .all s) : s₀.Keeps .all (s.localiseTimeout e) := by
  unfold State.localiseTimeout
  split
  · exact h
  · split
    · exact h
    · exact h.waitUntil.setChan.localiseAll

/-- The registers that a reset of a DMA channel returns to their reset values are its own. -/
theorem chanReset {g : Nat} {lost : Bool} (h : s₀.Keeps ε s) : s₀.Keeps ε (s.chanReset g lost) := by
  unfold State.chanReset
  extract_lets e n s1
  have hown : ∀ a ∈ [R.DMA_CH_SRC e n, R.DMA_CH_DST e n, R.DMA_CH_CNT e n, R.DMA_CH_CTL e n, R.DMA_CH_STS e n, R.DMA_CH_DONE e n,
      R.DMA_CH_LIST e n, R.DMA_CH_FADDR e n], 0x1800000 ≤ a := by
    simp only [List.mem_cons, List.not_mem_nil, or_false, R.DMA_CH_SRC, R.DMA_CH_DST, R.DMA_CH_CNT, R.DMA_CH_CTL, R.DMA_CH_STS, R.DMA_CH_DONE,
      R.DMA_CH_LIST, R.DMA_CH_FADDR]
    omega
  have h1 : s₀.Keeps ε s1 := h.foldlMem fun ha h => h.setRgOff (linkReg_above ((by decide : 0x600000 ≤ 0x1800000).trans (hown _ ha)))
  exact (either (h1.setFbOff linkReg_dmaChSts) h1).setChan

/-! ### What follows at once -/

theorem dropAt {p : Nat} (h : s₀.Keeps ε s) : s₀.Keeps ε (s.dropAt p) := h.foldl fun h => h.discard
theorem portItems {p reason : Nat} (h : s₀.Keeps ε s) : s₀.Keeps ε (s.portItems p reason) := h.resolveWhere.dropAt

theorem linkDownPkt {k : Pkt} (h : s₀.Keeps .all s) : s₀.Keeps .all (s.linkDownPkt k) := by
  unfold State.linkDownPkt
  split
  · exact either h.setPkt h.replayPkt
  · split
    · split
      · split
        · exact h.dropPkt
        · extract_lets
          split
          · exact h.setPkt.movePkt
          · next _ _ e =>
              exact (h.setPkt.drawC e).movePkt
      · exact h.dropPkt
    · split
      · exact h.dropPkt
      · exact h.evictPkt
      · split
        · exact h.resolve
        · exact h.discard

theorem downItems (h : s₀.Keeps .all s) : s₀.Keeps .all s.downItems := h.foldl fun h => h.portItems

theorem downLinks (h : s₀.Keeps .all s) : s₀.Keeps .all s.downLinks :=
  h.foldl fun h => by
    split
    · exact h
    · exact h.linkDownPkt

theorem settleLoop {n : Nat} (h : s₀.Keeps .all s) : s₀.Keeps .all (s.settleLoop n) := by
  induction n generalizing s with
  | zero => exact h
  | succ n ih =>
    unfold State.settleLoop
    split
    · refine ih (consumeMsg ?_); exact h
    · split
      · refine ih (dmaOutcome ?_); exact h
      · exact either h.downItems.downLinks (ih h.downItems.downLinks)

theorem dmaIrqs (h : s₀.Keeps .all s) : s₀.Keeps .all s.dmaIrqs := h.foldl fun h => h.chIrq
theorem tableIrqs (h : s₀.Keeps .all s) : s₀.Keeps .all s.tableIrqs := either h (foldl h fun h => h.mgrVector)
theorem sagDone (h : s₀.Keeps .all s) : s₀.Keeps .all s.sagDone := either h.setFb h

theorem settle (h : s₀.Keeps .all s) : s₀.Keeps .all s.settle :=
  h.settleLoop.dmaIrqs.dmaPause.storeMark.drainCheck.tableIrqs.sagDone.creditMarks

/-! ### The fabric function -/

theorem bmeClear {f : Nat} (h : s₀.Keeps .all s) : s₀.Keeps .all (s.bmeClear f) := either h h.setFn.fnStop.resolveWhere
theorem fnMbxEvent {f len : Nat} (h : s₀.Keeps ε s) : s₀.Keeps ε (s.fnMbxEvent f len) := either h.postEvent h

theorem dropRecords {f n : Nat} (h : s₀.Keeps ε s) : s₀.Keeps ε (s.dropRecords f n) :=
  foldl h (fun h => (h.addFdOff linkReg_ffnFnCnt).cntTnt)

/-- The mailbox and the vectors of a function lie in its page. -/
theorem flrRegs_le {f a : Nat} (ha : a ∈ fnMailbox f ++ (List.range 128).map fun j => R.FN_MSIX f j) : 0x10000000 ≤ a := by
  simp only [fnMailbox, List.mem_append, List.mem_map, List.mem_cons, List.not_mem_nil, or_false, R.FN_MBX_IN, R.FN_MBX_OUT, R.FN_MBX_DB,
    R.FN_MBX_RSP, R.FN_MBX_STS, R.FN_MSIX] at ha
  omega

theorem flrOne {f : Nat} (h : s₀.Keeps ε s) : s₀.Keeps ε (s.flrOne f) := by
  unfold State.flrOne
  extract_lets _ _ _ _ s3 s4 s5 s6
  have h3 : s₀.Keeps ε s3 := h.setFn.fnStop.resolveWhere.resolveWhere.dropRecords
  have h4 : s₀.Keeps ε s4 := h3.foldl fun h => either h.chanReset h
  have h5 : s₀.Keeps ε s5 := h4.foldlMem fun ha h => h.setRgOff (linkReg_above ((by decide : 0x600000 ≤ 0x10000000).trans (flrRegs_le ha)))
  have h6 : s₀.Keeps ε s6 := ((h5.setRgOff linkReg_fnPba).fnMbxEvent).setFbOff linkReg_fnLogCfg
  exact (either h6.dlReset h6).setFn

theorem flr {f : Nat} (h : s₀.Keeps ε s) : s₀.Keeps ε (s.flr f) := either h ((h.foldl fun h => h.flrOne).flrOne)
theorem flrEnd {f : Nat} (h : s₀.Keeps .all s) : s₀.Keeps .all (s.flrEnd f) := either h h.setFn

theorem vfEnableClear {p : Nat} (h : s₀.Keeps .all s) : s₀.Keeps .all (s.vfEnableClear p) :=
  either h ((h.foldl fun h => h.flrOne).setFn)

theorem force {f : Nat} (h : s₀.Keeps .all s) : s₀.Keeps .all (s.force f) := either h h.fnStop.resolveWhere
theorem fnDoorbell {f len : Nat} (h : s₀.Keeps .all s) : s₀.Keeps .all (s.fnDoorbell f len) := either h.setFb h.setFb.fnMbxEvent
theorem fnReply {f len : Nat} (h : s₀.Keeps .all s) : s₀.Keeps .all (s.fnReply f len) := h.setFd.setFb.setFb.msix

theorem logCfg {f : Nat} {v : Word} (h : s₀.Keeps .all s) : s₀.Keeps .all (s.logCfg f v) :=
  either ((((either h h.setFd).setFd).setFd).setFd) ((either h h.setFd).setFd)

theorem ffnRej {code fn : Nat} (h : s₀.Keeps .all s) : s₀.Keeps .all (s.ffnRej code fn) := h.setFb.setFd.setFd

theorem ffnCfg {w : Writer} {v : Word} (h : s₀.Keeps .all s) : s₀.Keeps .all (s.ffnCfg w v) :=
  either h.setFd.setFd (either h.ffnRej h.setFd.setFd.setFd.setFd)

theorem ffnPfCfg {p : Nat} {v : Word} (h : s₀.Keeps .all s) : s₀.Keeps .all (s.ffnPfCfg p v) :=
  either h.setFb (either h.ffnRej (either h.ffnRej h.setRg))

theorem ffnFnCfg {f : Nat} {v : Word} (h : s₀.Keeps .all s) : s₀.Keeps .all (s.ffnFnCfg f v) := by
  unfold State.ffnFnCfg
  extract_lets _ _ _ _ _ _ _ _ s1 _ s2 s3
  have h1 : s₀.Keeps .all s1 := h.setRg
  have h2 : s₀.Keeps .all s2 := either h1 h1.setFn
  have h3 : s₀.Keeps .all s3 := either h2.fnUnhold h2
  exact either h.ffnRej (either h.ffnRej (either h.ffnRej (either h.ffnRej (either h3.force h3))))

/-! ### Slot power -/

theorem setSpc {i : Nat} {c : Spc} (h : s₀.Keeps .all s) : s₀.Keeps .all (s.setSpc i c) := h

theorem spcPins {i old : Nat} (h : s₀.Keeps ε s) : s₀.Keeps ε (s.spcPins i old) := by
  unfold State.spcPins
  extract_lets _ _ _ s2
  have h2 : s₀.Keeps ε s2 := either ((either h.emit h).emit) (either h.emit h)
  exact either h2.emit h2

theorem spcReport {i : Nat} {old : Word} (h : s₀.Keeps ε s) : s₀.Keeps ε (s.spcReport i old) := by
  unfold State.spcReport
  extract_lets _ _ _ _ s2
  have h2 : s₀.Keeps ε s2 := either h.spcPins.almSource h.spcPins
  exact either h2 h2.postEvent

theorem spcChange {i : Nat} {f : State → State} (h : s₀.Keeps .all s) (hf : ∀ {t}, s₀.Keeps .all t → s₀.Keeps .all (f t)) :
    s₀.Keeps .all (s.spcChange i f) :=
  (hf h).spcReport

theorem spcLeave {i st : Nat} (h : s₀.Keeps .all s) : s₀.Keeps .all (s.spcLeave i st) := h.setFd.setFb.setFb.setFb.setSpc

theorem spcTrip {i kind : Nat} (h : s₀.Keeps .all s) : s₀.Keeps .all (s.spcTrip i kind) :=
  h.spcLeave.setFb.setFd.setFb.addFd.setSpc.foldl fun h => h.slotEvent

theorem spcDamage {i kind : Nat} (h : s₀.Keeps .all s) : s₀.Keeps .all (s.spcDamage i kind) := h.spcLeave.setFb.setFd

theorem spcPresence {i : Nat} {on : Bool} (h : s₀.Keeps .all s) : s₀.Keeps .all (s.spcPresence i on) :=
  h.setFb.foldl fun h => h.slotPresence

theorem spcStep {i : Nat} {cond : Bool} {due : Nat} {f : State → State} (h : s₀.Keeps .all s)
    (hf : ∀ {t}, s₀.Keeps .all t → s₀.Keeps .all (f t)) :
    s₀.Keeps .all (s.spcStep i cond due f) :=
  either (h.waitUntil.spcChange (fun h => hf h)) h

theorem spcEvent {i : Nat} {cond : Bool} {due : Nat} {f : State → State} (h : s₀.Keeps .all s)
    (hf : ∀ {t}, s₀.Keeps .all t → s₀.Keeps .all (f t)) :
    s₀.Keeps .all (s.spcEvent i cond due f) :=
  h.spcStep fun h => hf h

theorem spcEn {i : Nat} (h : s₀.Keeps .all s) : s₀.Keeps .all (s.spcEn i) :=
  h.spcChange (fun h => either h.setFb (either h.setFb.setFd h.setFb))

theorem spcDis {i : Nat} (h : s₀.Keeps .all s) : s₀.Keeps .all (s.spcDis i) :=
  h.spcChange (fun h => either (either h.setFb.setFb.spcLeave (either h.setFb.setFb h.setFb.setFb.spcLeave)) h)

theorem spcDclr {i : Nat} (h : s₀.Keeps .all s) : s₀.Keeps .all (s.spcDclr i) :=
  h.spcChange (fun h => either h.setFb (either h.setFb.setFd.setFd h.setFb.setFd))

theorem spcPerstf {i : Nat} (h : s₀.Keeps .all s) : s₀.Keeps .all (s.spcPerstf i) := h.spcChange fun h => h.setFb.setFb

theorem spcLost {i : Nat} (h : s₀.Keeps .all s) : s₀.Keeps .all (s.spcLost i) :=
  either h.spcPresence.addFd h.spcPresence.addFd.spcLeave

theorem spcObey {i : Nat} (h : s₀.Keeps .all s) : s₀.Keeps .all (s.spcObey i) := either h.spcLeave h
theorem spcOn {i : Nat} (h : s₀.Keeps .all s) : s₀.Keeps .all (s.spcOn i) := h.setFd.setSpc.spcObey

/-! ### Ports, resets and bindings -/

theorem slotWatch {f : State → State} (h : s₀.Keeps ε s) (hf : ∀ {t}, s₀.Keeps ε t → s₀.Keeps ε (f t)) : s₀.Keeps ε (s.slotWatch f) :=
  (hf h).foldl fun h => either h (either ((either h.slotDll h).slotPresence) (either h.slotDll h))

theorem vdpB0 {p v : Nat} {w : Word} (h : s₀.Keeps .all s) : s₀.Keeps .all (s.vdpB0 p v w) :=
  either (either h h.setFb.setFb.setVdp) (either h.setRg (either h.setRg.setFb.setFd (either (h.setRg.setFb.spcChange
    (fun h => h.spcObey)) h.setRg.setFb)))

theorem vdpB1 {p v : Nat} {w : Word} (h : s₀.Keeps .all s) : s₀.Keeps .all (s.vdpB1 p v w) := either h h.setRg

theorem place {p : Nat} (h : s₀.Keeps .all s) : s₀.Keeps .all (s.place p) := by
  unfold State.place
  extract_lets _ _ _ s2 s1
  have h1 : s₀.Keeps .all s1 := either h (either h.setPort (bufReport (setFd (setFb h.setPort))))
  exact either h (either h1 (either h1 (either h1.setPort (setFd (setFb h1.setPort)))))

theorem untrain {p : Nat} (h : s₀.Keeps .all s) : s₀.Keeps .all (s.untrain p) := h.setPort

theorem train {p : Nat} (h : s₀.Keeps .all s) : s₀.Keeps .all (s.train p) :=
  either h (either h.place (either h.setPort.untrain h.setPort.place))

theorem linkEvent {src : Src} {p st : Nat} (h : s₀.Keeps ε s) : s₀.Keeps ε (s.linkEvent src p st) := h.postEvent
theorem portRequests {p reason : Nat} (h : s₀.Keeps ε s) : s₀.Keeps ε (s.portRequests p reason) := h.resolveWhere

theorem bindingItems {b : Nat × Nat} {reason : Nat} (h : s₀.Keeps ε s) : s₀.Keeps ε (s.bindingItems b reason) :=
  h.resolveWhere

theorem linkLost {p : Nat} (h : s₀.Keeps .all s) : s₀.Keeps .all (s.linkLost p) := by
  unfold State.linkLost
  split
  · exact h.untrain
  · extract_lets _ _ s2
    have h2 : s₀.Keeps .all s2 := h.endCut.setFb.setFd.setFd.setFd.setFd.setFd.setFd.addFd.cntPort.linkEvent
    exact h2.setPort

theorem proxySend {p v fid : Nat} {write : Bool} (h : s₀.Keeps ε s) : s₀.Keeps ε (s.proxySend p v fid write) := by
  rw [show State.proxySend = _ by delta State.proxySend; rfl]
  extract_lets k
  clear_value k
  split
  · exact h
  · split
    · exact h
    · next e => exact bumpFv (bumpFv (bumpFv (bumpFv (bumpFv (bumpFv (sourceEdge (addPkt (h.drawEntry e))))))))

theorem proxyReset {p v : Nat} (h : s₀.Keeps ε s) : s₀.Keeps ε (s.proxyReset p v) :=
  h.foldl fun h => either h h.setVdp.proxySend

theorem portDown {p reason : Nat} {lost : Bool} (h : s₀.Keeps .all s) : s₀.Keeps .all (s.portDown p reason lost) := by
  unfold State.portDown
  extract_lets s0 _ s1 s2 _ s3
  have h2 : s₀.Keeps .all s2 := portItems (setPort h.linkLost)
  exact either (foldl h2.setPort fun h => either h.setGone h) h2

theorem dpcTrigger {p v : Nat} (h : s₀.Keeps .all s) : s₀.Keeps .all (s.dpcTrigger p v) :=
  either h (either h.setVdp.bindingItems.setFb.portDown h.setVdp.bindingItems)

theorem dpcRelease {p v : Nat} (h : s₀.Keeps .all s) : s₀.Keeps .all (s.dpcRelease p v) :=
  either h (either h.setVdp.setFb.train h.setVdp.proxyReset)

theorem portError {p v bit : Nat} {fatal : Bool} (h : s₀.Keeps .all s) : s₀.Keeps .all (s.portError p v bit fatal) :=
  either h.dpcTrigger h

theorem acsWatch {f : State → State} (h : s₀.Keeps .all s) (hf : ∀ {t}, s₀.Keeps .all t → s₀.Keeps .all (f t)) :
    s₀.Keeps .all (s.acsWatch f) :=
  (hf h).foldl fun h => h.portError

theorem surpriseDown {q : Nat} (h : s₀.Keeps .all s) : s₀.Keeps .all (s.surpriseDown q) := by
  unfold State.surpriseDown
  split
  · exact h
  · exact h.portError

theorem busReset {p v : Nat} (h : s₀.Keeps .all s) : s₀.Keeps .all (s.busReset p v) := by
  unfold State.busReset
  split
  · exact h
  · extract_lets
    split
    · exact h.bindingItems.portDown.emit.train
    · exact h.bindingItems.flr
    · exact h.bindingItems.proxyReset

theorem linkDisable {p v : Nat} {on : Bool} (h : s₀.Keeps .all s) : s₀.Keeps .all (s.linkDisable p v on) := by
  unfold State.linkDisable
  extract_lets _ s1 _ _ s2
  have h1 : s₀.Keeps .all s1 := h.setVdp
  have h2 : s₀.Keeps .all s2 := h1.bindingItems
  refine either h (either h1 (either ?_ (either (train (setFd h1.setPort)) h1)))
  split
  · exact setFd (portDown h2.setPort)
  · exact h2.flr
  · exact h2.proxyReset

theorem switchReset {p : Nat} (h : s₀.Keeps .all s) : s₀.Keeps .all (s.switchReset p) := by
  unfold State.switchReset
  extract_lets s1 _ _ s2 s3 s4 s5
  have h1 : s₀.Keeps .all s1 := h.portItems.portRequests
  have h3 : s₀.Keeps .all s3 := ⟨h1.memory, h1.registers, nofun⟩
  have h4 : s₀.Keeps .all s4 := h3.flr
  have h5 : s₀.Keeps .all s5 := foldl h4 fun h => either (setPort h.setFb) h
  exact foldl h5 fun h => h.busReset

theorem dlDown {p : Nat} {lost : Bool} (h : s₀.Keeps .all s) : s₀.Keeps .all (s.dlDown p lost) :=
  either (either h.portDown h) (either h.linkLost.switchReset.train h.portDown.surpriseDown.train)

theorem dlUp {p : Nat} {u : DlUp} (h : s₀.Keeps .all s) : s₀.Keeps .all (s.dlUp p u) := by
  unfold State.dlUp
  extract_lets s0 s1 s1'
  have h0 : s₀.Keeps .all s0 := h.train
  have h1 : s₀.Keeps .all s1 := h0.setFb.setFd.setFd.setFb.setFb.setFb.setFd
  exact either h0 (linkEvent (setPort (either h1 h1.setRg)))

theorem prtCtx {p : Nat} {v : Word} (h : s₀.Keeps .all s) : s₀.Keeps .all (s.prtCtx p v) :=
  either h.setFb ((((either h.setRg.setPort h.setRg).setRg).untrain).train)

theorem rstHot {q : Nat} (h : s₀.Keeps .all s) : s₀.Keeps .all (s.rstHot q) := either h h.portDown.emit.train

theorem rstLdis {q : Nat} {on : Bool} (h : s₀.Keeps .all s) : s₀.Keeps .all (s.rstLdis q on) :=
  either (either h.setFb ((either h.setFb.linkLost.switchReset h.setFb.portDown).setFd)) (either h.setFb.setFd.train h.setFb)

theorem rstDpcTrig {q : Nat} (h : s₀.Keeps .all s) : s₀.Keeps .all (s.rstDpcTrig q) :=
  either h (((h.foldl fun h => h.dpcTrigger).setFb).portDown)

theorem rstDpcRel {q : Nat} (h : s₀.Keeps .all s) : s₀.Keeps .all (s.rstDpcRel q) := either h.setFb.train h

theorem prtRst {q : Nat} {v : Word} (h : s₀.Keeps .all s) : s₀.Keeps .all (s.prtRst q v) := by
  unfold State.prtRst
  extract_lets _ _ s3
  have h3 : s₀.Keeps .all s3 := either (((either h.rstHot h).rstLdis).rstDpcTrig) ((either h.rstHot h).rstLdis)
  exact either h3.rstDpcRel h3

theorem withPerstIn {x : BitVec 32} (h : s₀.Keeps .all s) : s₀.Keeps .all { s with perstIn := x } := ⟨h.memory, h.registers, nofun⟩
theorem perstOn {i : Fin 32} (h : s₀.Keeps .all s) : s₀.Keeps .all (s.perstOn i) := foldl h.withPerstIn fun h => h.linkLost.switchReset
theorem perstOff {i : Fin 32} (h : s₀.Keeps .all s) : s₀.Keeps .all (s.perstOff i) := foldl h.withPerstIn fun h => h.train
theorem setProxy {p v : Nat} {r : ProxyReset} (h : s₀.Keeps .all s) : s₀.Keeps .all (s.setProxy p v r) := h.setVdp

theorem proxyWait {p v k : Nat} (h : s₀.Keeps .all s) : s₀.Keeps .all (s.proxyWait p v k) := by
  unfold State.proxyWait
  split
  · exact h
  · exact either h h.waitUntil.setProxy.proxySend

theorem proxyPoll {p v k : Nat} (h : s₀.Keeps .all s) : s₀.Keeps .all (s.proxyPoll p v k) := by
  unfold State.proxyPoll
  split
  · exact h
  · exact either h h.waitUntil.setProxy.proxySend

theorem proxyTimeout {p v k : Nat} (h : s₀.Keeps .all s) : s₀.Keeps .all (s.proxyTimeout p v k) := by
  unfold State.proxyTimeout
  split
  · exact h
  · exact h.waitUntil.setGone.freeReport

/-! ### Resets of functions -/

theorem mbxRsp {m : Nat} {v : Word} (h : s₀.Keeps .all s) : s₀.Keeps .all (s.mbxRsp m v) := h.setFd.setFb.setFb.mgrVector
theorem logVectorDue {f : Nat} (h : s₀.Keeps .all s) : s₀.Keeps .all (s.logVectorDue f) := either h h.waitUntil.setFn.msix

theorem dlAge (h : s₀.Keeps .all s) : s₀.Keeps .all s.dlAge := by
  unfold State.dlAge
  split
  · exact h
  · exact h.waitUntil.dlFlush

/-! ### Programs and trap slots -/

theorem pstsReject {n code stage slot ctx : Nat} (h : s₀.Keeps .all s) : s₀.Keeps .all (s.pstsReject n code stage slot ctx) :=
  h.setFb.setFd.setFd.setFd.setFd

theorem ctxselWrite {n c slot : Nat} {en : Bool} (h : s₀.Keeps .all s) : s₀.Keeps .all (s.ctxselWrite n c slot en) := by
  unfold State.ctxselWrite
  extract_lets s1
  have h1 : s₀.Keeps .all s1 := h.setFd
  refine either h (either h.setFb (either h1 ?_))
  split
  · exact h1.pstsReject
  · exact h1.setFb.setFb

theorem pcommitWrite {n mask : Nat} (h : s₀.Keeps .all s) : s₀.Keeps .all (s.pcommitWrite n mask) :=
  either h (either h.setFb h.setFb)

theorem pcommitFinish {n : Nat} (h : s₀.Keeps .all s) : s₀.Keeps .all (s.pcommitFinish n) := by
  unfold State.pcommitFinish
  extract_lets mask _ s1 s2 s3
  have h2 : s₀.Keeps .all s2 := setFb (setFb h.withHpl)
  have h3 : s₀.Keeps .all s3 := cntDev (foldl h2 fun h => h.setFd.setFb)
  refine either h (either h2.pstsReject ?_)
  split
  · exact h2.pstsReject
  · exact either h3.setFb h3

theorem progWrite {n sl j : Nat} {w : Word} (h : s₀.Keeps .all s) : s₀.Keeps .all (s.progWrite n sl j w) :=
  either h (either h.setFb h.setRg)

theorem ftblWrite {t : Nat} {v : Word} (h : s₀.Keeps .all s) : s₀.Keeps .all (s.ftblWrite t v) :=
  either (h.foldl fun h => h.setFb) h.setFd.setFd.setFd.setFd

theorem hashkWrite {v : Word} (h : s₀.Keeps .all s) : s₀.Keeps .all (s.hashkWrite v) := h

theorem hashReady (h : s₀.Keeps .all s) : s₀.Keeps .all s.hashReady := by
  unfold State.hashReady
  split
  · exact h
  · exact setRg h

theorem tverdWrite {n kind : Nat} {v : Verdict} (h : s₀.Keeps .all s) : s₀.Keeps .all (s.tverdWrite n kind v) :=
  either h ((h.acsWatch (fun h => h.verdict)).settle)

/-! ### Messages of ports -/

theorem powerControl {p v : Nat} {off : Bool} (h : s₀.Keeps .all s) : s₀.Keeps .all (s.powerControl p v off) :=
  either h (either ((either (h.setVdp.spcChange (fun h => h.spcObey)) h.setVdp).slotEvent) h.setVdp)

theorem busNumbers {p v sec sub : Nat} (h : s₀.Keeps .all s) : s₀.Keeps .all (s.busNumbers p v sec sub) :=
  either h h.setVdp.postEvent

theorem sendMessage {p rid code : Nat} {data : List Byte} (h : s₀.Keeps .all s) : s₀.Keeps .all (s.sendMessage p rid code data) :=
  either h h.emit

theorem errorMessage {p rid : Nat} {sev : ErrSev} (h : s₀.Keeps .all s) : s₀.Keeps .all (s.errorMessage p rid sev) := by
  unfold State.errorMessage
  extract_lets code b
  clear_value code b
  split
  · split
    · exact h
    · exact h.sendMessage
  · split
    · exact h.sendMessage
    · exact either (dpcTrigger h.sendMessage) h.sendMessage
    · exact either (dpcTrigger h.sendMessage) h.sendMessage

theorem ptm {p : Nat} (h : s₀.Keeps .all s) : s₀.Keeps .all (s.ptm p) := either h.sendMessage h

theorem ltr {p : Nat} {v : Word} (h : s₀.Keeps .all s) : s₀.Keeps .all (s.ltr p v) := by
  unfold State.ltr
  split
  · exact h
  · exact h.sendMessage

theorem goneWrite {p v : Nat} (h : s₀.Keeps .all s) : s₀.Keeps .all (s.goneWrite p v) := either h.setFb h.setGone.resolveWhere
theorem slotLost {i : Nat} (h : s₀.Keeps .all s) : s₀.Keeps .all (s.slotLost i) := h.foldl fun h => h.portDown.surpriseDown

/-! ### Configuration by a host -/

theorem vdpCfgWrite {p v off be : Nat} {data : List Byte} (h : s₀.Keeps .all s) : s₀.Keeps .all (s.vdpCfgWrite p v off be data) := by
  unfold State.vdpCfgWrite
  extract_lets _ _ _ _ _ _ _ s3 s4 _ s6
  have h3 : s₀.Keeps .all s3 := either h.setVdp.busNumbers.busReset (either h.setVdp.busNumbers.train h.setVdp.busNumbers)
  have h4 : s₀.Keeps .all s4 := by
    unfold s4
    split
    · exact h3.linkDisable
    · exact h3
  have h6 : s₀.Keeps .all s6 := by
    unfold s6
    split
    · exact (either h4.emit h4).powerControl
    · exact either h4.emit h4
  exact either ((either h6.dpcTrigger h6).dpcRelease) (either h6.dpcTrigger h6)

theorem fnCfgWrite {f off be : Nat} {data : List Byte} (h : s₀.Keeps .all s) : s₀.Keeps .all (s.fnCfgWrite f off be data) := by
  unfold State.fnCfgWrite
  extract_lets bit _ pf s1 _ s2 s3 _ s4
  have h1 : s₀.Keeps .all s1 := h.setFn
  have h2 : s₀.Keeps .all s2 := by
    unfold s2
    split
    · exact h1.setFn.msixFlush
    · exact h1.bmeClear
    · exact h1
  have h3 : s₀.Keeps .all s3 := either h2.msixFlush h2
  have h4 : s₀.Keeps .all s4 := by
    unfold s4
    split
    · exact either h3 h3.setFn
    · exact h3.vfEnableClear
    · exact h3
  exact either h4.flr h4

theorem doeWrite {p off : Nat} {w : BitVec 32} (h : s₀.Keeps .all s) : s₀.Keeps .all (s.doeWrite p off w) := by
  unfold State.doeWrite
  extract_lets
  split
  · exact h.setUp
  · split
    · exact h.setUp
    · split
      · split
        · exact h.setUp
        · split
          · refine bumpFv ?_
            split
            · exact h.setUp
            · exact h.setUp.setPort
          · exact h
      · exact h

theorem cfgAccess {p : Nat} {k : Pkt} {t : CfgTarget} (h : s₀.Keeps .all s) : s₀.Keeps .all (s.cfgAccess p k t) := by
  unfold State.cfgAccess
  extract_lets
  split
  · exact h.sendCpl
  · exact h.sendCpl
  · exact either h.sendCpl h.sendCpl
  · exact either h.sendCpl ((either h h.fnCfgWrite).sendCpl)
  · exact (either h h.vdpCfgWrite).sendCpl
  · exact (either h h.setUp.doeWrite).sendCpl

end State.Keeps
end Sys2Proof.Machine
end

section
/-! PROOFS. The operations of the links, the schedulers, the services, the power supply and the register accesses keep the canonical
forms. -/

namespace Sys2Proof.Machine
namespace State.Keeps

variable {ε : Extent} {s₀ s t : State}

/-! ### Received packets -/

theorem refuseRid {k : Pkt} (h : s₀.Keeps .all s) : s₀.Keeps .all (s.refuseRid k) := ((either h.sendCpl h).errorReport).bumpFv

theorem completionArrive {k : Pkt} (h : s₀.Keeps .all s) : s₀.Keeps .all (s.completionArrive k) := by
  unfold State.completionArrive
  extract_lets
  split
  · exact h.lateCpl
  · exact either h.addPkt.ownResponse h.arrive

theorem mctpEvent {n : Nat} (h : s₀.Keeps .all s) : s₀.Keeps .all (s.mctpEvent n) := h.postEvent.bumpFv.bumpFv

theorem ownMessage {k : Pkt} (h : s₀.Keeps .all s) (e : s.ownMessage k = some t) : s₀.Keeps .all t := by
  unfold State.ownMessage at e
  dsimp only at e
  split at e
  · cases e
  · split at e
    · split at e
      · cases e; exact h.errorMessage
      · split at e
        · cases e; exact h.errorMessage
        · split at e
          · cases e; exact h.errorMessage
          · split at e
            · cases e; exact h.ptm
            · split at e
              · cases e; exact h.ltr
              · cases e
    · split at e
      · cases e; exact h.mctpEvent
      · cases e

theorem countReceived {k : Pkt} (h : s₀.Keeps .all s) : s₀.Keeps .all (s.countReceived k) := h.cntPort.cntPort

theorem requestArrive {k : Pkt} (h : s₀.Keeps .all s) : s₀.Keeps .all (s.requestArrive k) := by
  unfold State.requestArrive
  extract_lets
  split
  · next _ e =>
      exact (h.ownMessage e)
  · split
    · exact h.slotWatch fun h => h.cfgAccess
    · split
      · exact h.refuseRid
      · exact (either h.bumpFv h).arrive

theorem decipher {p : Nat} {x : Tlp} (h : s₀.Keeps .all s) : s₀.Keeps .all (s.decipher p x).1 := by
  unfold State.decipher
  dsimp only
  split
  · exact h
  · exact h.setPort

theorem receiveTlp {p : Nat} {t : Tlp} (h : s₀.Keeps .all s) : s₀.Keeps .all (s.receiveTlp p t) :=
  either h.endCut.decipher.countReceived.completionArrive h.endCut.decipher.countReceived.requestArrive

theorem receiveCut {p : Nat} {t : Tlp} (h : s₀.Keeps .all s) : s₀.Keeps .all (s.receiveCut p t) := by
  unfold State.receiveCut
  split
  next s1 x e =>
  have h1 : s₀.Keeps .all s1 := of_fst h.endCut.decipher e
  refine either h1 ?_
  split
  · exact h1
  · exact bumpFv (setPort h1.arrive)

/-! ### Links -/

theorem frameAcked {id : Nat} (h : s₀.Keeps .all s) : s₀.Keeps .all (s.frameAcked id) := by
  unfold State.frameAcked
  split
  · exact h
  · split
    · exact h
    · split
      · exact h.itemTraceEnd.delEntry.dropPkt
      · exact h.pktTraceEnd.dropPkt

theorem ackFrames {n a : Nat} (h : s₀.Keeps .all s) : s₀.Keeps .all (s.ackFrames n a) := by
  unfold State.ackFrames
  extract_lets
  split
  · exact h
  · exact h.setLink.foldl fun h => by
        split
        · split
          · exact h
          · exact h.frameAcked
        · exact h

theorem useHdr {n : Nat} {h' : FrameHdr} (h : s₀.Keeps .all s) : s₀.Keeps .all (s.useHdr n h') :=
  either h.ackFrames h.ackFrames.setLink

theorem dropRx {n : Nat} {notice : Bool} (h : s₀.Keeps .all s) : s₀.Keeps .all (s.dropRx n notice) := by
  unfold State.dropRx
  extract_lets
  split
  · exact h.setLink
  · split
    · exact h.setLink
    · extract_lets
      split
      · extract_lets s2
        have h2 : s₀.Keeps .all s2 := either h.setLink.growCopies h.setLink.growCopies.chaffOut
        split
        · exact h2.evictPkt
        · refine dropPkt ?_
          split
          · exact h2.pktTraceEnd
          · exact h2.itemTraceEnd.delEntry
      · exact h.setLink.growCopies.discard

theorem nativeDown {n cause : Nat} (h : s₀.Keeps .all s) : s₀.Keeps .all (s.nativeDown n cause) :=
  h.setFb.setFd.cntPort.linkEvent.dropRx.setLink.creditRestart.foldl fun h => by
    split
    · exact h
    · exact h.linkDownPkt

theorem trySendParam {n : Nat} (h : s₀.Keeps .all s) : s₀.Keeps .all (s.trySendParam n) := either h h.setLink.sendSeq

theorem tryUp {n : Nat} (h : s₀.Keeps .all s) : s₀.Keeps .all (s.tryUp n) := by
  unfold State.tryUp
  extract_lets
  split
  · exact h
  · exact either h ((either h.setFb.setFd.setFd h.setFb.setFd).linkEvent)

theorem nativeArrive {k : Pkt} (h : s₀.Keeps .all s) : s₀.Keeps .all (s.nativeArrive k) := by
  unfold State.nativeArrive
  extract_lets
  split
  · split
    · exact (either h.countReceived h).consumeMsg
  · exact (either h.countReceived h).arrive

theorem rxFirst {n : Nat} {bs : List Byte} {whole : Bool} (h : s₀.Keeps .all s) : s₀.Keeps .all (s.rxFirst n bs whole) := by
  unfold State.rxFirst
  extract_lets s0 k id s1
  have h0 : s₀.Keeps .all s0 := h.dropRx
  have h1 : s₀.Keeps .all s1 := either h0.addPkt h0.nativeArrive
  exact either h0.addFd (either h0.nativeArrive h1.setLink)

theorem rxNext {n : Nat} {bs : List Byte} {last : Bool} (h : s₀.Keeps .all s) : s₀.Keeps .all (s.rxNext n bs last) := by
  unfold State.rxNext
  extract_lets l s1
  have h1 : s₀.Keeps .all s1 := either h.setLink h
  split
  · exact h1
  · split
    · exact h1
    · extract_lets _ k1 s2 s3
      have h2 : s₀.Keeps .all s2 := growCopies h1.setPkt
      have h3 : s₀.Keeps .all s3 := either h2.countReceived h2
      refine either (nativeArrive h1) ?_
      split
      · exact h3
      · exact either h3.pump h3

theorem inSeq {n : Nat} {x : FrameHdr} (h : s₀.Keeps .all s) (e : s.inSeq n x = some t) : s₀.Keeps .all t := by
  unfold State.inSeq at e
  dsimp only at e
  split at e
  · cases e; exact h.setLink
  · cases e

theorem frameIn {n : Nat} {h' : FrameHdr} {f : State → State} (h : s₀.Keeps .all s) (hf : ∀ {t}, s₀.Keeps .all t → s₀.Keeps .all (f t)) :
    s₀.Keeps .all (s.frameIn n h' f) :=
  either h (((hf h.useHdr.tryUp).trySendParam).tryUp)

theorem dataFrame {n : Nat} {h' : FrameHdr} {f : State → State} (h : s₀.Keeps .all s) (hf : ∀ {t}, s₀.Keeps .all t → s₀.Keeps .all (f t)) :
    s₀.Keeps .all (s.dataFrame n h' f) :=
  h.frameIn (fun h => by
    split
    · exact h
    · split
      · exact h
      · next _ e =>
          exact hf ((h.inSeq e).setLink))

/-! ### Fabric time -/

theorem foldSlew (h : s₀.Keeps .all s) : s₀.Keeps .all s.foldSlew := h

theorem reselectTime (h : s₀.Keeps .all s) : s₀.Keeps .all s.reselectTime := by
  unfold State.reselectTime
  split
  · exact (((((either h h.foldSlew).setFd).setFd).setFd).setFb).setFb
  · exact h.setFd.setFd.setFd.setFb.setFb

theorem correctTime {theta : Int} (h : s₀.Keeps .all s) : s₀.Keeps .all (s.correctTime theta) := by
  unfold State.correctTime
  extract_lets
  split
  · split
    · exact either h.setFd (setFd (setFb (almSource h.foldSlew)))
    · exact setFd (setFb (almSource h.foldSlew))
  · exact setFd (setFb (bumpFv h.foldSlew))

theorem tsyncIn {n : Nat} {b : TsyncBody} (h : s₀.Keeps .all s) : s₀.Keeps .all (s.tsyncIn n b) :=
  either h.setLink.reselectTime.correctTime h.setLink.reselectTime

/-! ### Physical links -/

theorem subAbandon {n : Nat} (h : s₀.Keeps .all s) : s₀.Keeps .all (s.subAbandon n) := either h h.setFd.setFb.cntDev.setPhy
theorem setCompat {n : Nat} {on : Bool} (h : s₀.Keeps .all s) : s₀.Keeps .all (s.setCompat n on) := either h h.setFb.setRg
theorem sendTraining {n st : Nat} (h : s₀.Keeps .all s) : s₀.Keeps .all (s.sendTraining n st) := h.emit
theorem adaptLanes {n : Nat} (h : s₀.Keeps .all s) : s₀.Keeps .all (s.adaptLanes n) := h.foldl fun h => h.setRg.bumpFv
theorem pairState {n st : Nat} (h : s₀.Keeps .all s) : s₀.Keeps .all (s.pairState n st) := either h h.setRg

theorem enterState {n st : Nat} (h : s₀.Keeps .all s) : s₀.Keeps .all (s.enterState n st) := by
  unfold State.enterState
  extract_lets _ s1 _ s2 _ s3 _ s3' s4
  have h2 : s₀.Keeps .all s2 := h.setFd.setFb.setPhy
  have h3 : s₀.Keeps .all s3 := either h2.setFd (setFd (setPhy h2.subAbandon))
  have h3' : s₀.Keeps .all s3' := either (bumpFv h3.setPhy) (either h3.sendTraining h3)
  have h4 : s₀.Keeps .all s4 := (either h3'.setFb.setCompat h3').pairState
  exact either h4.linkEvent h4

theorem declareDown {n cause st : Nat} (h : s₀.Keeps .all s) : s₀.Keeps .all (s.declareDown n cause st) :=
  h.nativeDown.enterState.reselectTime

theorem startTraining {n : Nat} (h : s₀.Keeps .all s) : s₀.Keeps .all (s.startTraining n) :=
  either h (either h.place h.place.setCompat.enterState)

theorem stopTraining {n : Nat} (h : s₀.Keeps .all s) : s₀.Keeps .all (s.stopTraining n) :=
  either h (either h.declareDown h.enterState)

theorem tapRequests {n : Nat} {l : List (Fin 8 × Byte)} (h : s₀.Keeps .all s) : s₀.Keeps .all (s.tapRequests n l) :=
  h.setPhy.foldl fun h => h.setPhy.emit

theorem enterActive {n : Nat} (h : s₀.Keeps .all s) : s₀.Keeps .all (s.enterActive n) :=
  either ((((either h.setPhy h).enterState).setLink).trySendParam) ((either h.setPhy h).enterState)

theorem configTimeout {n : Nat} (h : s₀.Keeps .all s) : s₀.Keeps .all (s.configTimeout n) := h.waitUntil.enterState

theorem trainAdvance {n : Nat} {o : TrainObs} (h : s₀.Keeps .all s) : s₀.Keeps .all (s.trainAdvance n o) := by
  unfold State.trainAdvance
  split
  · exact h.startTraining
  · exact enterState (either (either (setPhy (setFd h.waitUntil)) (setFd h.waitUntil)) h.waitUntil)
  · exact h.adaptLanes.enterState
  · exact h.tapRequests.enterState
  · extract_lets own x16 s1 s2
    have h1 : s₀.Keeps .all s1 := h.setFd.setFb
    have h2 : s₀.Keeps .all s2 := either h1.setFd h1
    exact either h.configTimeout.setFb (enterState h2.setPhy)
  · exact h.enterActive
  · exact h

theorem trainTimeout {n : Nat} (h : s₀.Keeps .all s) : s₀.Keeps .all (s.trainTimeout n) := by
  unfold State.trainTimeout
  extract_lets
  split
  · exact h.waitUntil.enterState
  · exact h.waitUntil.enterState
  · exact h.configTimeout
  · exact h.waitUntil.enterState
  · exact h

theorem lockLoss {n : Nat} (h : s₀.Keeps .all s) : s₀.Keeps .all (s.lockLoss n) := either h h.addFd.cntDev.enterState
theorem relock {n : Nat} (h : s₀.Keeps .all s) : s₀.Keeps .all (s.relock n) := either h.enterState h

theorem ldtimeDown {n : Nat} (h : s₀.Keeps .all s) : s₀.Keeps .all (s.ldtimeDown n) :=
  either h (either h.waitUntil.declareDown h.waitUntil.enterState)

theorem announceHalf {n : Nat} (h : s₀.Keeps .all s) : s₀.Keeps .all (s.announceHalf n) :=
  either (either h.setPhy h) h.subAbandon.setPhy.emit.bumpFv

theorem beginFull {n : Nat} (h : s₀.Keeps .all s) : s₀.Keeps .all (s.beginFull n) := either h h.setPhy
theorem announceFull {n : Nat} (h : s₀.Keeps .all s) : s₀.Keeps .all (s.announceFull n) := either h h.setPhy.emit.bumpFv

theorem changeWidth {n : Nat} {tx : Bool} (h : s₀.Keeps .all s) : s₀.Keeps .all (s.changeWidth n tx) := by
  unfold State.changeWidth
  extract_lets
  split
  · exact h
  · split
    · split
      · exact h
      · exact h.setPhy.setFd.pairState
    · split
      · exact h
      · exact h.setPhy

theorem widthOrder {n : Nat} {half : Bool} (h : s₀.Keeps .all s) : s₀.Keeps .all (s.widthOrder n half) :=
  either h ((either h.subAbandon h).setPhy)

theorem subGo {n t : Nat} (h : s₀.Keeps .all s) : s₀.Keeps .all (s.subGo n t) :=
  either h (either h.setFd.setFd.setFb.setPhy.emit h.setFd.setFd)

theorem dupOrder {n lane : Nat} (h : s₀.Keeps .all s) : s₀.Keeps .all (s.dupOrder n lane) :=
  either h (either (either h (either h.setFd.setPhy (either h h.setFd.cntDev.setFb.setPhy.emit))) (either h h.setFd.setFb.setPhy.emit))

theorem subDone {n : Nat} (h : s₀.Keeps .all s) : s₀.Keeps .all (s.subDone n) :=
  either (((((((either h.wearRearm h.wearRearm).setFd).setFd).setFb).setPhy).cntPort).cntDev) h

theorem subConverged {n : Nat} (h : s₀.Keeps .all s) : s₀.Keeps .all (s.subConverged n) := either h h.setPhy.emit.subDone
theorem switchedOrder {n lane : Nat} (h : s₀.Keeps .all s) : s₀.Keeps .all (s.switchedOrder n lane) := either h h.setPhy.subDone
theorem subTimeout {n : Nat} (h : s₀.Keeps .all s) : s₀.Keeps .all (s.subTimeout n) := either h h.waitUntil.emit.subAbandon
theorem abandonOrder {n lane : Nat} (h : s₀.Keeps .all s) : s₀.Keeps .all (s.abandonOrder n lane) := either h.subAbandon h

theorem phyCtlWrite {n : Nat} {v : Word} (h : s₀.Keeps .all s) : s₀.Keeps .all (s.phyCtlWrite n v) := by
  unfold State.phyCtlWrite
  extract_lets _ _ _ s2 s3
  have h2 : s₀.Keeps .all s2 := (((either h h.setFd).setFd).setFd).setFd
  have h3 : s₀.Keeps .all s3 := either (either h2.stopTraining h2) h2.startTraining
  exact (either h3.announceHalf (either h3.beginFull h3)).foldl fun h => h.train

theorem phySubWrite {n : Nat} {v : Word} (h : s₀.Keeps .all s) : s₀.Keeps .all (s.phySubWrite n v) := either h.subGo h.setFd

theorem lnTstWrite {n i : Nat} {v : Word} (h : s₀.Keeps .all s) : s₀.Keeps .all (s.lnTstWrite n i v) := by
  unfold State.lnTstWrite
  extract_lets _ s2
  have h2 : s₀.Keeps .all s2 := h.setFd.setFd.setFd.setFb.setFd.setFd
  exact either ((either h2 h2.setFd).emit) (either h2 h2.setFd)

/-! ### Schedulers -/

theorem shaperCharge {i p len : Nat} (h : s₀.Keeps .all s) : s₀.Keeps .all (s.shaperCharge i p len) := h.withSch
theorem wakeNode {parent child : Nat} (h : s₀.Keeps .all s) : s₀.Keeps .all (s.wakeNode parent child) := either h h.withSch

theorem refresh {p : Nat} {qs : List Nat} (h : s₀.Keeps .all s) : s₀.Keeps .all (s.refresh p qs) :=
  foldl (foldl (foldl h (fun h => h.wakeNode)) (fun h => h.wakeNode)) fun h => h.wakeNode

theorem chargeNode {a b n m : Nat} (h : s₀.Keeps .all s) : s₀.Keeps .all (s.chargeNode a b n m) := h.withSch

theorem chargeQueue {p q len : Nat} (h : s₀.Keeps .all s) : s₀.Keeps .all (s.chargeQueue p q len) :=
  h.chargeNode.chargeNode.chargeNode

theorem countSent {p : Nat} {k : Pkt} (h : s₀.Keeps .all s) : s₀.Keeps .all (s.countSent p k) :=
  either h.cntPort.cntPort h.cntPort.cntPort.cntPort.cntPort.cntPort.cntPort

theorem egressMirror {p : Nat} {k : Pkt} (h : s₀.Keeps .all s) : s₀.Keeps .all (s.egressMirror p k) := either h.mirrorCopy h
theorem startNative {p : Nat} {k : Pkt} (h : s₀.Keeps .all s) : s₀.Keeps .all (s.startNative p k) := h.setPkt.setLink.pump

theorem tagRequest {p : Nat} {k : Pkt} (h : s₀.Keeps .all s) : s₀.Keeps .all (s.tagRequest p k).1 := by
  unfold State.tagRequest
  split
  · exact h
  · split
    · exact h
    · split
      · exact h.updEntry
      · split
        · exact h
        · exact h.bumpFv.updEntry

theorem emitTlp {p : Nat} {k : Pkt} (h : s₀.Keeps .all s) : s₀.Keeps .all (s.emitTlp p k) :=
  either h.emit (either (h.foldlFst fun h => h.emit) h.emit)

theorem startPcie {p : Nat} {k : Pkt} (h : s₀.Keeps .all s) : s₀.Keeps .all (s.startPcie p k) :=
  dlSent (emitTlp (setPkt (setPort h.tagRequest)))

theorem startPkt {p q : Nat} {k : Pkt} (h : s₀.Keeps .all s) : s₀.Keeps .all (s.startPkt p q k) := by
  unfold State.startPkt
  extract_lets len s1 s2 s3
  have h1 : s₀.Keeps .all s1 := by
    unfold s1
    split
    · exact h
    · exact h.shaperCharge
  have h3 : s₀.Keeps .all s3 := markSent (egressMirror (countSent h1.chargeQueue))
  exact (either h3.startNative h3.startPcie).drainCheck

theorem startClassC {p : Nat} {k : Pkt} (h : s₀.Keeps .all s) : s₀.Keeps .all (s.startClassC p k) := h.countSent.egressMirror.startNative

theorem startMirror {p : Nat} {k : Pkt} (h : s₀.Keeps .all s) : s₀.Keeps .all (s.startMirror p k) :=
  either h.dropPkt.addFd h.countSent.startNative

theorem classCHead {p : Nat} {k : Pkt} (h : s₀.Keeps .all s) (e : s.classCHead p = some (t, k)) : s₀.Keeps .all t := by
  unfold State.classCHead at e
  split at e
  · cases e
  · split at e
    · cases e
    · split at e
      · cases e; exact h
      · obtain ⟨_, e', he⟩ := Option.map_eq_some_iff.mp e
        cases he
        exact h.drawC e'

theorem select {p n : Nat} (h : s₀.Keeps .all s) : s₀.Keeps .all (s.select p n) := by
  induction n generalizing s with
  | zero => exact h
  | succ n ih =>
    unfold State.select
    split
    · exact h
    · split
      · next e => exact (h.classCHead e).startClassC
      · extract_lets hs s1
        have h1 : s₀.Keeps .all s1 := h.refresh
        split
        · split
          · exact h1
          · exact h1.startMirror
        · split
          · exact h1
          · exact either (ih h1.ageOut) h1.startPkt

theorem endCuts {p : Nat} (h : s₀.Keeps .all s) : s₀.Keeps .all (s.endCuts p) := h.foldl fun h => h.endCut

/-! ### Rows of the ledger -/

theorem pageRefresh {p : Nat} {k : Pkt} (h : s₀.Keeps .all s) : s₀.Keeps .all (s.pageRefresh p k) := either h h.withLdg

theorem ackPkt {p id : Nat} (h : s₀.Keeps .all s) : s₀.Keeps .all (s.ackPkt p id) := by
  unfold State.ackPkt
  split
  · exact h
  · extract_lets s0 s1 s2
    have h0 : s₀.Keeps .all s0 := h.pageRefresh
    have h1 : s₀.Keeps .all s1 := by
      unfold s1
      split
      · exact either h0 h0.pktTraceEnd
      · refine either h0 ?_
        split
        · exact h0
        · exact either h0.itemTraceEnd.delEntry h0.deliverItems
    have h2 : s₀.Keeps .all s2 := h1.dropPkt
    split
    · exact h2
    · exact h2.coverable

theorem linkAcks {p n : Nat} (h : s₀.Keeps .all s) : s₀.Keeps .all (s.linkAcks p n) :=
  (h.setPort.foldl fun h => h.ackPkt).storeMark

theorem deadline {i : Nat} (h : s₀.Keeps .all s) : s₀.Keeps .all (s.deadline i) := by
  unfold State.deadline
  split
  · exact h
  · exact either h h.waitUntil.resolve

theorem ldgCopy {i : Nat} (h : s₀.Keeps .all s) : s₀.Keeps .all (s.ldgCopy i) := by
  unfold State.ldgCopy
  split
  · exact (h.setFd.foldl fun h => h.setRg).setRg

theorem aercWrite {v : Word} (h : s₀.Keeps .all s) : s₀.Keeps .all (s.aercWrite v) :=
  either h.setFd.setFd (withLdg h.setFd.setFd.setFb)

theorem aerSearch (h : s₀.Keeps .all s) : s₀.Keeps .all s.aerSearch := by
  unfold State.aerSearch
  split
  · exact h
  · extract_lets _ _ dw hits n _ s1
    have h1 : s₀.Keeps .all s1 := setFb (setFd (setFb h.withLdg))
    exact either h1.putRecord.ldgReport (h1.foldlFst fun h => h.putRecord)

theorem quarExpire {p : Nat} {key : QuarKey} (h : s₀.Keeps .all s) : s₀.Keeps .all (s.quarExpire p key) := by
  unfold State.quarExpire
  split
  · exact h
  · exact withLdg h.withNow

theorem creditsBack {p : Nat} {c : CreditReturn} (h : s₀.Keeps .all s) : s₀.Keeps .all (s.creditsBack p c) := either h h.setPort

/-! ### Rows of the physical links -/

theorem phyCtlBit {w : Writer} {n bit : Nat} {b : Bool} (h : s₀.Keeps .all s) : s₀.Keeps .all (s.phyCtlBit w n bit b) :=
  (h.regCommand (fun h => h.phyCtlWrite)).settle

/-! ### Boot and flash -/

theorem glbMode {v : Word} (h : s₀.Keeps .all s) : s₀.Keeps .all (s.glbMode v) := either h.setFb h.setFb.setFb.setFd.reselectTime
theorem verifyGo {b : Bool} (h : s₀.Keeps .all s) : s₀.Keeps .all (s.verifyGo b) := either h.setFb h.setFb.setFb

theorem flashStart (h : s₀.Keeps .all s) : s₀.Keeps .all s.flashStart := by
  unfold State.flashStart
  split
  · exact h
  · exact h.emit

theorem verifyEnd {k : ImageCheck} (h : s₀.Keeps .all s) : s₀.Keeps .all (s.verifyEnd k) := by
  unfold State.verifyEnd
  split
  · exact h
  · exact either h (either (flashStart (withSec h.setFd.setFb.setFb)) (withSec h.setFd.setFb.setFb))

theorem flctl {v : Word} (h : s₀.Keeps .all s) : s₀.Keeps .all (s.flctl v) := by
  unfold State.flctl
  extract_lets _ _ s1 _ s2 _ s3
  have h1 : s₀.Keeps .all s1 := h.setFb.setFd.setFd
  have h2 : s₀.Keeps .all s2 := h1.setFb
  have h3 : s₀.Keeps .all s3 := h2.withSec
  exact either h1 (either h1.setFb (either h3 h3.flashStart))

theorem flashEnd {ok : Bool} {data : List Byte} (h : s₀.Keeps .all s) : s₀.Keeps .all (s.flashEnd ok data) := by
  unfold State.flashEnd
  split
  · exact h
  · split
    · exact h
    · extract_lets s1
      have h1 : s₀.Keeps .all s1 := either h.setFb (either (h.foldl fun h => h.setRg) h)
      exact h1.setFb

/-! ### Service and spares -/

theorem pcnSnap {v : Word} (h : s₀.Keeps .all s) : s₀.Keeps .all (s.pcnSnap v) := either (withPcn h.addFd.setRg) h.setFb
theorem trcSeed {v : Word} (h : s₀.Keeps .all s) : s₀.Keeps .all (s.trcSeed v) := withHpl h.setFd

theorem wearAlarm {kind idx : Nat} {reading : Word} (h : s₀.Keeps .all s) : s₀.Keeps .all (s.wearAlarm kind idx reading) :=
  h.postEvent

theorem measure {kind idx : Nat} {g : GaugeReading} (h : s₀.Keeps .all s) : s₀.Keeps .all (s.measure kind idx g) := by
  unfold State.measure
  extract_lets key s1 _ s2 s3
  have h2 : s₀.Keeps .all s2 := withSvc h.waitUntil
  have h3 : s₀.Keeps .all s3 := either h2.setFd.setFd h2
  refine either h ?_
  split
  · exact h3
  · exact either h3 (wearAlarm h3.withSvc)

theorem wearCopy {v : Word} (h : s₀.Keeps .all s) : s₀.Keeps .all (s.wearCopy v) := by
  unfold State.wearCopy
  extract_lets
  split
  · exact h.setFd.setFd.setFd.setFd.setFd.setFb

theorem spareFails {j : Nat} (h : s₀.Keeps .all s) : s₀.Keeps .all (s.spareFails j) := h.setFb.wearAlarm.bumpFv
theorem selfTest {j : Nat} (h : s₀.Keeps .all s) : s₀.Keeps .all (s.selfTest j) := either h (withSvc h.waitUntil)

theorem selfTestEnd {j : Nat} {pass : Bool} (h : s₀.Keeps .all s) : s₀.Keeps .all (s.selfTestEnd j pass) :=
  either h (either h (spareFails h))

theorem falPhase {phase rcode : Nat} (h : s₀.Keeps .all s) : s₀.Keeps .all (s.falPhase phase rcode) := h.setFd.setFd

theorem falEnd {phase rcode : Nat} (h : s₀.Keeps .all s) : s₀.Keeps .all (s.falEnd phase rcode) :=
  almSource (bumpFv (errorReport (withSvc h.falPhase.setFb)))

theorem falCmd {v : Word} (h : s₀.Keeps .all s) : s₀.Keeps .all (s.falCmd v) := by
  unfold State.falCmd
  extract_lets _ _ _ s1 _ _ _ s2
  have h1 : s₀.Keeps .all s1 := h.setFd.setFd.setFd
  have h2 : s₀.Keeps .all s2 := h1.setFd.setFd
  exact either h1 (either (setFb (falPhase h1.withSvc)) (either h2.setFb h2))

theorem falSwitch {f : FalJob} (h : s₀.Keeps .all s) : s₀.Keeps .all (s.falSwitch f) := by
  unfold State.falSwitch
  extract_lets same cleared _ s1 s2 c _ s3
  have h2 : s₀.Keeps .all s2 := wearRearm h.withSvc
  have h3 : s₀.Keeps .all s3 := h2.setCore
  exact either (either h3.coreStart h3) (either h2.withHpl (either h2.withAlm h2))

theorem falNext {pass : Bool} (h : s₀.Keeps .all s) : s₀.Keeps .all (s.falNext pass) := by
  unfold State.falNext
  split
  · exact h
  · split
    · exact h
    · split
      · exact either h.falPhase h.falEnd
      · exact either h.falPhase h.spareFails.falEnd
      · exact h.falPhase
      · exact h.falSwitch.falEnd

theorem falAbandon (h : s₀.Keeps .all s) : s₀.Keeps .all s.falAbandon := by
  unfold State.falAbandon
  split
  · exact h
  · exact either h.falEnd h

theorem almCmdSeal (h : s₀.Keeps .all s) : s₀.Keeps .all s.almCmdSeal := h.almTrigger.bumpFv
theorem slotLock {i : Nat} (h : s₀.Keeps .all s) : s₀.Keeps .all (s.slotLock i) := either h.setFb h.setFb
theorem slotRelease {i : Nat} (h : s₀.Keeps .all s) : s₀.Keeps .all (s.slotRelease i) := either h.setFd h
theorem fwRecord {x : Nat} {v : Word} (h : s₀.Keeps .all s) : s₀.Keeps .all (s.fwRecord x v) := h.almRecord

/-! ### Power, clocks and supply -/

theorem pwrBit {d : Nat} {on : Bool} (h : s₀.Keeps .all s) : s₀.Keeps .all (s.pwrBit d on) :=
  either h (either h.setFb.setFd.setFd (either (h.setFb.setFb.foldl fun h => h.coreWarmReset) h.setFb.setFb))

theorem pwrWrite {v : Word} (h : s₀.Keeps .all s) : s₀.Keeps .all (s.pwrWrite v) := either h (h.foldl fun h => h.pwrBit)

theorem sagEvent {k : Nat} {entering : Bool} {src reading : Nat} (h : s₀.Keeps .all s) :
    s₀.Keeps .all (s.sagEvent k entering src reading) :=
  h.postEvent

theorem enterL0p (h : s₀.Keeps .all s) : s₀.Keeps .all s.enterL0p := h.foldl fun h => either h.setFb.bumpFv h

theorem sagAction {k : Nat} (h : s₀.Keeps .all s) : s₀.Keeps .all (s.sagAction k) := by
  unfold State.sagAction
  split
  · exact h.dlFlush
  · exact h.falAbandon
  · exact (h.foldl fun h => h.announceHalf).enterL0p
  · exact sagDone (almTrigger (almSource (setFb h)))
  · exact h

theorem sagEnterOne {k src reading : Nat} (h : s₀.Keeps .all s) : s₀.Keeps .all (s.sagEnterOne k src reading) :=
  ((either h.setFd.setFd.setFd.addFd (either h.setFd.setFd.setFd.addFd
    (either h.setFd.setFd.setFd.addFd h.setFd.setFd.setFd))).sagEvent).sagAction

theorem sagEnter {k src reading : Nat} (h : s₀.Keeps .all s) : s₀.Keeps .all (s.sagEnter k src reading) :=
  h.foldl fun h => h.sagEnterOne

theorem sagUndo {k : Nat} (h : s₀.Keeps .all s) : s₀.Keeps .all (s.sagUndo k) := by
  unfold State.sagUndo
  split
  · exact h.setFb
  · exact (h.foldl fun h => h.beginFull).foldl fun h => h.setFb
  · exact h

theorem sagLeaveOne {k : Nat} (h : s₀.Keeps .all s) : s₀.Keeps .all (s.sagLeaveOne k) := h.setFd.sagEvent.bumpFv.sagUndo

theorem sagExit {k : Nat} (h : s₀.Keeps .all s) : s₀.Keeps .all (s.sagExit k) :=
  either h (either ((h.foldl fun h => h.sagLeaveOne).setFb) (h.foldl fun h => h.sagLeaveOne))

theorem sagCondition {k src reading : Nat} (h : s₀.Keeps .all s) : s₀.Keeps .all (s.sagCondition k src reading) :=
  either ((either h.setFb h).sagEnter) (either h.setFb h)

theorem sagCfg {v : Word} (h : s₀.Keeps .all s) : s₀.Keeps .all (s.sagCfg v) :=
  either h.setFd.setFd.setFd.setFd h.setFd.setFd.setFd.setFd.setFd.sagEnter

theorem sagDiscard (h : s₀.Keeps .all s) : s₀.Keeps .all s.sagDiscard :=
  either h (h.waitUntil.foldl fun h => by
    extract_lets t1
    have h1 : s₀.Keeps .all t1 := h.foldl fun h => either h.chaffOut h
    split
    · exact h1
    · exact h1.evictPkt)

theorem setRefOk {b on : Bool} (h : s₀.Keeps .all s) : s₀.Keeps .all (s.setRefOk b on) := h.setFb

theorem refSwitch {b : Bool} (h : s₀.Keeps .all s) : s₀.Keeps .all (s.refSwitch b) :=
  h.setFb.addFd.errorReport.bumpFv.bumpFv.almSource

theorem refLost (h : s₀.Keeps .all s) : s₀.Keeps .all s.refLost := by
  unfold State.refLost
  extract_lets b s1 s2
  have h1 : s₀.Keeps .all s1 := h.setRefOk
  have h2 : s₀.Keeps .all s2 := h1.setFb
  exact either h (either h1.refSwitch (either h2 h2.withPwr))

theorem refRevert (h : s₀.Keeps .all s) : s₀.Keeps .all s.refRevert := either h h.waitUntil.setFb.setFb.addFd

theorem refValid {b : Bool} (h : s₀.Keeps .all s) : s₀.Keeps .all (s.refValid b) :=
  either h (either h.setRefOk (either (setFb h.setRefOk) (either (refSwitch (setFb h.setRefOk)) h.setRefOk)))

theorem holdoverEnd (h : s₀.Keeps .all s) : s₀.Keeps .all s.holdoverEnd := either h (sagEnter (withPwr h.withNow))

/-! ### Rows of the schedulers and of the Gleaner -/

theorem schQWrite {q : Nat} {v : Word} (h : s₀.Keeps .all s) : s₀.Keeps .all (s.schQWrite q v) :=
  either h.setFb (either h.setRg.setFb.setFd h.setRg)

theorem schLenSet {p : Nat} {v : Word} (h : s₀.Keeps .all s) : s₀.Keeps .all (s.schLenSet p v) := either h.setFb.setFd h.setRg
theorem calLoad {p : Nat} (h : s₀.Keeps .all s) : s₀.Keeps .all (s.calLoad p) := foldl h fun h => h

theorem calWrite {p : Nat} {v : Word} (h : s₀.Keeps .all s) : s₀.Keeps .all (s.calWrite p v) :=
  either h.setRg (either h.setRg (either h.setRg.calLoad h.setRg.setFb.setFd))

theorem shpWrite {i : Nat} {v : Word} (h : s₀.Keeps .all s) : s₀.Keeps .all (s.shpWrite i v) := h.setRg

theorem polWrite {i : Nat} {burst : Bool} {v : Word} (h : s₀.Keeps .all s) : s₀.Keeps .all (s.polWrite i burst v) :=
  either h.setRg h.setRg

theorem toMultiple {n : Nat} {again : Bool} (h : s₀.Keeps .all s) : s₀.Keeps .all (s.toMultiple n again) := either h h.waitUntil
theorem tick (h : s₀.Keeps .all s) : s₀.Keeps .all s.tick := foldl (foldl h.toMultiple (fun h => h)) fun h => h

theorem underrun {p : Nat} (h : s₀.Keeps .all s) : s₀.Keeps .all (s.underrun p) := by
  unfold State.underrun
  split
  · exact h
  · split
    · exact h
    · split
      · exact h
      · extract_lets
        split
        · exact h.waitUntil.chaffOut.evictPkt
        · split
          · exact h.waitUntil.chaffOut
          · exact h.waitUntil.chaffOut.replayPkt

theorem cellError {id : Nat} (h : s₀.Keeps .all s) : s₀.Keeps .all (s.cellError id) := by
  unfold State.cellError
  split
  · exact h
  · extract_lets _ _ s1 s2
    have h1 : s₀.Keeps .all s1 := h.setFb.bufReport.almTrigger.bumpFv
    have h2 : s₀.Keeps .all s2 := by
      unfold s2
      split
      · exact either h1.chaffOut h1
      · exact h1
    split
    · exact h2.evictPkt
    · split
      · exact h2.dropPkt
      · split
        · exact h2.failPktItem
        · exact either h2.skipCopy h2.discard

theorem glnCfgSet {v : Word} (h : s₀.Keeps .all s) : s₀.Keeps .all (s.glnCfgSet v) := either h.setRg.setFd.setFd h.setRg
theorem glnWrite {r : List Byte} (h : s₀.Keeps .all s) : s₀.Keeps .all (s.glnWrite r) := addFd (either h.hostWrite h)

theorem glnStep (h : s₀.Keeps .all s) : s₀.Keeps .all s.glnStep := by
  unfold State.glnStep
  split
  · exact h
  · extract_lets _ popped s1
    have hpopped : s₀.Keeps .all popped := h.withGln
    refine either hpopped ?_
    split
    · exact hpopped.addFd
    · exact either (addFd hpopped.withGln) (either (withGln h.glnWrite) hpopped.glnWrite)

theorem scrubError {k : ScrubKind} {addr : Word} (h : s₀.Keeps .all s) : s₀.Keeps .all (s.scrubError k addr) := by
  unfold State.scrubError
  extract_lets report s1
  have hreport : ∀ {src : Src} {n : Nat}, s₀.Keeps .all (report src n) := h.errorReport.almTrigger.bumpFv
  have h1 : s₀.Keeps .all s1 := hreport
  split
  · exact hreport
  · exact hreport
  · split
    · exact h1
    · exact h1.putRecord.voidEntry

/-! ### Register accesses -/

theorem regLoad {w : Writer} {off : Nat} (h : s₀.Keeps .all s) : s₀.Keeps .all (s.regLoad w off).2 := by
  unfold State.regLoad
  extract_lets s' bad
  have h' : s₀.Keeps .all s' := h.bumpFv
  have hbad : s₀.Keeps .all bad.2 := h'.badAccess
  clear_value bad
  refine eitherSnd hbad (eitherSnd ?_ (eitherSnd h' (eitherSnd h' (eitherSnd hbad (eitherSnd h' (eitherSnd h' (eitherSnd h'
    (eitherSnd h' (eitherSnd h' (eitherSnd h' ?_))))))))))
  · cases s.pageAddr (s.fd R.FFN_APR_FN) (off - 0x3C0000) with
    | none => exact hbad
    | some a =>
      dsimp only
      cases findReg a with
      | none => exact hbad
      | some x => exact h'
  · cases findReg off with
    | none => exact hbad
    | some x => exact h'

theorem fieldWrite {h' : RegHit} {off : Nat} {v : Word} (h : s₀.Keeps .all s) : s₀.Keeps .all (s.fieldWrite h' off v) := by
  unfold State.fieldWrite
  split
  · exact h.tblStore
  · exact h.setRg

theorem downWrite {p off : Nat} {v : Word} (h : s₀.Keeps .all s) : s₀.Keeps .all (s.downWrite p off v) := either h.setFb h.setRg

theorem lctlWrite {p : Nat} {v : Word} (h : s₀.Keeps .all s) : s₀.Keeps .all (s.lctlWrite p v) :=
  either h.setRg.train h.setRg.dlDown.untrain.settle

theorem cclCtl {c : Fin 4} {v : Word} (h : s₀.Keeps .all s) : s₀.Keeps .all (s.cclCtl c v) :=
  (h.setFd.setFd.foldl fun h => either h.coreEnable h.coreDisable).foldl fun h => either h.coreWrst h

theorem wdtWrite {h' : RegHit} {v : Word} (h : s₀.Keeps .all s) : s₀.Keeps .all (s.wdtWrite h' v) :=
  either h.fieldWrite.wdtKick h.fieldWrite

theorem fenceWrite {i : Nat} {v : Word} (h : s₀.Keeps .all s) : s₀.Keeps .all (s.fenceWrite i v) := h.foldl fun h => h.setFence
theorem markClear {v : Word} (h : s₀.Keeps .all s) : s₀.Keeps .all (s.markClear v) := h.foldl fun h => either h h
theorem seedWrite {v : Word} (h : s₀.Keeps .all s) : s₀.Keeps .all (s.seedWrite v) := either h h.setRg

theorem boxWrite {busy ovw : Field} {off : Nat} {v : Word} (h : s₀.Keeps .all s) : s₀.Keeps .all (s.boxWrite busy ovw off v) :=
  either h.setFb h.setRg

theorem spcWrite {h' : RegHit} {off : Nat} {v : Word} (h : s₀.Keeps .all s) : s₀.Keeps .all (s.spcWrite h' off v) :=
  either h.setFb h.fieldWrite

theorem spcTm {h' : RegHit} {off : Nat} {v : Word} (h : s₀.Keeps .all s) : s₀.Keeps .all (s.spcTm h' off v) :=
  either h.setFb h.fieldWrite.setSpc

theorem spcCtl {i : Nat} {v : Word} (h : s₀.Keeps .all s) : s₀.Keeps .all (s.spcCtl i v) := by
  unfold State.spcCtl
  extract_lets _ s2
  have h2 : s₀.Keeps .all s2 := either h.setFd.setFd.setFd.setFd.spcEn h.setFd.setFd.setFd.setFd.spcDis
  exact either ((either h2.spcPerstf h2.setFb).spcDclr) (either h2.spcPerstf h2.setFb)

theorem sagThr {off : Nat} {v : Word} (h : s₀.Keeps .all s) : s₀.Keeps .all (s.sagThr off v) := either h.setFb h.setRg

theorem polAct {i : Nat} {v : Word} (h : s₀.Keeps .all s) : s₀.Keeps .all (s.polAct i v) :=
  either (either h.setFd h.setFd.setFd) ((either h.setFd h.setFd.setFd).setFd)

theorem bufdt {p : Nat} {v : Word} (h : s₀.Keeps .all s) : s₀.Keeps .all (s.bufdt p v) := h.foldl fun h => either h h.setFd

theorem almSlot {i : Nat} {v : Word} (h : s₀.Keeps .all s) : s₀.Keeps .all (s.almSlot i v) := by
  unfold State.almSlot
  extract_lets s1
  have h1 : s₀.Keeps .all s1 := either (either h h.slotLock) h.setFb
  exact either h1.slotRelease h1

theorem hitWrite {w : Writer} {fw : Bool} {x : RegHit} {off : Nat} {v : Word} (h : s₀.Keeps .all s) :
    s₀.Keeps .all (s.hitWrite w fw x off v) := by
  unfold State.hitWrite
  generalize x.row.cls = cls
  cases cls with
  | CCL_CTL => exact h.cclCtl
  | CCL_WDT => exact h.wdtWrite
  | EVT_Q_CFG => exact h.evtQCfg
  | EVT_MBX_IN | FN_MBX_IN => exact h.boxWrite
  | EVT_MBX_DB => exact h.mbxDb
  | EVT_MBX_RSP => exact h.mbxRsp
  | TBL_COMMIT => exact (either h.tblCommitRouting h.tblCommitTenant).settle
  | TBL_SYNC => exact (either h.tblSyncRouting h.tblSyncTenant).settle
  | TBL_HB => exact h.hbWrite
  | TBL_HB_KICK => exact h.hbKick
  | TBL_FB => exact h.fbWrite
  | PRT_LCTL => exact h.lctlWrite
  | PRT_RST => exact (h.slotWatch (fun h => h.prtRst)).settle
  | PRT_CTX => exact (h.slotWatch (fun h => h.prtCtx)).settle
  | PRT_BRG_TOF | PRT_BRG_FRF | TRC_CFG => exact h.setRg
  | PRT_BUFDT => exact h.bufdt
  | PRT_NRSV | PRT_LDGRSV => exact h.downWrite
  | PRT_VDP_B0 => exact (h.slotWatch (fun h => h.vdpB0)).settle
  | PRT_VDP_B1 => exact h.vdpB1
  | PRT_VDL => exact either h.setFd.setFd.goneWrite.settle h.setFd.setFd
  | HPL_CTXSEL => exact h.ctxselWrite
  | HPL_CTXCNT | HPL_PSTS | HPL_TSTS | GLN_HBASE | FN_LOG_BASE | DL_RBASE | DL_RCFG => exact either h h.fieldWrite
  | HPL_PCOMMIT => exact h.pcommitWrite
  | HPL_TVERD => exact h.tverdWrite
  | HPL_PROG => exact h.progWrite
  | HPL_HASHK => exact h.hashkWrite
  | HPL_HSEED => exact h.seedWrite
  | HPL_FTBL => exact h.ftblWrite
  | HPL_FENCE => exact h.fenceWrite.settle
  | HPL_UMDATA => exact h.markClear
  | GLN_CFG => exact h.glnCfgSet
  | SCH_Q_CFG => exact h.schQWrite
  | SCH_PRT_LEN => exact h.schLenSet
  | SCH_PRT_CAL => exact h.calWrite
  | SHP_CFG => exact h.shpWrite
  | POL_RATE | POL_BURST => exact h.polWrite
  | POL_ACT => exact h.polAct
  | PHY_CTL => exact h.phyCtlWrite.settle
  | PHY_SUB => exact h.phySubWrite
  | SES_CFG | LNK_CTL => exact fieldWrite h
  | OCT_BIF => exact either h (h.fieldWrite.foldl fun h => h.train)
  | LN_TST => exact h.lnTstWrite
  | LDG_IDX => exact h.ldgCopy
  | LDG_AERC => exact h.aercWrite
  | FN_LOG_CFG => exact h.logCfg.settle
  | FN_MBX_OUT => exact either h.setRg h
  | FN_MBX_DB => exact h.fnDoorbell.settle
  | FN_MBX_RSP => exact either h.fnReply.settle h
  | FN_MSIX => exact h.fieldWrite.msixFlush
  | FFN_CFG => exact h.ffnCfg.settle
  | FFN_PF_CFG => exact h.ffnPfCfg.settle
  | FFN_FN_CFG => exact h.ffnFnCfg.settle
  | DL_CTL => exact h.dlCtl.settle
  | DL_SYNC => exact h.dlSyncStart.settle
  | DMA_CH_SRC | DMA_CH_DST | DMA_CH_CNT | DMA_CH_LIST => exact h.dmaChanWrite
  | DMA_CH_CTL => exact either h.setRg h.dmaCtl.settle
  | SPC_CTL => exact h.spcCtl
  | SPC_VTH | SPC_TMR0 | SPC_TMR1 | SPC_ILIM => exact h.spcWrite
  | SPC_TM => exact h.spcTm
  | PWR_CTL => exact h.pwrWrite
  | SAG_CFG => exact h.sagCfg.settle
  | SAG_STS => exact either h.fieldWrite.setFd h.fieldWrite
  | SAG_THR => exact h.sagThr
  | PCN_SNAP => exact h.pcnSnap
  | TRC_SEED => exact h.trcSeed
  | ALM_CMD => exact either h.almCmdSeal h
  | ALM_SLOT => exact h.almSlot
  | ALM_FWREC => exact either h.fwRecord h.setRg
  | WEAR_IDX => exact h.wearCopy
  | WEAR_ACK => exact h.wearRearm
  | FAL_CMD => exact h.falCmd
  | GLB_MODE => exact h.glbMode
  | SEC_VERIFY => exact either (((either h.setFb h).setFd).verifyGo) ((either h.setFb h).setFd)
  | SEC_FLCTL => exact (either h.setFb h).flctl
  | _ => exact h.fieldWrite

theorem windowWrite {a : Nat} {v : Word} (h : s₀.Keeps .all s) : s₀.Keeps .all (s.windowWrite a v) := by
  unfold State.windowWrite
  split
  · exact h
  · split
    · exact h.setRg
    · exact h.setPkt

theorem regWrite {w : Writer} {off : Nat} {v : Word} (h : s₀.Keeps .all s) : s₀.Keeps .all (s.regWrite w off v) := by
  refine either h.badAccess (either ?_ (either h.windowWrite (either (either h.tblStore h) (either h.badAccess (either h (either h (either h
    (either h.setRg (either h (either h.storeCluster ?_))))))))))
  · split
    · exact h.badAccess
    · split
      · exact h.badAccess
      · exact h.hitWrite
  · split
    · exact either h.badAccess h
    · exact h.hitWrite

/-! ### Seals -/

theorem almSnapshot {code : Nat} (h : s₀.Keeps .all s) : s₀.Keeps .all (s.almSnapshot code).2 :=
  h.foldlSnd fun h => eitherSnd h h.regLoad

theorem almWritten {i : Nat} (h : s₀.Keeps .all s) : s₀.Keeps .all (s.almWritten i) := h

theorem sealStart {x : Trigger} {i : Nat} (h : s₀.Keeps .all s) : s₀.Keeps .all (s.sealStart x i) :=
  setFb (setFb (withAlm (almWritten h.almSnapshot)))

theorem sealBegin (h : s₀.Keeps .all s) : s₀.Keeps .all s.sealBegin := by
  unfold State.sealBegin
  split
  · exact h
  · split
    · exact h
    · extract_lets
      split
      · exact almSuppress (setFb (either h h.waitUntil))
      · exact (either h h.waitUntil).sealStart

theorem almReplace {i : Nat} (h : s₀.Keeps .all s) (e : s.almReplace i = some t) : s₀.Keeps .all t := by
  obtain ⟨_, _, he⟩ := Option.map_eq_some_iff.mp e
  cases he
  refine bumpFv (bumpFv (almRecord ?_))
  exact h

theorem sealOver (h : s₀.Keeps .all s) : s₀.Keeps .all s.sealOver := setFb h.withAlm

theorem sealEnd {good : Bool} (h : s₀.Keeps .all s) : s₀.Keeps .all (s.sealEnd good) := by
  unfold State.sealEnd
  split
  · exact h
  · extract_lets i _ s1 s2 s3 _ s1'
    have h2 : s₀.Keeps .all s2 := addFd (setFd (setFd (setFd h.withAlm)))
    have h3 : s₀.Keeps .all s3 := by
      unfold s3
      refine either ?_ h2
      split
      · exact h2
      · next e => exact almWritten (h2.almReplace e)
    refine either h3.sealOver ?_
    split
    · next e =>
      split at e
      · cases e
      · exact withAlm (almWritten (h.almReplace e))
    · exact sealOver (setFd (setFd h.withAlm))

/-! ### Arithmetic -/

theorem aluExec {c : CoreId} {f : FmtA} {fn : Nat} {legal : Bool} {res : Word → Word → Word} (h : s₀.Keeps .all s) :
    s₀.Keeps .all (s.aluExec c f fn legal res) :=
  h.coreExec fun h => h.setGreg.advance

theorem immExec {c : CoreId} {maj : Nat} {f : FmtI} {legal : Bool} {v : Word} (h : s₀.Keeps .all s) :
    s₀.Keeps .all (s.immExec c maj f legal v) :=
  h.coreExec fun h => h.setGreg.advance

/-! ### Control -/

theorem fenceExec {c : CoreId} {f : FmtA} {fn : Nat} {k : FenceKind} (h : s₀.Keeps .all s) : s₀.Keeps .all (s.fenceExec c f fn k) :=
  h.coreExec fun h => h.setCtx

theorem fenceEnd {c : CoreId} (h : s₀.Keeps .all s) : s₀.Keeps .all (s.fenceEnd c) := h.setCtx.advance

theorem sendEvent {c : CoreId} {q : Nat} {v : Word} (h : s₀.Keeps .all s) : s₀.Keeps .all (s.sendEvent c q v).2 :=
  eitherSnd h.setEvq h.addFd

/-! ### Loads, stores and fences -/

theorem raiseAccess {c : CoreId} {x : Nat × Nat × Nat} (h : s₀.Keeps .all s) : s₀.Keeps .all (s.raiseAccess c x) := h.raise

theorem remoteRequest {c : CoreId} {typ a n i : Nat} {data : List Byte} {ok : Bool} (h : s₀.Keeps .all s)
    (e : s.remoteRequest c typ a n data = some (t, i, ok)) : s₀.Keeps .all t := by
  unfold State.remoteRequest at e
  split at e
  · cases e
  · obtain ⟨⟨u, r⟩, e', he⟩ := Option.map_eq_some_iff.mp e
    obtain ⟨rfl, rfl⟩ := Prod.mk.inj he
    exact cntCore (h.ownIssue e')

theorem remoteLoad {c : CoreId} {r : LoadReq} (h : s₀.Keeps .all s) : s₀.Keeps .all (s.remoteLoad c r) := by
  unfold State.remoteLoad
  split
  · exact h
  · split
    · exact h
    · next _ _ _ e =>
        exact either ((h.remoteRequest e).setCtx) ((((h.remoteRequest e).setCtx).resolve).settle)

theorem deviceRead {c : CoreId} {off n : Nat} (h : s₀.Keeps .all s) : s₀.Keeps .all (s.deviceRead c off n).2 := by
  induction n generalizing s off with
  | zero => exact h
  | succ n ih => exact ih h.regLoad

theorem deviceWrite {c : CoreId} {off : Nat} {l : List Word} (h : s₀.Keeps .all s) : s₀.Keeps .all (s.deviceWrite c off l) := by
  induction l generalizing s off with
  | nil => exact h
  | cons v l ih => exact ih h.regWrite

theorem coreHang {c : CoreId} (h : s₀.Keeps .all s) : s₀.Keeps .all (s.coreHang c) := h.setCore

theorem loadAt {c : CoreId} {r : LoadReq} {bad : Bool} (h : s₀.Keeps .all s) : s₀.Keeps .all (s.loadAt c r bad) := by
  unfold State.loadAt
  split
  · exact either h.coreHang h.deviceRead.loadApply.advance
  · exact h.remoteLoad
  · exact either h (either h.raise h.loadApply.advance)
  · exact either h.raise h.loadApply.advance

theorem loadExec {c : CoreId} {dst a n : Nat} {signed bad : Bool} (h : s₀.Keeps .all s) :
    s₀.Keeps .all (s.loadExec c dst a n signed bad) := by
  unfold State.loadExec
  split
  · split
    · exact h.loadFinish
    · exact h.setCtx
  · extract_lets
    split
    · exact h.itagAddr.raiseAccess
    · exact h.itagAddr.loadAt

theorem storeBuffered {c : CoreId} {b : BufStore} (h : s₀.Keeps .all s) : s₀.Keeps .all (s.storeBuffered c b) :=
  either h h.setCore.advance

theorem storeAt {c : CoreId} {a : Nat} {bs : List Byte} (h : s₀.Keeps .all s) : s₀.Keeps .all (s.storeAt c a bs) := by
  unfold State.storeAt
  split
  · extract_lets
    split
    · exact h.raise
    · exact either h.coreHang h.advance.deviceWrite
  · exact h.storeBuffered

theorem storeExec {c : CoreId} {a : Nat} {bs : List Byte} (h : s₀.Keeps .all s) : s₀.Keeps .all (s.storeExec c a bs) := by
  unfold State.storeExec
  extract_lets
  split
  · exact h.itagAddr.raiseAccess
  · exact h.itagAddr.storeAt

theorem storePieces {c : CoreId} {a : Nat} {bs : List Byte} (h : s₀.Keeps .all s) : s₀.Keeps .all (s.storePieces c a bs) :=
  either h.storeCluster (either h.tblStore h.tblStore.tblStore)

theorem drainStore {c : CoreId} (h : s₀.Keeps .all s) : s₀.Keeps .all (s.drainStore c) := by
  unfold State.drainStore
  split
  · exact h
  · split
    · exact either h.setCore.dropRecord h
    · split
      · split
        · exact h
        · next _ _ _ e =>
            extract_lets _ _ s3
            have h3 : s₀.Keeps .all s3 := either ((h.remoteRequest e).setCore) (((h.remoteRequest e).setCore).setCore)
            exact either h3 h3.resolve.settle
      · exact either h (either h.setCore.tblStore h.setCore.storePieces)

theorem amo {c : CoreId} {a n dst : Nat} {op : Nat → Nat} (h : s₀.Keeps .all s) : s₀.Keeps .all (s.amo c a n dst op) := by
  unfold State.amo
  extract_lets
  split
  · exact h.itagAddr.raiseAccess
  · exact either h h.itagAddr.tblStore.setGreg.advance

theorem amoExec {c : CoreId} {f : FmtA} {code : Nat} {dbl : Bool} {op : Nat → Nat → Nat} (h : s₀.Keeps .all s) :
    s₀.Keeps .all (s.amoExec c f code dbl op) :=
  h.coreExec fun h => h.amo

theorem lkpExec {c : CoreId} {f : FmtL} {maj : Nat} {use : Bool} (h : s₀.Keeps .all s) : s₀.Keeps .all (s.lkpExec c f maj use) :=
  h.coreExec (fun h => either h.raise ((either h.bumpFv.setGreg.setCtx.setMark h.bumpFv.setGreg.setCtx).advance))

/-! ### Rows of the links -/

theorem replayAll {n : Nat} (h : s₀.Keeps .all s) : s₀.Keeps .all (s.replayAll n) := h.foldl fun h => h.txOut

theorem replayExpiry {n : Nat} (h : s₀.Keeps .all s) : s₀.Keeps .all (s.replayExpiry n) :=
  either h (either h.waitUntil.addFd.cntPort.declareDown h.waitUntil.addFd.cntPort.setLink.replayAll)

theorem paramIn {n : Nat} {h' : FrameHdr} {q : LinkParams} (h : s₀.Keeps .all s) : s₀.Keeps .all (s.paramIn n h' q) :=
  h.frameIn (fun h => by
    split
    · exact h
    · next _ e =>
        exact either (h.inSeq e) (either ((h.inSeq e).setLink) ((h.inSeq e).declareDown)))

/-! ### Rows of the power supply -/

theorem wipeRegs {gone : Nat → Bool} (h : s₀.Keeps .all s) : s₀.Keeps .all (s.wipeRegs gone) :=
  ⟨h.memory, fun hr => s.wipeRegs_wf gone (h.registers hr), nofun⟩

theorem wipeCores {cl : Fin 4} (h : s₀.Keeps .all s) : s₀.Keeps .all (s.wipeCores cl) := h.foldl fun h => h.coreHold

theorem wipeDomain {d : Nat} (h : s₀.Keeps .all s) : s₀.Keeps .all (s.wipeDomain d) := by
  unfold State.wipeDomain
  extract_lets s1
  have h1 : s₀.Keeps .all s1 := h.wipeRegs
  refine either ⟨h1.memory, h1.registers, nofun⟩ (either (wipeCores ?_) (either h1.withDma (either ⟨h1.memory, h1.registers, nofun⟩ h1)))
  exact ⟨fun hm => ⟨(h1.memory hm).1, SMap.wf_filter _ _ (h1.memory hm).2⟩, h1.registers, nofun⟩

theorem wake (h : s₀.Keeps .all s) : s₀.Keeps .all s.wake :=
  foldl h fun h => by
    split
    · exact h.regWrite
    · exact h

theorem domainClock {d : Nat} {on : Bool} (h : s₀.Keeps .all s) : s₀.Keeps .all (s.domainClock d on) :=
  either h.setFd (either h.setFb h)

theorem startCluster {cl : Fin 4} (h : s₀.Keeps .all s) : s₀.Keeps .all (s.startCluster cl) :=
  either h (h.foldl fun h => either h.coreStart h)

theorem domainUp {d : Nat} (h : s₀.Keeps .all s) : s₀.Keeps .all (s.domainUp d) :=
  wake (either (startCluster (domainClock h)) (domainClock h))

theorem endDrains {cl : Fin 4} (h : s₀.Keeps .all s) : s₀.Keeps .all (s.endDrains cl) :=
  h.foldl fun h => by
    split
    · exact h
    · exact h.waitUntil.dropStores

theorem domainDown {d : Nat} (h : s₀.Keeps .all s) : s₀.Keeps .all (s.domainDown d) :=
  ((either h.endDrains h).wipeDomain).domainClock

theorem slotsOff (h : s₀.Keeps .all s) : s₀.Keeps .all s.slotsOff := by
  refine foldl (setFb ?_) fun h => h.spcPins
  exact ⟨h.memory, fun hr => SMap.wf_filter _ _ (h.registers hr), nofun⟩

theorem drainCores (h : s₀.Keeps .all s) : s₀.Keeps .all s.drainCores := h.foldl fun h => h.foldl fun h => h.drainStore

theorem slotsVigil (h : s₀.Keeps .all s) : s₀.Keeps .all s.slotsVigil :=
  h.foldl fun h => either h (either h.setSpc (h.spcChange (fun h => h.spcLeave)))

theorem vigilWipe (h : s₀.Keeps .all s) : s₀.Keeps .all s.vigilWipe := by
  have hw : s₀.Keeps .all (s.wipeRegs fun d => d ≠ 0 && d ≠ 19 && d ≠ 20 && d ≠ 24).foldSlew := h.wipeRegs.foldSlew
  exact ⟨fun hm => ⟨(hw.memory hm).1, rfl⟩, hw.registers, nofun⟩

theorem vigil {src : Nat} (h : s₀.Keeps .all s) : s₀.Keeps .all (s.vigil src) := by
  unfold State.vigil
  extract_lets _ s1 s2 s3 s4 _ s5
  have h2 : s₀.Keeps .all s2 := h.sagEnterOne.bumpFv.almSource.drainCores.slotsVigil.vigilWipe.emit
  have h4 : s₀.Keeps .all s4 := h2.setFd.setFd.setFb.setFb.setFb.setFb.setFb.setFd
  have h5 : s₀.Keeps .all s5 := drainCheck (reselectTime h4.withPwr)
  exact either h5 h5.slotsOff

theorem powerUp {ds : List Nat} (h : s₀.Keeps .all s) : s₀.Keeps .all (s.powerUp ds) := withPwr h.setFd.setFd.setFd.setFb.setFb

theorem afterReset {keep : Nat → Bool} (h : s₀.Keeps .all s) : s₀.Keeps .all (s.afterReset keep) :=
  ⟨fun _ => ⟨rfl, rfl⟩, fun hr => SMap.wf_filter _ _ (h.foldSlew.registers hr), nofun⟩

theorem slotPins {old : State} (h : s₀.Keeps .all s) : s₀.Keeps .all (s.slotPins old) :=
  h.foldl fun h => h.spcPins

theorem bootFrom {b : Bool} {seq : Word} (h : s₀.Keeps .all s) : s₀.Keeps .all (s.bootFrom b seq) := h.setFb.setFb.setRg

theorem bootChoose {a b : ImageCheck} {ra rb : Nat} (h : s₀.Keeps .all s) : s₀.Keeps .all (s.bootChoose a b ra rb) := by
  unfold State.bootChoose
  extract_lets s1 s2
  have h1 : s₀.Keeps .all s1 := h.setFd.setFd
  have h2 : s₀.Keeps .all s2 := h1.setFb.setFb.setFd
  exact either (foldl h2.withPwr fun h => h.train) (either h1.bootFrom h1.bootFrom)

theorem bootCopy {mask dest : Nat} {bs : List Byte} (h : s₀.Keeps .all s) : s₀.Keeps .all (s.bootCopy mask dest bs) := by
  unfold State.bootCopy
  split
  · exact h.foldl fun h => either h.storeCluster h
  · exact h.storeTable
  · exact h.foldl fun h => h.regWrite
  · exact h

theorem bootSection {img : List Byte} {x : Section} (h : s₀.Keeps .all s) : s₀.Keeps .all (s.bootSection img x) :=
  either h h.bootCopy

theorem copyCluster {cl : Nat} {image : List Byte} (h : s₀.Keeps .all s) : s₀.Keeps .all (s.copyCluster cl image) :=
  h.foldl fun h => h.storeCluster

theorem handOver {cl : Nat} {flashB : Bool} {image : List Byte} (h : s₀.Keeps .all s) : s₀.Keeps .all (s.handOver cl flashB image) :=
  either h (either (setFb (setRg h.copyCluster)) h.copyCluster)

/-! ### Rows of slot power -/

theorem tripRow {i : Nat} {f : State → State} (h : s₀.Keeps .all s) (hf : ∀ {t}, s₀.Keeps .all t → s₀.Keeps .all (f t)) :
    s₀.Keeps .all (s.tripRow i f) := by
  unfold State.tripRow
  extract_lets t lost
  have ht : s₀.Keeps .all t := hf h
  exact either ht (settle (h.slotWatch fun _ => either ht.slotLost (ht.foldl fun h => h.dlDown)))

end State.Keeps
end Sys2Proof.Machine
end

section
/-! PROOFS. Every command and every step keeps the canonical forms of memory and registers: O59. -/

namespace Sys2Proof.Machine

/-- What a command answers: a next state that keeps what every operation keeps, or a refusal. -/
inductive KeepsNext (s₀ : State) : Host.Outcome State Fault Refusal → Prop
  | next {t : State} (h : s₀.Keeps .all t) : KeepsNext s₀ (.next t)
  | refused (r : Refusal) : KeepsNext s₀ (.refused r)

namespace KeepsNext

variable {s₀ s : State}

/-- A command that checks its operands first. -/
theorem guarded {t : State} {p : Prop} {_ : Decidable p} {r : Refusal} (h : s₀.Keeps .all t) :
    KeepsNext s₀ (if p then .refused r else .next t) := by
  split
  · exact .refused r
  · exact .next h

open State.Keeps

/-- A message row checks the code of its message, and one for another node changes nothing. -/
theorem msgRow {typ : Nat} {codes : Nat → Bool} {m : EdgeMsg} (h : s₀.Keeps .all s) : KeepsNext s₀ (s.msgRow typ codes m) :=
  guarded (either h.consumeMsg.settle h)

theorem execLdrv {c : CoreId} {f : FmtM} (h : s₀.Keeps .all s) : KeepsNext s₀ (Machine.execLdrv c f s) := by
  refine .next (h.coreExec (fun h => by
      extract_lets
      split
      · exact h.itagAddr.raiseAccess
      · exact either h h.itagAddr.loadApply.setCore.advance))

theorem execStcd {c : CoreId} {f : FmtM} (h : s₀.Keeps .all s) : KeepsNext s₀ (Machine.execStcd c f s) := by
  refine .next (h.coreExec (fun h => by
      extract_lets
      split
      · exact h.itagAddr.raiseAccess
      · exact either h.itagAddr.setCore.advance (either h h.itagAddr.storePieces.setCore.advance)))

theorem execCinc {c : CoreId} {f : FmtA} (h : s₀.Keeps .all s) : KeepsNext s₀ (Machine.execCinc c f s) := by
  refine .next (h.coreExec (fun h => by
      extract_lets
      split
      · exact h.itagAddr.raiseAccess
      · exact h.itagAddr.storeBuffered))

theorem execFenceXComplete {c : CoreId} (h : s₀.Keeps .all s) : KeepsNext s₀ (Machine.execFenceXComplete c s) := by
  refine .next ?_
  split
  · split
    · exact h.fenceEnd
    · exact (either h.setCtx h.setCtx.setCore).raise
  · exact h

theorem execWaitTimeout {c : CoreId} (h : s₀.Keeps .all s) : KeepsNext s₀ (Machine.execWaitTimeout c s) := by
  refine .next ?_
  split
  · exact h
  · exact either h h.waitUntil.setCore

theorem execMts {c : CoreId} {f : FmtI} (h : s₀.Keeps .all s) : KeepsNext s₀ (Machine.execMts c f s) := by
  refine .next (h.coreExec (fun h => by
      split
      · exact h.raise
      · split
        · exact h.raise
        · exact h.setCtx.advance))

theorem execReservationHoldExpiry {c : CoreId} (h : s₀.Keeps .all s) : KeepsNext s₀ (Machine.execReservationHoldExpiry c s) := by
  refine .next ?_
  split
  · exact h
  · exact h.waitUntil.setCore

theorem execEventDispatch {cl : Fin 4} (h : s₀.Keeps .all s) : KeepsNext s₀ (Machine.execEventDispatch cl s) := by
  refine .next ?_
  split
  · exact h
  · split
    · exact h
    · exact h.dispatchTo

theorem execHandlerBudgetExceeded {c : CoreId} (h : s₀.Keeps .all s) : KeepsNext s₀ (Machine.execHandlerBudgetExceeded c s) := by
  refine .next ?_
  split
  · exact h
  · exact either h h.waitUntil.setCtx.faultRecord.coreFaultEvent

theorem execWarmResetDrainExpiry {c : CoreId} (h : s₀.Keeps .all s) : KeepsNext s₀ (Machine.execWarmResetDrainExpiry c s) := by
  refine .next ?_
  split
  · exact h
  · exact h.waitUntil.dropStores.coreDrained

theorem execResetNRelease (h : s₀.Keeps .all s) : KeepsNext s₀ (Machine.execResetNRelease s) := by
  refine .next (either h ?_)
  extract_lets busy _ s1 s2 s3 pref s4 s5
  have h1 : s₀.Keeps .all s1 := ⟨fun hm => ⟨rfl, (h.memory hm).2⟩, h.registers, nofun⟩
  have h2 : s₀.Keeps .all s2 := h1.setFd.setFd.setFd
  have h3 : s₀.Keeps .all s3 := either h2 h2.refValid
  have h5 : s₀.Keeps .all s5 := h3.setFb.setFb.powerUp
  exact wake (reselectTime h5.withPwr)

theorem execBootImageChosen {a b : ImageCheck} (h : s₀.Keeps .all s) : KeepsNext s₀ (Machine.execBootImageChosen a b s) := by
  refine .next (either h ?_)
  split
  · exact h.bootChoose
  · extract_lets s1 s2
    have h1 : s₀.Keeps .all s1 := either h.setFd h.setFd
    have h2 : s₀.Keeps .all s2 := h.setFd.setFd
    exact either h1.bootFrom (bootChoose ⟨fun hm => ⟨rfl, (h2.memory hm).2⟩, h2.registers, nofun⟩)

theorem execBootSectionsCopied {image : List Byte} (h : s₀.Keeps .all s) : KeepsNext s₀ (Machine.execBootSectionsCopied image s) := by
  refine .next (either h ?_)
  extract_lets s1 s2
  have h1 : s₀.Keeps .all s1 := h.foldl fun h => h.bootSection
  have h2 : s₀.Keeps .all s2 := h1.setFb.setFd
  exact settle h2.withPwr

theorem execFmapiBind {p : Port} {v : Fin 256} {b0 : Word} (h : s₀.Keeps .all s) : KeepsNext s₀ (Machine.execFmapiBind p v b0 s) := by
  refine .next (h.regCommand (fun h => by
      extract_lets t
      have h : s₀.Keeps .all t := (h.slotWatch (fun h => h.vdpB0)).settle
      exact h.emit))

theorem execSpcPresenceLoss {i : Fin 32} (h : s₀.Keeps .all s) : KeepsNext s₀ (Machine.execSpcPresenceLoss i s) := by
  refine .next ?_
  split
  · split
    · exact h.setSpc.emit
    · exact h.setSpc
    · exact h
  · exact either (((h.spcEvent (fun h => h.spcLost)).slotWatch (fun h => h.slotLost)).settle) h

theorem execSpcThermalUpdate {i : Fin 32} {m : SpcMeas} (h : s₀.Keeps .all s) : KeepsNext s₀ (Machine.execSpcThermalUpdate i m s) := by
  refine .next (h.tripRow fun h => h.spcStep fun h => ?_)
  extract_lets s1 _ _ s2 _ _ s3
  have h2 : s₀.Keeps .all s2 := h.setFd.setFd.setFd.setFd.setSpc.bumpFv
  have h3 : s₀.Keeps .all s3 := h2.setFd.bumpFv
  exact either h3.spcTrip h3

theorem execPwrDomainSwitched {d : Fin 25} (h : s₀.Keeps .all s) : KeepsNext s₀ (Machine.execPwrDomainSwitched d s) := by
  refine .next (either h ?_)
  extract_lets on s1 s2
  have h1 : s₀.Keeps .all s1 := either h h.domainDown
  have h2 : s₀.Keeps .all s2 := h1.setFb.setFb
  exact either h2.domainUp h2

/-- Table memory is lost with its power, or is kept. -/
theorem tableLost {full : Bool} {x : PwrState} (h : s₀.Keeps .all s) :
    s₀.Keeps .all { s with tmem := if full then [] else s.tmem, pwr := x } := by
  refine ⟨fun hm => ⟨?_, (h.memory hm).2⟩, h.registers, nofun⟩
  cases full with
  | true => rfl
  | false => exact (h.memory hm).1

theorem execVigilExit (h : s₀.Keeps .all s) : KeepsNext s₀ (Machine.execVigilExit s) := by
  refine .next (either h ?_)
  extract_lets sel s1 s2 s3 full s4
  have h2 : s₀.Keeps .all s2 := h.waitUntil.setFb.powerUp.setFb.setFb.sagLeaveOne
  have h3 : s₀.Keeps .all s3 := h2.foldl fun h => either h.setSpc h
  have h4 : s₀.Keeps .all s4 := h3.setFd.setFb.setFd
  exact wake (settle (resolveWhere (tableLost h4)))

theorem execResetNAssert (h : s₀.Keeps .all s) : KeepsNext s₀ (Machine.execResetNAssert s) := by
  refine .next (either h ?_)
  extract_lets t _ t1 t2
  have h1 : s₀.Keeps .all t1 := withPwr h.afterReset
  have h2 : s₀.Keeps .all t2 := h1.setRefOk.setRefOk.setFb
  exact bumpFv (almTrigger (slotPins h2))

theorem execVddAoLoss (h : s₀.Keeps .all s) : KeepsNext s₀ (Machine.execVddAoLoss s) := by
  refine .next (either h ?_)
  extract_lets t
  have ht : s₀.Keeps .all t := h.afterReset
  exact slotPins ⟨ht.memory, ht.registers, nofun⟩

theorem execReservedOpcode {c : CoreId} {word : BitVec 32} (h : s₀.Keeps .all s) :
    KeepsNext s₀ (Machine.execReservedOpcode c word s) := by
  unfold Machine.execReservedOpcode
  split
  · exact .next (h.coreExec id)
  · exact .refused _

/-- Every command, by its row: the next state is built by operations each of which keeps. -/
theorem of_exec (h : s₀.Keeps .all s) (c : Instr) : KeepsNext s₀ (exec c s) := by
  cases c with
  | add | sub | and | or | xor | shl | shr | sar | mul | mulh | mulhU | div | divU | rem | remU | min | minU | max | maxU | clz | pop
  | crc8 | crc32c | crc64 | hash => exact .next h.aluExec
  | sel | ext | ins | mfs => exact .next (h.coreExec fun h => h.setGreg.advance)
  | cmp | endcrit => exact .next (h.coreExec fun h => h.setCtx.advance)
  | addi | andi | ori | lih => exact .next h.immExec
  | ld | ldp => exact .next (h.coreExec fun h => h.loadExec)
  | st | stp => exact .next (h.coreExec fun h => h.storeExec)
  | ldrv => exact .execLdrv h
  | stcd => exact .execStcd h
  | amoadd | amoswp | amomax => exact .next h.amoExec
  | cinc => exact .execCinc h
  | fenceS | fenceL | fenceF | fenceX => exact .next h.fenceExec
  | fenceComplete => exact .next (either h.fenceEnd h)
  | fenceXComplete => exact .execFenceXComplete h
  | storeBufferDrain => exact .next (either h (either h.drainStore.coreDrained h.drainStore))
  | bp => exact .next (h.coreExec fun h => h.goto)
  | call => exact .next (h.coreExec fun h => h.setGreg.goto)
  | ret => exact .next (h.coreExec fun h => either h.raise h.goto)
  | lkp | lkpu => exact .next h.lkpExec
  | send => exact .next (h.coreExec fun h => (setGreg h.sendEvent).advance)
  | wait => exact .next (h.coreExec (fun h => either h.raise (either h.advance h.advance.setCore)))
  | waitTimeout => exact .execWaitTimeout h
  | mts => exact .execMts h
  | trap => exact .next (h.coreExec fun h => h.raise)
  | eret => exact .next (h.coreExec fun h => either h.retire.setCore h.endHandler)
  | prio => exact .next (h.coreExec fun h => either h.raise h.setCtx.advance)
  | crit => exact .next (h.coreExec fun h => either h.advance h.setCtx.advance)
  | halt => exact .next (h.coreExec fun h => either h.raise h.advance.setCore)
  | haltStop => exact .next (either h.setCore h)
  | nop => exact .next (h.coreExec fun h => h.advance)
  | critBudgetExpiry => exact .next (either h.bumpFv.waitUntil.setCtx.raise h)
  | reservationHoldExpiry => exact .execReservationHoldExpiry h
  | heldEventRelease => exact .next h.releaseHeld
  | eventDispatch => exact .execEventDispatch h
  | handlerBudgetExceeded => exact .execHandlerBudgetExceeded h
  | evtQCfgWrite => exact .next (h.regCommand fun h => h.evtQCfg)
  | timerFire => exact .next (either h.waitUntil.timerFires h)
  | evtMbxDb => exact .next (h.regCommand fun h => h.mbxDb)
  | evtMbxRsp => exact .next (h.regCommand fun h => h.mbxRsp)
  | coreEnable => exact .next (either h.coreEnable h)
  | coreDisable => exact .next (either h.coreDisable h)
  | coreWarmReset => exact .next (either h.coreWrst h)
  | warmResetDrainExpiry => exact .execWarmResetDrainExpiry h
  | watchdogKick => exact .next (h.regCommand fun h => h.wdtKick)
  | watchdogExpiry => exact .next (either h.waitUntil.wdtExpire h)
  | resetNRelease => exact .execResetNRelease h
  | bootImageChosen => exact .execBootImageChosen h
  | bootEarlyCopied => exact .next (either h (settle (coreStart (setCen (h.foldl fun h => h.bootSection)))))
  | bootSectionsCopied => exact .execBootSectionsCopied h
  | clusterImageCopy => exact .next h.handOver
  | tblCommit | tblCommitRevoke => exact .next (h.regCommand fun h => h.tblCommitTenant.settle)
  | tblCommitRoute => exact .next (h.regCommand fun h => h.tblCommitRouting.settle)
  | tblCommitComplete => exact .next h.tblFinish.settle
  | tblSync => exact .next (h.regCommand fun h => h.tblSyncTenant.settle)
  | tblSyncRoute => exact .next (h.regCommand fun h => h.tblSyncRouting.settle)
  | tblSyncComplete => exact .next h.tblSynced.settle
  | tblHbKick => exact .next (h.regCommand fun h => h.hbKick)
  | heartbeatMiss => exact .next (either h.hbMiss h)
  | tblFbEnter | tblFbExit => exact .next (h.regCommand fun h => h.fbWrite)
  | vdpBind | vdpUnbind => exact .next (h.regCommand (fun h => (h.slotWatch (fun h => h.vdpB0)).settle))
  | prtCtxWrite => exact .next (h.regCommand (fun h => (h.slotWatch (fun h => h.prtCtx)).settle))
  | tlpReceive => exact .guarded (either h ((either h.receiveCut h.receiveTlp).settle))
  | headerQueueAdmit => exact .next h.readmit
  | headerPipelineRun => exact .next (either ((h.acsWatch (fun h => h.runPipeline)).settle) h)
  | packetAdmissionRetry => exact .next ((h.foldl fun h => by
    split
    · exact h
    · exact h.retryAdmission).settle)
  | hplCtxEnable => exact .next (h.regCommand fun h => h.ctxselWrite)
  | hplPcommit => exact .next (h.regCommand fun h => h.pcommitWrite)
  | hplPcommitComplete => exact .next h.pcommitFinish
  | hplFtblWrite => exact .next (h.regCommand fun h => either h.badAccess h.ftblWrite)
  | hplHashk => exact .next (h.regCommand fun h => h.hashkWrite)
  | hplHashrReady => exact .next h.hashReady
  | trapVerdictFwd | trapVerdictDrop | trapVerdictSynth => exact .next (h.regCommand fun h => h.tverdWrite)
  | schedulerSelect => exact .next h.endCuts.select.settle
  | cutThroughUnderrun => exact .next h.underrun.settle
  | cellUncorrectableError => exact .next h.cellError.settle
  | memoryScrubError => exact .next h.scrubError.settle
  | gleanerRecordWrite => exact .next h.glnStep
  | glnCfgWrite => exact .next (h.regCommand fun h => h.glnCfgSet)
  | schQCfgWrite => exact .next (h.regCommand fun h => h.schQWrite)
  | schLenWrite => exact .next (h.regCommand fun h => h.schLenSet)
  | schCalEnable => exact .next (h.regCommand fun h => h.calWrite)
  | shpCfgWrite => exact .next (h.regCommand fun h => h.shpWrite)
  | polCfgWrite => exact .next (h.regCommand fun h => h.polWrite)
  | refillTick => exact .next h.tick
  | calendarPeriodStart => exact .next (either h h.toMultiple.calLoad)
  | phyTrainSet | phyTrainClear | phyHalfSet | phyHalfClear => exact .next h.phyCtlBit
  | phyTrainAdvance => exact .next h.trainAdvance
  | phyTrainTimeout => exact .next h.trainTimeout
  | symbolLockLoss => exact .next h.lockLoss
  | phyRecoverRelock => exact .next h.relock
  | linkDownLdtime => exact .next h.ldtimeDown.settle
  | phyFullReadapted => exact .next h.announceFull
  | widthChange => exact .next h.changeWidth
  | orderHalf | orderFull => exact .next h.widthOrder
  | phySubGo => exact .next (h.regCommand fun h => h.phySubWrite)
  | orderDup => exact .next h.dupOrder
  | laneSConverged => exact .next h.subConverged
  | orderSwitched => exact .next h.switchedOrder
  | subConvergeTimeout => exact .next h.subTimeout
  | orderAbandon => exact .next h.abandonOrder
  | phyInjgo => exact .next (h.regCommand fun h => h.lnTstWrite)
  | idleFrame => exact .next ((h.frameIn (fun h => h)).settle)
  | paramFrame => exact .next h.paramIn.settle
  | headFrame | soleFrame => exact .guarded ((h.dataFrame (fun h => h.rxFirst)).settle)
  | bodyFrame | tailFrame => exact .guarded ((h.dataFrame (fun h => h.rxNext)).settle)
  | chaffFrame => exact .next ((h.dataFrame (fun h => h.cntPort.dropRx)).settle)
  | tsyncFrame => exact .next ((h.frameIn (fun h => h.tsyncIn)).settle)
  | frameCrcFail => exact .next (either h.addFd.cntPort h)
  | replayTimeout => exact .next h.replayExpiry.settle
  | tsyncSend => exact .next (either h.waitUntil.trySendParam.setLink.txOut h)
  | openMsg | evict | fail | revoke | skip | abort | close | record | rack => exact .msgRow (codes := fun _ => true) h
  | accept | receiptDelivery | fenceClear => exact .msgRow (codes := fun code => decide (code = 0)) h
  | acceptRefused => exact .msgRow (codes := fun code => decide (code ≠ 0)) h
  | receiptRevokeDone | fenceSet => exact .msgRow (codes := fun code => decide (code = 1)) h
  | receiptSkipDone => exact .msgRow (codes := fun code => decide (code = 2)) h
  | receiptAbortDone => exact .msgRow (codes := fun code => decide (code = 3)) h
  | receiptCloseDone => exact .msgRow (codes := fun code => decide (code = 4)) h
  | receiptTimerExpiry => exact .next h.rtimExpiry.settle
  | receiptTimeout => exact .next h.rtmoExpiry.settle
  | noticeRetransmit => exact .next h.noticeRetry.settle
  | openRetry => exact .next h.openAgain.settle
  | sessionIdle => exact .next h.idleClose.settle
  | skipAgeExpiry => exact .next h.skipAged.settle
  | recordRetransmit => exact .next h.recordsAgain.settle
  | pcieLinkAck => exact .next h.linkAcks.settle
  | completionArrival | mctpMessage => exact .guarded (either h h.receiveTlp.settle)
  | ledgerDeadline => exact .next h.deadline.settle
  | logRecordWrite => exact .next (either h.logWrite.settle h)
  | failureLogVector => exact .next (either h.logVectorDue h)
  | ldgIdxCopy => exact .next (h.regCommand fun h => h.ldgCopy)
  | ldgAercGo => exact .next (h.regCommand fun h => h.aercWrite)
  | ldgAerSearchComplete => exact .next h.aerSearch.settle
  | pcieDlUp => exact .next (either ((h.slotWatch (fun h => h.dlUp)).settle) h)
  | pcieDlDown => exact .next (either ((h.slotWatch (fun h => h.dlDown)).settle) h)
  | perstAssert => exact .next (either ((h.slotWatch (fun h => h.perstOn)).settle) h)
  | perstDeassert => exact .next (either ((h.slotWatch (fun h => h.perstOff)).settle) h)
  | pcieHotResetReceived => exact .next (either ((h.slotWatch (fun h => either h.linkLost.switchReset.train h)).settle) h)
  | hostRetrainLink => exact .next (either ((h.slotWatch (fun h => either h.emit h)).settle) h)
  | hostLinkDisable => exact .next (either ((h.slotWatch (fun h => h.linkDisable)).settle) h)
  | hostSecondaryBusReset => exact .next (either ((h.slotWatch (fun h => h.busReset)).settle) h)
  | proxyResetWaitExpiry => exact .next (either ((h.slotWatch (fun h => h.proxyWait)).settle) h)
  | proxyResetPoll => exact .next (either ((h.slotWatch (fun h => h.proxyPoll)).settle) h)
  | proxyResetTimeout => exact .next (either ((h.slotWatch (fun h => h.proxyTimeout)).settle) h)
  | hostPowerControllerControl => exact .next (either ((h.slotWatch (fun h => h.powerControl)).settle) h)
  | hostBusNumberChange => exact .next (either ((h.slotWatch (fun h => h.busNumbers)).settle) h)
  | hostDpcTrigger => exact .next (either ((h.slotWatch (fun h => h.dpcTrigger)).settle) h)
  | hostDpcStatusClear => exact .next (either ((h.slotWatch (fun h => h.dpcRelease)).settle) h)
  | hostHdmDecoderCommit => exact .next (either ((h.slotWatch (fun h => either h.setUp h)).settle) h)
  | errMessage => exact .next (either ((h.slotWatch (fun h => h.errorMessage)).settle) h)
  | ptmRequest => exact .next h.ptm
  | ltrMessage => exact .next h.ltr
  | fmapiBind => exact .execFmapiBind h
  | fmapiUnbind => exact .next (h.regCommand (fun h => ((h.slotWatch (fun h => h.vdpB0)).settle).emit))
  | prtRstHotrst => exact .next (h.regCommand (fun h => (h.slotWatch (fun h => h.rstHot)).settle))
  | prtRstLdis => exact .next (h.regCommand (fun h => (h.slotWatch (fun h => h.rstLdis)).settle))
  | prtRstDpctrig => exact .next (h.regCommand (fun h => (h.slotWatch (fun h => h.rstDpcTrig)).settle))
  | prtRstDpcrel => exact .next (h.regCommand (fun h => (h.slotWatch (fun h => h.rstDpcRel)).settle))
  | vdlGoneSet => exact .next (h.regCommand fun h => h.goneWrite.settle)
  | hostBmeClear => exact .next (either h.bmeClear.settle h)
  | hostFlr => exact .next (either ((h.slotWatch (fun h => h.flr)).settle) h)
  | flrComplete => exact .next (either ((h.slotWatch (fun h => h.flrEnd)).settle) h)
  | hostVfEnableClear => exact .next (either h.vfEnableClear.settle h)
  | fnLogEnable => exact .next (either h.logCfg.settle h)
  | fnMbxDb => exact .next (either h.fnDoorbell.settle h)
  | fnMbxRsp => exact .next (h.regCommand fun h => h.fnReply.settle)
  | ffnCfgWrite => exact .next (h.regCommand fun h => h.ffnCfg.settle)
  | ffnPfCfgWrite => exact .next (h.regCommand fun h => h.ffnPfCfg.settle)
  | ffnFnCfgWrite | fnHoldSet | fnHoldClear | fnForce => exact .next (h.regCommand fun h => h.ffnFnCfg.settle)
  | dlEnable => exact .next (either h.dlCtl h)
  | dlEntryAge => exact .next (either h.dlAge h)
  | dlSync => exact .next (either h.dlSyncStart h)
  | dlSyncComplete => exact .next (either h.dlSyncEnd h)
  | dmaGo | dmaAbort => exact .next (h.regCommand fun h => h.dmaCtl.settle)
  | dmaArbitrationRound => exact .next (either h h.dmaRound.settle)
  | dmaDescriptorFetched => exact .next h.descLoad.settle
  | dmaLocalisationTimeout => exact .next h.localiseTimeout.settle
  | spcEnable => exact .next (h.regCommand fun h => h.spcEn)
  | spcDisable => exact .next (h.regCommand fun h => h.spcDis)
  | spcDclr => exact .next (h.regCommand fun h => h.spcDclr)
  | spcPerstfSet => exact .next (h.regCommand fun h => h.spcPerstf)
  | spcPerstfClear => exact .next (h.regCommand fun h => h.setFb)
  | spcPresenceBegin => exact .next (h.spcEvent fun h => either h.spcPresence.setSpc.setFd h.spcPresence.setSpc)
  | spcPresenceLoss => exact .execSpcPresenceLoss h
  | spcVinQualified | spcPerstRelease | spcCooldownEnd => exact .next (h.spcEvent fun h => h.setFb)
  | spcVinLoss => exact .next (h.spcEvent fun h => either h.setFb.spcLeave h.setFb)
  | spcRampStart => exact .next (h.spcEvent fun h => h.setFd.setFd.setSpc)
  | spcRampComplete => exact .next (h.spcEvent fun h => h.spcOn)
  | spcGriseExpiry => exact .next (h.tripRow (fun h => h.spcEvent (fun h => either h.spcTrip (either h.spcDamage
    (either h.spcTrip h.spcOn)))))
  | spcPwrgdQualified | spcCurrentLimit | spcLimitRelease => exact .next (h.spcEvent fun h => h.setFb.setSpc)
  | spcPwrgdLoss => exact .next (h.spcEvent fun h => h.setFb.setFb.setSpc)
  | spcOffseqEnd => exact .next (either ((h.spcEvent (fun h => h.setFd)).slotsOff) (h.spcEvent (fun h => h.setFd)))
  | spcFaultTimerExpiry => exact .next (h.tripRow (fun h => h.spcEvent (fun h => h.spcTrip)))
  | spcFastBreaker => exact .next (either h.setSpc.emit (h.tripRow (fun h => h.spcEvent (fun h => either h.spcTrip h.spcTrip.setFb.setFd))))
  | spcThermalUpdate => exact .execSpcThermalUpdate h
  | spcDsShort => exact .next (h.spcEvent fun h => h.spcDamage)
  | spcHoldResume => exact .next (h.tripRow (fun h => h.spcStep (fun h => either h.setSpc.spcLost (either h.setSpc.spcTrip
    (either h.setSpc.spcTrip.spcLost h.setSpc.setFd.setSpc.spcObey)))))
  | pwrCtlWrite => exact .next (h.regCommand fun h => h.pwrWrite)
  | pwrDomainSwitched => exact .execPwrDomainSwitched h
  | refclkLoss => exact .next h.refLost
  | refclkRevert => exact .next h.refRevert
  | refclkHoldoverExpiry => exact .next h.holdoverEnd.settle
  | xtalAoFail => exact .next (either h.setFb.almSource h)
  | sagStageEntry => exact .next h.sagCondition.settle
  | sagStageExit => exact .next h.sagExit.settle
  | sagForceWrite => exact .next ((h.regCommand (fun h => h.sagCfg)).settle)
  | sagClrmax => exact .next (h.regCommand fun h => h.setFd)
  | sagForcedDeadline => exact .next h.sagDiscard.settle
  | vigilEntry => exact .next (either h ((either h.sagEnter.bumpFv.settle h.sagEnter.bumpFv.settle.waitUntil).vigil))
  | vigilExit => exact .execVigilExit h
  | resetNAssert => exact .execResetNAssert h
  | vddAoLoss => exact .execVddAoLoss h
  | pcnSnap => exact .next (h.regCommand fun h => h.pcnSnap)
  | trcSeedWrite => exact .next (h.regCommand fun h => h.trcSeed)
  | almSeal => exact .next (h.regCommand fun h => h.almCmdSeal)
  | almSealBegin => exact .next (either h.sealBegin h)
  | almSealComplete => exact .next h.sealEnd
  | almFwrecAppend => exact .next (h.regCommand fun h => h.fwRecord)
  | almSlotLock => exact .next (h.regCommand fun h => h.slotLock)
  | almSlotRelease => exact .next (h.regCommand fun h => h.slotRelease)
  | wearMeasure => exact .next h.measure
  | wearIdxCopy => exact .next (h.regCommand fun h => h.wearCopy)
  | wearAck => exact .next (h.regCommand fun h => h.wearRearm)
  | falSelfTest => exact .next h.selfTest
  | falSelfTestEnd => exact .next h.selfTestEnd
  | falGo => exact .next (h.regCommand fun h => h.falCmd)
  | falPhaseComplete => exact .next h.falNext
  | glbModeWrite => exact .next (h.regCommand fun h => h.glbMode)
  | secVerifyGo => exact .next (h.regCommand fun h => h.verifyGo)
  | secVerifyComplete => exact .next h.verifyEnd
  | secFlashRead | secFlashProgram | secFlashErase => exact .next (h.regCommand fun h => h.flctl)
  | secFlashOpComplete => exact .guarded h.flashEnd
  | registerWrite => exact .next (h.regCommand fun h => either h.badAccess h.regWrite)
  | registerBadAccess => exact .next (h.regCommand fun h => either h.badAccess h)
  | reservedOpcode => exact .execReservedOpcode h
  | vddAoPowerOn => exact .next (either h (wake h))
  | refclkInputValid => exact .next h.refValid
  | tagQuarantineExpiry => exact .next h.quarExpire.settle
  | pcieCreditReturn => exact .next h.creditsBack
  | dmaLocalAccessComplete => exact .next h.localAccess.settle
  | checkerSynchronised => exact .next (either h h.setFb)

end KeepsNext

/-- One step keeps: the time alone passes, or the command in front runs. -/
theorem State.step_keepsNext (s : State) : KeepsNext s (step s) := by
  unfold step
  split
  · exact .next (State.Keeps.refl.withNow)
  · exact .of_exec (State.Keeps.withPending State.Keeps.refl) _

/-- Settles O59: each operation of the model keeps the canonical forms, so each command does. -/
theorem stepKeepsCanonicalForms : Obligations.StepKeepsCanonicalForms := by
  intro s t hmem hregs hstep
  have hkeeps : s.Keeps .all t := by
    have hnext := s.step_keepsNext
    rw [hstep] at hnext
    cases hnext with
    | next h => exact h
  exact ⟨by simpa [Memory.wf] using hkeeps.memory hmem, hkeeps.registers hregs⟩

end Sys2Proof.Machine
end

section
/-! PROOFS. What events of hardware, power channels and slot registers leave unchanged: what O43 and O45 need (R127, R479, R622, R625). -/

namespace Sys2Proof.Machine

/-! ### Words and registers -/

/-- A field of one bit. -/
theorem wField_one (k : Nat) (w : Word) : wField k 1 w = (w.getLsbD k).toNat := by
  rw [wField, natField, BitVec.getLsbD, Nat.testBit_eq_decide_div_mod_eq]
  have h : w.toNat / 2 ^ k % 2 < 2 := Nat.mod_lt _ (by decide)
  rw [Nat.pow_one]
  interval_cases w.toNat / 2 ^ k % 2 <;> rfl

theorem State.fb_eq_getLsbD (s : State) (x : Field) (h : x.width = 1) : s.fb x = (s.rg x.reg).getLsbD x.lo := by
  rw [State.fb, State.fd, h, wField_one]
  cases (s.rg x.reg).getLsbD x.lo <;> rfl

/-- The lowest bit of a word set. -/
theorem setWField_zero_one (w : Word) : setWField 0 1 w 1 = w ||| 1#64 := by
  have h : setNatField 0 1 w.toNat 1 = w.toNat ||| 1 := by
    have hor := Nat.two_pow_add_eq_or_of_lt (i := 1) (b := 1) (by decide) (w.toNat / 2)
    have hlow : w.toNat % 2 ||| 1 = 1 := by
      rcases Nat.mod_two_eq_zero_or_one w.toNat with e | e <;> rw [e] <;> rfl
    have hsplit := Nat.two_pow_add_eq_or_of_lt (i := 1) (b := w.toNat % 2) (Nat.mod_lt _ (by decide)) (w.toNat / 2)
    calc setNatField 0 1 w.toNat 1 = 2 ^ 1 * (w.toNat / 2) + 1 := by simp [setNatField]; omega
      _ = 2 ^ 1 * (w.toNat / 2) ||| (w.toNat % 2 ||| 1) := by rw [hor, hlow]
      _ = w.toNat ||| 1 := by rw [← Nat.lor_assoc, ← hsplit, Nat.pow_one, Nat.div_add_mod]
  apply BitVec.eq_of_toNat_eq
  rw [setWField, h, BitVec.toNat_or, BitVec.toNat_ofNat, Nat.mod_eq_of_lt (Nat.or_lt_two_pow w.isLt (by decide))]
  rfl

theorem tableView_of_lt {a : Nat} (h : a < 0x7E0000) : tableView a = none := by
  rw [tableView, if_neg (by omega), if_neg (by omega)]

theorem tableView_spcSts {i : Nat} : tableView (R.SPC_STS i) = none := by
  rw [tableView, if_neg (by unfold R.SPC_STS; omega), if_neg (by unfold R.SPC_STS; omega)]

/-! ### What is written and reported -/

/-- The registers of `P` are all that is written, virtual ports and table memory are left, and records and messages only added. -/
structure State.Reports (s : State) (P : Nat → Prop) (t : State) : Prop where
  rg : ∀ a, ¬P a → t.rg a = s.rg a
  tmem : t.tmem = s.tmem
  vdps : t.vdps = s.vdps
  seq : s.alm.seqNext ≤ t.alm.seqNext
  out : ∀ o ∈ s.out, o ∈ t.out

namespace State.Reports

variable {P : Nat → Prop} {s t u : State}

/-- A state that differs in nothing of it. -/
theorem of_eq (hm : t.tmem = s.tmem) (hr : t.regs = s.regs) (hv : t.vdps = s.vdps) (ha : s.alm.seqNext ≤ t.alm.seqNext)
    (ho : ∀ o ∈ s.out, o ∈ t.out) : s.Reports P t :=
  ⟨fun a _ => State.rg_congr hm hr a, hm, hv, ha, ho⟩

theorem refl : s.Reports P s := of_eq rfl rfl rfl le_rfl fun _ => id

theorem trans (h : s.Reports P t) (h' : t.Reports P u) : s.Reports P u :=
  ⟨fun a ha => (h'.rg a ha).trans (h.rg a ha), h'.tmem.trans h.tmem, h'.vdps.trans h.vdps, h.seq.trans h'.seq, fun o ho => h'.out o (h.out o ho)⟩

theorem mono {Q : Nat → Prop} (h : s.Reports P t) (hq : ∀ a, P a → Q a) : s.Reports Q t :=
  ⟨fun a ha => h.rg a fun hp => ha (hq a hp), h.tmem, h.vdps, h.seq, h.out⟩

theorem ite {p : Prop} [Decidable p] (h : s.Reports P t) (h' : s.Reports P u) : s.Reports P (if p then t else u) := by
  split
  · exact h
  · exact h'

theorem setFd (h : s.Reports P t) {x : Field} (v : Nat) (hx : P x.reg) (hv : tableView x.reg = none) : s.Reports P (t.setFd x v) :=
  h.trans ⟨fun a ha => t.rg_setFd_ne x v a hv fun e => ha (e ▸ hx), t.setRg_tmem _ _ hv, t.setFd_vdps x v,
    (congrArg AlmState.seqNext (t.setFd_alm x v)).ge, fun _ ho => (t.setFd_out x v).symm ▸ ho⟩

theorem setFb (h : s.Reports P t) {x : Field} (b : Bool) (hx : P x.reg) (hv : tableView x.reg = none) : s.Reports P (t.setFb x b) :=
  h.setFd _ hx hv

theorem emit (h : s.Reports P t) (o : Output) : s.Reports P (t.emit o) :=
  h.trans (of_eq rfl rfl rfl le_rfl fun _ => List.mem_append_left _)

theorem bumpFv (h : s.Reports P t) : s.Reports P t.bumpFv := h.trans (of_eq rfl rfl rfl le_rfl fun _ => id)

theorem almAppend (src flags code : Nat) (p0 p1 : Word) : s.Reports noticeReg (s.almAppend src flags code p0 p1) := by
  unfold State.almAppend
  apply setFd
  · exact of_eq rfl rfl rfl (Nat.le_succ _) fun _ => id
  · exact .inl rfl
  · decide

theorem almSuppress (h : s.Reports noticeReg t) (w : Trigger) : s.Reports noticeReg (t.almSuppress w) :=
  (h.trans (almAppend Src.alm.code 0 0x0003 (BitVec.ofNat 64 w.code) 0)).setFd (x := R.ALM_STS_SUPPR) _ (.inr (.inl rfl)) (by decide)

/-- A pending trigger is shown in ALM_STS. -/
theorem almPending (h : s.Reports noticeReg t) (w : Trigger) :
    s.Reports noticeReg (({ t with alm := { t.alm with waiting := [w] } }).setFb R.ALM_STS_PEND true) := by
  refine setFb (h.trans ?_) _ (.inr (.inl rfl)) (by decide)
  exact of_eq rfl rfl rfl le_rfl fun _ => id

theorem almTrigger (code recSeq : Nat) : s.Reports noticeReg (s.almTrigger code recSeq) := by
  have happ := almAppend (s := s) Src.alm.code 0 (0x0010 + code) (BitVec.ofNat 64 recSeq) 0
  unfold State.almTrigger
  dsimp only
  refine ite refl (ite (happ.almSuppress _) ?_)
  split
  · exact ite (happ.almSuppress _) (happ.almPending _)
  · exact ite ((happ.almSuppress _).almPending _) (happ.almSuppress _)

theorem almRecord (src flags code : Nat) (p0 p1 : Word) : s.Reports noticeReg (s.almRecord src flags code p0 p1) :=
  ite ((almAppend src flags code p0 p1).trans (almTrigger _ _)) (almAppend src flags code p0 p1)

theorem almSource (h : s.Reports noticeReg t) (src : Src) (kind : Nat) : s.Reports noticeReg (t.almSource src kind) :=
  (h.trans (almRecord ..)).bumpFv.bumpFv

theorem queueEvent {src q : Nat} {e : Event} (hq : q < 64) : s.Reports noticeReg (s.queueEvent src q e) := by
  have hsts : noticeReg (R.EVT_Q_STS q) := .inr (.inr ⟨q, hq, rfl⟩)
  have hheld : s.Reports noticeReg (s.holdEvent src q e) := of_eq rfl rfl rfl le_rfl fun _ => id
  exact ite (ite (of_eq rfl rfl rfl le_rfl fun _ => id) hheld) (ite (refl.setFd _ hsts (tableView_of_noticeReg hsts)) hheld)

theorem postEvent (h : s.Reports noticeReg t) {src : Src} {unit : Nat} {q : Option Nat} {typ arg : Nat} {detail : Word}
    (hq : ∀ n, q = some n → n < 64) : s.Reports noticeReg (t.postEvent src unit q typ arg detail) := by
  refine h.trans ?_
  cases q with
  | none => exact almRecord ..
  | some n => exact (almRecord ..).trans (queueEvent (hq n rfl))

end State.Reports

theorem Src.freeQueue_lt (x : Src) (typ n : Nat) (h : x.freeQueue typ = some n) : n < 64 := Option.some.inj h ▸ Fin.isLt _

/-- An event's record advances the Almanac's next sequence number. -/
theorem State.seqNext_lt_postEvent (s : State) (src : Src) (unit : Nat) (q : Option Nat) (typ arg : Nat) (detail : Word) :
    s.alm.seqNext < (s.postEvent src unit q typ arg detail).alm.seqNext := by
  have hrec := s.seqNext_lt_almRecord src.code 1 (typ * 256) (BitVec.ofNat 64 arg) detail
  cases q with
  | none => exact hrec
  | some n => exact hrec.trans_eq (congrArg AlmState.seqNext (State.queueEvent_others _ _ _ _).2.symm)

/-! ### Slot power channels (R622, R625) -/

namespace State.Reports

variable {s t : State} {i : Nat}

theorem spcPins {P : Nat → Prop} (h : s.Reports P t) (old : Nat) : s.Reports P (t.spcPins i old) := by
  unfold State.spcPins
  extract_lets new g s1 s2
  have h1 : s.Reports P s1 := (h.emit _).ite h
  have h2 : s.Reports P s2 := (h1.emit _).ite h1
  exact (h2.emit _).ite h2

/-- A change of a channel's status is reported by pins, a record and an event. -/
theorem spcReport (h : s.Reports noticeReg t) (old : Word) : s.Reports noticeReg (t.spcReport i old) := by
  unfold State.spcReport
  extract_lets o new n s1 s2 bits
  have h1 : s.Reports noticeReg s1 := h.spcPins _
  have h2 : s.Reports noticeReg s2 := (h1.almSource _ _).ite h1
  exact h2.ite (h2.postEvent fun n hn => s2.evTarget_lt _ _ rfl n hn)

end State.Reports

/-- A channel whose status stays reports nothing. -/
theorem State.spcReport_same (s : State) (i : Nat) : s.spcReport i (s.rg (R.SPC_STS i)) = s := by
  have hbits (n : Nat) : spcEventBits n n = 0 := by
    have hrise {k : Nat} : ¬(natField k 1 n = 0 ∧ natField k 1 n = 1) := by omega
    have hfall : ¬(natField 11 1 n = 1 ∧ natField 11 1 n = 0) := by omega
    have hoff : ¬(natField 0 3 n = 5 ∧ (natField 0 3 n = 0 ∨ natField 0 3 n = 2)) := by omega
    simp [spcEventBits, hrise, hfall, hoff]
  have hpins : s.spcPins i (s.rg (R.SPC_STS i)).toNat = s := by simp [State.spcPins]
  simp [State.spcReport, hbits, hpins]

/-- A host's request reaches a channel (R622): it changes the channel's status alone, and only of a channel in ON. -/
theorem State.spcObey_reports (s : State) (i : Nat) : s.Reports (fun a => noticeReg a ∨ a = R.SPC_STS i) (s.spcChange i fun t => t.spcObey i) := by
  have hobey : s.Reports (fun a => noticeReg a ∨ a = R.SPC_STS i) (s.spcObey i) := by
    have hreg : noticeReg (R.SPC_STS i) ∨ R.SPC_STS i = R.SPC_STS i := .inr rfl
    have h : s.Reports (fun a => noticeReg a ∨ a = R.SPC_STS i) ((((s.setFd (R.SPC_STS_STATE i) 5).setFb (R.SPC_STS_PWRGD i) false).setFb
        (R.SPC_STS_PERST i) true).setFb (R.SPC_STS_INLIM i) false) :=
      (((Reports.refl.setFd _ hreg tableView_spcSts).setFb _ hreg tableView_spcSts).setFb _ hreg tableView_spcSts).setFb _ hreg tableView_spcSts
    exact .ite (h.trans (.of_eq rfl rfl rfl le_rfl fun _ => id)) .refl
  exact hobey.trans ((State.Reports.refl.spcReport _).mono fun a => .inl)

theorem State.spcObey_of_not_on (s : State) (i : Nat) (h : s.fd (R.SPC_STS_STATE i) ≠ 4) : s.spcChange i (fun t => t.spcObey i) = s := by
  have hobey : s.spcObey i = s := if_neg fun hon => h hon.2
  rw [State.spcChange, hobey, s.spcReport_same i]

/-! ### Virtual ports and their slot registers (R479) -/

theorem State.vdp_setVdp (s : State) (p v q w : Nat) (x : VdpState) :
    (s.setVdp p v x).vdp q w = if vdpKey q w = vdpKey p v then x else s.vdp q w := by
  split
  · next h => rw [State.vdp, h]; exact SMap.get_set_self _ _ _ _
  · next h => exact SMap.get_set_ne _ _ _ _ _ h

theorem State.vdp_setVdp_self (s : State) (p v : Nat) (x : VdpState) : (s.setVdp p v x).vdp p v = x := SMap.get_set_self _ _ _ _

theorem State.port_congr {s t : State} (h : t.ports = s.ports) (p : Nat) : t.port p = s.port p := congrArg (fun m => SMap.get PciPort.reset m p) h

theorem State.up_congr {s t : State} (h : t.ups = s.ups) (p : Nat) : t.up p = s.up p := congrArg (fun m => SMap.get UpBridge.reset m p) h

/-- A virtual port but for the Changed bits of its Slot Status. -/
def VdpState.still (x : VdpState) : VdpState := { x with dllChanged := false, presChanged := false }

/-- Slot events are all that is raised: the Changed bits of slots change, and messages are added. -/
structure State.SlotsWatched (s t : State) : Prop where
  beside : ∃ vdps out, t = { s with vdps := vdps, out := out }
  still : ∀ p v, (t.vdp p v).still = (s.vdp p v).still
  out : ∀ o ∈ s.out, o ∈ t.out

namespace State.SlotsWatched

variable {s t : State} {p v : Nat}

theorem refl : s.SlotsWatched s := ⟨⟨_, _, rfl⟩, fun _ _ => rfl, fun _ => id⟩

theorem slotEvent (h : s.SlotsWatched t) {en : Nat} {f : VdpState → VdpState} (hf : ∀ x, (f x).still = x.still) :
    s.SlotsWatched (t.slotEvent p v en f) := by
  have hset : s.SlotsWatched (t.setVdp p v (f (t.vdp p v))) := by
    obtain ⟨⟨vdps, out, rfl⟩, hstill, hout⟩ := h
    refine ⟨⟨_, _, rfl⟩, fun q w => ?_, hout⟩
    rw [State.vdp_setVdp]
    split
    · next hk => rw [hf, ← hstill, State.vdp, State.vdp, hk]
    · exact hstill q w
  unfold State.slotEvent
  dsimp only
  split
  · obtain ⟨⟨vdps, out, hu⟩, hstill, hout⟩ := hset
    exact ⟨⟨vdps, _, by rw [hu]; rfl⟩, hstill, fun o ho => List.mem_append_left _ (hout o ho)⟩
  · exact hset

theorem slotDll (h : s.SlotsWatched t) : s.SlotsWatched (t.slotDll p v) := h.slotEvent fun _ => rfl

theorem slotPresence (h : s.SlotsWatched t) : s.SlotsWatched (t.slotPresence p v) := h.slotEvent fun _ => rfl

end State.SlotsWatched

theorem State.slotWatch_watched (s : State) (f : State → State) : (f s).SlotsWatched (s.slotWatch f) := by
  unfold State.slotWatch
  extract_lets t
  refine List.foldlRecOn _ _ .refl fun u h b _ => ?_
  dsimp only
  split
  · exact h
  · split <;> split
    · exact h.slotDll.slotPresence
    · exact h.slotPresence
    · exact h.slotDll
    · exact h

/-- A change that changes nothing raises no slot event. -/
theorem State.slotWatch_of_same {s : State} {f : State → State} (h : f s = s) : s.slotWatch f = s := by
  unfold State.slotWatch
  rw [h]
  refine List.foldlRecOn (motive := fun u => u = s) _ _ rfl fun u hu b _ => ?_
  simp [hu]

namespace State.SlotsWatched

variable {s t : State} (h : s.SlotsWatched t)
include h

theorem regs : t.regs = s.regs := by obtain ⟨⟨_, _, rfl⟩, _, _⟩ := h; rfl
theorem tmem : t.tmem = s.tmem := by obtain ⟨⟨_, _, rfl⟩, _, _⟩ := h; rfl
theorem alm : t.alm = s.alm := by obtain ⟨⟨_, _, rfl⟩, _, _⟩ := h; rfl
theorem ups : t.ups = s.ups := by obtain ⟨⟨_, _, rfl⟩, _, _⟩ := h; rfl
theorem rg (a : Nat) : t.rg a = s.rg a := State.rg_congr h.tmem h.regs a
theorem fd (x : Field) : t.fd x = s.fd x := State.fd_congr (h.rg x.reg)
theorem fb (x : Field) : t.fb x = s.fb x := State.fb_congr (h.rg x.reg)
theorem up (p : Nat) : t.up p = s.up p := State.up_congr h.ups p
theorem perstIn : t.perstIn = s.perstIn := by obtain ⟨⟨_, _, rfl⟩, _, _⟩ := h; rfl
theorem port (p : Nat) : t.port p = s.port p := State.port_congr (by obtain ⟨⟨_, _, rfl⟩, _, _⟩ := h; rfl) p

end State.SlotsWatched

end Sys2Proof.Machine
end

section
/-! PROOFS. Bindings, bus numbers, HDM decoders and GONE: O43 (R184 to R186, R471, R477, R481, R497, R545). -/

namespace Sys2Proof.Machine

/-! ### Writes of a binding (R184 to R186) -/

section
variable {s : State} {p v : Nat} {w : Word}

theorem tableView_vdpB0 (hp : p < 128) (hv : v < 256) : tableView (R.PRT_VDP_B0 p v) = none :=
  tableView_of_lt (by unfold R.PRT_VDP_B0; omega)

theorem tableView_vdl (hp : p < 128) (hv : v < 256) : tableView (R.PRT_VDL p v) = none := tableView_of_lt (by unfold R.PRT_VDL; omega)

/-- VALID set again writes nothing. -/
theorem State.vdpB0_again (hvalid : s.fb (R.PRT_VDP_B0_VALID p v) = true) (hw : w.getLsbD 0 = true) : s.vdpB0 p v w = s := by
  rw [State.vdpB0, if_pos hvalid, if_pos (by rw [wField_one, hw]; rfl)]

/-- The state after VALID of a binding is cleared. -/
def State.unbound (s : State) (p v : Nat) : State :=
  let s1 := (s.setFb (R.PRT_VDP_B0_VALID p v) false).setFb (R.PRT_VDL_GONE p v) false
  s1.setVdp p v { s1.vdp p v with resets := [], dpc := false, linkDisable := false, rrs := false }

theorem State.vdpB0_clear (hvalid : s.fb (R.PRT_VDP_B0_VALID p v) = true) (hw : w.getLsbD 0 = false) :
    s.vdpB0 p v w = s.unbound p v := by
  rw [State.vdpB0, if_pos hvalid, if_neg (by rw [wField_one, hw]; decide)]
  rfl

/-- The state after the fields of a binding are written, VALID still clear. -/
def State.vdpFields (s : State) (p v : Nat) (w : Word) : State := s.setRg (R.PRT_VDP_B0 p v) (w &&& 0x000000FFFFFF7F06#64)

theorem State.vdpB0_refused (hvalid : s.fb (R.PRT_VDP_B0_VALID p v) = false) (hw : w.getLsbD 0 = true)
    (hr : (s.vdpFields p v w).bindRefused p v = true) :
    s.vdpB0 p v w = ((s.vdpFields p v w).setFb R.TBL_STS_REJ true).setFd R.TBL_STS_RCODE 9 := by
  rw [State.vdpB0, if_neg (by rw [hvalid]; decide), wField_one, hw]
  exact if_pos hr

/-- VALID of a binding set, and the host's request obeyed by its slot channel. -/
def State.bound (s : State) (p v : Nat) : State :=
  let s2 := s.setFb (R.PRT_VDP_B0_VALID p v) true
  let i := s2.fd (R.PRT_VDP_B1_SPC p v)
  if s2.live 24 then s2.spcChange i fun t => t.spcObey i else s2

theorem State.vdpB0_set (hvalid : s.fb (R.PRT_VDP_B0_VALID p v) = false) (hw : w.getLsbD 0 = true)
    (hr : (s.vdpFields p v w).bindRefused p v = false) : s.vdpB0 p v w = (s.vdpFields p v w).bound p v := by
  rw [State.vdpB0, if_neg (by rw [hvalid]; decide), wField_one, hw]
  exact if_neg (Bool.eq_false_iff.mp hr)

/-! ### What a write of a binding leaves -/

theorem State.setRg_getD_ne (s : State) {a x : Nat} (w : Word) (ha : tableView a = none) (h : x ≠ a) :
    (s.setRg a w).regs.getD regReset x = s.regs.getD regReset x := by
  simp only [State.setRg, ha, SMap.getD_setD, if_neg h]

theorem vdpB0_ne_vdl (hv : v < 256) : R.PRT_VDP_B0 p v ≠ R.PRT_VDL p v := by unfold R.PRT_VDP_B0 R.PRT_VDL; omega

theorem vdpB1_ne_vdpB0 : R.PRT_VDP_B1 p v ≠ R.PRT_VDP_B0 p v := by unfold R.PRT_VDP_B1 R.PRT_VDP_B0; omega

theorem spcSts_ne_vdpB0 {i : Nat} (hp : p < 128) (hv : v < 256) : R.SPC_STS i ≠ R.PRT_VDP_B0 p v := by
  unfold R.SPC_STS R.PRT_VDP_B0; omega

/-- The registers that a request obeyed by a slot channel writes. -/
def obeyedReg (a : Nat) : Prop := noticeReg a ∨ ∃ i, a = R.SPC_STS i

theorem not_obeyedReg_vdpB0 (hp : p < 128) (hv : v < 256) : ¬obeyedReg (R.PRT_VDP_B0 p v) := by
  rintro ((h | h | ⟨q, hq, h⟩) | ⟨i, h⟩)
  · unfold R.PRT_VDP_B0 R.ALM_HEAD at h; omega
  · unfold R.PRT_VDP_B0 R.ALM_STS at h; omega
  · unfold R.PRT_VDP_B0 R.EVT_Q_STS at h; omega
  · unfold R.PRT_VDP_B0 R.SPC_STS at h; omega

theorem State.bound_reports : (s.setFb (R.PRT_VDP_B0_VALID p v) true).Reports obeyedReg (s.bound p v) := by
  refine .ite ?_ .refl
  exact (State.spcObey_reports _ _).mono fun a ha => ha.imp_right fun e => ⟨_, e⟩

/-- A channel that is not in ON has nothing to obey. -/
theorem State.bound_of_not_on (hp : p < 128) (hv : v < 256) (hon : s.fd (R.SPC_STS_STATE (s.fd (R.PRT_VDP_B1_SPC p v))) ≠ 4) :
    s.bound p v = s.setFb (R.PRT_VDP_B0_VALID p v) true := by
  have hview := tableView_vdpB0 hp hv
  have hspc : (s.setFb (R.PRT_VDP_B0_VALID p v) true).fd (R.PRT_VDP_B1_SPC p v) = s.fd (R.PRT_VDP_B1_SPC p v) :=
    State.fd_congr (s.rg_setFd_ne _ _ _ hview vdpB1_ne_vdpB0)
  have hst (i : Nat) : (s.setFb (R.PRT_VDP_B0_VALID p v) true).fd (R.SPC_STS_STATE i) = s.fd (R.SPC_STS_STATE i) :=
    State.fd_congr (s.rg_setFd_ne _ _ _ hview (spcSts_ne_vdpB0 hp hv))
  have hobey := State.spcObey_of_not_on (s.setFb (R.PRT_VDP_B0_VALID p v) true) (s.fd (R.PRT_VDP_B1_SPC p v)) (by rwa [hst])
  unfold State.bound
  dsimp only
  rw [hspc, hobey, ite_self]

/-- The word of a binding whose VALID has been set. -/
theorem State.bound_rg_vdpB0 (hp : p < 128) (hv : v < 256) :
    (s.bound p v).rg (R.PRT_VDP_B0 p v) = s.rg (R.PRT_VDP_B0 p v) ||| 1#64 := by
  rw [State.bound_reports.rg _ (not_obeyedReg_vdpB0 hp hv)]
  exact (s.rg_setFd_self (R.PRT_VDP_B0_VALID p v) 1 (tableView_vdpB0 hp hv)).trans (setWField_zero_one _)

theorem State.vdpFields_rg (hp : p < 128) (hv : v < 256) : (s.vdpFields p v w).rg (R.PRT_VDP_B0 p v) = w &&& 0x000000FFFFFF7F06#64 :=
  (s.rg_setRg _ _ _ (tableView_vdpB0 hp hv) (tableView_vdpB0 hp hv)).trans (if_pos rfl)

/-- What a binding that is cleared has left. -/
theorem State.unbound_fields (hp : p < 128) (hv : v < 256) : (s.unbound p v).fb (R.PRT_VDP_B0_VALID p v) = false ∧
    (s.unbound p v).fb (R.PRT_VDL_GONE p v) = false ∧ ((s.unbound p v).vdp p v).resets = [] ∧ ((s.unbound p v).vdp p v).dpc = false ∧
    (s.unbound p v).tmem = s.tmem ∧ ∀ a, a ≠ R.PRT_VDP_B0 p v → a ≠ R.PRT_VDL p v →
      (s.unbound p v).regs.getD regReset a = s.regs.getD regReset a := by
  have hb := tableView_vdpB0 hp hv
  have hl := tableView_vdl hp hv
  have hvdp := ((s.setFb (R.PRT_VDP_B0_VALID p v) false).setFb (R.PRT_VDL_GONE p v) false).vdp_setVdp_self p v
  refine ⟨?_, State.fb_setFb _ (R.PRT_VDL_GONE p v) false hl (show 16 < 64 by decide) rfl, ?_, ?_, ?_, fun a h1 h2 => ?_⟩
  · have hvalid := State.fb_setFb s (R.PRT_VDP_B0_VALID p v) false hb (show 0 < 64 by decide) rfl
    rw [← hvalid]
    exact State.fb_congr (State.rg_setFd_ne _ (R.PRT_VDL_GONE p v) _ _ hl (vdpB0_ne_vdl hv))
  · rw [State.unbound, hvdp]
  · rw [State.unbound, hvdp]
  · exact (State.setRg_tmem _ _ _ hl).trans (State.setRg_tmem _ _ _ hb)
  · exact (State.setRg_getD_ne _ _ hl h2).trans (State.setRg_getD_ne _ _ hb h1)

/-- A refused binding stays without VALID, and TBL_STS tells the refusal (R185). -/
theorem State.refused_fields (hp : p < 128) (hv : v < 256) (u : State)
    (hu : u = ((s.vdpFields p v w).setFb R.TBL_STS_REJ true).setFd R.TBL_STS_RCODE 9) :
    u.fb (R.PRT_VDP_B0_VALID p v) = false ∧ u.fb R.TBL_STS_REJ = true ∧ u.fd R.TBL_STS_RCODE = 9 ∧ u.tmem = s.tmem := by
  have hne : R.PRT_VDP_B0 p v ≠ R.TBL_STS := by unfold R.PRT_VDP_B0 R.TBL_STS; omega
  have hsts : tableView R.TBL_STS = none := by decide
  have hrg : u.rg (R.PRT_VDP_B0 p v) = w &&& 0x000000FFFFFF7F06#64 := by
    rw [hu, State.rg_setFd_ne _ R.TBL_STS_RCODE _ _ hsts hne, State.setFb, State.rg_setFd_ne _ R.TBL_STS_REJ _ _ hsts hne, State.vdpFields_rg hp hv]
  subst hu
  refine ⟨?_, ?_, ?_, ?_⟩
  · rw [State.fb_eq_getLsbD _ _ rfl]
    exact (congrArg (BitVec.getLsbD · 0) hrg).trans (by simp)
  · rw [State.fb, State.fd_setFd_apart _ R.TBL_STS_RCODE _ _ hsts (by decide) (.inr (by decide))]
    exact State.fb_setFb _ _ true hsts (by decide) rfl
  · exact State.fd_setFd _ _ 9 hsts (by decide)
  · exact ((State.setRg_tmem _ _ _ hsts).trans (State.setRg_tmem _ _ _ hsts)).trans (State.setRg_tmem _ _ _ (tableView_vdpB0 hp hv))

end

/-! ### The commands -/

section
variable {s : State} {w : Writer} {p : Port} {v : Fin 256} {b0 : Word}

theorem exec_vdpBind_reaches (h : s.reaches w (R.PRT_VDP_B0 p v) = true) :
    exec (.vdpBind w p v b0) s = .next (s.slotWatch fun t => t.vdpB0 p v (b0 ||| 1#64)).settle :=
  congrArg Host.Outcome.next (s.regCommand_of_reaches w _ _ _ h)

theorem exec_vdpUnbind_reaches (h : s.reaches w (R.PRT_VDP_B0 p v) = true) :
    exec (.vdpUnbind w p v) s = .next (s.slotWatch fun t => t.vdpB0 p v (s.rg (R.PRT_VDP_B0 p v) &&& ~~~1#64)).settle :=
  congrArg Host.Outcome.next (s.regCommand_of_reaches w _ _ _ h)

theorem exec_fmapiBind_reaches (h : s.reaches .sideband (R.PRT_VDP_B0 p v) = true) :
    exec (.fmapiBind p v b0) s = .next ((s.slotWatch fun t => t.vdpB0 p v (b0 ||| 1#64)).settle.emit (.mgmt "Bind vPPB" (vdpKey p v)
      (if (s.slotWatch fun t => t.vdpB0 p v (b0 ||| 1#64)).settle.fb (R.PRT_VDP_B0_VALID p v) then 0 else 1))) :=
  congrArg Host.Outcome.next (s.regCommand_of_reaches .sideband _ _ _ h)

theorem exec_fmapiUnbind_reaches (h : s.reaches .sideband (R.PRT_VDP_B0 p v) = true) :
    exec (.fmapiUnbind p v) s = .next ((s.slotWatch fun t => t.vdpB0 p v (s.rg (R.PRT_VDP_B0 p v) &&& ~~~1#64)).settle.emit
      (.mgmt "Unbind vPPB" (vdpKey p v) 0)) :=
  congrArg Host.Outcome.next (s.regCommand_of_reaches .sideband _ _ _ h)

theorem exec_vdlGoneSet_reaches (h : s.reaches w (R.PRT_VDL p v) = true) : exec (.vdlGoneSet w p v) s = .next (s.goneWrite p v).settle :=
  congrArg Host.Outcome.next (s.regCommand_of_reaches w _ _ _ h)

/-- The sideband is no handler. -/
theorem State.reaches_sideband {a : Nat} (h : s.reaches w a = true) : s.reaches .sideband a = true := by
  unfold State.reaches at h ⊢
  simp only [Bool.and_eq_true] at h ⊢
  exact ⟨⟨by simp [State.inHandler], h.1.2⟩, h.2⟩

theorem State.hostRow_live (f : State → State) (h : s.live 21 = true) : s.hostRow f = .next (s.slotWatch f).settle :=
  congrArg Host.Outcome.next (if_pos h)

end

/-! ### Bus numbers, decoders and GONE (R471, R477, R481) -/

theorem State.busNumbers_fields (s : State) {p v sec : Nat} (sub : Nat) (hne : (s.vdp p v).secBus ≠ sec) :
    (s.busNumbers p v sec sub).vdp p v = { s.vdp p v with secBus := sec, subBus := sub, rrs := true } ∧
    s.alm.seqNext < (s.busNumbers p v sec sub).alm.seqNext ∧ (s.busNumbers p v sec sub).tmem = s.tmem := by
  rw [State.busNumbers, if_neg fun h => hne h.1]
  extract_lets s1 i spc
  have hq : ∀ n, (if spc then s1.evTarget (R.SPC_CTL_EVQV i) (R.SPC_CTL_EVQ i) else Src.spc.freeQueue 4) = some n → n < 64 := by
    split
    · exact s1.evTarget_lt _ _ rfl
    · exact Src.freeQueue_lt _ _
  have hrep := (State.Reports.refl (s := s1)).postEvent (src := .spc) (unit := i) (typ := 4) (arg := i)
    (detail := if spc then s1.rg (R.SPC_STS i) else 0) hq
  refine ⟨?_, s1.seqNext_lt_postEvent _ _ _ _ _ _, hrep.tmem⟩
  exact (congrArg (fun m => SMap.get VdpState.reset m (vdpKey p v)) hrep.vdps).trans (s.vdp_setVdp_self p v _)

/-- A decoder committed is kept, and succeeds in a window only. -/
theorem State.hdmCommit_fields (s : State) (p : Nat) (d : HdmDecoder) : ∃ ok : Bool,
    (d.idx.val, d.base, d.size, ok) ∈ ((s.hdmCommit p d).up p).decoders ∧ (s.hdmCommit p d).regs = s.regs ∧ (s.hdmCommit p d).tmem = s.tmem ∧
    (s.listedWin = [] → ok = false) := by
  unfold State.hdmCommit
  extract_lets t ver last ok u
  refine ⟨ok, ?_, rfl, rfl, fun h => ?_⟩
  · rw [State.up_setUp_self]
    exact List.mem_append_right _ (List.mem_singleton_self _)
  · simp only [ok, h, List.any_nil, Bool.and_false]

theorem State.resolveWhere_of_empty (s : State) (f : Entry → Bool) (reason : Nat) (h : s.ldg.entries = []) : s.resolveWhere f reason = s := by
  rw [State.resolveWhere, h]
  rfl

/-- The slot of a binding that goes shows a removal, and its proxy resets are abandoned. -/
theorem State.setGone_fields (s : State) {p v : Nat} (hp : p < 128) (hv : v < 256) : (s.setGone p v).fb (R.PRT_VDL_GONE p v) = true ∧
    ((s.setGone p v).vdp p v).resets = [] ∧ (s.setGone p v).fb (R.PRT_VDP_B0_VALID p v) = s.fb (R.PRT_VDP_B0_VALID p v) ∧
    (s.setGone p v).tmem = s.tmem ∧ (s.setGone p v).ldg = s.ldg := by
  have hl := tableView_vdl hp hv
  unfold State.setGone
  split
  · next h => exact ⟨h, by rw [State.vdp_setVdp_self], rfl, rfl, rfl⟩
  · extract_lets s1 s2 s3
    have h2 : s1.SlotsWatched s2 := by
      unfold s2
      split
      · exact State.SlotsWatched.refl.slotDll
      · exact .refl
    have h3 : s1.SlotsWatched s3 := by
      unfold s3
      split
      · exact h2.slotPresence
      · exact h2
    obtain ⟨⟨vdps, out, h⟩, -, -⟩ := h3
    clear_value s3
    subst h
    refine ⟨State.fb_setFb s (R.PRT_VDL_GONE p v) true hl (show 16 < 64 by decide) rfl, by rw [State.vdp_setVdp_self], ?_,
      State.setRg_tmem _ _ _ hl, s.setFb_ldg _ _⟩
    exact State.fb_congr (s.rg_setFd_ne (R.PRT_VDL_GONE p v) _ _ hl (vdpB0_ne_vdl hv))

/-! ### The statement -/

theorem bit_zero_or_one (b0 : Word) : (b0 ||| 1#64).getLsbD 0 = true := by simp

theorem bit_zero_cleared (w : Word) : (w &&& ~~~1#64).getLsbD 0 = false := by simp

theorem vdpWord_or_one (b0 : Word) : ((b0 ||| 1#64) &&& 0x000000FFFFFF7F06#64) ||| 1#64 = (b0 &&& 0x000000FFFFFF7F06#64) ||| 1#64 := by
  ext i
  simp only [BitVec.getElem_or, BitVec.getElem_and]
  cases (1#64)[i] <;> simp

/-- VALID after a write that sets it. -/
theorem State.bindWrite_valid {s : State} {p v : Nat} {b0 : Word} (hp : p < 128) (hv : v < 256) (hvalid : s.fb (R.PRT_VDP_B0_VALID p v) = false) :
    (s.vdpB0 p v (b0 ||| 1#64)).fb (R.PRT_VDP_B0_VALID p v) = !(s.vdpFields p v (b0 ||| 1#64)).bindRefused p v := by
  cases hr : (s.vdpFields p v (b0 ||| 1#64)).bindRefused p v with
  | true => exact (State.refused_fields hp hv _ (s.vdpB0_refused hvalid (bit_zero_or_one b0) hr)).1
  | false =>
    rw [s.vdpB0_set hvalid (bit_zero_or_one b0) hr, State.fb_eq_getLsbD _ _ rfl]
    exact (congrArg (BitVec.getLsbD · 0) (State.bound_rg_vdpB0 hp hv)).trans (by simp)

/-- The state after VALID is cleared, but for the slot events raised. -/
theorem State.unbind_watched (s : State) {p v : Nat} (hvalid : s.fb (R.PRT_VDP_B0_VALID p v) = true) :
    (s.unbound p v).SlotsWatched (s.slotWatch fun t => t.vdpB0 p v (s.rg (R.PRT_VDP_B0 p v) &&& ~~~1#64)) := by
  have hwatch := s.slotWatch_watched fun t => t.vdpB0 p v (s.rg (R.PRT_VDP_B0 p v) &&& ~~~1#64)
  rwa [s.vdpB0_clear hvalid (bit_zero_cleared _)] at hwatch

/-- What a write that sets VALID leaves of a binding that is not refused. -/
theorem State.bindWrite_fields {s : State} {p v : Nat} {b0 : Word} (hp : p < 128) (hv : v < 256)
    (hvalid : s.fb (R.PRT_VDP_B0_VALID p v) = false) (hr : (s.vdpFields p v (b0 ||| 1#64)).bindRefused p v = false) :
    (s.vdpB0 p v (b0 ||| 1#64)).rg (R.PRT_VDP_B0 p v) = (b0 &&& 0x000000FFFFFF7F06#64) ||| 1#64 ∧
    (s.vdpB0 p v (b0 ||| 1#64)).tmem = s.tmem ∧ (s.fd (R.SPC_STS_STATE (s.fd (R.PRT_VDP_B1_SPC p v))) ≠ 4 → ∀ a, a ≠ R.PRT_VDP_B0 p v →
      (s.vdpB0 p v (b0 ||| 1#64)).regs.getD regReset a = s.regs.getD regReset a) := by
  have hb := tableView_vdpB0 hp hv
  rw [s.vdpB0_set hvalid (bit_zero_or_one b0) hr]
  refine ⟨?_, ?_, fun hon a ha => ?_⟩
  · rw [State.bound_rg_vdpB0 hp hv, State.vdpFields_rg hp hv, vdpWord_or_one]
  · exact State.bound_reports.tmem.trans ((State.setRg_tmem _ _ _ hb).trans (s.setRg_tmem _ _ hb))
  · have hspc : (s.vdpFields p v (b0 ||| 1#64)).fd (R.PRT_VDP_B1_SPC p v) = s.fd (R.PRT_VDP_B1_SPC p v) :=
      State.fd_congr (s.rg_setRg_ne _ _ _ hb vdpB1_ne_vdpB0)
    have hst (i : Nat) : (s.vdpFields p v (b0 ||| 1#64)).fd (R.SPC_STS_STATE i) = s.fd (R.SPC_STS_STATE i) :=
      State.fd_congr (s.rg_setRg_ne _ _ _ hb (spcSts_ne_vdpB0 hp hv))
    rw [State.bound_of_not_on hp hv (by rwa [hspc, hst])]
    exact (State.setRg_getD_ne _ _ hb ha).trans (s.setRg_getD_ne _ hb ha)

/-- Settles O43: each command is its operation, described above, and the slot events that it raises. -/
theorem bindingRows : Obligations.BindingRows := by
  refine ⟨fun s n w p v b0 hw hn => ?_, fun s w p v hw hvalid => ⟨?_, ?_⟩, fun s n p v b0 hw hvalid hn => ?_, fun s p v sec sub hl hne => ?_,
    fun s p v d hl hcxl => ?_, fun s w p v hw => ⟨fun hvalid hsh hent => ?_, fun h => ?_⟩⟩
  · have hwatch := s.slotWatch_watched fun t => t.vdpB0 p v (b0 ||| 1#64)
    subst hn
    refine ⟨fun hvalid => ?_, fun hvalid hr => ?_, fun hvalid hr => ?_⟩ <;> refine ⟨_, exec_vdpBind_reaches hw, ?_⟩
    · rw [s.vdpB0_again hvalid (bit_zero_or_one b0)] at hwatch
      exact ⟨hwatch.regs, hwatch.tmem⟩
    · obtain ⟨hval, hrej, hcode, htm⟩ := State.refused_fields p.isLt v.isLt _ (s.vdpB0_refused hvalid (bit_zero_or_one b0) hr)
      exact ⟨(hwatch.fb _).trans hval, (hwatch.fb _).trans hrej, (hwatch.fd _).trans hcode, hwatch.tmem.trans htm⟩
    · obtain ⟨hrg, htm, hothers⟩ := State.bindWrite_fields p.isLt v.isLt hvalid hr
      exact ⟨(hwatch.rg _).trans hrg, hwatch.tmem.trans htm, fun hon a ha => (congrArg (SMap.getD regReset · a) hwatch.regs).trans (hothers hon a ha)⟩
  · obtain ⟨hval, hgone, hres, hdpc, htm, hothers⟩ := s.unbound_fields p.isLt v.isLt
    have hwatch := s.unbind_watched hvalid
    have hstill := hwatch.still p v
    exact ⟨_, exec_vdpUnbind_reaches hw, (hwatch.fb _).trans hval, (hwatch.fb _).trans hgone, (congrArg VdpState.resets hstill).trans hres,
      (congrArg VdpState.dpc hstill).trans hdpc, hwatch.tmem.trans htm,
      fun a h1 h2 => (congrArg (SMap.getD regReset · a) hwatch.regs).trans (hothers a h1 h2)⟩
  · obtain ⟨hval, hgone, hres, -, -, -⟩ := s.unbound_fields p.isLt v.isLt
    have hwatch := s.unbind_watched hvalid
    exact ⟨_, (exec_fmapiUnbind_reaches (State.reaches_sideband hw)).trans (by rw [vdpKey, Nat.mul_comm]), (hwatch.fb _).trans hval,
      (hwatch.fb _).trans hgone, (congrArg VdpState.resets (hwatch.still p v)).trans hres⟩
  · have hwatch := s.slotWatch_watched fun t => t.vdpB0 p v (b0 ||| 1#64)
    subst hn
    refine ⟨_, (exec_fmapiBind_reaches hw).trans (by rw [vdpKey, Nat.mul_comm]), (hwatch.fb _).trans (State.bindWrite_valid p.isLt v.isLt hvalid)⟩
  · have hwatch := s.slotWatch_watched fun t => t.busNumbers p v sec.toNat sub.toNat
    obtain ⟨hvdp, hseq, htm⟩ := s.busNumbers_fields sub.toNat hne
    have hstill := (hwatch.still p v).trans (congrArg VdpState.still hvdp)
    exact ⟨_, s.hostRow_live _ hl, congrArg VdpState.secBus hstill, congrArg VdpState.subBus hstill, congrArg VdpState.rrs hstill,
      hseq.trans_eq (congrArg AlmState.seqNext hwatch.alm).symm, hwatch.tmem.trans htm⟩
  · have hwatch := s.slotWatch_watched fun t => if t.fb (R.PRT_LSTS_CXL p) then t.hdmCommit p d else t
    rw [if_pos hcxl] at hwatch
    obtain ⟨ok, hmem, hregs, htm, hok⟩ := s.hdmCommit_fields p d
    exact ⟨_, ok, s.hostRow_live _ hl, (hwatch.up p).symm ▸ hmem, hwatch.regs.trans hregs, hwatch.tmem.trans htm, hok⟩
  · obtain ⟨hgone, hres, hval, htm, hldg⟩ := s.setGone_fields p.isLt v.isLt
    rw [exec_vdlGoneSet_reaches hw, State.goneWrite, if_neg (by simp [hvalid, hsh])]
    refine ⟨_, rfl, ?_⟩
    dsimp only
    rw [State.resolveWhere_of_empty _ _ _ ((congrArg LdgState.entries hldg).trans hent)]
    exact ⟨hgone, hres, hval.trans hvalid, htm⟩
  · rw [exec_vdlGoneSet_reaches hw, State.goneWrite, if_pos (by simpa using h)]

end Sys2Proof.Machine
end

section
/-! PROOFS. Links and resets of PCIe/CXL ports seen from one port: what O45 needs (R465, R466, R483, R488). -/

namespace Sys2Proof.Machine

/-! ### Registers of a link -/

theorem linkReg_prtLsts {p : Nat} (hp : p < 128) : linkReg (R.PRT_LSTS p) = true := by
  simp only [linkReg, Bool.and_eq_true, decide_eq_true_eq]
  unfold R.PRT_LSTS
  omega

theorem linkReg_prtRst {p : Nat} (hp : p < 128) : linkReg (R.PRT_RST p) = true := by
  simp only [linkReg, Bool.and_eq_true, decide_eq_true_eq]
  unfold R.PRT_RST
  omega

theorem linkReg_range {a : Nat} (h : linkReg a = true) : 0x400000 ≤ a ∧ a < 0x600000 := by
  simp only [linkReg, Bool.and_eq_true, decide_eq_true_eq] at h
  exact h.1.1

theorem tableView_prtLsts {p : Nat} (hp : p < 128) : tableView (R.PRT_LSTS p) = none :=
  tableView_of_lt ((linkReg_range (linkReg_prtLsts hp)).2.trans (by decide))

theorem tableView_prtRst {p : Nat} (hp : p < 128) : tableView (R.PRT_RST p) = none :=
  tableView_of_lt ((linkReg_range (linkReg_prtRst hp)).2.trans (by decide))

theorem prtLsts_ne_prtRst {p q : Nat} : R.PRT_LSTS p ≠ R.PRT_RST q := by unfold R.PRT_LSTS R.PRT_RST; omega

theorem prtLsts_inj {p q : Nat} (h : R.PRT_LSTS p = R.PRT_LSTS q) : p = q := by unfold R.PRT_LSTS at h; omega

/-! ### What leaves links as they are -/

/-- Links stay as they are: their registers, the packets whose acknowledgement they await and the removals remembered, and the bridges of the
switches. -/
structure State.Steady (s t : State) : Prop where
  ups : t.ups = s.ups
  perstIn : t.perstIn = s.perstIn
  rg : ∀ a, linkReg a = true → t.rg a = s.rg a
  awaitAck : ∀ p, (t.port p).awaitAck = (s.port p).awaitAck
  removed : ∀ p, (s.port p).removed = true → (t.port p).removed = true

namespace State.Steady

variable {s t u : State}

theorem refl : s.Steady s := ⟨rfl, rfl, fun _ _ => rfl, fun _ => rfl, fun _ => id⟩

theorem trans (h : s.Steady t) (h' : t.Steady u) : s.Steady u :=
  ⟨h'.ups.trans h.ups, h'.perstIn.trans h.perstIn, fun a ha => (h'.rg a ha).trans (h.rg a ha), fun p => (h'.awaitAck p).trans (h.awaitAck p),
    fun p hp => h'.removed p (h.removed p hp)⟩

theorem ite {p : Prop} [Decidable p] (h : s.Steady t) (h' : s.Steady u) : s.Steady (if p then t else u) := by
  split
  · exact h
  · exact h'

/-- Operations beside the ports. -/
theorem keeps (h : s.Steady t) (hk : t.Keeps .beside u) : s.Steady u := by
  obtain ⟨hports, hups, hperst, hregs⟩ := hk.beside rfl
  have hport (p : Nat) : u.port p = t.port p := State.port_congr hports p
  refine h.trans ⟨hups, hperst, fun a ha => ?_, fun p => by rw [hport], fun p hp => by rwa [hport]⟩
  have hv := tableView_of_lt ((linkReg_range ha).2.trans (by decide : 0x600000 < 0x7E0000))
  simp only [State.rg, hv]
  exact hregs a ha

theorem of_keeps (hk : s.Keeps .beside t) : s.Steady t := refl.keeps hk

theorem port_setPort (s : State) (q p : Nat) (x : PciPort) : (s.setPort q x).port p = if p = q then x else s.port p := by
  simp only [State.port, State.setPort, SMap.get, SMap.set, SMap.getD_setD]

/-- A port set that awaits the same acknowledgements. -/
theorem setPort (h : s.Steady t) {q : Nat} {x : PciPort} (ha : x.awaitAck = (t.port q).awaitAck)
    (hr : (t.port q).removed = true → x.removed = true) : s.Steady (t.setPort q x) := by
  refine h.trans ⟨rfl, rfl, fun a _ => State.rg_congr rfl rfl a, fun p => ?_, fun p hp => ?_⟩
  · rw [port_setPort]
    split
    · next e => rw [ha, e]
    · rfl
  · rw [port_setPort]
    split
    · next e => exact hr (e ▸ hp)
    · exact hp

end State.Steady

/-! ### Training (R274, R465, R510) -/

/-- The registers that training writes: failed reservations and their reports. -/
def trainReg (a : Nat) : Prop := noticeReg a ∨ a = R.BUF_STS ∨ a = R.LDG_STS

/-- What training leaves. -/
structure State.Trained (s t : State) : Prop where
  reports : s.Reports trainReg t
  steady : s.Steady t

namespace State.Trained

variable {s t u : State}

theorem refl : s.Trained s := ⟨.refl, .refl⟩

theorem trans (h : s.Trained t) (h' : t.Trained u) : s.Trained u := ⟨h.reports.trans h'.reports, h.steady.trans h'.steady⟩

theorem ite {p : Prop} [Decidable p] (h : s.Trained t) (h' : s.Trained u) : s.Trained (if p then t else u) := by
  split
  · exact h
  · exact h'

theorem setPort (h : s.Trained t) {q : Nat} {x : PciPort} (ha : x.awaitAck = (t.port q).awaitAck)
    (hr : (t.port q).removed = true → x.removed = true) : s.Trained (t.setPort q x) :=
  ⟨h.reports.trans (.of_eq rfl rfl rfl le_rfl fun _ => id), h.steady.setPort ha hr⟩

theorem setFd (h : s.Trained t) {x : Field} (v : Nat) (hx : x.reg = R.BUF_STS ∨ x.reg = R.LDG_STS) : s.Trained (t.setFd x v) := by
  have hview : tableView x.reg = none := by
    rcases hx with e | e <;> rw [e] <;> decide
  have hlink : linkReg x.reg = false := by
    rcases hx with e | e <;> rw [e] <;> decide
  exact ⟨h.reports.setFd v (.inr hx) hview, h.steady.keeps (State.Keeps.refl.setFdOff hlink)⟩

theorem setFb (h : s.Trained t) {x : Field} (b : Bool) (hx : x.reg = R.BUF_STS ∨ x.reg = R.LDG_STS) : s.Trained (t.setFb x b) := h.setFd _ hx

/-- A failed reservation is reported. -/
theorem bufReport (h : s.Trained t) (port : Nat) (detail : Word) : s.Trained (t.bufReport port 1 detail) := by
  refine h.trans ⟨State.Reports.mono (P := noticeReg) ?_ fun _ => .inl, .of_keeps State.Keeps.refl.bufReport⟩
  have hq : ∀ n, (if t.fb R.BUF_CFG_RPTQV then some (t.fd R.BUF_CFG_RPTQ) else none) = some n → n < 64 := t.evTarget_lt _ _ rfl
  exact State.Reports.refl.postEvent hq

theorem place (h : s.Trained t) (p : Nat) : s.Trained (t.place p) := by
  unfold State.place
  extract_lets role x y s2 s1 a b x1 held
  have hplaced (l : Option (Nat × Nat × Nat × Nat)) : s.Trained (t.setPort p { x with placed := l }) := setPort h rfl id
  have h2 : s.Trained s2 := setFd (setFb (hplaced _) _ (.inl rfl)) _ (.inl rfl)
  have h1 : s.Trained s1 := ite h (ite (hplaced _) (h2.bufReport _ _))
  have hset (l : Option (Nat × Nat)) : s.Trained (s1.setPort p { x1 with placedLdg := l }) := setPort h1 rfl id
  exact ite h (ite h1 (ite h1 (ite (hset _) (setFd (setFb (hset _) _ (.inr rfl)) _ (.inr rfl)))))

theorem untrain (h : s.Trained t) (p : Nat) : s.Trained (t.untrain p) := h.setPort rfl id

theorem train (h : s.Trained t) (p : Nat) : s.Trained (t.train p) := by
  unfold State.train
  extract_lets x s1
  have h1 : s.Trained s1 := setPort h rfl id
  exact ite h (ite (h.place p) (ite (h1.untrain p) (h1.place p)))

end State.Trained

/-! ### A link that goes down (R466) -/

/-- PRT[p]_LSTS of a link that goes down. -/
def downWord (w : Word) : Word :=
  let w1 := setWField 16 4 (setWField 12 1 (setWField 11 1 (setWField 10 1 (setWField 4 5 (setWField 1 3 (setWField 0 1 w 0) 0) 0) 0) 0) 0) 0
  setWField 32 16 w1 (wField 32 16 w1 + 1)

theorem downWord_fields (w : Word) : wField 0 1 (downWord w) = 0 ∧ wField 1 3 (downWord w) = 0 ∧ wField 4 5 (downWord w) = 0 ∧
    wField 16 4 (downWord w) = 0 ∧ wField 32 16 (downWord w) = (wField 32 16 w + 1) % 65536 ∧ wField 20 1 (downWord w) = wField 20 1 w := by
  unfold downWord
  simp (disch := omega) only [wField_setWField_apart, wField_setWField]
  refine ⟨rfl, rfl, rfl, rfl, rfl, trivial⟩

/-- PRT[p]_LSTS as the link goes down. -/
def State.lowered (s : State) (q : Nat) : State :=
  (((((((s.setFb (R.PRT_LSTS_UP q) false).setFd (R.PRT_LSTS_RATE q) 0).setFd (R.PRT_LSTS_WIDTH q) 0).setFd (R.PRT_LSTS_CXL q) 0).setFd
    (R.PRT_LSTS_REV q) 0).setFd (R.PRT_LSTS_L0P q) 0).setFd (R.PRT_LSTS_LTSSM q) 0).addFd (R.PRT_LSTS_DOWNS q) 1

theorem State.lowered_rg_self (s : State) {q : Nat} (hq : q < 128) : (s.lowered q).rg (R.PRT_LSTS q) = downWord (s.rg (R.PRT_LSTS q)) := by
  have hset (t : State) (lo width v : Nat) : (t.setFd ⟨R.PRT_LSTS q, lo, width⟩ v).rg (R.PRT_LSTS q) = setWField lo width (t.rg (R.PRT_LSTS q)) v :=
    t.rg_setFd_self ⟨R.PRT_LSTS q, lo, width⟩ v (tableView_prtLsts hq)
  simp only [State.lowered, State.addFd, State.setFb, State.fd, R.PRT_LSTS_UP, R.PRT_LSTS_RATE, R.PRT_LSTS_WIDTH, R.PRT_LSTS_CXL, R.PRT_LSTS_REV,
    R.PRT_LSTS_L0P, R.PRT_LSTS_LTSSM, R.PRT_LSTS_DOWNS, hset]
  rfl

theorem State.lowered_rg_ne (s : State) {q a : Nat} (hq : q < 128) (ha : a ≠ R.PRT_LSTS q) : (s.lowered q).rg a = s.rg a := by
  have hset (t : State) (lo width v : Nat) : (t.setFd ⟨R.PRT_LSTS q, lo, width⟩ v).rg a = t.rg a :=
    t.rg_setFd_ne ⟨R.PRT_LSTS q, lo, width⟩ v a (tableView_prtLsts hq) ha
  simp only [State.lowered, State.addFd, State.setFb, R.PRT_LSTS_UP, R.PRT_LSTS_RATE, R.PRT_LSTS_WIDTH, R.PRT_LSTS_CXL, R.PRT_LSTS_REV,
    R.PRT_LSTS_L0P, R.PRT_LSTS_LTSSM, R.PRT_LSTS_DOWNS, hset]

theorem State.lowered_ups (s : State) (q : Nat) : (s.lowered q).ups = s.ups := by simp [State.lowered]
theorem State.lowered_perstIn (s : State) (q : Nat) : (s.lowered q).perstIn = s.perstIn := by simp [State.lowered]

/-- A TLP being received that ends badly leaves the links. -/
theorem State.endCut_steady (s : State) (q : Nat) : s.Steady (s.endCut q) := by
  unfold State.endCut
  split
  · exact .refl
  · next id _ =>
    extract_lets x s1
    have h1 : s.Steady s1 := State.Steady.setPort .refl rfl fun h => h
    split
    · exact h1
    · refine h1.keeps (State.Keeps.dropCut ?_)
      split
      · exact .either State.Keeps.refl.chaffOut .refl
      · exact .refl

/-- What a lost link leaves of the other links, and of its own. -/
structure State.LinkLost (q : Nat) (s t : State) : Prop where
  ups : t.ups = s.ups
  perstIn : t.perstIn = s.perstIn
  rg : ∀ a, linkReg a = true → a ≠ R.PRT_LSTS q → t.rg a = s.rg a
  lsts : t.rg (R.PRT_LSTS q) = downWord (s.rg (R.PRT_LSTS q))
  port : ∀ p, p ≠ q → (t.port p).awaitAck = (s.port p).awaitAck
  removed : ∀ p, (s.port p).removed = true → (t.port p).removed = true
  awaitAck : (t.port q).awaitAck = []

/-- The state of a lost link, of a port whose link was up. -/
theorem State.linkLost_lost (s : State) {q : Nat} (hq : q < 128) (hup : s.fb (R.PRT_LSTS_UP q) = true) : s.LinkLost q (s.linkLost q) := by
  have hcut := s.endCut_steady q
  have hlow : s.linkLost q = (let s2 := (((s.endCut q).lowered q).cntPort q 60 1).linkEvent .prt q 9
      s2.setPort q { s2.port q with credits := ⟨0, 0, 0, 0, 0, 0⟩, awaitAck := [], ideKey := none, training := false }) := by
    rw [State.linkLost, hup]
    rfl
  rw [hlow]
  extract_lets s2
  have hbeside : ((s.endCut q).lowered q).Steady s2 := .of_keeps State.Keeps.refl.cntPort.linkEvent
  have hports : ((s.endCut q).lowered q).ports = (s.endCut q).ports := by simp [State.lowered]
  have hport (p : Nat) : ((s.endCut q).lowered q).port p = (s.endCut q).port p := State.port_congr hports p
  have hset (x : PciPort) (a : Nat) : (s2.setPort q x).rg a = s2.rg a := State.rg_congr rfl rfl a
  refine ⟨?_, ?_, fun a ha hne => ?_, ?_, fun p hp => ?_, fun p hp => ?_, ?_⟩
  · exact hbeside.ups.trans (((s.endCut q).lowered_ups q).trans hcut.ups)
  · exact hbeside.perstIn.trans (((s.endCut q).lowered_perstIn q).trans hcut.perstIn)
  · rw [hset, hbeside.rg a ha, State.lowered_rg_ne _ hq hne, hcut.rg a ha]
  · have ha := linkReg_prtLsts hq
    rw [hset, hbeside.rg _ ha, State.lowered_rg_self _ hq, hcut.rg _ ha]
  · rw [State.Steady.port_setPort, if_neg hp, hbeside.awaitAck, hport, hcut.awaitAck]
  · have h2 : (s2.port p).removed = true := hbeside.removed p ((hport p).symm ▸ hcut.removed p hp)
    rw [State.Steady.port_setPort]
    split
    · next e => rwa [e] at h2
    · exact h2
  · rw [State.Steady.port_setPort, if_pos rfl]

/-! ### Operations on links, seen from a port whose link is down -/

/-- What operations on links leave of a port: the bridge of its switch and PRT[p]_RST, and, where its link is down, PRT[p]_LSTS but for CONT, the
acknowledgements it awaits and a removal remembered. -/
structure State.Held (p : Nat) (s t : State) : Prop where
  up : t.up p = s.up p
  perstIn : t.perstIn = s.perstIn
  rst : t.rg (R.PRT_RST p) = s.rg (R.PRT_RST p)
  lsts : s.fb (R.PRT_LSTS_UP p) = false → ∀ lo width, lo + width ≤ 20 ∨ 21 ≤ lo →
    wField lo width (t.rg (R.PRT_LSTS p)) = wField lo width (s.rg (R.PRT_LSTS p))
  awaitAck : s.fb (R.PRT_LSTS_UP p) = false → (t.port p).awaitAck = (s.port p).awaitAck
  removed : (s.port p).removed = true → (t.port p).removed = true

theorem State.fd_eq_zero_of_fb {s : State} {x : Field} (h : s.fb x = false) : s.fd x = 0 := by simpa [State.fb] using h

theorem State.fb_of_fd_eq_zero {s : State} {x : Field} (h : s.fd x = 0) : s.fb x = false := by simpa [State.fb] using h

namespace State.Held

variable {p q : Nat} {s t u : State}

theorem refl : s.Held p s := ⟨rfl, rfl, rfl, fun _ _ _ _ => rfl, fun _ => rfl, id⟩

/-- A link that is down stays down. -/
theorem down (h : s.Held p t) (hd : s.fb (R.PRT_LSTS_UP p) = false) : t.fb (R.PRT_LSTS_UP p) = false :=
  State.fb_of_fd_eq_zero ((h.lsts hd 0 1 (.inl (by decide))).trans (State.fd_eq_zero_of_fb hd))

theorem trans (h : s.Held p t) (h' : t.Held p u) : s.Held p u :=
  ⟨h'.up.trans h.up, h'.perstIn.trans h.perstIn, h'.rst.trans h.rst,
    fun hd lo width hf => (h'.lsts (h.down hd) lo width hf).trans (h.lsts hd lo width hf),
    fun hd => (h'.awaitAck (h.down hd)).trans (h.awaitAck hd), fun hr => h'.removed (h.removed hr)⟩

theorem ite {c : Prop} [Decidable c] (h : s.Held p t) (h' : s.Held p u) : s.Held p (if c then t else u) := by
  split
  · exact h
  · exact h'

theorem steady (h : s.Held p t) (hp : p < 128) (hs : t.Steady u) : s.Held p u := by
  have hl := hs.rg _ (linkReg_prtLsts hp)
  exact h.trans ⟨State.up_congr hs.ups p, hs.perstIn, hs.rg _ (linkReg_prtRst hp),
    fun _ lo width _ => congrArg (wField lo width) hl, fun _ => hs.awaitAck p, hs.removed p⟩

theorem keeps (h : s.Held p t) (hp : p < 128) (hk : t.Keeps .beside u) : s.Held p u := h.steady hp (.of_keeps hk)

theorem setCont (h : s.Held p t) (hq : q < 128) (b : Bool) : s.Held p (t.setFb (R.PRT_LSTS_CONT q) b) := by
  have hview := tableView_prtLsts hq
  have hport : (t.setFb (R.PRT_LSTS_CONT q) b).port p = t.port p :=
    State.port_congr (t.setFb_ports (R.PRT_LSTS_CONT q) b) p
  refine h.trans ⟨State.up_congr (t.setFb_ups (R.PRT_LSTS_CONT q) b) p, t.setFb_perstIn _ _,
    t.rg_setFd_ne (R.PRT_LSTS_CONT q) _ _ hview prtLsts_ne_prtRst.symm, fun _ lo width hf => ?_, fun _ => by rw [hport], fun hr => by rwa [hport]⟩
  exact t.fd_setFd_apart (R.PRT_LSTS_CONT q) ⟨R.PRT_LSTS p, lo, width⟩ _ hview (show 20 + 1 ≤ 64 by decide) (.inr hf)

theorem linkLost (h : s.Held p t) (hp : p < 128) (hq : q < 128) : s.Held p (t.linkLost q) := by
  cases hup : t.fb (R.PRT_LSTS_UP q) with
  | false =>
    have huntrain : t.linkLost q = t.untrain q := by rw [State.linkLost, hup]; rfl
    rw [huntrain]
    exact h.steady hp ((State.Trained.refl).untrain q).steady
  | true =>
    have hl := t.linkLost_lost hq hup
    have hrst := hl.rg _ (linkReg_prtRst hp) prtLsts_ne_prtRst.symm
    have hne (hd : t.fb (R.PRT_LSTS_UP p) = false) : p ≠ q := by
      rintro rfl
      rw [hup] at hd
      cases hd
    refine h.trans ⟨State.up_congr hl.ups p, hl.perstIn, hrst, fun hd lo width _ => ?_, fun hd => hl.port p (hne hd),
      hl.removed p⟩
    exact congrArg (wField lo width) (hl.rg _ (linkReg_prtLsts hp) fun e => hne hd (prtLsts_inj e))

end State.Held

/-! ### A port that goes down, and containment (R483, R484, R518) -/

/-- What follows the loss of a port's link: its items are resolved, and a removal is remembered. -/
def State.portEnd (s : State) (p reason : Nat) (lost : Bool) : State :=
  let s1 := s.setPort p { s.port p with downReason := reason }
  let s2 := s1.portItems p reason
  if lost then
    let s3 := s2.setPort p { s2.port p with removed := true }
    let lo := s3.fd (R.PRT_FIDMAP_FIDBASE p)
    let hi := lo + s3.fd (R.PRT_FIDMAP_COUNTM1 p)
    s3.bindings.foldl (fun t b =>
      if t.shared b && (t.vdp b.1 b.2).resets.any fun r => decide (lo ≤ r.fid) && decide (r.fid ≤ hi) then t.setGone b.1 b.2 else t) s3
  else s2

theorem State.portDown_eq (s : State) (p reason : Nat) (lost : Bool) : s.portDown p reason lost = (s.linkLost p).portEnd p reason lost := rfl

/-- The end of a port leaves the links, and a removal is remembered. -/
theorem State.portEnd_steady (s : State) (p reason : Nat) (lost : Bool) :
    s.Steady (s.portEnd p reason lost) ∧ (lost = true → ((s.portEnd p reason lost).port p).removed = true) := by
  unfold State.portEnd
  extract_lets x s1 s2 x3 s3 lo hi
  have h2 : s.Steady s2 := (State.Steady.setPort .refl rfl fun h => h : s.Steady s1).keeps State.Keeps.refl.portItems
  cases lost with
  | false => exact ⟨h2, nofun⟩
  | true =>
    have h3 : s.Steady s3 := State.Steady.setPort h2 rfl fun _ => rfl
    have hremoved : (s3.port p).removed = true := by rw [State.port_setPort_self]
    simp only [if_true]
    generalize hu : s3.bindings.foldl _ s3 = u
    have h4 : s3.Steady u := by
      rw [← hu]
      refine List.foldlRecOn _ _ .refl fun t ht b hb => .ite (ht.keeps ?_) ht
      exact State.Keeps.refl.setGoneOff (s3.bindings_lt hb)
    exact ⟨h3.trans h4, fun _ => h4.removed p hremoved⟩

theorem State.lport_lt (s : State) (p v : Nat) : s.fd (R.PRT_VDP_B0_LPORT p v) < 128 := s.fd_lt _

namespace State.Held

variable {p q : Nat} {s t : State}

theorem portDown (h : s.Held p t) (hp : p < 128) (hq : q < 128) (reason : Nat) (lost : Bool) : s.Held p (t.portDown q reason lost) :=
  (h.linkLost hp hq).steady hp (State.portEnd_steady _ _ _ _).1

theorem train (h : s.Held p t) (hp : p < 128) (q : Nat) : s.Held p (t.train q) := h.steady hp (State.Trained.refl.train q).steady

theorem dpcTrigger (h : s.Held p t) (hp : p < 128) (x v : Nat) : s.Held p (t.dpcTrigger x v) := by
  unfold State.dpcTrigger
  extract_lets y s1 q
  have h1 : s.Held p s1 := h.keeps hp State.Keeps.refl.setVdp.bindingItems
  exact .ite h (.ite ((h1.setCont (s1.lport_lt x v) true).portDown hp (s1.lport_lt x v) _ _) h1)

theorem portError (h : s.Held p t) (hp : p < 128) (x v bit : Nat) (fatal : Bool) : s.Held p (t.portError x v bit fatal) :=
  .ite (h.dpcTrigger hp x v) h

theorem surpriseDown (h : s.Held p t) (hp : p < 128) (q : Nat) : s.Held p (t.surpriseDown q) := by
  unfold State.surpriseDown
  split
  · exact h
  · exact h.portError hp _ _ _ _

theorem busReset (h : s.Held p t) (hp : p < 128) (x v : Nat) : s.Held p (t.busReset x v) := by
  unfold State.busReset
  split
  · exact h
  · extract_lets s1 q
    have h1 : s.Held p s1 := h.keeps hp State.Keeps.refl.bindingItems
    split
    · exact ((h1.portDown hp (s1.lport_lt x v) _ _).keeps hp State.Keeps.refl.emit).train hp _
    · exact h1.keeps hp State.Keeps.refl.flr
    · exact h1.keeps hp State.Keeps.refl.proxyReset

end State.Held

/-! ### The reset of a switch (R488) -/

/-- The upstream bridge of a switch reset, but for its sticky bits. -/
def State.bridgeCleared (s : State) (p : Nat) : State :=
  { s with ups := s.ups.set UpBridge.reset p { UpBridge.reset with cfg := stickyCfg (s.up p).cfg } }

theorem State.bridgeCleared_up (s : State) (p q : Nat) :
    (s.bridgeCleared p).up q = if q = p then { UpBridge.reset with cfg := stickyCfg (s.up p).cfg } else s.up q := by
  simp only [State.up, State.bridgeCleared, SMap.get, SMap.set, SMap.getD_setD]

/-- A reset of a switch leaves of each port what other operations leave, but for the switch's own bridge. -/
theorem State.switchReset_held (s : State) (p : Nat) {q : Nat} (hq : q < 128) : (s.bridgeCleared p).Held q (s.switchReset p) := by
  unfold State.switchReset
  extract_lets s1 _ _ s2 s3 s4 s5
  have h1 : s.Steady s1 := .of_keeps State.Keeps.refl.portItems.portRequests
  have h3 : (s.bridgeCleared p).Held q s3 := by
    have hups : s3.ups = (s.bridgeCleared p).ups := by
      simp only [s3, s2, State.bridgeCleared, h1.ups, State.up]
      rfl
    have hrg (a : Nat) : s3.rg a = s1.rg a := State.rg_congr rfl rfl a
    exact ⟨State.up_congr hups q, h1.perstIn, (hrg _).trans (h1.rg _ (linkReg_prtRst hq)),
      fun _ lo width _ => congrArg (wField lo width) ((hrg _).trans (h1.rg _ (linkReg_prtLsts hq))), fun _ => h1.awaitAck q, h1.removed q⟩
  have h4 : (s.bridgeCleared p).Held q s4 := h3.keeps hq State.Keeps.refl.flr
  have h5 : (s.bridgeCleared p).Held q s5 := by
    refine List.foldlRecOn _ _ h4 fun t ht v _ => ?_
    refine .ite ((ht.setCont (t.lport_lt p v) false).steady hq (State.Steady.setPort .refl ?_ fun h => ?_)) ht
    · exact (congrArg PciPort.awaitAck (State.port_congr (t.setFb_ports _ _) _)).symm
    · exact (congrArg PciPort.removed (State.port_congr (t.setFb_ports _ _) _)).symm.trans h
  exact List.foldlRecOn _ _ h5 fun t ht v _ => ht.busReset hq p v

end Sys2Proof.Machine
end

section
/-! PROOFS. Links, resets and containment of PCIe/CXL ports: O45 (R175, R274, R325, R466, R483, R484, R488, R491, R510). -/

namespace Sys2Proof.Machine

/-! ### Registers that training leaves -/

theorem not_trainReg {a : Nat} (h : 0x400000 ≤ a ∧ a < 0x700000 ∨ 0x1700000 ≤ a ∧ a < 0x17F0000) : ¬trainReg a := by
  rintro ((rfl | rfl | ⟨q, hq, rfl⟩) | rfl | rfl)
  · revert h; decide
  · revert h; decide
  · unfold R.EVT_Q_STS at h; omega
  · revert h; decide
  · revert h; decide

section
variable {s t : State} {p : Nat} {v : Word}

theorem prtCtx_lt (hp : p < 128) : 0x400000 ≤ R.PRT_CTX p ∧ R.PRT_CTX p < 0x700000 := by unfold R.PRT_CTX; omega

theorem schPrtLen_range (hp : p < 128) : 0x1700000 ≤ R.SCH_PRT_LEN p ∧ R.SCH_PRT_LEN p < 0x17F0000 := by unfold R.SCH_PRT_LEN; omega

theorem tableView_prtCtx (hp : p < 128) : tableView (R.PRT_CTX p) = none := tableView_of_lt ((prtCtx_lt hp).2.trans (by decide))

theorem tableView_schPrtLen (hp : p < 128) : tableView (R.SCH_PRT_LEN p) = none := by
  have h := schPrtLen_range hp
  rw [tableView, if_neg (by omega), if_neg (by omega)]

theorem prtLsts_ne_prtCtx {q : Nat} : R.PRT_LSTS p ≠ R.PRT_CTX q := by unfold R.PRT_LSTS R.PRT_CTX; omega

theorem prtLsts_ne_schPrtLen {q : Nat} : R.PRT_LSTS p ≠ R.SCH_PRT_LEN q := by unfold R.PRT_LSTS R.SCH_PRT_LEN; omega

theorem prtCtx_ne_schPrtLen {q : Nat} : R.PRT_CTX p ≠ R.SCH_PRT_LEN q := by unfold R.PRT_CTX R.SCH_PRT_LEN; omega

/-! ### Writes of PRT[p]_CTX (R175, R325) -/

theorem State.lenDefault_congr (hc : t.rg (R.PRT_CTX p) = s.rg (R.PRT_CTX p)) (hl : t.rg (R.PRT_LSTS p) = s.rg (R.PRT_LSTS p)) :
    t.lenDefault p = s.lenDefault p := by
  have hrole : t.fd (R.PRT_CTX_ROLE p) = s.fd (R.PRT_CTX_ROLE p) := State.fd_congr hc
  have hflit : t.fb (R.PRT_LSTS_FLIT p) = s.fb (R.PRT_LSTS_FLIT p) := State.fb_congr hl
  rw [State.lenDefault, State.lenDefault, hrole, hflit]

/-- A write of an up port's context is discarded. -/
theorem State.prtCtx_up (hp : p < 128) (hup : s.portUp p = true) : (s.prtCtx p v).fb (R.PRT_LSTS_WERR p) = true ∧
    (∀ a, a ≠ R.PRT_LSTS p → (s.prtCtx p v).regs.getD regReset a = s.regs.getD regReset a) ∧ (s.prtCtx p v).tmem = s.tmem := by
  have hview := tableView_prtLsts hp
  rw [State.prtCtx, if_pos hup]
  exact ⟨State.fb_setFb s (R.PRT_LSTS_WERR p) true hview (show 21 < 64 by decide) rfl, fun a ha => s.setRg_getD_ne _ hview ha,
    s.setRg_tmem _ _ hview⟩

/-- The context of a port written, and what a port of no role gives back. -/
def State.ctxWritten (s : State) (p : Nat) (v : Word) : State :=
  let s1 := s.setRg (R.PRT_CTX p) (v &&& 0xFFFFFFFF1FFF7F07#64)
  if s1.fd (R.PRT_CTX_ROLE p) = 0 then s1.setPort p { s1.port p with placed := none, placedLdg := none } else s1

theorem State.ctxWritten_rg (a : Nat) : (s.ctxWritten p v).rg a = (s.setRg (R.PRT_CTX p) (v &&& 0xFFFFFFFF1FFF7F07#64)).rg a := by
  unfold State.ctxWritten
  dsimp only
  split
  · exact State.rg_congr rfl rfl a
  · rfl

theorem State.ctxWritten_tmem (hp : p < 128) : (s.ctxWritten p v).tmem = s.tmem := by
  unfold State.ctxWritten
  dsimp only
  split <;> exact s.setRg_tmem _ _ (tableView_prtCtx hp)

/-- The role of a context as written. -/
theorem wField_role (v : Word) : wField 0 2 (v &&& 0xFFFFFFFF1FFF7F07#64) = wField 0 2 v := by
  rw [wField, wField, natField, natField, BitVec.toNat_and, Nat.pow_zero, Nat.div_one, Nat.div_one, Nat.and_mod_two_pow]
  exact (Nat.and_two_pow_sub_one_eq_mod _ 2).trans (Nat.mod_mod _ _)

theorem State.setRg_role (hp : p < 128) :
    (s.setRg (R.PRT_CTX p) (v &&& 0xFFFFFFFF1FFF7F07#64)).fd (R.PRT_CTX_ROLE p) = wField 0 2 v := by
  have hc := tableView_prtCtx hp
  exact (congrArg (wField 0 2) ((s.rg_setRg _ _ _ hc hc).trans (if_pos rfl))).trans (wField_role v)

/-- A port whose role is written to 0 has nothing placed. -/
theorem State.ctxWritten_port (hp : p < 128) (hv : wField 0 2 v = 0) :
    ((s.ctxWritten p v).port p).placed = none ∧ ((s.ctxWritten p v).port p).placedLdg = none := by
  unfold State.ctxWritten
  dsimp only
  rw [s.setRg_role hp, if_pos hv, State.port_setPort_self]
  exact ⟨rfl, rfl⟩

/-- A port without a role does not train. -/
theorem State.train_of_no_role (h : s.fd (R.PRT_CTX_ROLE p) = 0) : s.train p = s := by
  have hno : s.trains p = false := by simp [State.trains, h]
  rw [State.train, hno]
  rfl

/-- A write of the context of a port that is not up. -/
theorem State.prtCtx_down (hp : p < 128) (hup : s.portUp p = false) :
    (s.prtCtx p v).rg (R.PRT_CTX p) = v &&& 0xFFFFFFFF1FFF7F07#64 ∧
    (s.prtCtx p v).rg (R.SCH_PRT_LEN p) = (s.prtCtx p v).lenDefault p ∧
    (wField 0 2 v = 0 → ((s.prtCtx p v).port p).placed = none ∧ ((s.prtCtx p v).port p).placedLdg = none) ∧ (s.prtCtx p v).tmem = s.tmem := by
  have hc := tableView_prtCtx hp
  have hl := tableView_schPrtLen hp
  let s2 := s.ctxWritten p v
  let s3 := s2.setRg (R.SCH_PRT_LEN p) (s2.lenDefault p)
  have hdown : s.prtCtx p v = (s3.untrain p).train p := by
    rw [State.prtCtx, hup]
    rfl
  have htr : s3.Trained (s.prtCtx p v) := hdown ▸ (State.Trained.refl.untrain p).train p
  have hctx3 : s3.rg (R.PRT_CTX p) = v &&& 0xFFFFFFFF1FFF7F07#64 := by
    rw [s2.rg_setRg_ne _ _ _ hl prtCtx_ne_schPrtLen, State.ctxWritten_rg, s.rg_setRg _ _ _ hc hc, if_pos rfl]
  have hctx : (s.prtCtx p v).rg (R.PRT_CTX p) = s3.rg (R.PRT_CTX p) := htr.reports.rg _ (not_trainReg (.inl (prtCtx_lt hp)))
  have hlsts : (s.prtCtx p v).rg (R.PRT_LSTS p) = s3.rg (R.PRT_LSTS p) := htr.steady.rg _ (linkReg_prtLsts hp)
  refine ⟨hctx.trans hctx3, ?_, fun hrole => ?_, ?_⟩
  · rw [htr.reports.rg _ (not_trainReg (.inr (schPrtLen_range hp))), State.lenDefault_congr hctx hlsts, s2.rg_setRg _ _ _ hl hl, if_pos rfl]
    exact (State.lenDefault_congr (s2.rg_setRg_ne _ _ _ hl prtCtx_ne_schPrtLen) (s2.rg_setRg_ne _ _ _ hl prtLsts_ne_schPrtLen)).symm
  · have hrole3 : (s3.untrain p).fd (R.PRT_CTX_ROLE p) = 0 :=
      (congrArg (wField 0 2) ((State.rg_congr rfl rfl _).trans hctx3)).trans ((wField_role v).trans hrole)
    have hport : s3.port p = s2.port p := State.port_congr (s2.setRg_ports _ _) p
    rw [hdown, State.train_of_no_role hrole3, State.untrain, State.port_setPort_self, hport]
    exact State.ctxWritten_port hp hrole
  · exact htr.reports.tmem.trans ((s2.setRg_tmem _ _ hl).trans (State.ctxWritten_tmem hp))

/-! ### A link that comes up (R466) -/

/-- PRT[p]_LSTS of a link that comes up with what its partners settled. -/
def upWord (x : DlUp) (w : Word) : Word :=
  setWField 16 4 (setWField 11 1 (setWField 10 1 (setWField 9 1 (setWField 4 5 (setWField 1 3 (setWField 0 1 w 1) x.rate) x.width)
    (if x.flit then 1 else 0)) (if x.cxl then 1 else 0)) (if x.rev then 1 else 0)) 3

theorem upWord_fields (x : DlUp) (w : Word) : wField 0 1 (upWord x w) = 1 ∧ wField 1 3 (upWord x w) = x.rate ∧ wField 4 5 (upWord x w) = x.width ∧
    wField 9 1 (upWord x w) = (if x.flit then 1 else 0) ∧ wField 10 1 (upWord x w) = (if x.cxl then 1 else 0) ∧
    wField 11 1 (upWord x w) = (if x.rev then 1 else 0) ∧ wField 16 4 (upWord x w) = 3 := by
  have hrate := x.rate.isLt
  have hwidth := x.width.isLt
  have hbit (b : Bool) : (if b then 1 else 0) % 2 ^ 1 = if b then 1 else 0 := by cases b <;> rfl
  unfold upWord
  simp (disch := omega) only [wField_setWField_apart, wField_setWField, hbit]
  exact ⟨rfl, Nat.mod_eq_of_lt (by omega), Nat.mod_eq_of_lt (by omega), trivial, trivial, trivial, rfl⟩

/-- PRT[p]_LSTS as the link comes up. -/
def State.risen (s : State) (p : Nat) (x : DlUp) : State :=
  ((((((s.setFb (R.PRT_LSTS_UP p) true).setFd (R.PRT_LSTS_RATE p) x.rate.val).setFd (R.PRT_LSTS_WIDTH p)
    x.width.val).setFb (R.PRT_LSTS_FLIT p) x.flit).setFb (R.PRT_LSTS_CXL p) x.cxl).setFb (R.PRT_LSTS_REV p) x.rev).setFd (R.PRT_LSTS_LTSSM p) 3

theorem State.risen_rg (hp : p < 128) (x : DlUp) : (s.risen p x).rg (R.PRT_LSTS p) = upWord x (s.rg (R.PRT_LSTS p)) := by
  have hset (t : State) (lo width v : Nat) : (t.setFd ⟨R.PRT_LSTS p, lo, width⟩ v).rg (R.PRT_LSTS p) = setWField lo width (t.rg (R.PRT_LSTS p)) v :=
    t.rg_setFd_self ⟨R.PRT_LSTS p, lo, width⟩ v (tableView_prtLsts hp)
  simp only [State.risen, State.setFb, R.PRT_LSTS_UP, R.PRT_LSTS_RATE, R.PRT_LSTS_WIDTH, R.PRT_LSTS_FLIT, R.PRT_LSTS_CXL, R.PRT_LSTS_REV,
    R.PRT_LSTS_LTSSM, hset]
  rfl

theorem State.risen_tmem (hp : p < 128) (x : DlUp) : (s.risen p x).tmem = s.tmem := by
  have hset (t : State) (lo width v : Nat) : (t.setFd ⟨R.PRT_LSTS p, lo, width⟩ v).tmem = t.tmem := t.setRg_tmem _ _ (tableView_prtLsts hp)
  simp only [State.risen, State.setFb, R.PRT_LSTS_UP, R.PRT_LSTS_RATE, R.PRT_LSTS_WIDTH, R.PRT_LSTS_FLIT, R.PRT_LSTS_CXL, R.PRT_LSTS_REV,
    R.PRT_LSTS_LTSSM, hset]

theorem State.risen_alm (x : DlUp) : (s.risen p x).alm = s.alm := by simp [State.risen]

/-- The port that partners settled. -/
def settledPort (x : DlUp) (y : PciPort) : PciPort :=
  { y with tagBits := x.tagBits, mps := x.mps, credits := ⟨x.pHdr, x.pData, x.npHdr, x.npData, x.cplHdr, x.cplData⟩, awaitAck := [],
           removed := false, downReason := 0x01 }

/-- A link that comes up: what its partners settled, and an event. -/
theorem State.dlUp_fields (hp : p < 128) {x : DlUp} (htrains : (s.train p).trains p = true) (hplaced : (s.train p).isPlaced p = true)
    (hsettle : (s.train p).canSettle p x = true) :
    (s.dlUp p x).rg (R.PRT_LSTS p) = upWord x ((s.train p).rg (R.PRT_LSTS p)) ∧ (∃ y, (s.dlUp p x).port p = settledPort x y) ∧
    s.alm.seqNext < (s.dlUp p x).alm.seqNext ∧ (s.dlUp p x).tmem = s.tmem := by
  have hl := tableView_schPrtLen hp
  let s1 := (s.train p).risen p x
  let s2 := if s.fb (R.PRT_LSTS_FLIT p) = x.flit then s1 else s1.setRg (R.SCH_PRT_LEN p) (s1.lenDefault p)
  let s3 := s2.setPort p (settledPort x (s2.port p))
  have hup : s.dlUp p x = s3.linkEvent .prt p 8 := by
    unfold State.dlUp
    extract_lets s0
    refine (if_neg ?_).trans rfl
    rw [htrains, hplaced, hsettle]
    decide
  have htr : s.Trained (s.train p) := State.Trained.refl.train p
  have h2 : s2.rg (R.PRT_LSTS p) = s1.rg (R.PRT_LSTS p) ∧ s2.tmem = s1.tmem ∧ s2.alm = s1.alm := by
    unfold s2
    split
    · exact ⟨rfl, rfl, rfl⟩
    · exact ⟨s1.rg_setRg_ne _ _ _ hl prtLsts_ne_schPrtLen, s1.setRg_tmem _ _ hl, s1.setRg_alm _ _⟩
  obtain ⟨hrg2, htm2, halm2⟩ := h2
  have hkeeps : s3.Keeps .beside (s3.linkEvent .prt p 8) := State.Keeps.refl.linkEvent
  obtain ⟨hports, -, -, -⟩ := hkeeps.beside rfl
  have hrep : s3.Reports noticeReg (s3.linkEvent .prt p 8) := State.Reports.refl.postEvent (Src.freeQueue_lt _ _)
  rw [hup]
  refine ⟨?_, ⟨s2.port p, ?_⟩, ?_, ?_⟩
  · exact ((State.Steady.of_keeps hkeeps).rg _ (linkReg_prtLsts hp)).trans
      ((State.rg_congr rfl rfl _).trans (hrg2.trans ((s.train p).risen_rg hp x)))
  · exact (State.port_congr hports p).trans (State.port_setPort_self _ _ _)
  · calc s.alm.seqNext ≤ (s.train p).alm.seqNext := htr.reports.seq
      _ = s3.alm.seqNext := congrArg AlmState.seqNext (halm2.trans (State.risen_alm x)).symm
      _ < (s3.linkEvent .prt p 8).alm.seqNext := s3.seqNext_lt_postEvent _ _ _ _ _ _
  · exact hrep.tmem.trans (htm2.trans ((State.risen_tmem hp x).trans htr.reports.tmem))

/-! ### Links that go down, and resets of switches (R466, R488, R491) -/

/-- A lost link is down, whether it was up or not. -/
theorem State.linkLost_down (hp : p < 128) : (s.linkLost p).fb (R.PRT_LSTS_UP p) = false := by
  cases hup : s.fb (R.PRT_LSTS_UP p) with
  | false => exact (State.Held.refl.linkLost hp hp).down hup
  | true => exact State.fb_of_fd_eq_zero ((congrArg (wField 0 1) (s.linkLost_lost hp hup).lsts).trans (downWord_fields _).1)

theorem State.portDown_down (hp : p < 128) (reason : Nat) (lost : Bool) : (s.portDown p reason lost).fb (R.PRT_LSTS_UP p) = false :=
  (State.Held.steady .refl hp (State.portEnd_steady _ p reason lost).1).down (State.linkLost_down hp)

/-- The end of a port's link leaves whether it is contained. -/
theorem State.portDown_cont (hp : p < 128) (reason : Nat) (lost : Bool) :
    (s.portDown p reason lost).fb (R.PRT_LSTS_CONT p) = s.fb (R.PRT_LSTS_CONT p) := by
  have hend : (s.portDown p reason lost).fb (R.PRT_LSTS_CONT p) = (s.linkLost p).fb (R.PRT_LSTS_CONT p) :=
    State.fb_congr ((State.portEnd_steady _ p reason lost).1.rg _ (linkReg_prtLsts hp))
  rw [hend]
  cases hup : s.fb (R.PRT_LSTS_UP p) with
  | false =>
    have huntrain : s.linkLost p = s.untrain p := by rw [State.linkLost, hup]; rfl
    exact huntrain ▸ State.fb_congr (State.rg_congr rfl rfl _)
  | true =>
    obtain ⟨-, -, -, -, -, hcont⟩ := downWord_fields (s.rg (R.PRT_LSTS p))
    have hfd : (s.linkLost p).fd (R.PRT_LSTS_CONT p) = s.fd (R.PRT_LSTS_CONT p) :=
      (congrArg (wField 20 1) (s.linkLost_lost hp hup).lsts).trans hcont
    rw [State.fb, State.fb, hfd]

/-- A link that was up has gone down: what its registers count and show, and what its port awaits. -/
structure State.WentDown (s : State) (p : Nat) (t : State) : Prop where
  up : t.fb (R.PRT_LSTS_UP p) = false
  rate : t.fd (R.PRT_LSTS_RATE p) = 0
  width : t.fd (R.PRT_LSTS_WIDTH p) = 0
  ltssm : t.fd (R.PRT_LSTS_LTSSM p) = 0
  downs : t.fd (R.PRT_LSTS_DOWNS p) = (s.fd (R.PRT_LSTS_DOWNS p) + 1) % 65536
  awaitAck : (t.port p).awaitAck = []

theorem State.wentDown_of_held (hp : p < 128) (hup : s.fb (R.PRT_LSTS_UP p) = true) (h : (s.linkLost p).Held p t) : s.WentDown p t := by
  have hl := s.linkLost_lost hp hup
  have hd := s.linkLost_down hp
  obtain ⟨-, hrate, hwidth, hltssm, hdowns, -⟩ := downWord_fields (s.rg (R.PRT_LSTS p))
  have hfield (lo width : Nat) (hf : lo + width ≤ 20 ∨ 21 ≤ lo) : wField lo width (t.rg (R.PRT_LSTS p)) =
      wField lo width (downWord (s.rg (R.PRT_LSTS p))) := (h.lsts hd lo width hf).trans (congrArg (wField lo width) hl.lsts)
  exact ⟨h.down hd, (hfield 1 3 (by decide)).trans hrate, (hfield 4 5 (by decide)).trans hwidth, (hfield 16 4 (by decide)).trans hltssm,
    (hfield 32 16 (by decide)).trans hdowns, (h.awaitAck hd).trans hl.awaitAck⟩

/-- The upstream bridge after a reset of its switch: sticky bits stay (R488). -/
def bridgeAfter (x : UpBridge) : UpBridge := { UpBridge.reset with cfg := stickyCfg x.cfg }

theorem stickyCfg_stickyCfg (m : SMap Byte) : stickyCfg (stickyCfg m) = stickyCfg m := by simp [stickyCfg]

theorem bridgeAfter_bridgeAfter (x : UpBridge) : bridgeAfter (bridgeAfter x) = bridgeAfter x := by
  simp only [bridgeAfter, stickyCfg_stickyCfg]

theorem State.linkLost_held (hp : p < 128) (q : Nat) (hq : q < 128) : s.Held p (s.linkLost q) := State.Held.refl.linkLost hp hq

/-- The reset of a switch after its link is lost. -/
theorem State.switchDown_self (hp : p < 128) (h : ((s.linkLost p).switchReset p).Held p t) : t.fb (R.PRT_LSTS_UP p) = false ∧
    t.up p = bridgeAfter (s.up p) ∧ t.rg (R.PRT_RST p) = s.rg (R.PRT_RST p) := by
  have hlost : s.Held p (s.linkLost p) := s.linkLost_held hp p hp
  have hreset := ((s.linkLost p).switchReset_held p hp).trans h
  have hdown : ((s.linkLost p).bridgeCleared p).fb (R.PRT_LSTS_UP p) = false :=
    (State.fb_congr (State.rg_congr rfl rfl _)).trans (State.linkLost_down hp)
  refine ⟨hreset.down hdown, ?_, hreset.rst.trans ((State.rg_congr rfl rfl _).trans hlost.rst)⟩
  rw [hreset.up, State.bridgeCleared_up, if_pos rfl, hlost.up]
  rfl

/-- Another switch's reset. -/
theorem State.switchDown_other {q : Nat} (hp : p < 128) (hq : q < 128) (hne : p ≠ q) : s.Held p ((s.linkLost q).switchReset q) := by
  have hclear : (s.linkLost q).Held p ((s.linkLost q).bridgeCleared q) := by
    refine ⟨?_, rfl, State.rg_congr rfl rfl _, fun _ lo width _ => congrArg (wField lo width) (State.rg_congr rfl rfl _), fun _ => rfl, id⟩
    rw [State.bridgeCleared_up, if_neg hne]
  exact ((s.linkLost_held hp q hq).trans hclear).trans ((s.linkLost q).switchReset_held q hp)

theorem State.switchDown_perstIn {q : Nat} (hq : q < 128) : ((s.linkLost q).switchReset q).perstIn = s.perstIn :=
  ((s.linkLost q).switchReset_held q hq).perstIn.trans (s.linkLost_held hq q hq).perstIn

/-- Every switch of a list is reset. -/
theorem State.switchesDown (l : List Nat) (hl : ∀ q ∈ l, q < 128) (hp : p < 128) (x : UpBridge) (s : State)
    (hx : bridgeAfter (s.up p) = bridgeAfter x) (hdone : p ∈ l ∨ (s.fb (R.PRT_LSTS_UP p) = false ∧ s.up p = bridgeAfter x)) :
    (l.foldl (fun t q => (t.linkLost q).switchReset q) s).fb (R.PRT_LSTS_UP p) = false ∧
    (l.foldl (fun t q => (t.linkLost q).switchReset q) s).up p = bridgeAfter x := by
  induction l generalizing s with
  | nil => exact hdone.resolve_left List.not_mem_nil
  | cons q l ih =>
    have hq := hl q List.mem_cons_self
    have htail : ∀ r ∈ l, r < 128 := fun r hr => hl r (List.mem_cons_of_mem _ hr)
    rw [List.foldl_cons]
    by_cases hpq : p = q
    · subst hpq
      have hself : ((s.linkLost p).switchReset p).Held p ((s.linkLost p).switchReset p) := .refl
      obtain ⟨hdown, hup, -⟩ := State.switchDown_self hp hself
      exact ih htail _ (by rw [hup, bridgeAfter_bridgeAfter, hx]) (.inr ⟨hdown, hup.trans hx⟩)
    · have hheld := s.switchDown_other hp hq hpq
      exact ih htail _ (by rw [hheld.up, hx]) (hdone.imp (fun h => (List.mem_cons.mp h).resolve_left hpq) fun h =>
        ⟨hheld.down h.1, hheld.up.trans h.2⟩)

/-- The end of a port's link at a downstream port (R466, R518). -/
theorem State.dlDown_downstream (hp : p < 128) (lost : Bool) (hup : s.fb (R.PRT_LSTS_UP p) = true) (hrole : s.fd (R.PRT_CTX_ROLE p) = 2) :
    s.WentDown p (s.dlDown p lost) ∧ (lost = true → ((s.dlDown p lost).port p).removed = true) := by
  have heq : s.dlDown p lost = ((s.portDown p (if lost then 0x02 else 0x01) lost).surpriseDown p).train p := by
    rw [State.dlDown, hup, hrole]
    rfl
  obtain ⟨hend, hremoved⟩ := (s.linkLost p).portEnd_steady p (if lost then 0x02 else 0x01) lost
  have htail : (s.portDown p (if lost then 0x02 else 0x01) lost).Held p (s.dlDown p lost) :=
    heq ▸ (State.Held.refl.surpriseDown hp p).train hp p
  exact ⟨State.wentDown_of_held hp hup ((State.Held.refl.steady hp hend).trans htail), fun h => htail.removed (hremoved h)⟩

/-- The loss of an upstream link resets its switch, as a hot reset does (R488). -/
theorem State.dlDown_upstream (lost : Bool) (hup : s.fb (R.PRT_LSTS_UP p) = true) (hrole : s.fd (R.PRT_CTX_ROLE p) = 1) :
    s.dlDown p lost = ((s.linkLost p).switchReset p).train p := by
  rw [State.dlDown, if_neg (by rw [hup]; decide), if_pos hrole]

theorem getLsbD_two_pow (i : Fin 32) : (BitVec.ofNat 32 (2 ^ i.val)).getLsbD i = true := by
  rw [BitVec.getLsbD_ofNat, Nat.testBit_two_pow_self, Bool.and_true, decide_eq_true_eq]
  exact i.isLt

/-- The upstream ports that a PERST_N input serves are reset (R491). -/
theorem State.perstOn_fields (hp : p < 128) (i : Fin 32) (hserved : p ∈ s.perstPorts i) : (s.perstOn i).perstIn.getLsbD i = true ∧
    (s.perstOn i).fb (R.PRT_LSTS_UP p) = false ∧ (s.perstOn i).up p = bridgeAfter (s.up p) := by
  have hports : ∀ q ∈ s.perstPorts i, q < 128 := fun q hq => List.mem_range.mp (List.mem_of_mem_filter hq)
  refine ⟨?_, State.switchesDown (s.perstPorts i) hports hp (s.up p) _ rfl (.inl hserved)⟩
  have hperst : (s.perstOn i).perstIn = s.perstIn ||| BitVec.ofNat 32 (2 ^ i.val) :=
    List.foldlRecOn (motive := fun t : State => t.perstIn = s.perstIn ||| BitVec.ofNat 32 (2 ^ i.val)) _ _ rfl
      fun t ht q hq => (t.switchDown_perstIn (hports q hq)).trans ht
  rw [hperst, BitVec.getLsbD_or, getLsbD_two_pow, Bool.or_true]

theorem State.perstOff_fields (i : Fin 32) : (s.perstOff i).perstIn.getLsbD i = false ∧ (s.perstOff i).tmem = s.tmem := by
  have hfold : ({ s with perstIn := s.perstIn &&& ~~~BitVec.ofNat 32 (2 ^ i.val) } : State).Trained (s.perstOff i) :=
    List.foldlRecOn _ _ .refl fun t ht q _ => ht.train q
  refine ⟨?_, hfold.reports.tmem⟩
  rw [hfold.steady.perstIn, BitVec.getLsbD_and, BitVec.getLsbD_not, getLsbD_two_pow, Bool.not_true, Bool.and_false, Bool.and_false]

/-! ### PRT[p]_RST (R484, R490) -/

theorem State.rstHot_fields (hp : p < 128) (hrole : s.fd (R.PRT_CTX_ROLE p) = 2) :
    (s.rstHot p).fb (R.PRT_LSTS_UP p) = false ∧ .mgmt "hot reset" p 0 ∈ (s.rstHot p).out := by
  have heq : s.rstHot p = ((s.portDown p 0x09 false).emit (.mgmt "hot reset" p 0)).train p := if_neg (by rw [hrole]; decide)
  have htr : ((s.portDown p 0x09 false).emit (.mgmt "hot reset" p 0)).Trained (s.rstHot p) := heq ▸ State.Trained.refl.train p
  exact ⟨(State.Held.steady .refl hp htr.steady).down ((State.fb_congr (State.rg_congr rfl rfl _)).trans (State.portDown_down hp _ _)),
    htr.reports.out _ (List.mem_append_right _ (List.mem_singleton_self _))⟩

/-- The link of a port that is disabled (R466, R484). -/
theorem State.rstLdis_on (hp : p < 128) (hno : s.fb (R.PRT_RST_LDIS p) = false) : (s.rstLdis p true).fb (R.PRT_RST_LDIS p) = true ∧
    (s.rstLdis p true).fb (R.PRT_LSTS_UP p) = false ∧ (s.rstLdis p true).fd (R.PRT_LSTS_LTSSM p) = 6 := by
  have hl := tableView_prtLsts hp
  let s1 := s.setFb (R.PRT_RST_LDIS p) true
  let s2 := if s.fd (R.PRT_CTX_ROLE p) = 1 then (s1.linkLost p).switchReset p else s1.portDown p 0x09 false
  have heq : s.rstLdis p true = s2.setFd (R.PRT_LSTS_LTSSM p) 6 := by
    rw [State.rstLdis, hno]
    rfl
  have h2 : s2.fb (R.PRT_LSTS_UP p) = false ∧ s2.rg (R.PRT_RST p) = s1.rg (R.PRT_RST p) := by
    unfold s2
    split
    · have hself : ((s1.linkLost p).switchReset p).Held p ((s1.linkLost p).switchReset p) := .refl
      obtain ⟨hdown, -, hrst⟩ := State.switchDown_self hp hself
      exact ⟨hdown, hrst⟩
    · exact ⟨State.portDown_down hp _ _, (State.Held.refl.portDown hp hp _ _).rst⟩
  obtain ⟨hdown, hrst⟩ := h2
  rw [heq]
  refine ⟨?_, ?_, s2.fd_setFd (R.PRT_LSTS_LTSSM p) 6 hl (show 16 + 4 ≤ 64 by decide)⟩
  · have hkept := (s2.rg_setFd_ne (R.PRT_LSTS_LTSSM p) 6 _ hl prtLsts_ne_prtRst.symm).trans hrst
    exact (State.fb_congr hkept).trans (s.fb_setFb (R.PRT_RST_LDIS p) true (tableView_prtRst hp) (show 1 < 64 by decide) rfl)
  · have happart : (s2.setFd (R.PRT_LSTS_LTSSM p) 6).fd (R.PRT_LSTS_UP p) = s2.fd (R.PRT_LSTS_UP p) :=
      s2.fd_setFd_apart _ _ 6 hl (show 16 + 4 ≤ 64 by decide) (.inr (.inl (show 0 + 1 ≤ 16 by decide)))
    exact State.fb_of_fd_eq_zero (happart.trans (State.fd_eq_zero_of_fb hdown))

theorem State.rstLdis_off (hp : p < 128) (hon : s.fb (R.PRT_RST_LDIS p) = true) : (s.rstLdis p false).fb (R.PRT_RST_LDIS p) = false ∧
    (s.rstLdis p false).fd (R.PRT_LSTS_LTSSM p) = 0 ∧ (s.rstLdis p false).tmem = s.tmem := by
  have hl := tableView_prtLsts hp
  have hr := tableView_prtRst hp
  let s1 := s.setFb (R.PRT_RST_LDIS p) false
  have heq : s.rstLdis p false = (s1.setFd (R.PRT_LSTS_LTSSM p) 0).train p := by
    rw [State.rstLdis, if_neg (by decide), if_pos hon]
  have htr : (s1.setFd (R.PRT_LSTS_LTSSM p) 0).Trained (s.rstLdis p false) := heq ▸ State.Trained.refl.train p
  refine ⟨?_, ?_, htr.reports.tmem.trans ((s1.setRg_tmem _ _ hl).trans (s.setRg_tmem _ _ hr))⟩
  · have hkept : (s.rstLdis p false).rg (R.PRT_RST p) = s1.rg (R.PRT_RST p) :=
      (htr.steady.rg _ (linkReg_prtRst hp)).trans (s1.rg_setFd_ne (R.PRT_LSTS_LTSSM p) _ _ hl prtLsts_ne_prtRst.symm)
    exact (State.fb_congr hkept).trans (s.fb_setFb (R.PRT_RST_LDIS p) false hr (show 1 < 64 by decide) rfl)
  · exact (State.fd_congr (htr.steady.rg _ (linkReg_prtLsts hp))).trans (s1.fd_setFd (R.PRT_LSTS_LTSSM p) 0 hl (show 16 + 4 ≤ 64 by decide))

/-- A port contained for every binding of its functions stays contained as its link goes down. -/
theorem State.rstDpcTrig_fields (hp : p < 128) (hrole : s.fd (R.PRT_CTX_ROLE p) = 2) :
    (s.rstDpcTrig p).fb (R.PRT_LSTS_CONT p) = true ∧ (s.rstDpcTrig p).fb (R.PRT_LSTS_UP p) = false := by
  rw [State.rstDpcTrig, if_neg (by rw [hrole]; decide)]
  generalize (s.behind p).foldl (fun t b => t.dpcTrigger b.1 b.2) s = t
  exact ⟨(State.portDown_cont hp _ _).trans (t.fb_setFb (R.PRT_LSTS_CONT p) true (tableView_prtLsts hp) (show 20 < 64 by decide) rfl),
    State.portDown_down hp _ _⟩

theorem State.rstDpcRel_fields (hp : p < 128) (hcont : s.fb (R.PRT_LSTS_CONT p) = true) :
    (s.rstDpcRel p).fb (R.PRT_LSTS_CONT p) = false ∧ (s.rstDpcRel p).tmem = s.tmem := by
  have hl := tableView_prtLsts hp
  have htr : (s.setFb (R.PRT_LSTS_CONT p) false).Trained (s.rstDpcRel p) := by
    rw [State.rstDpcRel, if_pos hcont]
    exact State.Trained.refl.train p
  exact ⟨(State.fb_congr (htr.steady.rg _ (linkReg_prtLsts hp))).trans
    (s.fb_setFb (R.PRT_LSTS_CONT p) false hl (show 20 < 64 by decide) rfl), htr.reports.tmem.trans (s.setRg_tmem _ _ hl)⟩

end

/-! ### The commands -/

section
variable {s : State} {w : Writer} {p : Port}

theorem exec_prtCtxWrite_reaches (v : Word) (h : s.reaches w (R.PRT_CTX p) = true) :
    exec (.prtCtxWrite w p v) s = .next (s.slotWatch fun t => t.prtCtx p v).settle :=
  congrArg Host.Outcome.next (s.regCommand_of_reaches w _ _ _ h)

theorem exec_prtRstHotrst_reaches (h : s.reaches w (R.PRT_RST p) = true) :
    exec (.prtRstHotrst w p) s = .next (s.slotWatch fun t => t.rstHot p).settle :=
  congrArg Host.Outcome.next (s.regCommand_of_reaches w _ _ _ h)

theorem exec_prtRstLdis_reaches (on : Bool) (h : s.reaches w (R.PRT_RST p) = true) :
    exec (.prtRstLdis w p on) s = .next (s.slotWatch fun t => t.rstLdis p on).settle :=
  congrArg Host.Outcome.next (s.regCommand_of_reaches w _ _ _ h)

theorem exec_prtRstDpctrig_reaches (h : s.reaches w (R.PRT_RST p) = true) :
    exec (.prtRstDpctrig w p) s = .next (s.slotWatch fun t => t.rstDpcTrig p).settle :=
  congrArg Host.Outcome.next (s.regCommand_of_reaches w _ _ _ h)

theorem exec_prtRstDpcrel_reaches (h : s.reaches w (R.PRT_RST p) = true) :
    exec (.prtRstDpcrel w p) s = .next (s.slotWatch fun t => t.rstDpcRel p).settle :=
  congrArg Host.Outcome.next (s.regCommand_of_reaches w _ _ _ h)

end

/-- Settles O45: what each operation does to its port's link, and that the operations on links that follow leave it. -/
theorem portRows : Obligations.PortRows := by
  refine ⟨fun s w p v hw => ⟨fun hup => ?_, fun hup => ?_⟩, fun s p x hl htrains hplaced hsettle => ?_,
    fun s p lost hl hup => ⟨fun hrole _ => ?_, fun hrole => ⟨?_, ?_⟩⟩, fun s i p hl hrole hperst hpin => ⟨?_, ?_⟩,
    fun s w p hw => ⟨fun hrole => ?_, fun hno => ?_, fun hon => ?_, fun hrole => ?_, fun hrole => ⟨?_, ?_⟩, fun hcont => ?_⟩⟩
  · have hwatch := s.slotWatch_watched fun t => t.prtCtx p v
    obtain ⟨hwerr, hothers, htm⟩ := State.prtCtx_up (v := v) p.isLt hup
    exact ⟨_, exec_prtCtxWrite_reaches v hw, (hwatch.fb _).trans hwerr,
      fun a ha => (congrArg (SMap.getD regReset · a) hwatch.regs).trans (hothers a ha), hwatch.tmem.trans htm⟩
  · have hwatch := s.slotWatch_watched fun t => t.prtCtx p v
    obtain ⟨hctx, hlen, hport, htm⟩ := State.prtCtx_down (v := v) p.isLt hup
    refine ⟨_, exec_prtCtxWrite_reaches v hw, (hwatch.rg _).trans hctx, ?_, fun hv => (hwatch.port p).symm ▸ hport hv, hwatch.tmem.trans htm⟩
    exact (hwatch.rg _).trans (hlen.trans (State.lenDefault_congr (hwatch.rg _) (hwatch.rg _)).symm)
  · have hwatch := s.slotWatch_watched fun t => t.dlUp p x
    obtain ⟨hrg, ⟨y, hport⟩, hseq, htm⟩ := State.dlUp_fields p.isLt htrains hplaced hsettle
    obtain ⟨hup, hrate, hwidth, hflit, hcxl, hrev, hltssm⟩ := upWord_fields x ((s.train p).rg (R.PRT_LSTS p))
    have hword := (hwatch.rg _).trans hrg
    have hpt := (hwatch.port p).trans hport
    have hfd (lo width n : Nat) (h : wField lo width (upWord x ((s.train p).rg (R.PRT_LSTS p))) = n) :
        (s.slotWatch fun t => t.dlUp p x).fd ⟨R.PRT_LSTS p, lo, width⟩ = n := (congrArg (wField lo width) hword).trans h
    have hfb (lo width : Nat) (b : Bool) (h : wField lo width (upWord x ((s.train p).rg (R.PRT_LSTS p))) = if b then 1 else 0) :
        (s.slotWatch fun t => t.dlUp p x).fb ⟨R.PRT_LSTS p, lo, width⟩ = b := by
      rw [State.fb, hfd lo width _ h]
      cases b <;> rfl
    exact ⟨_, s.hostRow_live _ hl, hfb 0 1 true hup, hfd 1 3 _ hrate, hfd 4 5 _ hwidth, hfb 9 1 _ hflit, hfb 10 1 _ hcxl, hfb 11 1 _ hrev,
      hfd 16 4 _ hltssm, congrArg PciPort.tagBits hpt, congrArg PciPort.mps hpt, congrArg PciPort.credits hpt, congrArg PciPort.awaitAck hpt,
      hseq.trans_eq (congrArg AlmState.seqNext hwatch.alm).symm, hwatch.tmem.trans htm⟩
  · have hwatch := s.slotWatch_watched fun t => t.dlDown p lost
    obtain ⟨hdown, hremoved⟩ := State.dlDown_downstream p.isLt lost hup hrole
    exact ⟨_, s.hostRow_live _ hl, (hwatch.fb _).trans hdown.up, (hwatch.fd _).trans hdown.rate, (hwatch.fd _).trans hdown.width,
      (hwatch.fd _).trans hdown.ltssm, (hwatch.fd _).trans hdown.downs, (congrArg PciPort.awaitAck (hwatch.port p)).trans hdown.awaitAck,
      fun h => (congrArg PciPort.removed (hwatch.port p)).trans (hremoved h)⟩
  · have hwatch := s.slotWatch_watched fun t => t.dlDown p lost
    rw [State.dlDown_upstream lost hup hrole] at hwatch
    obtain ⟨hdown, hbridge, -⟩ := State.switchDown_self p.isLt (State.Held.refl.train p.isLt p)
    exact ⟨_, s.hostRow_live _ hl, (hwatch.fb _).trans hdown, (hwatch.up p).trans hbridge⟩
  · have hwatch := s.slotWatch_watched fun t => if t.fd (R.PRT_CTX_ROLE p) = 1 ∧ t.fb (R.PRT_LSTS_UP p) then
      ((t.linkLost p).switchReset p).train p else t
    rw [if_pos ⟨hrole, hup⟩] at hwatch
    obtain ⟨hdown, hbridge, -⟩ := State.switchDown_self p.isLt (State.Held.refl.train p.isLt p)
    exact ⟨_, s.hostRow_live _ hl, (hwatch.fb _).trans hdown, (hwatch.up p).trans hbridge⟩
  · have hwatch := s.slotWatch_watched fun t => t.perstOn i
    have hserved : p.val ∈ s.perstPorts i :=
      List.mem_filter.mpr ⟨List.mem_range.mpr p.isLt, by rw [hrole, hperst, hpin]; simp⟩
    obtain ⟨hin, hdown, hbridge⟩ := State.perstOn_fields p.isLt i hserved
    exact ⟨_, s.hostRow_live _ hl, hwatch.perstIn ▸ hin, (hwatch.fb _).trans hdown, (hwatch.up p).trans hbridge⟩
  · have hwatch := s.slotWatch_watched fun t => t.perstOff i
    obtain ⟨hin, htm⟩ := s.perstOff_fields i
    exact ⟨_, s.hostRow_live _ hl, hwatch.perstIn ▸ hin, hwatch.tmem.trans htm⟩
  · have hwatch := s.slotWatch_watched fun t => t.rstHot p
    obtain ⟨hdown, hout⟩ := State.rstHot_fields p.isLt hrole
    exact ⟨_, exec_prtRstHotrst_reaches hw, (hwatch.fb _).trans hdown, hwatch.out _ hout⟩
  · have hwatch := s.slotWatch_watched fun t => t.rstLdis p true
    obtain ⟨hldis, hdown, hltssm⟩ := State.rstLdis_on p.isLt hno
    exact ⟨_, exec_prtRstLdis_reaches true hw, (hwatch.fb _).trans hldis, (hwatch.fb _).trans hdown, (hwatch.fd _).trans hltssm⟩
  · have hwatch := s.slotWatch_watched fun t => t.rstLdis p false
    obtain ⟨hldis, hltssm, htm⟩ := State.rstLdis_off p.isLt hon
    exact ⟨_, exec_prtRstLdis_reaches false hw, (hwatch.fb _).trans hldis, (hwatch.fd _).trans hltssm, hwatch.tmem.trans htm⟩
  · have hwatch := s.slotWatch_watched fun t => t.rstDpcTrig p
    obtain ⟨hcont, hdown⟩ := State.rstDpcTrig_fields p.isLt hrole
    exact ⟨_, exec_prtRstDpctrig_reaches hw, (hwatch.fb _).trans hcont, (hwatch.fb _).trans hdown⟩
  · have hsame : s.rstHot p = s := if_pos hrole
    rw [exec_prtRstHotrst_reaches hw, State.slotWatch_of_same hsame]
  · have hsame : s.rstDpcTrig p = s := if_pos hrole
    rw [exec_prtRstDpctrig_reaches hw, State.slotWatch_of_same hsame]
  · have hwatch := s.slotWatch_watched fun t => t.rstDpcRel p
    obtain ⟨hrel, htm⟩ := State.rstDpcRel_fields p.isLt hcont
    exact ⟨_, exec_prtRstDpcrel_reaches hw, (hwatch.fb _).trans hrel, hwatch.tmem.trans htm⟩

end Sys2Proof.Machine
end

section
/-! PROOFS. Contexts, program commits, firmware tables and the hash register of the header pipelines: O48 (R223, R224, R246, R248, R261 to
R265). -/

namespace Sys2Proof.Machine

/-! ### Registers of an octet's pipeline -/

theorem tableView_hplCtxsel {n c : Nat} (hn : n < 32) (hc : c < 32) : tableView (R.HPL_CTXSEL n c) = none :=
  tableView_of_lt (by unfold R.HPL_CTXSEL; omega)

theorem tableView_hplPsts {n : Nat} (hn : n < 32) : tableView (R.HPL_PSTS n) = none :=
  tableView_of_lt (by unfold R.HPL_PSTS; omega)

theorem tableView_hplFtbl {t : Nat} (ht : t < 64) : tableView (R.HPL_FTBL t) = none :=
  tableView_of_lt (by unfold R.HPL_FTBL; omega)

theorem hplCtxsel_ne_hplPsts {n m c : Nat} (hc : c < 32) : R.HPL_CTXSEL n c ≠ R.HPL_PSTS m := by
  unfold R.HPL_CTXSEL R.HPL_PSTS; omega

theorem hplCtxsel_inj {n c d : Nat} (h : R.HPL_CTXSEL n c = R.HPL_CTXSEL n d) : c = d := by
  unfold R.HPL_CTXSEL at h; omega

theorem hplProg_ne_hplCtxsel {n sl j m c : Nat} (hsl : sl < 16) (hj : j < 64) (hc : c < 32) : R.HPL_PROG n sl j ≠ R.HPL_CTXSEL m c := by
  unfold R.HPL_PROG R.HPL_CTXSEL; omega

theorem hplFtbl_ne_hplPsts {t n : Nat} (hn : n < 32) : R.HPL_FTBL t ≠ R.HPL_PSTS n := by
  unfold R.HPL_FTBL R.HPL_PSTS; omega

section
variable (s : State) {n : Nat} (hn : n < 32) (lo width v : Nat)
include hn

theorem State.psts_setFd : (s.setFd ⟨R.HPL_PSTS n, lo, width⟩ v).rg (R.HPL_PSTS n) = setWField lo width (s.rg (R.HPL_PSTS n)) v :=
  s.rg_setFd_self _ v (tableView_hplPsts hn)

theorem State.ctxsel_setFd {c : Nat} (hc : c < 32) :
    (s.setFd ⟨R.HPL_CTXSEL n c, lo, width⟩ v).rg (R.HPL_CTXSEL n c) = setWField lo width (s.rg (R.HPL_CTXSEL n c)) v :=
  s.rg_setFd_self _ v (tableView_hplCtxsel hn hc)

variable {s} {t : State}

theorem State.Reports.setPsts (h : s.Reports (· = R.HPL_PSTS n) t) : s.Reports (· = R.HPL_PSTS n) (t.setFd ⟨R.HPL_PSTS n, lo, width⟩ v) :=
  h.setFd v rfl (tableView_hplPsts hn)

theorem State.Reports.setCtxsel {c : Nat} (hc : c < 32) (h : s.Reports (· = R.HPL_CTXSEL n c) t) :
    s.Reports (· = R.HPL_CTXSEL n c) (t.setFd ⟨R.HPL_CTXSEL n c, lo, width⟩ v) :=
  h.setFd v rfl (tableView_hplCtxsel hn hc)

end

/-- A flag of a register, by the register's word. -/
theorem State.fb_of_rg {s : State} {x : Field} {w : Word} (h : s.rg x.reg = w) : s.fb x = decide (wField x.lo x.width w ≠ 0) := by
  rw [State.fb, State.fd, h]

/-! ### Program copies (R261, R263, R264) -/

/-- A copy runs at half rate or not by its own words alone. -/
theorem State.progHalf_congr {s t : State} {n sl v : Nat} (hv : v < 2)
    (h : ∀ j, j < 64 → t.rg (R.HPL_PROG n sl j) = s.rg (R.HPL_PROG n sl j)) : t.progHalf n sl v = s.progHalf n sl v := by
  have hword {x : Nat} (hx : x ∈ List.range 64) : t.progWord n sl v (x / 4) (x % 4) = s.progWord n sl v (x / 4) (x % 4) := by
    have hlt := List.mem_range.mp hx
    rw [State.progWord, State.progWord, h _ (by omega)]
  rw [State.progHalf, State.progHalf, List.filter_congr fun x hx => congrArg isLkp (hword hx)]

theorem State.wordCheck_le (s : State) (k i : Nat) (before : List Nat) (w : Nat) : s.wordCheck k i before w ≤ 8 := by
  unfold State.wordCheck
  repeat' split
  all_goals omega

/-- The code of a rejection is one of R263, and it names a stage and a slot of the program. -/
theorem State.progCheck_bounds {s : State} {n sl v code k i : Nat} (h : s.progCheck n sl v = some (code, k, i)) :
    code < 16 ∧ k < 16 ∧ i < 4 := by
  obtain ⟨x, hx, hfail⟩ := List.exists_of_findSome?_eq_some h
  have hlt := List.mem_range.mp hx
  have hcode := s.wordCheck_le (x / 4) (x % 4) ((List.range (x % 4)).map fun j => s.progWord n sl v (x / 4) j)
    (s.progWord n sl v (x / 4) (x % 4))
  simp only [Option.ite_none_left_eq_some, Option.some.injEq, Prod.mk.injEq] at hfail
  obtain ⟨-, rfl, rfl, rfl⟩ := hfail
  omega

theorem mem_maskCtxs {m : BitVec 32} {c : Nat} : c ∈ maskCtxs m.toNat ↔ c < 32 ∧ m.getLsbD c = true := by
  simp [maskCtxs, natField, BitVec.getLsbD, Nat.testBit_eq_decide_div_mod_eq]

theorem State.commitCheck_bounds {s : State} {n mask code k i c : Nat} (h : s.commitCheck n mask = some (code, k, i, c)) :
    code < 16 ∧ k < 16 ∧ i < 4 ∧ c < 32 := by
  obtain ⟨d, hd, hfail⟩ := List.exists_of_findSome?_eq_some h
  obtain ⟨r, hr, heq⟩ := Option.map_eq_some_iff.mp hfail
  simp only [Prod.mk.injEq] at heq
  obtain ⟨rfl, rfl, rfl, rfl⟩ := heq
  obtain ⟨hcode, hk, hi⟩ := State.progCheck_bounds hr
  exact ⟨hcode, hk, hi, List.mem_range.mp (List.mem_filter.mp hd).1⟩

/-! ### A rejection in HPL[n]_PSTS (R263) -/

/-- HPL[n]_PSTS after a rejection. -/
def rejectWord (w : Word) (code stage slot ctx : Nat) : Word :=
  setWField 18 5 (setWField 16 2 (setWField 12 4 (setWField 8 4 (setWField 2 1 w 1) code) stage) slot) ctx

theorem rejectWord_fields (w : Word) {code stage slot ctx : Nat} (hcode : code < 16) (hstage : stage < 16) (hslot : slot < 4) (hctx : ctx < 32) :
    wField 2 1 (rejectWord w code stage slot ctx) = 1 ∧ wField 8 4 (rejectWord w code stage slot ctx) = code ∧
    wField 12 4 (rejectWord w code stage slot ctx) = stage ∧ wField 16 2 (rejectWord w code stage slot ctx) = slot ∧
    wField 18 5 (rejectWord w code stage slot ctx) = ctx ∧ wField 0 1 (rejectWord w code stage slot ctx) = wField 0 1 w ∧
    wField 1 1 (rejectWord w code stage slot ctx) = wField 1 1 w := by
  unfold rejectWord
  simp (disch := decide) only [wField_setWField, wField_setWField_apart, Nat.reducePow, Nat.mod_eq_of_lt hcode, Nat.mod_eq_of_lt hstage,
    Nat.mod_eq_of_lt hslot, Nat.mod_eq_of_lt hctx, Nat.reduceMod, and_self]

section
variable (s : State) {n : Nat} (hn : n < 32)
include hn

theorem State.pstsReject_rg (code stage slot ctx : Nat) :
    (s.pstsReject n code stage slot ctx).rg (R.HPL_PSTS n) = rejectWord (s.rg (R.HPL_PSTS n)) code stage slot ctx := by
  simp only [State.pstsReject, State.setFb, R.HPL_PSTS_REJ, R.HPL_PSTS_RCODE, R.HPL_PSTS_STAGE, R.HPL_PSTS_BSLOT, R.HPL_PSTS_CTX,
    State.psts_setFd _ hn, rejectWord, if_true]

theorem State.pstsReject_reports (code stage slot ctx : Nat) : s.Reports (· = R.HPL_PSTS n) (s.pstsReject n code stage slot ctx) :=
  .setPsts hn _ _ _ (.setPsts hn _ _ _ (.setPsts hn _ _ _ (.setPsts hn _ _ _ (.setPsts hn _ _ _ .refl))))

end

/-! ### Contexts (R223, R224) -/

/-- HPL[n]_CTXSEL[c] of a context enabled with a slot, at half rate or not. -/
def enabledWord (w : Word) (slot : Nat) (half : Bool) : Word :=
  setWField 10 1 (setWField 9 1 (setWField 0 4 w slot) 1) (if half then 1 else 0)

theorem enabledWord_fields (w : Word) {slot : Nat} (half : Bool) (hslot : slot < 16) : wField 0 4 (enabledWord w slot half) = slot ∧
    wField 8 1 (enabledWord w slot half) = wField 8 1 w ∧ wField 9 1 (enabledWord w slot half) = 1 ∧
    decide (wField 10 1 (enabledWord w slot half) ≠ 0) = half := by
  unfold enabledWord
  simp (disch := decide) only [wField_setWField, wField_setWField_apart, Nat.reducePow, Nat.mod_eq_of_lt hslot, Nat.reduceMod, true_and]
  cases half <;> rfl

section
variable {s : State} {n c slot : Nat} (hn : n < 32) (hc : c < 32)
include hn hc

theorem State.setSlot_rg (v : Nat) : (s.setFd (R.HPL_CTXSEL_SLOT n c) v).rg (R.HPL_CTXSEL n c) = setWField 0 4 (s.rg (R.HPL_CTXSEL n c)) v :=
  s.ctxsel_setFd hn _ _ v hc

/-- The slot of a context does not change its program version. -/
theorem State.setSlot_pver (v : Nat) : (s.setFd (R.HPL_CTXSEL_SLOT n c) v).fd (R.HPL_CTXSEL_PVER n c) = s.fd (R.HPL_CTXSEL_PVER n c) :=
  (congrArg (wField 8 1) (State.setSlot_rg hn hc v)).trans (wField_setWField_apart _ _ _ _ _ _ (by decide) (by decide))

/-- Nor does it change its enable. -/
theorem State.setSlot_en (v : Nat) : (s.setFd (R.HPL_CTXSEL_SLOT n c) v).fb (R.HPL_CTXSEL_EN n c) = s.fb (R.HPL_CTXSEL_EN n c) :=
  congrArg (fun x => decide (x ≠ 0)) <|
    (congrArg (wField 9 1) (State.setSlot_rg hn hc v)).trans (wField_setWField_apart _ _ _ _ _ _ (by decide) (by decide))

variable (hpair : s.pairedOdd n = false)
include hpair

omit hn hc in
theorem State.ctxselWrite_of_enabled (hen : s.fb (R.HPL_CTXSEL_EN n c) = true) :
    s.ctxselWrite n c slot true = s.setFb (R.HPL_CTXSEL_EN n c) true := by
  rw [State.ctxselWrite, hpair, hen]
  rfl

variable (hslot : slot < 16) (hen : s.fb (R.HPL_CTXSEL_EN n c) = false)
include hslot hen

theorem State.ctxselWrite_of_failing {code k i : Nat} (hchk : (s.setFd (R.HPL_CTXSEL_SLOT n c) slot).progCheck n slot
    (s.fd (R.HPL_CTXSEL_PVER n c)) = some (code, k, i)) :
    s.ctxselWrite n c slot true = (s.setFd (R.HPL_CTXSEL_SLOT n c) slot).pstsReject n code k i c := by
  rw [State.ctxselWrite, hpair, hen]
  simp only [Bool.false_eq_true, if_false, Bool.not_true, State.setSlot_pver hn hc, Nat.mod_eq_of_lt hslot, hchk]

theorem State.ctxselWrite_of_passing (hchk : (s.setFd (R.HPL_CTXSEL_SLOT n c) slot).progCheck n slot
    (s.fd (R.HPL_CTXSEL_PVER n c)) = none) :
    s.ctxselWrite n c slot true = ((s.setFd (R.HPL_CTXSEL_SLOT n c) slot).setFb (R.HPL_CTXSEL_EN n c) true).setFb (R.HPL_CTXSEL_HALF n c)
      (s.progHalf n slot (s.fd (R.HPL_CTXSEL_PVER n c))) := by
  have hhalf : (s.setFd (R.HPL_CTXSEL_SLOT n c) slot).progHalf n slot (s.fd (R.HPL_CTXSEL_PVER n c)) =
      s.progHalf n slot (s.fd (R.HPL_CTXSEL_PVER n c)) :=
    State.progHalf_congr (s.fd_lt _) fun j hj => s.rg_setFd_ne _ _ _ (tableView_hplCtxsel hn hc) (hplProg_ne_hplCtxsel hslot hj hc)
  rw [State.ctxselWrite, hpair, hen]
  simp only [Bool.false_eq_true, if_false, Bool.not_true, State.setSlot_pver hn hc, Nat.mod_eq_of_lt hslot, hchk, hhalf]

/-- An enable of a copy that passes its checks writes the register of its context alone. -/
theorem State.ctxselWrite_enables (hchk : (s.setFd (R.HPL_CTXSEL_SLOT n c) slot).progCheck n slot (s.fd (R.HPL_CTXSEL_PVER n c)) = none) :
    (s.ctxselWrite n c slot true).rg (R.HPL_CTXSEL n c) =
      enabledWord (s.rg (R.HPL_CTXSEL n c)) slot (s.progHalf n slot (s.fd (R.HPL_CTXSEL_PVER n c))) ∧
    (∀ a, a ≠ R.HPL_CTXSEL n c → (s.ctxselWrite n c slot true).regs.getD regReset a = s.regs.getD regReset a) ∧
    (s.ctxselWrite n c slot true).tmem = s.tmem := by
  have hv := tableView_hplCtxsel hn hc
  rw [State.ctxselWrite_of_passing hn hc hpair hslot hen hchk]
  refine ⟨?_, fun a ha => ?_, ?_⟩
  · simp only [State.setFb, R.HPL_CTXSEL_SLOT, R.HPL_CTXSEL_EN, R.HPL_CTXSEL_HALF, State.ctxsel_setFd _ hn _ _ _ hc,
      enabledWord, if_true]
  · exact ((State.setRg_getD_ne _ _ hv ha).trans (State.setRg_getD_ne _ _ hv ha)).trans (State.setRg_getD_ne _ _ hv ha)
  · exact ((State.setRg_tmem _ _ _ hv).trans (State.setRg_tmem _ _ _ hv)).trans (State.setRg_tmem _ _ _ hv)

end

/-! ### Program commits (R261 to R265) -/

section
variable {s : State} {n : Nat} (hpair : s.pairedOdd n = false)
include hpair

theorem State.pcommitWrite_of_busy (mask : Nat) (hb : s.fb (R.HPL_PSTS_BUSY n) = true) :
    s.pcommitWrite n mask = s.setFb (R.HPL_PSTS_LOST n) true := by
  rw [State.pcommitWrite, hpair, hb]
  rfl

theorem State.pcommitWrite_of_idle (m : BitVec 32) (hb : s.fb (R.HPL_PSTS_BUSY n) = false) (hd : s.progDrain n = 0) :
    s.pcommitWrite n m.toNat =
      { s.setFb (R.HPL_PSTS_BUSY n) true with hpl := { s.hpl with commitMask := s.hpl.commitMask.set 0 n m.toNat } } := by
  rw [State.pcommitWrite, hpair, hb, hd]
  simp only [Bool.false_eq_true, if_false, if_true, Nat.add_zero, Nat.mod_eq_of_lt m.isLt, State.setFb_hpl]

end

/-- A program commit has ended, whatever its outcome. -/
def State.commitEnded (s : State) (n : Nat) : State :=
  (({ s with hpl := { s.hpl with commitMask := s.hpl.commitMask.set 0 n 0 } } : State).setFb (R.HPL_PSTS_BUSY n) false).setFb
    (R.HPL_PSTS_DONE n) true

/-- The named contexts have been flipped, and the commit is counted. -/
def State.commitFlipped (s : State) (n mask : Nat) : State :=
  ((maskCtxs mask).foldl (fun t c => t.flipCtx n c) (s.commitEnded n)).cntDev 1551 1

/-- DRAINED is set when no header is left of the superseded versions (R263). -/
def State.showDrained (s : State) (n : Nat) : State := if s.progDrain n = 0 then s.setFb (R.HPL_PSTS_DRAINED n) true else s

/-- A commit whose write found no drain under way is not refused for one. -/
theorem natField_mask_held (m : BitVec 32) : natField 32 1 m.toNat ≠ 1 := by
  rw [natField, Nat.div_eq_of_lt m.isLt]
  decide

section
variable {s : State} {n : Nat} {m : BitVec 32} (hb : s.fb (R.HPL_PSTS_BUSY n) = true) (hm : s.hpl.commitMask.get 0 n = m.toNat)
include hb hm

theorem State.pcommitFinish_of_failing {code k i c : Nat} (hchk : s.commitCheck n m.toNat = some (code, k, i, c)) :
    s.pcommitFinish n = (s.commitEnded n).pstsReject n code k i c := by
  rw [State.pcommitFinish, hb, hm]
  simp only [Bool.not_true, Bool.false_eq_true, if_false, if_neg (natField_mask_held m), hchk]
  rfl

theorem State.pcommitFinish_of_passing (hchk : s.commitCheck n m.toNat = none) :
    s.pcommitFinish n = (s.commitFlipped n m.toNat).showDrained n := by
  rw [State.pcommitFinish, hb, hm]
  simp only [Bool.not_true, Bool.false_eq_true, if_false, if_neg (natField_mask_held m), hchk]
  rfl

end

section
variable {s : State} {n : Nat} (hn : n < 32)
include hn

theorem State.commitEnded_reports : s.Reports (· = R.HPL_PSTS n) (s.commitEnded n) := by
  have hmask : s.Reports (· = R.HPL_PSTS n) { s with hpl := { s.hpl with commitMask := s.hpl.commitMask.set 0 n 0 } } :=
    .of_eq rfl rfl rfl le_rfl fun _ => id
  exact .setPsts hn _ _ _ (.setPsts hn _ _ _ hmask)

theorem State.commitEnded_fields : wField 0 1 ((s.commitEnded n).rg (R.HPL_PSTS n)) = 0 ∧
    wField 1 1 ((s.commitEnded n).rg (R.HPL_PSTS n)) = 1 := by
  simp only [State.commitEnded, State.setFb, R.HPL_PSTS_BUSY, R.HPL_PSTS_DONE, State.psts_setFd _ hn]
  simp (disch := decide) [wField_setWField, wField_setWField_apart]

/-- A flip turns its context's version and writes that context's register alone (R262, R264). -/
theorem State.flipCtx_fields {c : Nat} (hc : c < 32) : s.Reports (· = R.HPL_CTXSEL n c) (s.flipCtx n c) ∧
    (s.flipCtx n c).fd (R.HPL_CTXSEL_PVER n c) = 1 - s.fd (R.HPL_CTXSEL_PVER n c) := by
  have hv := tableView_hplCtxsel hn hc
  refine ⟨.setCtxsel hn _ _ _ hc (.setCtxsel hn _ _ _ hc .refl), ?_⟩
  refine (State.fd_setFd_apart _ _ _ _ hv (show 10 + 1 ≤ 64 by decide) (.inr (.inl (show 8 + 1 ≤ 10 by decide)))).trans ?_
  refine (State.fd_setFd _ _ _ hv (show 8 + 1 ≤ 64 by decide)).trans (Nat.mod_eq_of_lt (show _ < 2 by omega))

theorem State.flipCtxs_fields (l : List Nat) (hl : ∀ c ∈ l, c < 32) (hnd : l.Nodup) :
    s.Reports (∃ c, c < 32 ∧ · = R.HPL_CTXSEL n c) (l.foldl (fun t c => t.flipCtx n c) s) ∧
    ∀ c, c < 32 → (l.foldl (fun t c => t.flipCtx n c) s).fd (R.HPL_CTXSEL_PVER n c) =
      if c ∈ l then 1 - s.fd (R.HPL_CTXSEL_PVER n c) else s.fd (R.HPL_CTXSEL_PVER n c) := by
  induction l generalizing s with
  | nil => exact ⟨.refl, fun c _ => rfl⟩
  | cons d l ih =>
    have hd : d < 32 := hl d List.mem_cons_self
    obtain ⟨hdl, hnd⟩ := List.nodup_cons.mp hnd
    obtain ⟨hrep, hself⟩ := State.flipCtx_fields (s := s) hn hd
    obtain ⟨hreps, hpver⟩ := ih (s := s.flipCtx n d) (fun c hc => hl c (List.mem_cons_of_mem _ hc)) hnd
    refine ⟨(hrep.mono fun a ha => ⟨d, hd, ha⟩).trans hreps, fun c hc => (hpver c hc).trans ?_⟩
    by_cases hcd : c = d
    · subst hcd
      simp [hdl, hself]
    · have hne : (s.flipCtx n d).fd (R.HPL_CTXSEL_PVER n c) = s.fd (R.HPL_CTXSEL_PVER n c) :=
        State.fd_congr (hrep.rg _ fun h => hcd (hplCtxsel_inj h))
      simp [hcd, hne]

/-- A commit flips the version of each context that its mask names. -/
theorem State.commitFlipped_fields (m : BitVec 32) :
    s.Reports (fun a => a = R.HPL_PSTS n ∨ ∃ c, c < 32 ∧ a = R.HPL_CTXSEL n c) (s.commitFlipped n m.toNat) ∧
    (s.commitFlipped n m.toNat).rg (R.HPL_PSTS n) = (s.commitEnded n).rg (R.HPL_PSTS n) ∧
    ∀ c, c < 32 → (s.commitFlipped n m.toNat).fd (R.HPL_CTXSEL_PVER n c) =
      if m.getLsbD c then 1 - s.fd (R.HPL_CTXSEL_PVER n c) else s.fd (R.HPL_CTXSEL_PVER n c) := by
  have hended := State.commitEnded_reports (s := s) hn
  obtain ⟨hflips, hpver⟩ := State.flipCtxs_fields (s := s.commitEnded n) hn (maskCtxs m.toNat) (fun c hc => (mem_maskCtxs.mp hc).1)
    (List.nodup_range.filter _)
  obtain ⟨x, hcnt⟩ := State.cntDev_eq ((maskCtxs m.toNat).foldl (fun t c => t.flipCtx n c) (s.commitEnded n)) 1551 1
  rw [State.commitFlipped, hcnt]
  refine ⟨((hended.mono fun _ => .inl).trans (hflips.mono fun _ => .inr)).trans (.of_eq rfl rfl rfl le_rfl fun _ => id),
    hflips.rg _ fun ⟨c, hc, h⟩ => hplCtxsel_ne_hplPsts hc h.symm, fun c hc => (hpver c hc).trans ?_⟩
  have hkept : (s.commitEnded n).fd (R.HPL_CTXSEL_PVER n c) = s.fd (R.HPL_CTXSEL_PVER n c) :=
    State.fd_congr (hended.rg _ (hplCtxsel_ne_hplPsts hc))
  simp only [mem_maskCtxs, hc, true_and, hkept]

end

theorem State.showDrained_fields {s : State} {n : Nat} (hn : n < 32) : s.Reports (· = R.HPL_PSTS n) (s.showDrained n) ∧
    wField 0 1 ((s.showDrained n).rg (R.HPL_PSTS n)) = wField 0 1 (s.rg (R.HPL_PSTS n)) ∧
    wField 1 1 ((s.showDrained n).rg (R.HPL_PSTS n)) = wField 1 1 (s.rg (R.HPL_PSTS n)) := by
  have hset : (s.setFb (R.HPL_PSTS_DRAINED n) true).rg (R.HPL_PSTS n) = setWField 5 1 (s.rg (R.HPL_PSTS n)) 1 := s.psts_setFd hn _ _ _
  rw [State.showDrained]
  split
  · refine ⟨.setPsts hn _ _ _ .refl, ?_⟩
    simp (disch := decide) only [hset, wField_setWField_apart, and_self]
  · exact ⟨.refl, rfl, rfl⟩

/-! ### Firmware tables (R246) -/

theorem State.ftblWrite_of_named {s : State} {t : Nat} (v : Word) (h : s.tableNamed t = true) :
    s.ftblWrite t v = (List.range 32).foldl (fun u n => u.setFb (R.HPL_PSTS_INUSE n) true) s := by
  rw [State.ftblWrite, h]
  rfl

/-- A discarded write shows INUSE in every octet named and leaves every other register. -/
theorem State.showInUse_fields (l : List Nat) (hl : ∀ n ∈ l, n < 32) (s : State) :
    s.Reports (∃ n, n < 32 ∧ · = R.HPL_PSTS n) (l.foldl (fun u n => u.setFb (R.HPL_PSTS_INUSE n) true) s) ∧
    ∀ n, n ∈ l ∨ s.fb (R.HPL_PSTS_INUSE n) = true →
      (l.foldl (fun u n => u.setFb (R.HPL_PSTS_INUSE n) true) s).fb (R.HPL_PSTS_INUSE n) = true := by
  induction l generalizing s with
  | nil => exact ⟨.refl, fun n hn => hn.resolve_left List.not_mem_nil⟩
  | cons d l ih =>
    have hv := tableView_hplPsts (hl d List.mem_cons_self)
    obtain ⟨hrep, hshown⟩ := ih (fun n hn => hl n (List.mem_cons_of_mem _ hn)) (s.setFb (R.HPL_PSTS_INUSE d) true)
    refine ⟨(State.Reports.refl.setFb true ⟨d, hl d List.mem_cons_self, rfl⟩ hv).trans hrep, fun n hn => hshown n ?_⟩
    by_cases hnd : n = d
    · subst hnd
      exact .inr (s.fb_setFb (R.HPL_PSTS_INUSE n) true hv (show 4 < 64 by decide) rfl)
    · have hne : R.HPL_PSTS n ≠ R.HPL_PSTS d := by unfold R.HPL_PSTS; omega
      exact hn.imp (fun h => (List.mem_cons.mp h).resolve_left hnd) fun h => (State.fb_congr (s.rg_setFd_ne _ _ _ hv hne)).trans h

/-- A table descriptor as it is written. -/
def tableWord (w v : Word) : Word :=
  setWField 16 19 (setWField 12 4 (setWField 4 4 (setWField 0 3 w (wField 0 3 v)) (wField 4 4 v)) (wField 12 4 v)) (wField 16 19 v)

theorem tableWord_fields (w v : Word) : wField 0 3 (tableWord w v) = wField 0 3 v ∧ wField 4 4 (tableWord w v) = wField 4 4 v ∧
    wField 12 4 (tableWord w v) = wField 12 4 v ∧ wField 16 19 (tableWord w v) = wField 16 19 v := by
  have hlt (lo width : Nat) : wField lo width v % 2 ^ width = wField lo width v := Nat.mod_mod _ _
  unfold tableWord
  simp (disch := decide) only [wField_setWField, wField_setWField_apart, hlt, and_self]

/-- A table that no program names takes a descriptor that fits table memory. -/
theorem State.ftblWrite_fields {s : State} {t : Nat} {v : Word} (ht : t < 64) (hnamed : s.tableNamed t = false)
    (hfit : wField 0 3 v = 1 ∨ wField 0 3 v = 2 →
      wField 16 19 v * 64 + 2 * (2 ^ wField 12 4 v * (if wField 0 3 v = 1 then 128 else 64)) ≤ tmemSize) :
    (s.ftblWrite t v).rg (R.HPL_FTBL t) = tableWord (s.rg (R.HPL_FTBL t)) v ∧ (s.ftblWrite t v).tmem = s.tmem := by
  have hv := tableView_hplFtbl ht
  have hset (u : State) (lo width x : Nat) :
      (u.setFd ⟨R.HPL_FTBL t, lo, width⟩ x).rg (R.HPL_FTBL t) = setWField lo width (u.rg (R.HPL_FTBL t)) x := u.rg_setFd_self _ x hv
  have htm (u : State) (lo width x : Nat) : (u.setFd ⟨R.HPL_FTBL t, lo, width⟩ x).tmem = u.tmem := u.setRg_tmem _ _ hv
  have hok : ¬(s.tableNamed t || (wField 0 3 v = 1 || wField 0 3 v = 2) &&
      decide (tmemSize < wField 16 19 v * 64 + 2 * (2 ^ wField 12 4 v * (if wField 0 3 v = 1 then 128 else 64)))) = true := by
    simpa [hnamed] using hfit
  simp only [State.ftblWrite, if_neg hok, R.HPL_FTBL_KIND, R.HPL_FTBL_KLENM1, R.HPL_FTBL_LOGSZ, R.HPL_FTBL_BASE, hset, htm, tableWord,
    and_self]

/-! ### The hash (R248) -/

theorem State.hashReady_of_pending {s : State} {r : Word} (h : s.hpl.hashPending = some r) :
    s.hashReady = ({ s with hpl := { s.hpl with hashPending := none } } : State).setRg R.HPL_HASHR r := by
  rw [State.hashReady, h]

/-! ### The commands -/

section
variable {s : State} {w : Writer}

theorem exec_hplCtxEnable_reaches {n : Octet} {c : Fin 32} (slot : Fin 16) (h : s.reaches w (R.HPL_CTXSEL n c) = true) :
    exec (.hplCtxEnable w n c slot) s = .next (s.ctxselWrite n c slot true) :=
  congrArg Host.Outcome.next (s.regCommand_of_reaches w _ _ _ h)

theorem exec_hplPcommit_reaches {n : Octet} (m : BitVec 32) (h : s.reaches w (R.HPL_PCOMMIT n) = true) :
    exec (.hplPcommit w n m) s = .next (s.pcommitWrite n m.toNat) :=
  congrArg Host.Outcome.next (s.regCommand_of_reaches w _ _ _ h)

theorem exec_hplFtblWrite_reaches {t : Fin 64} (v : Word) (h : s.reaches w (R.HPL_FTBL t) = true) :
    exec (.hplFtblWrite w t v) s = .next (if t.val < 16 then s.badAccess (R.HPL_FTBL t) else s.ftblWrite t v) :=
  congrArg Host.Outcome.next (s.regCommand_of_reaches w _ _ _ h)

theorem exec_hplHashk_reaches (v : Word) (h : s.reaches w R.HPL_HASHK = true) : exec (.hplHashk w v) s = .next (s.hashkWrite v) :=
  congrArg Host.Outcome.next (s.regCommand_of_reaches w _ _ _ h)

end

/-- Settles O48. -/
theorem programRows : Obligations.ProgramRows := by
  refine ⟨fun s s1 w n c slot hw hpair hs1 => ⟨fun hen hchk => ?_, fun code k i hen hchk => ?_, fun hen => ?_⟩,
    fun s w n m hw hpair => ⟨fun hb => ?_, fun hb hd => ?_⟩, fun s n m hb hm => ⟨fun hchk => ?_, fun code k i c hchk => ?_⟩,
    fun s w t v hw => ⟨fun ht => ?_, fun ht hnamed => ?_, fun ht hnamed hfit => ?_⟩, fun s w v hw => exec_hplHashk_reaches v hw,
    fun s r hr => ?_⟩
  · subst hs1
    obtain ⟨hword, hothers, htm⟩ := State.ctxselWrite_enables n.isLt c.isLt hpair slot.isLt hen hchk
    obtain ⟨hslot, hpver, hon, hhalf⟩ := enabledWord_fields (s.rg (R.HPL_CTXSEL n c))
      (s.progHalf n slot (s.fd (R.HPL_CTXSEL_PVER n c))) slot.isLt
    refine ⟨_, exec_hplCtxEnable_reaches slot hw, (State.fb_of_rg hword).trans ?_, (congrArg (wField 0 4) hword).trans hslot,
      (congrArg (wField 8 1) hword).trans hpver, (State.fb_of_rg hword).trans hhalf, hothers, htm⟩
    exact decide_eq_true (hon.trans_ne one_ne_zero)
  · subst hs1
    obtain ⟨hcode, hk, hi⟩ := State.progCheck_bounds hchk
    have hrep := (s.setFd (R.HPL_CTXSEL_SLOT n c) slot).pstsReject_reports n.isLt code k i c
    have hword := (s.setFd (R.HPL_CTXSEL_SLOT n c) slot).pstsReject_rg n.isLt code k i c
    obtain ⟨hrej, hrcode, hstage, hbslot, hctx, -, -⟩ := rejectWord_fields ((s.setFd (R.HPL_CTXSEL_SLOT n c) slot).rg (R.HPL_PSTS n))
      hcode hk hi c.isLt
    have hoff : (s.setFd (R.HPL_CTXSEL_SLOT n c) slot).fb (R.HPL_CTXSEL_EN n c) = s.fb (R.HPL_CTXSEL_EN n c) :=
      State.setSlot_en n.isLt c.isLt slot
    rw [exec_hplCtxEnable_reaches slot hw, State.ctxselWrite_of_failing n.isLt c.isLt hpair slot.isLt hen hchk]
    exact ⟨_, rfl, (State.fb_congr (hrep.rg _ (hplCtxsel_ne_hplPsts c.isLt))).trans (hoff.trans hen),
      (State.fb_of_rg hword).trans (decide_eq_true (hrej.trans_ne one_ne_zero)), (congrArg (wField 8 4) hword).trans hrcode,
      (congrArg (wField 12 4) hword).trans hstage, (congrArg (wField 16 2) hword).trans hbslot, (congrArg (wField 18 5) hword).trans hctx⟩
  · rw [exec_hplCtxEnable_reaches slot hw, State.ctxselWrite_of_enabled hpair hen]
    have hv := tableView_hplCtxsel n.isLt c.isLt
    exact ⟨_, rfl, s.fd_setFd_apart (R.HPL_CTXSEL_EN n c) (R.HPL_CTXSEL_SLOT n c) _ hv (show 9 + 1 ≤ 64 by decide)
      (.inr (.inl (show 0 + 4 ≤ 9 by decide))), s.fb_setFb (R.HPL_CTXSEL_EN n c) true hv (show 9 < 64 by decide) rfl⟩
  · exact (exec_hplPcommit_reaches m hw).trans (congrArg _ (State.pcommitWrite_of_busy hpair _ hb))
  · have hv := tableView_hplPsts n.isLt
    rw [exec_hplPcommit_reaches m hw, State.pcommitWrite_of_idle hpair m hb hd]
    exact ⟨_, rfl, s.fb_setFb (R.HPL_PSTS_BUSY n) true hv (show 0 < 64 by decide) rfl, SMap.get_set_self _ _ _ _,
      s.setRg_tmem _ _ hv, s.setFb_pkts _ _⟩
  · obtain ⟨hflip, hword, hpver⟩ := s.commitFlipped_fields n.isLt m
    obtain ⟨hbusy, hdone⟩ := s.commitEnded_fields n.isLt
    obtain ⟨hrep, hbusy', hdone'⟩ := (s.commitFlipped n m.toNat).showDrained_fields n.isLt
    rw [hword] at hbusy' hdone'
    exact ⟨_, congrArg Host.Outcome.next (State.pcommitFinish_of_passing hb hm hchk),
      (State.fb_of_rg rfl).trans (decide_eq_false (not_not.mpr (hbusy'.trans hbusy))),
      (State.fb_of_rg rfl).trans (decide_eq_true ((hdone'.trans hdone).trans_ne one_ne_zero)),
      fun c => (State.fd_congr (hrep.rg _ (hplCtxsel_ne_hplPsts c.isLt))).trans (hpver c c.isLt), hrep.tmem.trans hflip.tmem⟩
  · obtain ⟨hcode, hk, hi, hc⟩ := State.commitCheck_bounds hchk
    have hended := s.commitEnded_reports n.isLt
    obtain ⟨hbusy, hdone⟩ := s.commitEnded_fields n.isLt
    have hrep := (s.commitEnded n).pstsReject_reports n.isLt code k i c
    have hword := (s.commitEnded n).pstsReject_rg n.isLt code k i c
    obtain ⟨hrej, hrcode, -, -, -, hbusy', hdone'⟩ := rejectWord_fields ((s.commitEnded n).rg (R.HPL_PSTS n)) hcode hk hi hc
    exact ⟨_, congrArg Host.Outcome.next (State.pcommitFinish_of_failing hb hm hchk),
      (State.fb_of_rg hword).trans (decide_eq_false (not_not.mpr (hbusy'.trans hbusy))),
      (State.fb_of_rg hword).trans (decide_eq_true ((hdone'.trans hdone).trans_ne one_ne_zero)),
      (State.fb_of_rg hword).trans (decide_eq_true (hrej.trans_ne one_ne_zero)), (congrArg (wField 8 4) hword).trans hrcode,
      fun c => State.fd_congr ((hended.trans hrep).rg _ (hplCtxsel_ne_hplPsts c.isLt)), hrep.tmem.trans hended.tmem⟩
  · exact (exec_hplFtblWrite_reaches v hw).trans (congrArg _ (if_pos ht))
  · rw [exec_hplFtblWrite_reaches v hw, if_neg (Nat.not_lt.mpr ht), State.ftblWrite_of_named v hnamed]
    obtain ⟨hrep, hshown⟩ := State.showInUse_fields (List.range 32) (fun n hn => List.mem_range.mp hn) s
    exact ⟨_, rfl, hrep.rg _ fun ⟨n, hn, h⟩ => hplFtbl_ne_hplPsts hn h, fun n => hshown n (.inl (List.mem_range.mpr n.isLt))⟩
  · rw [exec_hplFtblWrite_reaches v hw, if_neg (Nat.not_lt.mpr ht)]
    obtain ⟨hword, htm⟩ := State.ftblWrite_fields t.isLt hnamed hfit
    obtain ⟨hkind, hklen, hlogsz, hbase⟩ := tableWord_fields (s.rg (R.HPL_FTBL t)) v
    exact ⟨_, rfl, (congrArg (wField 0 3) hword).trans hkind, (congrArg (wField 4 4) hword).trans hklen,
      (congrArg (wField 12 4) hword).trans hlogsz, (congrArg (wField 16 19) hword).trans hbase, htm⟩
  · exact congrArg Host.Outcome.next (State.hashReady_of_pending hr)

end Sys2Proof.Machine
end

section
/-! PROOFS. What a departure of packets leaves, and what the pass of a header reads beside counters and sampling registers: what O47 needs
(R235, R249 to R252, R674, R684). -/

namespace Sys2Proof.Machine

/-! ### Containment after a change (R483, R485) -/

theorem State.acsWatch_congr {s : State} {f g : State → State} (h : f s = g s) : s.acsWatch f = s.acsWatch g := by
  rw [State.acsWatch, State.acsWatch, h]

/-- A change that logs no ACS Violation contains nothing. -/
theorem State.acsWatch_of_vdps {s : State} {f : State → State} (h : (f s).vdps = s.vdps) : s.acsWatch f = f s := by
  have hnew : ((f s).bindings.filter fun b => ((f s).vdp b.1 b.2).acsViol && !(s.vdp b.1 b.2).acsViol) = [] := by
    refine List.filter_eq_nil_iff.mpr fun b _ => ?_
    rw [State.vdp, State.vdp, h, Bool.and_not_self]
    exact Bool.false_ne_true
  rw [State.acsWatch, hnew]
  rfl

/-! ### Packets replaced and dropped -/

theorem State.at_setPkt_moved {s : State} {k : Pkt} {l : Loc} (hid : ∀ x ∈ s.at l, x.id = k.id) (hl : k.loc ≠ l) :
    (s.setPkt k).at l = [] := by
  refine List.filter_eq_nil_iff.mpr fun y hy => ?_
  obtain ⟨x, hx, rfl⟩ := List.mem_map.mp hy
  split
  · simpa using hl
  · next hne => simpa using fun hloc => hne (hid x (List.mem_filter.mpr ⟨hx, by simpa using hloc⟩))

theorem State.pkt?_setPkt {s : State} {k x : Pkt} (h : (s.setPkt k).pkt? k.id = some x) : ∃ c : List Nat, x = { k with cellIx := c } := by
  have hid : x.id = k.id := by simpa using List.find?_some h
  obtain ⟨y, -, rfl⟩ := List.mem_map.mp (List.mem_of_find?_eq_some h)
  split at hid
  · next hy => exact ⟨_, if_pos hy⟩
  · next hy => exact absurd hid hy

/-- The packets, the entries and the virtual ports are the same. -/
structure State.SameItems (s t : State) : Prop where
  pkts : t.pkts = s.pkts
  entries : t.ldg.entries = s.ldg.entries
  vdps : t.vdps = s.vdps

namespace State.SameItems

variable {s t u : State}

theorem trans (h : s.SameItems t) (h' : t.SameItems u) : s.SameItems u :=
  ⟨h'.pkts.trans h.pkts, h'.entries.trans h.entries, h'.vdps.trans h.vdps⟩

theorem setFb (h : s.SameItems t) (x : Field) (b : Bool) : s.SameItems (t.setFb x b) :=
  h.trans ⟨t.setFb_pkts x b, congrArg LdgState.entries (t.setFb_ldg x b), t.setFb_vdps x b⟩

theorem progDrained (h : s.SameItems t) (n before : Nat) : s.SameItems (t.progDrained n before) := by
  unfold State.progDrained
  split
  · exact h.setFb _ _
  · exact h

theorem storeMark (h : s.SameItems t) : s.SameItems t.storeMark := by
  unfold State.storeMark
  dsimp only
  split
  · exact ⟨h.pkts, h.entries, h.vdps⟩
  · split
    · exact ⟨h.pkts, h.entries, h.vdps⟩
    · exact h

theorem drainCheck (h : s.SameItems t) : s.SameItems t.drainCheck := by
  unfold State.drainCheck
  refine List.foldlRecOn _ _ h fun u hu e _ => ?_
  split
  · have hdone : s.SameItems ({ u with tbl := { u.tbl with drain := u.tbl.drain.set [] e.1 [] } } : State) :=
      ⟨hu.pkts, hu.entries, hu.vdps⟩
    dsimp only
    split
    · exact (hdone.setFb _ _).trans ⟨rfl, rfl, rfl⟩
    · exact hdone.setFb _ _
  · exact hu

end State.SameItems

/-- A packet without an entry leaves, and the entries stay as they are. -/
theorem State.dropPkt_sameItems {s : State} {id : Nat} (h : ∀ k, s.pkt? id = some k → k.entry = none) :
    ({ s with pkts := s.pkts.filter fun x => x.id ≠ id } : State).SameItems (s.dropPkt id) := by
  unfold State.dropPkt
  split
  · next hnone =>
    exact ⟨(List.filter_eq_self.mpr fun x hx => by simpa using List.find?_eq_none.mp hnone x hx).symm, rfl, rfl⟩
  · next k hk =>
    simp only [h k hk]
    refine .drainCheck (.storeMark ?_)
    split
    · exact .progDrained ⟨rfl, rfl, rfl⟩ _ _
    · exact ⟨rfl, rfl, rfl⟩

theorem State.pkt?_dropPkt {s : State} {id : Nat} (h : ∀ k, s.pkt? id = some k → k.entry = none) : (s.dropPkt id).pkt? id = none := by
  rw [State.pkt?, (State.dropPkt_sameItems h).pkts]
  exact List.find?_eq_none.mpr fun x hx => by simpa using (List.mem_filter.mp hx).2

/-! ### What the pass of a header reads -/

/-- Counters have been advanced and the sampling registers have stepped; nothing else has changed. -/
def State.Counted (s t : State) : Prop :=
  ∃ (x : PcnState) (l : SMap Nat), t = { s with pcn := x, hpl := { s.hpl with lfsr := l } }

namespace State.Counted

variable {s t : State}

theorem refl : s.Counted s := ⟨s.pcn, s.hpl.lfsr, rfl⟩

theorem cntDev (h : s.Counted t) (i m : Nat) : s.Counted (t.cntDev i m) := by
  obtain ⟨x, l, rfl⟩ := h
  obtain ⟨y, hy⟩ := State.cntDev_eq { s with pcn := x, hpl := { s.hpl with lfsr := l } } i m
  exact ⟨y, l, hy⟩

theorem cntPort (h : s.Counted t) (p i m : Nat) : s.Counted (t.cntPort p i m) := by
  obtain ⟨x, l, rfl⟩ := h
  obtain ⟨y, hy⟩ := State.cntPort_eq { s with pcn := x, hpl := { s.hpl with lfsr := l } } p i m
  exact ⟨y, l, hy⟩

theorem cntTnt (h : s.Counted t) (v i m : Nat) : s.Counted (t.cntTnt v i m) := by
  obtain ⟨x, l, rfl⟩ := h
  obtain ⟨y, hy⟩ := State.cnt_eq { s with pcn := x, hpl := { s.hpl with lfsr := l } } (0x4000 + 16 * v + i) m
  exact ⟨y, l, hy⟩

theorem rg (h : s.Counted t) (a : Nat) : t.rg a = s.rg a := by
  obtain ⟨x, l, rfl⟩ := h
  exact State.rg_congr rfl rfl a

theorem fd (h : s.Counted t) (x : Field) : t.fd x = s.fd x := State.fd_congr (h.rg x.reg)

theorem fb (h : s.Counted t) (x : Field) : t.fb x = s.fb x := State.fb_congr (h.rg x.reg)

theorem phys (h : s.Counted t) : t.phys = s.phys := by
  obtain ⟨x, l, rfl⟩ := h
  rfl

theorem time (h : s.Counted t) : t.time = s.time := by
  obtain ⟨x, l, rfl⟩ := h
  rfl

theorem tbl (h : s.Counted t) : t.tbl = s.tbl := by
  obtain ⟨x, l, rfl⟩ := h
  rfl

theorem tmem (h : s.Counted t) : t.tmem = s.tmem := by
  obtain ⟨x, l, rfl⟩ := h
  rfl

theorem entryRefusal (h : s.Counted t) (n ctx : Nat) (k : Pkt) : t.entryRefusal n ctx k = s.entryRefusal n ctx k := by
  rw [State.entryRefusal, h.fb, State.entryRefusal]

theorem fenced (h : s.Counted t) (v : Nat) : t.fenced v = s.fenced v := by
  rw [State.fenced, h.rg, State.fenced]

theorem tntVer (h : s.Counted t) (v : Nat) : t.tntVer v = s.tntVer v := by
  rw [State.tntVer, h.rg, State.tntVer]

theorem qOpen (h : s.Counted t) (q : Nat) : t.qOpen q = s.qOpen q := by
  rw [State.qOpen, h.fb, State.qOpen]

/-! #### Metadata (R235) -/

theorem spansPair (h : s.Counted t) (p : Nat) : t.spansPair p = s.spansPair p := by
  simp only [State.spansPair, State.pciX16, h.fd, h.phys]

theorem lanesOf (h : s.Counted t) (p : Nat) : t.lanesOf p = s.lanesOf p := by
  simp only [State.lanesOf, h.fd]

theorem widthLog (h : s.Counted t) (p : Nat) : t.widthLog p = s.widthLog p := by
  simp only [State.widthLog, h.spansPair, h.lanesOf]

theorem rateCode (h : s.Counted t) (p : Nat) : t.rateCode p = s.rateCode p := by
  simp only [State.rateCode, h.fd, h.fb]

theorem metaM0 (h : s.Counted t) (k : Pkt) : t.metaM0 k = s.metaM0 k := by
  simp only [State.metaM0, h.fd, h.fb, h.spansPair, h.lanesOf, h.widthLog, h.rateCode]

theorem metaM1 (h : s.Counted t) (k : Pkt) : t.metaM1 k = s.metaM1 k := by
  simp only [State.metaM1, h.fd]

theorem stamp (h : s.Counted t) (k : Pkt) (b : Bool) : t.stamp k b = s.stamp k b := by
  simp only [State.stamp, h.fd, h.metaM0, h.metaM1, h.time, h.tntVer, State.rver]

/-! #### Lookups and programs (R55, R70) -/

theorem tWord (h : s.Counted t) (a : Nat) : t.tWord a = s.tWord a := by
  rw [State.tWord, State.tBytes_congr h.tmem, State.tWord]

theorem exactMatch (h : s.Counted t) (a k0 k1 : Nat) : t.exactMatch a k0 k1 = s.exactMatch a k0 k1 := by
  simp only [State.exactMatch, h.tWord, State.tByte_congr h.tmem]

theorem setLookup (h : s.Counted t) (base sets k0 k1 : Nat) : t.setLookup base sets k0 k1 = s.setLookup base sets k0 k1 := by
  simp only [State.setLookup, h.rg, h.exactMatch, h.tWord]

theorem ternLookup (h : s.Counted t) (base n k0 k1 : Nat) : t.ternLookup base n k0 k1 = s.ternLookup base n k0 k1 := by
  simp only [State.ternLookup, State.hplTern, h.tbl]

theorem winBase (h : s.Counted t) (w v : Nat) : t.winBase w v = s.winBase w v := by
  rw [State.winBase, h.fd, State.winBase]

theorem winLast (h : s.Counted t) (w v : Nat) : t.winLast w v = s.winLast w v := by
  rw [State.winLast, h.fd, State.winLast]

theorem winWays (h : s.Counted t) (w v : Nat) : t.winWays w v = s.winWays w v := by
  simp only [State.winWays, h.fd, h.fb]

theorem winHit (h : s.Counted t) (n v a : Nat) : t.winHit n v a = s.winHit n v a := by
  simp only [State.winHit, State.listedWin, State.listed, h.winBase, h.winLast, h.fd, h.fb, h.tmem]

theorem winFid (h : s.Counted t) (w v a : Nat) : t.winFid w v a = s.winFid w v a := by
  simp only [State.winFid, State.winWay, h.winWays, h.fd]

theorem winTarget (h : s.Counted t) (w v a : Nat) : t.winTarget w v a = s.winTarget w v a := by
  simp only [State.winTarget, h.winWays, h.fd]

theorem pfxMatch (h : s.Counted t) (v fid : Nat) : t.pfxMatch v fid = s.pfxMatch v fid := by
  simp only [State.pfxMatch, State.listedPfx, State.listed, h.fd, h.fb, h.tmem]

theorem routeEntry (h : s.Counted t) (v fid : Nat) : t.routeEntry v fid = s.routeEntry v fid := by
  simp only [State.routeEntry, h.fb, h.pfxMatch]

theorem liveHops (h : s.Counted t) (pfx : Bool) (i v : Nat) : t.liveHops pfx i v = s.liveHops pfx i v := by
  simp only [State.liveHops, State.portUp, h.fd, h.fb]

theorem routeWord (h : s.Counted t) (pfx : Bool) (i v : Nat) (flow : Word) : t.routeWord pfx i v flow = s.routeWord pfx i v flow := by
  simp only [State.routeWord, h.fd, h.fb, h.rg, h.tbl, h.liveHops]

theorem lookup (h : s.Counted t) (n k0 k1 : Nat) (tv : Nat → Nat) (rv : Nat) (flow : Word) :
    t.lookup n k0 k1 tv rv flow = s.lookup n k0 k1 tv rv flow := by
  simp only [State.lookup, State.ftblCopy, h.fd, h.fb, h.fenced, h.winHit, h.winFid, h.winTarget, h.routeEntry, h.routeWord, h.pfxMatch,
    h.setLookup, h.ternLookup, h.tbl]

theorem runWord (h : s.Counted t) (tver rver k i : Nat) (x0 x : Run) (w : Nat) :
    t.runWord tver rver k i x0 x w = s.runWord tver rver k i x0 x w := by
  simp only [State.runWord, h.rg, h.lookup]

/-- The run of a program. -/
theorem runProgram (h : s.Counted t) (n sl v tver rver : Nat) (x : Run) : t.runProgram n sl v tver rver x = s.runProgram n sl v tver rver x := by
  simp only [State.runProgram, State.runStage, State.progWord, h.rg, h.runWord]

end State.Counted

end Sys2Proof.Machine
end

section
/-! PROOFS. The pass of a header through its pipeline, and verdicts: O47 (R224, R228, R230, R249 to R259, R353). -/

namespace Sys2Proof.Machine

/-! ### Registers and words -/

theorem schQCfg_ne_hplPsts {q n : Nat} : R.SCH_Q_CFG q ≠ R.HPL_PSTS n := by
  unfold R.SCH_Q_CFG R.HPL_PSTS; omega

theorem mirPsrc_ne_hplPsts {p n : Nat} (hn : n < 32) : R.MIR_PSRC p ≠ R.HPL_PSTS n := by
  unfold R.MIR_PSRC R.HPL_PSTS; omega

theorem wField_ofNat (lo width : Nat) {n : Nat} (h : n < 2 ^ 64) : wField lo width (BitVec.ofNat 64 n) = natField lo width n := by
  rw [wField, BitVec.toNat_ofNat, Nat.mod_eq_of_lt h]

/-! ### The stamped header (R235) -/

section
variable (s : State) {k : Pkt} (hk : k.native = false) (b : Bool)
include hk

/-- A header that came over no native link is stamped in its metadata alone. -/
theorem State.stamp_eq : ∃ (m0 m1 m2 : Word) (v : Nat) (low : Nat),
    s.stamp k b = { k with m0 := m0, m1 := m1, m2 := m2, progVer := v, m3 := setWField 0 8 k.m3 low } := by
  simp only [State.stamp, hk, Bool.false_eq_true, if_false]
  exact ⟨_, _, _, _, _, rfl⟩

theorem State.stamp_native : (s.stamp k b).native = false := by
  obtain ⟨m0, m1, m2, v, low, h⟩ := s.stamp_eq hk b
  rw [h]
  exact hk

theorem State.stamp_fields : (s.stamp k b).octet = k.octet ∧ (s.stamp k b).nativeCtx = k.nativeCtx ∧ (s.stamp k b).inPort = k.inPort ∧
    (s.stamp k b).id = k.id := by
  obtain ⟨m0, m1, m2, v, low, h⟩ := s.stamp_eq hk b
  rw [h]
  exact ⟨rfl, rfl, rfl, rfl⟩

theorem State.stamp_tkind : (s.stamp k b).tkind = k.tkind := by
  obtain ⟨m0, m1, m2, v, low, h⟩ := s.stamp_eq hk b
  rw [h]
  exact wField_setWField_apart 0 8 16 8 k.m3 low (by decide) (by decide)

end

/-- A run changes the header window alone. -/
theorem Pkt.ofRun_eq (k : Pkt) (x : Run) : ∃ w : List Word, k.ofRun x = { k with win := w } := by
  unfold Pkt.ofRun
  dsimp only
  split
  · exact ⟨_, rfl⟩
  · exact ⟨_, rfl⟩

theorem Pkt.ofRun_native {k : Pkt} (h : k.native = false) (x : Run) : (k.ofRun x).native = false := by
  obtain ⟨w, hw⟩ := k.ofRun_eq x
  rw [hw]
  exact h

theorem Pkt.ofRun_inPort (k : Pkt) (x : Run) : (k.ofRun x).inPort = k.inPort := by
  obtain ⟨w, hw⟩ := k.ofRun_eq x
  rw [hw]

/-! ### What a header's run ends in (R224, R255) -/

/-- The DROP of a refusal or of a fence. -/
def dropAction (reason : Nat) : Action := ⟨1, false, false, false, BitVec.ofNat 64 reason, 0⟩

/-- A FWD without modifiers. -/
def fwdAction (a : Word) : Action := ⟨0, false, false, false, a, 0⟩

section
variable {s t : State} (h : s.Counted t) {k : Pkt} {n : Nat} (hn : k.octet = n)
include h hn

theorem State.runHeader_of_refusal {r : Nat} (href : s.entryRefusal n k.ctxNo k = some r) :
    ∃ u, s.Counted u ∧ t.runHeader k = (u, k, dropAction r) := by
  subst hn
  simp only [State.runHeader, h.entryRefusal, href]
  exact ⟨_, h.cntDev _ _, rfl⟩

variable {x : Run} (hadm : s.entryRefusal n k.ctxNo k = none)
  (hx : x = s.runProgram n (s.fd (R.HPL_CTXSEL_SLOT n k.ctxNo)) k.progVer k.tver k.rverOf k.toRun)
  (hcincs : x.cincs = []) (hmarks : x.marks = []) (hsprays : x.sprays = [])
include hadm hx hcincs hmarks hsprays

/-- The header of a fenced tenant, native contexts aside, is dropped whatever its program executed. -/
theorem State.runHeader_of_fenced (hnat : k.nativeCtx = false) (hf : s.fenced k.tenant = true) :
    ∃ u, s.Counted u ∧ t.runHeader k = (u, k.ofRun x, dropAction 7) := by
  subst hn
  simp only [State.runHeader, h.entryRefusal, hadm, h.fd, h.runProgram, ← hx, hcincs, hmarks, hsprays, List.foldl_nil, List.dedup_nil,
    h.fenced, hnat, hf, Bool.not_false, Bool.and_self, if_true]
  exact ⟨_, (h.cntTnt _ _ _).cntDev _ _, rfl⟩

theorem State.runHeader_of_fwd {a b : Word} (hf : s.fenced k.tenant = false) (he : x.emit = some (0, 0, a, b)) :
    ∃ u, s.Counted u ∧ t.runHeader k = (u, k.ofRun x, fwdAction a) := by
  subst hn
  simp only [State.runHeader, h.entryRefusal, hadm, h.fd, h.runProgram, ← hx, hcincs, hmarks, hsprays, List.foldl_nil, List.dedup_nil,
    h.fenced, hf, Bool.and_false, Bool.false_eq_true, if_false, he]
  exact ⟨_, h, rfl⟩

end

/-! ### The exit precedence and the actions (R249 to R254) -/

section
variable {s : State} {k : Pkt} {a : Action}

/-- A FWD to a configured queue context without a policer stands. -/
theorem State.exitRows_of_fwd (ha : a.kind = 0) (hq : s.qOpen (wField 0 16 a.oper) = true) (hp : a.oper.getLsbD 32 = false) :
    s.exitRows k a = (s, a) := by
  have hpol : wField 32 1 a.oper ≠ 1 := by rw [wField_one, hp]; decide
  simp [State.exitRows, ha, hq, hpol]

/-- A DROP with a reason that a program or a supervisor may give stands. -/
theorem State.exitRows_of_drop (ha : a.kind = 1) (hr : 0 < wField 0 8 a.oper ∧ wField 0 8 a.oper < 0x14 ∨ 0x40 ≤ wField 0 8 a.oper) :
    s.exitRows k a = (s, a.dropped (wField 0 8 a.oper)) := by
  have hok : ¬(wField 0 8 a.oper = 0 ∨ 0x14 ≤ wField 0 8 a.oper ∧ wField 0 8 a.oper < 0x40) := by omega
  simp only [State.exitRows, ha, if_neg hok]

/-- A SYNTH for a non-posted item of an edge stands. -/
theorem State.exitRows_of_synth (ha : a.kind = 3) (hn : k.nativeCtx = false) (hnp : kindNp k.tkind = true) : s.exitRows k a = (s, a) := by
  simp [State.exitRows, ha, hn, hnp]

/-- Without MIRROR and ingress mirroring no copy is made. -/
theorem State.exitMirror_of_off (hm : a.mirror = false) (hi : s.fb (R.MIR_PSRC_IEN k.inPort) = false) : s.exitMirror k a = s := by
  simp [State.exitMirror, hm, hi]

theorem State.deliverAction_of_fwd (ht : k.trace = none) (ha : a.kind = 0) (he : a.evict = false) (hc : k.cls ≠ 15) :
    s.deliverAction k a = (s.setPkt k).exitFwd k a := by
  simp [State.deliverAction, ha, he, hc, ht]

variable (hm : a.mirror = false) (hi : s.fb (R.MIR_PSRC_IEN k.inPort) = false)
include hm hi

theorem State.deliverAction_of_drop (ha : a.kind = 1) : s.deliverAction k a = (s.setPkt k).exitDrop k (wField 0 8 a.oper) := by
  have hoff : (s.setPkt k).exitMirror k a = s.setPkt k := State.exitMirror_of_off hm ((State.fb_congr (State.rg_congr rfl rfl _)).trans hi)
  simp [State.deliverAction, ha, hoff]

theorem State.deliverAction_of_synth (ha : a.kind = 3) :
    s.deliverAction k a = ((s.setPkt k).cntDev (32 * k.octet + 5) 1).synthesise k (wField 0 3 a.oper) := by
  have hoff : (s.setPkt k).exitMirror k a = s.setPkt k := State.exitMirror_of_off hm ((State.fb_congr (State.rg_congr rfl rfl _)).trans hi)
  simp [State.deliverAction, ha, hoff]

end

/-- A DROP of a completion discards it and leaves the entries. -/
theorem State.exitDrop_of_completion {s : State} {k : Pkt} (r : Nat) (hn : k.nativeCtx = false) (hc : kindCpl k.tkind = true)
    (ht : k.trace = none) : ((s.setPkt k).exitDrop k r).pkt? k.id = none ∧ ((s.setPkt k).exitDrop k r).ldg.entries = s.ldg.entries ∧
      ((s.setPkt k).exitDrop k r).vdps = s.vdps := by
  obtain ⟨x, l, hcnt⟩ :=
    (State.Counted.refl (s := s.setPkt k)).cntPort k.inPort (if r < 0x40 then 31 + r else 51) 1 |>.cntDev (32 * k.octet + 3) 1
  have hdrop : (s.setPkt k).exitDrop k r = (((s.setPkt k).cntPort k.inPort (if r < 0x40 then 31 + r else 51) 1).cntDev (32 * k.octet + 3) 1
      |>.setPkt { k with entry := none }).dropPkt k.id := by
    simp [State.exitDrop, hn, hc, State.pktTraceEnd, ht]
  rw [hdrop, hcnt]
  have hnone : ∀ y,
      (State.setPkt { s.setPkt k with pcn := x, hpl := { (s.setPkt k).hpl with lfsr := l } } { k with entry := none }).pkt? k.id =
      some y → y.entry = none := fun y hy => by
    obtain ⟨c, rfl⟩ := State.pkt?_setPkt hy
    rfl
  have hsame := State.dropPkt_sameItems hnone
  exact ⟨State.pkt?_dropPkt hnone, hsame.entries, hsame.vdps⟩

/-! ### The pass (R227) -/

theorem State.sample_counted (s : State) (n : Nat) : s.Counted (s.sample n).1 := ⟨s.pcn, _, rfl⟩

/-- A packet that came over no native link does not age (R294). -/
theorem State.aged_of_edge (s : State) {k : Pkt} (h : k.native = false) : s.aged k = false := by
  simp [State.aged, State.overAge, Pkt.viaLink, h]

/-- No header gets a trace while tracing is off. -/
theorem State.withTrace_of_off {s : State} (h : s.fb R.TRC_CFG_EN = false) (k k0 : Pkt) (kind : Nat) (samp tagged : Bool) :
    s.withTrace k k0 kind samp tagged = (s, { k with trace := none }) := by
  simp [State.withTrace, h]

/-- The state in which the action of a header takes effect: registers, table memory and virtual ports are as before, and for a completion
the entries too. -/
structure State.Passed (s : State) (k : Pkt) (u : State) : Prop where
  regs : u.regs = s.regs
  tmem : u.tmem = s.tmem
  vdps : u.vdps = s.vdps
  entries : kindCpl k.tkind = true → u.ldg.entries = s.ldg.entries

/-- A header has been sampled and counted as it enters its pipeline (R684). -/
def State.sampled (s : State) (n : Nat) (k0 : Pkt) : State := ((s.sample n).1.cntDev (32 * n) 1).cntPort k0.inPort 85 1

/-- Its pass has been counted too if it runs at half rate (R264). -/
def State.entering (s : State) (n : Nat) (k0 : Pkt) : State :=
  if (s.sampled n k0).fb (R.HPL_CTXSEL_HALF n (s.stamp k0 (s.sample n).2).ctxNo) || decide (4 ≤ (s.sampled n k0).sagStage) then
    (s.sampled n k0).cntDev (32 * n + 10) 1
  else s.sampled n k0

theorem State.sampled_counted (s : State) (n : Nat) (k0 : Pkt) : s.Counted (s.sampled n k0) :=
  ((s.sample_counted n).cntDev _ _).cntPort _ _ _

theorem State.entering_counted (s : State) (n : Nat) (k0 : Pkt) : s.Counted (s.entering n k0) := by
  unfold State.entering
  split
  · exact (s.sampled_counted n k0).cntDev _ _
  · exact s.sampled_counted n k0

/-- The entry of a request that passes takes the versions it was stamped with (R203). -/
def State.stampEntry (s : State) (k : Pkt) : State :=
  match k.entry with
  | none => s
  | some i => if kindCpl k.tkind then s else s.updEntry i fun e => { e with stamp := wField 0 3 k.m3 }

namespace State.Passed

variable {s t : State} {k : Pkt}

theorem of_counted (h : s.Counted t) : s.Passed k t := by
  obtain ⟨x, l, rfl⟩ := h
  exact ⟨rfl, rfl, rfl, fun _ => rfl⟩

theorem stampEntry (h : s.Passed k t) : s.Passed k (t.stampEntry { k with trace := none }) := by
  unfold State.stampEntry
  split
  · exact h
  · split
    · exact h
    · next hc => exact ⟨h.regs, h.tmem, h.vdps, fun hk => absurd hk hc⟩

theorem setPkt (h : s.Passed k t) {x : Pkt} : s.Passed k (t.setPkt x) := ⟨h.regs, h.tmem, h.vdps, h.entries⟩

theorem fb (h : s.Passed k t) (x : Field) : t.fb x = s.fb x := State.fb_congr (State.rg_congr h.tmem h.regs _)

end State.Passed

/-- The pass of a header from an edge, no trap: what its run and the exit precedence leave takes effect. -/
theorem State.runPipeline_delivers {s : State} {n : Nat} {k0 k1 : Pkt} {a0 a : Action} (hhead : (s.at (.ingress n)).head? = some k0)
    (hnat : k0.native = false) (htrc : s.fb R.TRC_CFG_EN = false)
    (hrun : ∃ u, s.Counted u ∧ (s.entering n k0).runHeader (s.stamp k0 (s.sample n).2) = (u, k1, a0))
    (hnat1 : k1.native = false) (ha0 : a0.kind ≠ 2) (hexit : ∀ u : State, s.Counted u → u.exitRows k1 a0 = (u, a)) (ha : a.kind ≠ 2) :
    ∃ u, s.Passed k1 u ∧ s.runPipeline n = u.deliverAction { k1 with trace := none } a := by
  obtain ⟨u, hu, hrunu⟩ := hrun
  have hsampled : ((s.sample n).1.cntDev (32 * n) 1).cntPort k0.inPort 85 1 = s.sampled n k0 := rfl
  have hentering : (if ((s.sampled n k0).fb (R.HPL_CTXSEL_HALF n (s.stamp k0 (s.sample n).2).ctxNo) || decide (4 ≤ (s.sampled n k0).sagStage))
      then (s.sampled n k0).cntDev (32 * n + 10) 1 else s.sampled n k0) = s.entering n k0 := rfl
  have htrace := State.withTrace_of_off ((hu.fb _).trans htrc)
  refine ⟨(u.stampEntry { k1 with trace := none }).setPkt { k1 with trace := none }, ?_, ?_⟩
  · exact (State.Passed.of_counted hu).stampEntry.setPkt
  · simp only [State.runPipeline, hhead, hnat, Bool.false_eq_true, false_and, if_false, hsampled, (s.sampled_counted n k0).stamp, hentering,
      hrunu, u.aged_of_edge hnat1, if_neg ha0, hexit u hu, htrace, if_neg ha]
    rfl

section
variable {s : State} {n : Nat} {k0 k1 : Pkt} (hhead : (s.at (.ingress n)).head? = some k0) (hnat : k0.native = false)
  (htrc : s.fb R.TRC_CFG_EN = false) (hnat1 : k1.native = false)
include hhead hnat htrc hnat1

/-- A header that its context refuses, or whose tenant is fenced, is dropped as its run left it. -/
theorem State.runPipeline_drops {r : Nat} (hr : 0 < r ∧ r < 0x14) (hi : s.fb (R.MIR_PSRC_IEN k1.inPort) = false)
    (hrun : ∃ u, s.Counted u ∧ (s.entering n k0).runHeader (s.stamp k0 (s.sample n).2) = (u, k1, dropAction r)) :
    ∃ u, s.Passed k1 u ∧ s.runPipeline n = (u.setPkt { k1 with trace := none }).exitDrop { k1 with trace := none } r := by
  have hoper : wField 0 8 (dropAction r).oper = r := (wField_ofNat _ _ (by omega)).trans (by rw [natField]; omega)
  have hexit (u : State) : u.exitRows k1 (dropAction r) = (u, dropAction r) := by
    rw [State.exitRows_of_drop rfl (by omega), hoper]
    rfl
  have hkind : (dropAction r).kind ≠ 2 := show (1 : Nat) ≠ 2 by decide
  obtain ⟨u, hu, hrunu⟩ := State.runPipeline_delivers hhead hnat htrc hrun hnat1 hkind (fun u _ => hexit u) hkind
  have hoff : u.fb (R.MIR_PSRC_IEN k1.inPort) = false := (hu.fb _).trans hi
  refine ⟨u, hu, hrunu.trans ?_⟩
  rw [State.deliverAction_of_drop (k := { k1 with trace := none }) (a := dropAction r) rfl hoff rfl, hoper]

/-- A completion so dropped is discarded; the entries stay, and no ACS Violation is logged. -/
theorem State.runPipeline_discards {r : Nat} (hr : 0 < r ∧ r < 0x14) (hi : s.fb (R.MIR_PSRC_IEN k1.inPort) = false)
    (hcpl : kindCpl k1.tkind = true) (hctx : k1.nativeCtx = false)
    (hrun : ∃ u, s.Counted u ∧ (s.entering n k0).runHeader (s.stamp k0 (s.sample n).2) = (u, k1, dropAction r)) :
    (s.runPipeline n).pkt? k1.id = none ∧ (s.runPipeline n).ldg.entries = s.ldg.entries ∧ (s.runPipeline n).vdps = s.vdps := by
  obtain ⟨u, hu, hpass⟩ := State.runPipeline_drops hhead hnat htrc hnat1 hr hi hrun
  obtain ⟨hgone, hents, hvdps⟩ := State.exitDrop_of_completion (s := u) (k := { k1 with trace := none }) r hctx hcpl rfl
  rw [hpass]
  exact ⟨hgone, hents.trans (hu.entries hcpl), hvdps.trans hu.vdps⟩

/-- A header that its program forwards to a configured queue context is forwarded as its run left it. -/
theorem State.runPipeline_forwards {a : Word} (hq : s.qOpen (wField 0 16 a) = true) (hp : a.getLsbD 32 = false) (hc : k1.cls ≠ 15)
    (hrun : ∃ u, s.Counted u ∧ (s.entering n k0).runHeader (s.stamp k0 (s.sample n).2) = (u, k1, fwdAction a)) :
    ∃ u, s.Passed k1 u ∧ s.runPipeline n = (u.setPkt { k1 with trace := none }).exitFwd { k1 with trace := none } (fwdAction a) := by
  have hexit (u : State) (hu : s.Counted u) : u.exitRows k1 (fwdAction a) = (u, fwdAction a) :=
    State.exitRows_of_fwd rfl ((hu.qOpen _).trans hq) hp
  have hkind : (fwdAction a).kind ≠ 2 := show (0 : Nat) ≠ 2 by decide
  obtain ⟨u, hu, hrunu⟩ := State.runPipeline_delivers hhead hnat htrc hrun hnat1 hkind hexit hkind
  exact ⟨u, hu, hrunu.trans (State.deliverAction_of_fwd rfl rfl rfl hc)⟩

end

/-! ### Verdicts (R258, R259) -/

theorem State.Reports.progDrained {s t : State} {n : Nat} (hn : n < 32) (before : Nat) (h : s.Reports (· = R.HPL_PSTS n) t) :
    s.Reports (· = R.HPL_PSTS n) (t.progDrained n before) := by
  unfold State.progDrained
  split
  · exact h.setFd (x := R.HPL_PSTS_DRAINED n) _ rfl (tableView_hplPsts hn)
  · exact h

/-- The word of a verdict's action (R258). -/
def verdictOper (kind : Nat) (v : Verdict) : Nat :=
  if kind = 0 then v.oper.toNat + v.polidx.toNat * 2 ^ 16 + (if v.polv then 2 ^ 32 else 0) else v.oper.toNat

/-- The action of a verdict without modifiers. -/
def verdictAction (kind : Nat) (v : Verdict) : Action := ⟨kind, false, false, false, BitVec.ofNat 64 (verdictOper kind v), v.mses⟩

/-- A packet back in the ingress queue of its octet. -/
def Pkt.untrapped (k : Pkt) (n : Nat) : Pkt := { k with loc := .ingress n }

/-- The packet of a slot has left it, with its entry (R259). -/
def State.released (s : State) (n : Nat) (k : Pkt) : State :=
  let s1 := ((s.setPkt (k.untrapped n)).cntDev (32 * n + 13) 1).progDrained n (s.progDrain n)
  match k.entry with
  | none => s1
  | some i => if kindCpl k.tkind then s1 else s1.updEntry i fun e => { e with trap := false }

theorem State.released_fields (s : State) {n : Nat} (hn : n < 32) (k : Pkt) : s.Reports (· = R.HPL_PSTS n) (s.released n k) ∧
    (s.released n k).pkts = (s.setPkt (k.untrapped n)).pkts := by
  obtain ⟨x, hcnt⟩ := State.cntDev_eq (s.setPkt (k.untrapped n)) (32 * n + 13) 1
  have hrep : s.Reports (· = R.HPL_PSTS n) (((s.setPkt (k.untrapped n)).cntDev (32 * n + 13) 1).progDrained n (s.progDrain n)) := by
    rw [hcnt]
    exact .progDrained hn _ (.of_eq rfl rfl rfl le_rfl fun _ => id)
  have hpkts := (State.SameItems.progDrained (t := (s.setPkt (k.untrapped n)).cntDev (32 * n + 13) 1)
    ⟨rfl, rfl, rfl⟩ n (s.progDrain n)).pkts
  rw [hcnt] at hpkts
  unfold State.released
  dsimp only
  split
  · exact ⟨hrep, hcnt ▸ hpkts⟩
  · split
    · exact ⟨hrep, hcnt ▸ hpkts⟩
    · exact ⟨hrep.trans (.of_eq rfl rfl rfl le_rfl fun _ => id), hcnt ▸ hpkts⟩

theorem State.trapped_of_empty {s : State} {n slot : Nat} (h : s.at (.trap n slot) = []) : s.trapped n slot = none := by
  rw [State.trapped, h]
  rfl

/-- A verdict on an empty slot shows BADV. -/
theorem State.verdict_of_empty {s : State} {n : Nat} {v : Verdict} (kind : Nat) (h : s.at (.trap n v.slot) = []) :
    s.verdict n kind v = s.setFb (R.HPL_TSTS_BADV n) true := by
  rw [State.verdict, State.trapped_of_empty h]

/-- A verdict takes the packet out of its slot, and what the exit precedence leaves of its action takes effect. -/
theorem State.verdict_of_held {s u : State} {n kind : Nat} {v : Verdict} {k : Pkt} {a : Action} (hk : s.at (.trap n v.slot) = [k])
    (ht : k.trace = none) (hm : v.mod = 0) (hkind : kind ≠ 2)
    (hexit : (s.released n k).exitRows (k.untrapped n) (verdictAction kind v) = (u, a)) :
    s.verdict n kind v = u.deliverAction (k.untrapped n) a := by
  have htrapped : s.trapped n v.slot = some k := by rw [State.trapped, hk]; rfl
  have hbits (i : Nat) : v.mod.getLsbD i = false := by rw [hm]; exact BitVec.getLsbD_zero
  have hkept : ({ k with loc := .ingress n, trace := none } : Pkt) = k.untrapped n := by rw [Pkt.untrapped, ← ht]
  have hverdict : s.verdict n kind v =
      ((s.released n k).exitRows (k.untrapped n) (verdictAction kind v)).1.deliverAction (k.untrapped n)
        ((s.released n k).exitRows (k.untrapped n) (verdictAction kind v)).2 := by
    simp only [State.verdict, htrapped, if_neg hkind, ht, hbits, Bool.false_and, Bool.false_eq_true, if_false, hkept]
    rfl
  rw [hverdict, hexit]

/-- The packet is gone from its slot, and its action takes effect on it in the ingress queue. -/
theorem State.at_released {s : State} {n slot : Nat} {k : Pkt} (hn : n < 32) (hk : s.at (.trap n slot) = [k]) :
    ((s.released n k).setPkt (k.untrapped n)).at (.trap n slot) = [] := by
  have hid : ∀ x ∈ s.at (.trap n slot), x.id = k.id := by
    rw [hk]
    exact fun x hx => congrArg Pkt.id (List.mem_singleton.mp hx)
  have hmoved : (s.setPkt (k.untrapped n)).at (.trap n slot) = [] :=
    State.at_setPkt_moved hid (by simp [Pkt.untrapped])
  have hgone : (s.released n k).at (.trap n slot) = [] := by
    rw [State.at, (s.released_fields hn k).2]
    exact hmoved
  exact State.at_setPkt_moved (fun x hx => absurd hx (by rw [hgone]; exact List.not_mem_nil)) (by simp [Pkt.untrapped])

section
variable {s : State} {n : Nat} {v : Verdict} {k : Pkt} (hn : n < 32) (hk : s.at (.trap n v.slot) = [k]) (ht : k.trace = none) (hm : v.mod = 0)
include hn hk ht hm

theorem State.verdict_forwards (hc : k.cls ≠ 15) (hq : s.qOpen v.oper.toNat = true) (hp : v.polv = false) :
    s.verdict n 0 v = ((s.released n k).setPkt (k.untrapped n)).exitFwd (k.untrapped n)
      ⟨0, false, false, false, BitVec.ofNat 64 (v.oper.toNat + v.polidx.toNat * 2 ^ 16), v.mses⟩ := by
  have hoper : verdictAction 0 v = ⟨0, false, false, false, BitVec.ofNat 64 (v.oper.toNat + v.polidx.toNat * 2 ^ 16), v.mses⟩ := by
    simp [verdictAction, verdictOper, hp]
  have hqueue : wField 0 16 (BitVec.ofNat 64 (v.oper.toNat + v.polidx.toNat * 2 ^ 16)) = v.oper.toNat := by
    rw [wField_ofNat _ _ (by omega), natField]
    omega
  have hpolicer : (BitVec.ofNat 64 (v.oper.toNat + v.polidx.toNat * 2 ^ 16)).getLsbD 32 = false := by
    rw [BitVec.getLsbD_ofNat, Nat.testBit_lt_two_pow (by omega), Bool.and_false]
  have hopen : (s.released n k).qOpen v.oper.toNat = true := by
    rw [← hq, State.qOpen, State.qOpen, State.fb_congr ((s.released_fields hn k).1.rg _ schQCfg_ne_hplPsts)]
  have hexit := State.exitRows_of_fwd (s := s.released n k) (k := k.untrapped n) (a := verdictAction 0 v) rfl
    (by rwa [hoper, hqueue]) (by rw [hoper, hpolicer])
  rw [State.verdict_of_held hk ht hm (by decide) hexit, hoper]
  exact State.deliverAction_of_fwd ht rfl rfl hc

variable (hi : s.fb (R.MIR_PSRC_IEN k.inPort) = false)
include hi

omit hk ht hm in
theorem State.released_unmirrored : (s.released n k).fb (R.MIR_PSRC_IEN (k.untrapped n).inPort) = false :=
  (State.fb_congr ((s.released_fields hn k).1.rg _ (mirPsrc_ne_hplPsts hn))).trans hi

theorem State.verdict_drops {r : Nat} (hr : r = v.oper.toNat % 256) (hok : 0 < r ∧ r < 0x14 ∨ 0x40 ≤ r) :
    s.verdict n 1 v = ((s.released n k).setPkt (k.untrapped n)).exitDrop (k.untrapped n) r := by
  have hlt : v.oper.toNat < 2 ^ 64 := by omega
  have hreason : wField 0 8 (verdictAction 1 v).oper = r := (wField_ofNat _ _ hlt).trans (by simp [natField, hr])
  have hdropped : wField 0 8 ((verdictAction 1 v).dropped r).oper = r :=
    (wField_ofNat _ _ (by omega)).trans (by simp [natField, hr])
  have hexit := State.exitRows_of_drop (s := s.released n k) (k := k.untrapped n) (a := verdictAction 1 v) rfl
    (by rwa [hreason])
  have hoff := State.released_unmirrored hn hi
  rw [hreason] at hexit
  rw [State.verdict_of_held hk ht hm (by decide) hexit, State.deliverAction_of_drop (k := k.untrapped n) rfl hoff rfl, hdropped]

theorem State.verdict_synthesises (hnp : kindNp k.tkind = true) (hctx : k.nativeCtx = false) :
    s.verdict n 3 v = (((s.released n k).setPkt (k.untrapped n)).cntDev (32 * k.octet + 5) 1).synthesise
      (k.untrapped n) (v.oper.toNat % 8) := by
  have hstatus : wField 0 3 (verdictAction 3 v).oper = v.oper.toNat % 8 :=
    (wField_ofNat _ _ (show v.oper.toNat < 2 ^ 64 by omega)).trans (by simp [natField])
  have hexit := State.exitRows_of_synth (s := s.released n k) (k := k.untrapped n) (a := verdictAction 3 v) rfl hctx hnp
  have hoff := State.released_unmirrored hn hi
  rw [State.verdict_of_held hk ht hm (by decide) hexit, State.deliverAction_of_synth (k := k.untrapped n) rfl hoff rfl, hstatus]
  rfl

end

/-! ### The commands -/

theorem exec_headerPipelineRun_live {s t : State} {n : Octet} (h : s.live (domainOf (R.HPL_PSTS n)) = true) (ht : s.runPipeline n = t) :
    exec (.headerPipelineRun n) s = .next (s.acsWatch fun _ => t).settle := by
  rw [← State.acsWatch_congr (f := fun t => t.runPipeline n) (g := fun _ => t) ht]
  exact congrArg Host.Outcome.next (if_pos h)

section
variable {s t : State} {w : Writer} {n : Octet} {v : Verdict} (hw : s.reaches w (R.HPL_TVERD n) = true) (hpair : s.pairedOdd n = false)
include hw hpair

theorem State.tverdWrite_reaches {kind : Nat} (x : Word) (ht : s.verdict n kind v = t) :
    s.regCommand w (R.HPL_TVERD n) x (fun s => s.tverdWrite n kind v) = (s.acsWatch fun _ => t).settle := by
  rw [s.regCommand_of_reaches w _ _ _ hw, State.tverdWrite, hpair, 
    ← State.acsWatch_congr (f := fun t => t.verdict n kind v) (g := fun _ => t) ht]
  rfl

theorem exec_trapVerdictFwd_reaches (ht : s.verdict n 0 v = t) : exec (.trapVerdictFwd w n v) s = .next (s.acsWatch fun _ => t).settle :=
  congrArg Host.Outcome.next (State.tverdWrite_reaches hw hpair _ ht)

theorem exec_trapVerdictDrop_reaches (ht : s.verdict n 1 v = t) : exec (.trapVerdictDrop w n v) s = .next (s.acsWatch fun _ => t).settle :=
  congrArg Host.Outcome.next (State.tverdWrite_reaches hw hpair _ ht)

theorem exec_trapVerdictSynth_reaches (ht : s.verdict n 3 v = t) : exec (.trapVerdictSynth w n v) s = .next (s.acsWatch fun _ => t).settle :=
  congrArg Host.Outcome.next (State.tverdWrite_reaches hw hpair _ ht)

end

/-- Settles O47. -/
theorem pipelineRows : Obligations.PipelineRows := by
  refine ⟨fun s n k0 k hl hhead hoct hnat hk htrc hi => ⟨fun x a b hadm hf hx he hcincs hmarks hsprays hq hp hc => ?_,
    fun x hadm hf hctx hx hcincs hmarks hsprays => ?_, fun hen hcpl hctx => ?_⟩,
    fun s w n v hw hpair => ⟨fun hempty => ?_, fun k hheld ht hm hi => ⟨fun hc hq hpol => ?_, fun r hr hok => ?_, fun hnp hctx => ?_⟩⟩⟩
  · subst hk
    obtain ⟨hoct', -, -, -⟩ := s.stamp_fields hnat (s.sample n).2
    obtain ⟨u, hu, hpass⟩ := State.runPipeline_forwards hhead hnat htrc (Pkt.ofRun_native (s.stamp_native hnat _) x) hq hp hc
      (State.runHeader_of_fwd (s.entering_counted n k0) (hoct'.trans hoct) hadm hx hcincs hmarks hsprays hf he)
    exact ⟨_, exec_headerPipelineRun_live hl hpass, hu.regs, hu.tmem⟩
  · subst hk
    obtain ⟨hoct', hctx', hport, -⟩ := s.stamp_fields hnat (s.sample n).2
    obtain ⟨u, hu, hpass⟩ := State.runPipeline_drops hhead hnat htrc (Pkt.ofRun_native (s.stamp_native hnat _) x) (by decide)
      (by rwa [Pkt.ofRun_inPort, hport])
      (State.runHeader_of_fenced (s.entering_counted n k0) (hoct'.trans hoct) hadm hx hcincs hmarks hsprays (hctx'.trans hctx) hf)
    exact ⟨_, exec_headerPipelineRun_live hl hpass, hu.regs, hu.tmem⟩
  · subst hk
    obtain ⟨hoct', hctx', hport, hid⟩ := s.stamp_fields hnat (s.sample n).2
    have href : s.entryRefusal n (s.stamp k0 (s.sample n).2).ctxNo (s.stamp k0 (s.sample n).2) = some 0x10 := by
      rw [State.entryRefusal, hen]
      rfl
    obtain ⟨hgone, hents, hvdps⟩ := State.runPipeline_discards hhead hnat htrc (s.stamp_native hnat _) (by decide) (by rwa [hport])
      (by rwa [s.stamp_tkind hnat]) (hctx'.trans hctx) (State.runHeader_of_refusal (s.entering_counted n k0) (hoct'.trans hoct) href)
    have hacs : s.acsWatch (fun _ => s.runPipeline n) = s.runPipeline n := State.acsWatch_of_vdps hvdps
    rw [exec_headerPipelineRun_live hl rfl, hacs]
    exact ⟨_, rfl, hid ▸ hgone, hents⟩
  · have hbadv : s.acsWatch (fun _ => s.setFb (R.HPL_TSTS_BADV n) true) = s.setFb (R.HPL_TSTS_BADV n) true :=
      State.acsWatch_of_vdps (s.setFb_vdps _ _)
    rw [exec_trapVerdictFwd_reaches hw hpair (State.verdict_of_empty 0 hempty),
      exec_trapVerdictDrop_reaches hw hpair (State.verdict_of_empty 1 hempty),
      exec_trapVerdictSynth_reaches hw hpair (State.verdict_of_empty 3 hempty), hbadv]
    exact ⟨rfl, rfl, rfl⟩
  · obtain ⟨hrep, -⟩ := s.released_fields n.isLt k
    have hverdict := State.verdict_forwards n.isLt hheld ht hm hc hq hpol
    exact ⟨_, exec_trapVerdictFwd_reaches hw hpair hverdict, State.trapped_of_empty (State.at_released n.isLt hheld), hrep.tmem⟩
  · obtain ⟨hrep, -⟩ := s.released_fields n.isLt k
    have hverdict := State.verdict_drops n.isLt hheld ht hm hi hr hok
    exact ⟨_, exec_trapVerdictDrop_reaches hw hpair hverdict, State.trapped_of_empty (State.at_released n.isLt hheld), hrep.tmem⟩
  · obtain ⟨hrep, -⟩ := s.released_fields n.isLt k
    have hverdict := State.verdict_synthesises n.isLt hheld ht hm hi hnp hctx
    obtain ⟨x, hcnt⟩ := State.cntDev_eq ((s.released n k).setPkt (k.untrapped n)) (32 * k.octet + 5) 1
    refine ⟨_, exec_trapVerdictSynth_reaches hw hpair hverdict, ?_⟩
    rw [hcnt]
    exact ⟨State.trapped_of_empty (State.at_released n.isLt hheld), hrep.tmem⟩

end Sys2Proof.Machine
end

section
/-! PROOFS. The Gleaner's ring: O51 (R307, R311 to R314; log entry 76). -/

namespace Sys2Proof.Machine

/-! ### Masked words -/

/-- A field of a masked word, where the mask keeps all of it. -/
theorem wField_and_of_kept {lo width : Nat} {m : Word} (v : Word) (h : wField lo width m = 2 ^ width - 1) :
    wField lo width (v &&& m) = wField lo width v := by
  have hm : m.toNat / 2 ^ lo % 2 ^ width = 2 ^ width - 1 := h
  rw [wField, wField, natField, natField, BitVec.toNat_and, Nat.and_div_two_pow, Nat.and_mod_two_pow, hm, Nat.and_two_pow_sub_one_eq_mod,
    Nat.mod_mod]

/-- A field of one bit, as a flag. -/
theorem wField_one_ne_zero (k : Nat) (w : Word) : decide (wField k 1 w ≠ 0) = w.getLsbD k := by
  rw [wField_one]
  cases w.getLsbD k <;> rfl

/-! ### The counters of the ring -/

theorem State.fd_addFd (s : State) (x : Field) (n : Nat) (hx : tableView x.reg = none) (hw : x.lo + x.width ≤ 64) :
    (s.addFd x n).fd x = (s.fd x + n) % 2 ^ x.width :=
  s.fd_setFd x _ hx hw

/-! ### Records (R313, R314) -/

section
variable {s : State} {r : List Byte} {rest : List (List Byte)}

/-- A record in the analysis SRAM. -/
theorem State.glnWrite_of_sram (hh : s.fb R.GLN_CFG_HOST = false) : s.glnWrite r =
    ({ s with gln := { s.gln with sram := s.gln.sram.set [] (s.fd R.GLN_PROD_PROD % s.glnSize) r } } : State).addFd R.GLN_PROD_PROD 1 := by
  unfold State.glnWrite
  rw [hh]
  rfl

/-- What a record in the analysis SRAM changes. -/
theorem State.glnWrite_sram (hh : s.fb R.GLN_CFG_HOST = false) :
    (s.glnWrite r).gln = { s.gln with sram := s.gln.sram.set [] (s.fd R.GLN_PROD_PROD % s.glnSize) r } ∧
    (s.glnWrite r).fd R.GLN_PROD_PROD = (s.fd R.GLN_PROD_PROD + 1) % 2 ^ 32 ∧ (s.glnWrite r).tmem = s.tmem ∧ (s.glnWrite r).cmem = s.cmem ∧
    (s.glnWrite r).pkts = s.pkts := by
  rw [State.glnWrite_of_sram hh]
  exact ⟨State.addFd_gln _ _ _, State.fd_addFd _ _ _ (by decide) (by decide), State.setRg_tmem _ _ _ (by decide), State.addFd_cmem _ _ _,
    State.addFd_pkts _ _ _⟩

/-- The state whose oldest waiting record has been taken. -/
def State.glnPopped (s : State) : State := { s with gln := { s.gln with pendingRecs := s.gln.pendingRecs.tail } }

/-- The state whose run of losses has been told. -/
def State.glnRunEnded (s : State) : State := { s with gln := { s.gln with lostRun := 0 } }

theorem State.glnRunEnded_gln (s : State) : s.glnRunEnded.gln = { s.gln with lostRun := 0 } := rfl

theorem State.glnRunEnded_fd (s : State) (x : Field) : s.glnRunEnded.fd x = s.fd x := State.fd_congr (State.rg_congr rfl rfl _)

variable (hp : s.gln.pendingRecs = r :: rest) (hl : s.live 18 = true) (hb : s.captureBarred r = none)
include hp hl hb

/-- A record that no NOMIRROR bars is lost while the ring has no room. -/
theorem State.glnStep_lost (hroom : s.glnRoom = false) : s.glnStep =
    ({ s.glnPopped with gln := { s.glnPopped.gln with lostRun := s.gln.lostRun + 1 } } : State).addFd R.GLN_LOST_LOST 1 := by
  simp only [State.glnStep, hp, hl, hb, hroom, State.glnPopped, List.tail_cons]
  rfl

/-- After a loss a loss record is written first. -/
theorem State.glnStep_lossRecord (hroom : s.glnRoom = true) (hlost : 0 < s.gln.lostRun) :
    s.glnStep = (s.glnWrite s.lossRecord).glnRunEnded := by
  simp only [State.glnStep, hp, hl, hb, hroom, hlost]
  rfl

theorem State.glnStep_written (hroom : s.glnRoom = true) (hlost : s.gln.lostRun = 0) : s.glnStep = s.glnPopped.glnWrite r := by
  simp only [State.glnStep, hp, hl, hb, hroom, hlost, State.glnPopped, List.tail_cons]
  rfl

end

/-! ### GLN_CFG (R312) -/

/-- The word that a write of GLN_CFG leaves there: HOST and LOGREC are kept while EN is 1. -/
def State.glnCfgWord (s : State) (v : Word) : Word :=
  let w := v &&& 0x00000000000F1F07#64
  if s.fb R.GLN_CFG_EN then setWField 8 5 (setWField 1 1 w (s.fd R.GLN_CFG_HOST)) (s.fd R.GLN_CFG_LOGREC) else w

section
variable (s : State) (v : Word)

theorem State.glnCfgWord_fields : wField 0 1 (s.glnCfgWord v) = wField 0 1 v ∧ wField 2 1 (s.glnCfgWord v) = wField 2 1 v ∧
    wField 16 4 (s.glnCfgWord v) = wField 16 4 v ∧
    wField 8 5 (s.glnCfgWord v) = (if s.fb R.GLN_CFG_EN then s.fd R.GLN_CFG_LOGREC else wField 8 5 v) ∧
    wField 1 1 (s.glnCfgWord v) = (if s.fb R.GLN_CFG_EN then s.fd R.GLN_CFG_HOST else wField 1 1 v) := by
  have hlog : s.fd R.GLN_CFG_LOGREC % 2 ^ 5 = s.fd R.GLN_CFG_LOGREC := Nat.mod_eq_of_lt (s.fd_lt _)
  have hhost : s.fd R.GLN_CFG_HOST % 2 ^ 1 = s.fd R.GLN_CFG_HOST := Nat.mod_eq_of_lt (s.fd_lt _)
  unfold State.glnCfgWord
  split <;> simp (disch := decide) only [wField_setWField, wField_setWField_apart, wField_and_of_kept, hlog, hhost, and_self]

/-- The state that a write of GLN_CFG leaves, beside a restart of the ring. -/
theorem State.glnCfgSet_eq : s.glnCfgSet v =
    if wField 0 1 v = 1 then ((s.setRg R.GLN_CFG (s.glnCfgWord v)).setFd R.GLN_PROD_PROD 0).setFd R.GLN_CONS_CONS 0
    else s.setRg R.GLN_CFG (s.glnCfgWord v) := rfl

/-- GLN_CFG after it has been written; the ring's content stays. -/
theorem State.glnCfgSet_rg : (s.glnCfgSet v).rg R.GLN_CFG = s.glnCfgWord v ∧ (s.glnCfgSet v).gln = s.gln := by
  have hword : (s.setRg R.GLN_CFG (s.glnCfgWord v)).rg R.GLN_CFG = s.glnCfgWord v := (s.rg_setRg _ _ _ (by decide) (by decide)).trans (if_pos rfl)
  rw [State.glnCfgSet_eq]
  split
  · rw [State.rg_setFd_ne _ _ _ _ (by decide) (by decide), State.rg_setFd_ne _ _ _ _ (by decide) (by decide)]
    exact ⟨hword, by simp⟩
  · exact ⟨hword, s.setRg_gln _ _⟩

/-- A field of GLN_CFG after it has been written. -/
theorem State.glnCfgSet_fd {x : Field} (hx : x.reg = R.GLN_CFG) : (s.glnCfgSet v).fd x = wField x.lo x.width (s.glnCfgWord v) := by
  rw [State.fd, hx, (s.glnCfgSet_rg v).1]

theorem State.glnCfgSet_fb {x : Field} (hx : x.reg = R.GLN_CFG) :
    (s.glnCfgSet v).fb x = decide (wField x.lo x.width (s.glnCfgWord v) ≠ 0) := by
  rw [State.fb, s.glnCfgSet_fd v hx]

/-- EN written 1 restarts the ring. -/
theorem State.glnCfgSet_enabled (hv : wField 0 1 v = 1) : (s.glnCfgSet v).fd R.GLN_PROD_PROD = 0 ∧ (s.glnCfgSet v).fd R.GLN_CONS_CONS = 0 := by
  rw [State.glnCfgSet_eq, if_pos hv]
  refine ⟨?_, State.fd_setFd _ _ _ (by decide) (by decide)⟩
  rw [State.fd_setFd_apart _ _ _ _ (by decide) (by decide) (.inl (by decide))]
  exact State.fd_setFd _ _ _ (by decide) (by decide)

end

/-! ### The commands -/

theorem exec_gleanerRecordWrite (s : State) : exec .gleanerRecordWrite s = .next s.glnStep := rfl

theorem exec_glnCfgWrite_reaches {s : State} {w : Writer} (v : Word) (h : s.reaches w R.GLN_CFG = true) :
    exec (.glnCfgWrite w v) s = .next (s.glnCfgSet v) :=
  congrArg Host.Outcome.next (s.regCommand_of_reaches w _ _ _ h)

/-- Settles O51. The loss record takes a command of its own (log entry 76). -/
theorem gleanerRows : Obligations.GleanerRows := by
  refine ⟨fun s hp => ?_, fun s r rest hp hl hb => ⟨fun hroom hh hlost => ?_, fun hroom hh hlost => ?_, fun hroom => ?_⟩, fun s w v hw => ?_⟩
  · rw [exec_gleanerRecordWrite, State.glnStep, hp]
  · obtain ⟨hgln, hprod, htmem, hcmem, hpkts⟩ := State.glnWrite_sram (s := s.glnPopped) (r := r) hh
    refine ⟨_, (exec_gleanerRecordWrite s).trans (congrArg _ (State.glnStep_written hp hl hb hroom hlost)), ?_, ?_, hprod, htmem, hcmem, hpkts⟩
    · rw [hgln]
      exact congrArg List.tail hp
    · rw [hgln]
      exact SMap.get_set_self _ _ _ _
  · obtain ⟨hgln, hprod, -⟩ := State.glnWrite_sram (s := s) (r := s.lossRecord) hh
    refine ⟨_, (exec_gleanerRecordWrite s).trans (congrArg _ (State.glnStep_lossRecord hp hl hb hroom hlost)), ?_, rfl, ?_,
      (State.glnRunEnded_fd _ _).trans hprod⟩
    · rw [State.glnRunEnded_gln, hgln]
      exact hp
    · rw [State.glnRunEnded_gln, hgln, SMap.get_set_self]
      rfl
  · refine ⟨_, (exec_gleanerRecordWrite s).trans (congrArg _ (State.glnStep_lost hp hl hb hroom)), ?_, ?_,
      State.fd_addFd _ _ _ (by decide) (by decide), ?_⟩
    · rw [State.addFd_gln]
      exact congrArg List.tail hp
    · rw [State.addFd_gln]
    · rw [State.addFd_gln]
      rfl
  · obtain ⟨hen, hstop, hapr, hlog, hhost⟩ := s.glnCfgWord_fields v
    have hflag {m n : Nat} (h : m = n) : decide (m ≠ 0) = decide (n ≠ 0) := h ▸ rfl
    refine ⟨_, exec_glnCfgWrite_reaches v hw, ?_, ?_, (s.glnCfgSet_fd v rfl).trans hapr, (s.glnCfgSet_fd v rfl).trans hlog, ?_, fun hv => ?_,
      (s.glnCfgSet_rg v).2⟩
    · exact (s.glnCfgSet_fb v rfl).trans ((hflag hen).trans (wField_one_ne_zero 0 v))
    · exact (s.glnCfgSet_fb v rfl).trans ((hflag hstop).trans (wField_one_ne_zero 2 v))
    · refine (s.glnCfgSet_fb v rfl).trans ((hflag hhost).trans ?_)
      split
      · rfl
      · exact wField_one_ne_zero 1 v
    · exact s.glnCfgSet_enabled v (by rw [wField_one, hv]; rfl)

end Sys2Proof.Machine
end

section
/-! PROOFS. Queue contexts, lengths, calendars, shapers and policers: O50 (R321, R322, R335, R343, R345, R346, R350, R352, R354, R755). -/

namespace Sys2Proof.SMap

variable {α : Type}

/-- An index that reads as something of its own is listed. -/
theorem mem_keys_of_get_ne {d : α} {m : SMap α} {k : Nat} (h : get d m k ≠ d) : k ∈ m.map fun e => e.1 := by
  induction m with
  | nil => exact absurd rfl h
  | cons e m ih =>
    by_cases he : e.1 = k
    · exact he ▸ .head _
    · exact .tail _ (ih fun hm => h ((if_neg he).trans hm))

end Sys2Proof.SMap

namespace Sys2Proof.Machine

/-! ### Folds over operations on single places -/

section
variable {α β : Type} {f : State → β → State} {g : State → α} {s : State} {l : List β}

/-- What each operation leaves, all of them leave. -/
theorem foldl_leaves (hf : ∀ t b, b ∈ l → g (f t b) = g t) : g (l.foldl f s) = g s := by
  induction l generalizing s with
  | nil => rfl
  | cons b l ih => exact (ih fun t c hc => hf t c (.tail _ hc)).trans (hf s b (.head _))

/-- A place that one operation of the list alone works on is found by it as it was before the list, and left as it leaves it. -/
theorem foldl_visits_once {b : β} (hf : ∀ t c, c ≠ b → g (f t c) = g t) (hl : l.Nodup) (hb : b ∈ l) :
    ∃ t, g t = g s ∧ g (l.foldl f s) = g (f t b) := by
  obtain ⟨l₁, l₂, rfl⟩ := List.append_of_mem hb
  obtain ⟨-, hl₂, hdisj⟩ := List.nodup_append.mp hl
  refine ⟨l₁.foldl f s, foldl_leaves fun t c hc => hf t c (hdisj c hc b (.head _)), ?_⟩
  rw [List.foldl_append, List.foldl_cons]
  exact foldl_leaves fun t c hc => hf t c fun hcb => (List.nodup_cons.mp hl₂).1 (hcb ▸ hc)

end

/-! ### Queue contexts (R321, R322) -/

theorem tableView_above {a : Nat} (h : 0x1400000 ≤ a) : tableView a = none := by
  rw [tableView, if_neg (by omega), if_neg (by omega)]

theorem tableView_schQCfg (n : Nat) : tableView (R.SCH_Q_CFG n) = none := tableView_above (Nat.le_add_right _ _)

/-- The word that a write leaves in SCH_Q[q]_CFG. -/
def queueCfgWord (v : Word) : Word := v &&& 0x0000FFFF01FFFFFF#64

/-- The state that a refused enable of a queue context leaves. -/
def State.queueRefused (s : State) (q : Nat) (v : Word) : State :=
  ((s.setRg (R.SCH_Q_CFG q) (setWField 0 1 (queueCfgWord v) 0)).setFb R.SCH_STS_QREJ true).setFd R.SCH_STS_QREJQ q

section
variable {s : State} {q : Nat} {v : Word}

/-- A queue context in use is not moved to another port. -/
theorem State.schQWrite_inUse (hcls : wField 8 4 v < 8) (hen : s.fb (R.SCH_Q_CFG_EN q) = true) (hp : wField 1 7 v ≠ s.qPort q) :
    s.schQWrite q v = s.setFb R.SCH_STS_INUSE true := by
  simp [State.schQWrite, Nat.not_le.mpr hcls, hen, hp]

/-- The enable of an empty queue context. -/
theorem State.schQWrite_enable (hcls : wField 8 4 v < 8) (hen : s.fb (R.SCH_Q_CFG_EN q) = false) (hat : s.at (.queue q) = [])
    (hv : v.getLsbD 0 = true) : s.schQWrite q v =
      if q = 0 ∨ s.quota (wField 12 13 v) R.TBL_PG_CAP1_QCTX R.TNT_QLDG_QCTX ≤ s.qctxUsed (wField 12 13 v) then s.queueRefused q v
      else s.setRg (R.SCH_Q_CFG q) (queueCfgWord v) := by
  have hv1 : wField 0 1 v = 1 := by rw [wField_one, hv]; rfl
  simp [State.schQWrite, Nat.not_le.mpr hcls, hen, State.qPkts, hat, hv1, State.queueRefused, queueCfgWord]

theorem State.queueRefused_status (hq : q < 65536) : (s.queueRefused q v).fb R.SCH_STS_QREJ = true ∧
    (s.queueRefused q v).fd R.SCH_STS_QREJQ = q := by
  constructor
  · rw [State.queueRefused, State.fb, State.fd_setFd_apart _ _ _ _ (by decide) (by decide) (.inr (.inl (by decide)))]
    exact State.fb_setFb _ _ _ (by decide) (by decide) rfl
  · rw [State.queueRefused, State.fd_setFd _ _ _ (by decide) (by decide)]
    exact Nat.mod_eq_of_lt hq

/-- A field of a refused queue context. -/
theorem State.queueRefused_fd {x : Field} (hx : x.reg = R.SCH_Q_CFG q) (hq : q < 65536) :
    (s.queueRefused q v).fd x = wField x.lo x.width (setWField 0 1 (queueCfgWord v) 0) := by
  have hne : R.SCH_Q_CFG q ≠ R.SCH_STS := by unfold R.SCH_Q_CFG R.SCH_STS; omega
  rw [State.fd, hx, State.queueRefused, State.rg_setFd_ne _ _ _ _ (by decide) hne, State.setFb, State.rg_setFd_ne _ _ _ _ (by decide) hne,
    State.rg_setRg _ _ _ _ (tableView_schQCfg q) (tableView_schQCfg q), if_pos rfl]

end

/-! ### Lengths and calendars (R335, R343, R755) -/

theorem tableView_schPrtCal (p : Nat) : tableView (R.SCH_PRT_CAL p) = none := tableView_above (by unfold R.SCH_PRT_CAL; omega)

/-- The word that a write leaves in SCH_PRT[p]_CAL. -/
def calCfgWord (v : Word) : Word := v &&& 0xFFFFFFFF000FFF7F#64

/-- The state that a refused enable of a calendar leaves. -/
def State.calRefused (s : State) (p : Nat) (v : Word) : State :=
  ((s.setRg (R.SCH_PRT_CAL p) (setWField 0 1 (calCfgWord v) 0)).setFb R.SCH_STS_CALREJ true).setFd R.SCH_STS_CALPORT p

section
variable {s : State} {p : Nat} {v : Word}

/-- A length register is written, or the write refused by what its mode needs. -/
theorem State.schLenSet_eq : s.schLenSet p v =
    if v.getLsbD 0 = true ∧ (wField 32 8 v = 0 ∨ wField 40 10 v = 0) ∨ v.getLsbD 0 = false ∧ wField 16 16 v = 0 then
      (s.setFb R.SCH_STS_LENREJ true).setFd R.SCH_STS_LENPORT p
    else s.setRg (R.SCH_PRT_LEN p) (v &&& 0x0003FFFFFFFFFF01#64) := by
  rw [State.schLenSet, wField_one]
  cases v.getLsbD 0 <;> simp

/-- The enable of a calendar that is not in force. -/
theorem State.calWrite_enable (hen : s.fb (R.SCH_PRT_CAL_EN p) = false) (hv : v.getLsbD 0 = true) : s.calWrite p v =
    if s.calFits p v = true then (s.setRg (R.SCH_PRT_CAL p) (calCfgWord v)).calLoad p else s.calRefused p v := by
  have hv1 : wField 0 1 v = 1 := by rw [wField_one, hv]; rfl
  simp [State.calWrite, hv1, hen, calCfgWord, State.calRefused]

/-- Window `j` of the calendar that is enabled at port `p`. -/
def State.calSlot (s : State) (p j : Nat) : Word :=
  if j < s.fd (R.TBL_PG_CFG_SLOTS (wField 1 6 (s.rg (R.SCH_PRT_CAL p)))) then
    s.rg (R.SCH_SLOT (wField 1 6 (s.rg (R.SCH_PRT_CAL p))) j) &&& 0x9FFF#64
  else 0

/-- Window `j` of port `p` taken into force. -/
def State.slotLoad (s : State) (p j : Nat) (x : Word) : State :=
  { s with sch := { s.sch with slotNow := s.sch.slotNow.set 0 (p * 256 + j) x } }

/-- The word and the number of windows of a calendar taken into force. -/
def State.calStarted (s : State) (p : Nat) : State :=
  ({ s with sch := { s.sch with calNow := s.sch.calNow.set 0 p (s.rg (R.SCH_PRT_CAL p)) } } : State).slotLoad p 255
    (BitVec.ofNat 64 (s.fd (R.TBL_PG_CFG_SLOTS (wField 1 6 (s.rg (R.SCH_PRT_CAL p))))))

theorem State.slotWord_slotLoad_self (j : Nat) (x : Word) : (s.slotLoad p j x).slotWord p j = x := SMap.get_set_self _ _ _ _

theorem State.slotWord_slotLoad_ne {i j : Nat} (x : Word) (h : i ≠ j) : (s.slotLoad p i x).slotWord p j = s.slotWord p j :=
  SMap.get_set_ne _ _ _ _ _ (by omega)

theorem State.calLoad_eq : s.calLoad p = (List.range 255).foldl (fun t j => t.slotLoad p j (s.calSlot p j)) (s.calStarted p) := rfl

/-- What the windows of a calendar are no part of, its windows leave. -/
theorem State.calLoad_leaves {α : Type} {g : State → α} (h : ∀ t j x, j ≠ 255 → g (State.slotLoad t p j x) = g t) :
    g (s.calLoad p) = g (s.calStarted p) :=
  foldl_leaves fun _ j hj => h _ j _ (by have := List.mem_range.mp hj; omega)

/-- What a calendar taken into force leaves, and its word. -/
theorem State.calLoad_word : (s.calLoad p).regs = s.regs ∧ (s.calLoad p).tmem = s.tmem ∧ (s.calLoad p).now = s.now ∧
    (s.calLoad p).calWord p = s.rg (R.SCH_PRT_CAL p) :=
  ⟨State.calLoad_leaves (g := State.regs) fun _ _ _ _ => rfl, State.calLoad_leaves (g := State.tmem) fun _ _ _ _ => rfl,
    State.calLoad_leaves (g := State.now) fun _ _ _ _ => rfl,
    (State.calLoad_leaves (g := fun t => t.calWord p) fun _ _ _ _ => rfl).trans (SMap.get_set_self _ _ _ _)⟩

/-- The number of windows of a calendar taken into force. -/
theorem State.calLoad_count : (s.calLoad p).slotWord p 255 =
    BitVec.ofNat 64 (s.fd (R.TBL_PG_CFG_SLOTS (wField 1 6 (s.rg (R.SCH_PRT_CAL p))))) :=
  (State.calLoad_leaves (g := fun t => t.slotWord p 255) fun _ _ x hj => State.slotWord_slotLoad_ne x hj).trans
    (State.slotWord_slotLoad_self _ _)

/-- A window of a calendar taken into force. -/
theorem State.calLoad_slot {j : Nat} (hj : j < 255) : (s.calLoad p).slotWord p j = s.calSlot p j := by
  obtain ⟨t, -, ht⟩ := foldl_visits_once (s := s.calStarted p) (f := fun t j => t.slotLoad p j (s.calSlot p j)) (g := fun t => t.slotWord p j)
    (fun t c hc => State.slotWord_slotLoad_ne _ hc) List.nodup_range (List.mem_range.mpr hj)
  exact ht.trans (State.slotWord_slotLoad_self _ _)

theorem State.calRefused_status (hp : p < 128) : (s.calRefused p v).fb (R.SCH_PRT_CAL_EN p) = false ∧
    (s.calRefused p v).fb R.SCH_STS_CALREJ = true ∧ (s.calRefused p v).fd R.SCH_STS_CALPORT = p ∧ (s.calRefused p v).calWord p = s.calWord p := by
  have hne : R.SCH_PRT_CAL p ≠ R.SCH_STS := by unfold R.SCH_PRT_CAL R.SCH_STS; omega
  refine ⟨State.fb_of_fd_eq_zero ?_, ?_, ?_, ?_⟩
  · rw [State.fd, State.calRefused, State.rg_setFd_ne _ _ _ _ (by decide) hne, State.setFb, State.rg_setFd_ne _ _ _ _ (by decide) hne]
    exact (congrArg _ ((s.rg_setRg _ _ _ (tableView_schPrtCal p) (tableView_schPrtCal p)).trans (if_pos rfl))).trans
      (wField_setWField 0 1 _ _ (by decide))
  · rw [State.calRefused, State.fb, State.fd_setFd_apart _ _ _ _ (by decide) (by decide) (.inr (.inl (by decide)))]
    exact State.fb_setFb _ _ _ (by decide) (by decide) rfl
  · rw [State.calRefused, State.fd_setFd _ _ _ (by decide) (by decide)]
    exact Nat.mod_eq_of_lt hp
  · rw [State.calWord, State.calRefused, State.setFd_sch, State.setFb_sch, State.setRg_sch]
    rfl

end

/-! ### Shapers and policers (R345, R346, R350, R352, R354) -/

/-- Shaper `i`: its held word, its word in force, its tokens. -/
def State.shaperAt (s : State) (i : Nat) : Option Word × Word × Int :=
  (s.sch.shpPend.get none i, s.sch.shpCfg.get 0 i, s.sch.tokens.get 0 i)

/-- Policer `i`: its registers, its RATE in force, its buckets. -/
def State.policerAt (s : State) (i : Nat) : Word × Word × Word × Nat × Nat :=
  (s.rg (R.POL_RATE i), s.rg (R.POL_BURST i), s.polRate i, s.sch.ctok.get 0 i, s.sch.ptok.get 0 i)

/-- Whether the word of a shaper or of a policer enables it. -/
theorem enabled_iff (w : Word) : wField 24 1 w = 1 ↔ w.getLsbD 24 = true := by
  rw [wField_one]
  cases w.getLsbD 24 <;> decide

theorem ne_zero_of_getLsbD {w : Word} {k : Nat} (h : w.getLsbD k = true) : w ≠ 0 := by
  rintro rfl
  simp at h

section
variable {s : State} {i j : Nat}

/-- The word written to a shaper is held for the tick, and nothing else of the schedulers changes. -/
theorem State.shpWrite_sch (s : State) (i : Nat) (v : Word) :
    (s.shpWrite i v).sch = { s.sch with shpPend := s.sch.shpPend.set none i (some (v &&& 0xFFFFFFFF01FFFFFF#64)) } := by
  simp only [State.shpWrite, State.setRg_sch]

theorem State.shpTick_shaperAt_ne (h : j ≠ i) : (s.shpTick j).shaperAt i = s.shaperAt i := by
  simp only [State.shpTick, State.shaperAt, SMap.get_set_ne _ _ _ _ _ h.symm]

/-- An enabled shaper without a held word at a tick. -/
theorem State.shpTick_shaperAt_refill {c : Word} {k : Int} (hs : s.shaperAt i = (none, c, k)) (hc : c.getLsbD 24 = true)
    (hb : wField 32 32 c ≠ 0) :
    (s.shpTick i).shaperAt i = (none, c, min (k + (wField 0 24 c : Nat)) ((wField 32 32 c * 256 : Nat) : Int)) := by
  simp only [State.shaperAt, Prod.mk.injEq] at hs
  obtain ⟨hp, hcfg, hk⟩ := hs
  simp only [State.shpTick, State.shaperAt, SMap.get_set_self, hp, hcfg, hk]
  simp [(enabled_iff c).mpr hc, hb]

/-- A shaper that its held word enables at a tick. -/
theorem State.shpTick_shaperAt_rise {c w : Word} {k : Int} (hs : s.shaperAt i = (some c, w, k)) (hc : c.getLsbD 24 = true)
    (hw : wField 24 1 w = 0) (hb : wField 32 32 c ≠ 0) :
    (s.shpTick i).shaperAt i = (none, c, ((wField 32 32 c * 256 : Nat) : Int)) := by
  simp only [State.shaperAt, Prod.mk.injEq] at hs
  obtain ⟨hp, hcfg, -⟩ := hs
  simp only [State.shpTick, State.shaperAt, SMap.get_set_self, hp, hcfg]
  simp [(enabled_iff c).mpr hc, hw, hb]

theorem State.polTick_policerAt_ne (h : j ≠ i) : (s.polTick j).policerAt i = s.policerAt i := by
  have hrg (a : Nat) : (s.polTick j).rg a = s.rg a := State.rg_congr rfl rfl a
  have hrate : (s.polTick j).polRate i = s.polRate i :=
    (SMap.get_set_ne _ _ _ _ _ (by omega)).trans (SMap.get_set_ne _ _ _ _ _ (by omega))
  have hctok : (s.polTick j).sch.ctok.get 0 i = s.sch.ctok.get 0 i := SMap.get_set_ne _ _ _ _ _ h.symm
  have hptok : (s.polTick j).sch.ptok.get 0 i = s.sch.ptok.get 0 i := SMap.get_set_ne _ _ _ _ _ h.symm
  rw [State.policerAt, hrg, hrg, hrate, hctok, hptok]
  rfl

/-- The buckets of a policer in force at a tick. -/
theorem State.polTick_policerAt_refill {c b w : Word} {m k : Nat} (hs : s.policerAt i = (c, b, w, m, k)) (hc : c.getLsbD 24 = true)
    (hw : wField 24 1 w = 1) : (s.polTick i).sch.ctok.get 0 i = min (m + wField 0 24 c) (wField 0 32 b * 256) ∧
      (s.polTick i).sch.ptok.get 0 i = min (k + wField 32 24 c) (wField 32 32 b * 256) := by
  simp only [State.policerAt, Prod.mk.injEq] at hs
  obtain ⟨hr, hb, hrate, hm, hk⟩ := hs
  simp only [State.polTick, SMap.get_set_self, hr, hb, hrate, hm, hk]
  simp [(enabled_iff c).mpr hc, hw]

/-- A shaper with a held word, or with a word in force, changes at a tick. -/
theorem State.mem_shpListed (h : s.sch.shpPend.get none i ≠ none ∨ s.sch.shpCfg.get 0 i ≠ 0) : i ∈ s.shpListed :=
  List.mem_dedup.mpr (List.mem_append.mpr (h.imp SMap.mem_keys_of_get_ne SMap.mem_keys_of_get_ne))

/-- A policer with a word in force changes at a tick. -/
theorem State.mem_polListed (h : s.polRate i ≠ 0) : i ∈ s.polListed := by
  obtain ⟨e, he, hei⟩ := List.mem_map.mp (SMap.mem_keys_of_get_ne h)
  exact List.mem_dedup.mpr (List.mem_append.mpr (.inl (List.mem_map.mpr ⟨e, he, by omega⟩)))

end

/-- The state whose shapers and policers a tick updates: time has come to the tick. -/
def State.tickStarted (s : State) : State :=
  let s1 := s.toMultiple 128 (decide (s.sch.lastTick = s.time.toNat / 128 + 1))
  { s1 with sch := { s1.sch with lastTick := s1.time.toNat / 128 + 1 } }

/-- Time passes to a multiple and nothing else changes. -/
theorem State.toMultiple_eq (s : State) (n : Nat) (again : Bool) : ∃ t, s.now ≤ t ∧ s.toMultiple n again = { s with now := t } := by
  by_cases h : s.time.toNat % n = 0 ∧ !again
  · exact ⟨s.now, le_rfl, if_pos h⟩
  · exact ⟨_, (s.waitUntil_now _).1, if_neg h⟩

section
variable {s : State} {i : Nat}

/-- What the start of a tick leaves: all but the time and the number of the last tick. -/
theorem State.tickStarted_eq : ∃ t n, s.now ≤ t ∧ s.tickStarted = { s with now := t, sch := { s.sch with lastTick := n } } := by
  obtain ⟨t, ht, h⟩ := s.toMultiple_eq 128 (decide (s.sch.lastTick = s.time.toNat / 128 + 1))
  refine ⟨t, ({ s with now := t } : State).time.toNat / 128 + 1, ht, ?_⟩
  rw [State.tickStarted, h]

/-- What neither shapers nor policers change is after a tick as at its start. -/
theorem State.tick_leaves {α : Type} {g : State → α} (hs : ∀ t i, g (t.shpTick i) = g t) (hp : ∀ t i, g (t.polTick i) = g t) :
    g s.tick = g s.tickStarted :=
  (foldl_leaves fun t i _ => hp t i).trans (foldl_leaves fun t i _ => hs t i)

/-- A listed shaper is ticked once, as it was before the tick. -/
theorem State.tick_shaperAt (h : i ∈ s.tickStarted.shpListed) : ∃ t : State,
    t.shaperAt i = s.shaperAt i ∧ s.tick.shaperAt i = (t.shpTick i).shaperAt i := by
  obtain ⟨t, ht, he⟩ := foldl_visits_once (s := s.tickStarted) (f := fun t i => t.shpTick i) (g := fun t => t.shaperAt i)
    (fun t j => State.shpTick_shaperAt_ne) (List.nodup_dedup _) h
  obtain ⟨_, _, -, hst⟩ := s.tickStarted_eq
  have hpol := foldl_leaves (s := s.tickStarted.shpListed.foldl (fun t i => t.shpTick i) s.tickStarted) (l := s.tickStarted.polListed)
    (f := fun t i => t.polTick i) (g := fun t => t.shaperAt i) fun _ _ _ => rfl
  exact ⟨t, ht.trans (by rw [hst]; rfl), hpol.trans he⟩

theorem State.shpTick_policerAt (j : Nat) : (s.shpTick j).policerAt i = s.policerAt i := by
  have hrg (a : Nat) : (s.shpTick j).rg a = s.rg a := State.rg_congr rfl rfl a
  rw [State.policerAt, hrg, hrg]
  rfl

theorem State.tickStarted_policerAt : s.tickStarted.policerAt i = s.policerAt i := by
  obtain ⟨t, n, -, h⟩ := s.tickStarted_eq
  have hrg (a : Nat) : s.tickStarted.rg a = s.rg a := State.rg_congr (by rw [h]) (by rw [h]) a
  rw [State.policerAt, hrg, hrg, h]
  rfl

/-- A listed policer is ticked once, as it was before the tick. -/
theorem State.tick_policerAt (h : i ∈ s.tickStarted.polListed) : ∃ t : State,
    t.policerAt i = s.policerAt i ∧ s.tick.policerAt i = (t.polTick i).policerAt i := by
  obtain ⟨t, ht, he⟩ := foldl_visits_once (s := s.tickStarted.shpListed.foldl (fun t i => t.shpTick i) s.tickStarted)
    (f := fun t i => t.polTick i) (g := fun t => t.policerAt i) (fun t j => State.polTick_policerAt_ne) (List.nodup_dedup _) h
  have hshp := foldl_leaves (s := s.tickStarted) (l := s.tickStarted.shpListed) (g := fun t => t.policerAt i) fun t j _ => t.shpTick_policerAt j
  exact ⟨t, ht.trans (hshp.trans s.tickStarted_policerAt), he⟩

/-- What a tick leaves, while time goes on. -/
theorem State.tick_frame : s.now ≤ s.tick.now ∧ s.tick.tmem = s.tmem ∧ s.tick.pkts = s.pkts ∧ s.tick.regs = s.regs := by
  obtain ⟨t, n, ht, hst⟩ := s.tickStarted_eq
  rw [State.tick_leaves (g := State.now) (fun _ _ => rfl) fun _ _ => rfl, State.tick_leaves (g := State.tmem) (fun _ _ => rfl) fun _ _ => rfl,
    State.tick_leaves (g := State.pkts) (fun _ _ => rfl) fun _ _ => rfl, State.tick_leaves (g := State.regs) (fun _ _ => rfl) fun _ _ => rfl, hst]
  exact ⟨ht, rfl, rfl, rfl⟩

/-- The start of a tick leaves the words of shapers. -/
theorem State.mem_shpListed_tickStarted (h : s.sch.shpPend.get none i ≠ none ∨ s.sch.shpCfg.get 0 i ≠ 0) : i ∈ s.tickStarted.shpListed := by
  obtain ⟨t, n, -, hst⟩ := s.tickStarted_eq
  exact State.mem_shpListed (by rw [hst]; exact h)

/-- An enabled shaper without a held word gets RATE tokens more, up to BURST (R345, R346). -/
theorem State.tick_shaper_refill {c : Word} (hp : s.sch.shpPend.get none i = none) (hc : s.sch.shpCfg.get 0 i = c)
    (hen : c.getLsbD 24 = true) (hb : wField 32 32 c ≠ 0) : s.tick.sch.tokens.get 0 i =
      min (s.sch.tokens.get 0 i + (wField 0 24 c : Nat)) ((wField 32 32 c * 256 : Nat) : Int) := by
  obtain ⟨u, hu, htick⟩ := State.tick_shaperAt (State.mem_shpListed_tickStarted (.inr (hc ▸ ne_zero_of_getLsbD hen)))
  have h := htick.trans (State.shpTick_shaperAt_refill (hu.trans (by rw [State.shaperAt, hp, hc])) hen hb)
  exact congrArg (fun x => x.2.2) h

/-- A shaper that its held word enables begins with BURST (R345, R346). -/
theorem State.tick_shaper_rise {c : Word} (hp : s.sch.shpPend.get none i = some c) (hen : c.getLsbD 24 = true)
    (hw : wField 24 1 (s.sch.shpCfg.get 0 i) = 0) (hb : wField 32 32 c ≠ 0) :
    s.tick.sch.tokens.get 0 i = ((wField 32 32 c * 256 : Nat) : Int) ∧ s.tick.sch.shpCfg.get 0 i = c ∧
      s.tick.sch.shpPend.get none i = none := by
  obtain ⟨u, hu, htick⟩ := State.tick_shaperAt (State.mem_shpListed_tickStarted (.inl (hp ▸ Option.some_ne_none c)))
  have h := htick.trans (State.shpTick_shaperAt_rise (hu.trans (by rw [State.shaperAt, hp])) hen hw hb)
  exact ⟨congrArg (fun x => x.2.2) h, congrArg (fun x => x.2.1) h, congrArg (fun x => x.1) h⟩

/-- The buckets of a policer that is enabled and in force grow by their rates, up to their bursts (R352, R354). -/
theorem State.tick_policer_refill {c b : Word} (hc : s.rg (R.POL_RATE i) = c) (hb : s.rg (R.POL_BURST i) = b) (hen : c.getLsbD 24 = true)
    (hrate : wField 24 1 (s.polRate i) = 1) :
    s.tick.sch.ctok.get 0 i = min (s.sch.ctok.get 0 i + wField 0 24 c) (wField 0 32 b * 256) ∧
      s.tick.sch.ptok.get 0 i = min (s.sch.ptok.get 0 i + wField 32 24 c) (wField 32 32 b * 256) := by
  obtain ⟨t, n, -, hst⟩ := s.tickStarted_eq
  have hlisted : s.polRate i ≠ 0 := ne_zero_of_getLsbD ((enabled_iff _).mp hrate)
  obtain ⟨u, hu, htick⟩ := State.tick_policerAt (State.mem_polListed (by rw [hst]; exact hlisted))
  obtain ⟨hctok, hptok⟩ := State.polTick_policerAt_refill (hu.trans (by rw [State.policerAt, hc, hb])) hen hrate
  exact ⟨(congrArg (fun x => x.2.2.2.1) htick).trans hctok, (congrArg (fun x => x.2.2.2.2) htick).trans hptok⟩

end

/-! ### The commands -/

section
variable {s : State} {w : Writer} {v : Word}

theorem exec_schQCfgWrite_reaches {q : BitVec 16} (h : s.reaches w (R.SCH_Q_CFG q.toNat) = true) :
    exec (.schQCfgWrite w q v) s = .next (s.schQWrite q.toNat v) := congrArg Host.Outcome.next (s.regCommand_of_reaches w _ _ _ h)

theorem exec_schLenWrite_reaches {p : Port} (h : s.reaches w (R.SCH_PRT_LEN p) = true) :
    exec (.schLenWrite w p v) s = .next (s.schLenSet p v) := congrArg Host.Outcome.next (s.regCommand_of_reaches w _ _ _ h)

theorem exec_schCalEnable_reaches {p : Port} (h : s.reaches w (R.SCH_PRT_CAL p) = true) :
    exec (.schCalEnable w p v) s = .next (s.calWrite p v) := congrArg Host.Outcome.next (s.regCommand_of_reaches w _ _ _ h)

theorem exec_shpCfgWrite_reaches {i : Fin 16384} (h : s.reaches w (R.SHP_CFG i) = true) :
    exec (.shpCfgWrite w i v) s = .next (s.shpWrite i v) := congrArg Host.Outcome.next (s.regCommand_of_reaches w _ _ _ h)

theorem exec_polCfgWrite_reaches {i : Fin 16384} {burst : Bool} (h : s.reaches w (if burst then R.POL_BURST i else R.POL_RATE i) = true) :
    exec (.polCfgWrite w i burst v) s = .next (s.polWrite i burst v) := congrArg Host.Outcome.next (s.regCommand_of_reaches w _ _ _ h)

/-- A calendar in force at the start of a period. -/
theorem exec_calendarPeriodStart_inForce {p : Port} (h : wField 0 1 (s.calWord p) = 1) :
    exec (.calendarPeriodStart p) s = .next ((s.toMultiple (wField 32 32 (s.calWord p)) false).calLoad p) :=
  congrArg Host.Outcome.next (if_neg (by rw [h]; decide))

theorem exec_refillTick : exec .refillTick s = .next s.tick := rfl

/-- A register of a policer is neither guarded nor exposed by recovery, and lies in the domain of all of them (R66, R152, R724). -/
theorem polReg_reaches {a : Nat} (h1 : 0x1680000 ≤ a) (h2 : a < 0x1700000) :
    s.reaches w a = (!s.inRecovery && s.live 9) := by
  have hdom : domainOf a = 9 := by
    simp only [domainOf, show ¬ a < 0x100000 by omega, show ¬ a < 0x300000 by omega, show ¬ a < 0x600000 by omega,
      show ¬ a < 0x680000 by omega, show ¬ a < 0x6C0000 by omega, show ¬ a < 0x700000 by omega, show ¬ a < 0x7E0000 by omega,
      show ¬ a < 0x1400000 by omega, show ¬ (0x1700000 ≤ a ∧ a < 0x1708000) by omega, show a < 0x1800000 by omega, if_true, if_false]
  have hgrd : guardedReg a = false := by
    simp [guardedReg, show ¬ a < 0xC000 by omega, show ¬ a < 0x14000 by omega, show ¬ 0x1FC0000 ≤ a by omega]
  have hrec : recoveryWrites a = false := by
    simp [recoveryWrites, mailboxReg, R.SEC_FLCTL, R.SEC_FLBUF, show ¬ a < 0x388000 by omega, show ¬ 0x10000000 ≤ a by omega,
      show ¬ a = 0x1FC0018 by omega, show ¬ 0x1FC0100 ≤ a by omega]
  simp [State.reaches, hdom, hgrd, hrec]

theorem State.reaches_polBurst {i : Nat} (hi : i < 16384) (h : s.reaches w (R.POL_RATE i) = true) : s.reaches w (R.POL_BURST i) = true := by
  rwa [polReg_reaches (by unfold R.POL_BURST; omega) (by unfold R.POL_BURST; omega),
    ← polReg_reaches (a := R.POL_RATE i) (by unfold R.POL_RATE; omega) (by unfold R.POL_RATE; omega)]

end

/-- Settles O50, command by command. -/
theorem schedulerRegisterRows : Obligations.SchedulerRegisterRows := by
  refine ⟨fun s w q v n hn hw hcls => ?_, fun s w p v hw => ?_, fun s w p v hw hen hv => ?_, fun s p g hcal hg => ?_, fun s w i v hw => ?_,
    fun s w i v hw => ?_, fun s => ?_⟩
  · subst hn
    rw [exec_schQCfgWrite_reaches hw]
    refine ⟨fun hen hp => congrArg _ (State.schQWrite_inUse hcls hen hp), fun hen hat hv => ?_⟩
    rw [State.schQWrite_enable hcls hen hat hv]
    refine ⟨fun hq hroom => congrArg _ (if_neg (not_or.mpr ⟨hq, Nat.not_le.mpr hroom⟩)), fun hrej => ⟨_, congrArg _ (if_pos hrej), ?_⟩⟩
    obtain ⟨hrejected, hnumber⟩ := State.queueRefused_status (s := s) (v := v) q.isLt
    refine ⟨State.fb_of_fd_eq_zero ?_, hrejected, hnumber, ?_, ?_⟩
    · exact (State.queueRefused_fd rfl q.isLt).trans (wField_setWField 0 1 _ _ (by decide))
    · exact (State.queueRefused_fd rfl q.isLt).trans
        ((wField_setWField_apart 0 1 1 7 _ _ (by decide) (by decide)).trans (wField_and_of_kept _ (by decide)))
    · exact (State.queueRefused_fd rfl q.isLt).trans
        ((wField_setWField_apart 0 1 32 16 _ _ (by decide) (by decide)).trans (wField_and_of_kept _ (by decide)))
  · rw [exec_schLenWrite_reaches hw, State.schLenSet_eq]
    refine ⟨fun hbad => congrArg _ (if_pos hbad), fun hok => congrArg _ (if_neg ?_)⟩
    rcases hok with ⟨hb, hok⟩ | ⟨hb, hok⟩ <;> rw [hb] <;> simpa using hok
  · rw [exec_schCalEnable_reaches hw, State.calWrite_enable hen hv]
    refine ⟨fun hfit => ⟨_, congrArg _ (if_pos hfit), ?_⟩, fun hfit =>
      ⟨_, congrArg _ (if_neg (Bool.not_eq_true _ ▸ hfit)), State.calRefused_status p.isLt⟩⟩
    obtain ⟨hregs, htmem, -, hword⟩ := State.calLoad_word (s := s.setRg (R.SCH_PRT_CAL p) (calCfgWord v)) (p := p)
    have hcal : (s.setRg (R.SCH_PRT_CAL p) (calCfgWord v)).rg (R.SCH_PRT_CAL p) = calCfgWord v :=
      (s.rg_setRg _ _ _ (tableView_schPrtCal p) (tableView_schPrtCal p)).trans (if_pos rfl)
    exact ⟨(State.rg_congr htmem hregs _).trans hcal, hword.trans hcal⟩
  · obtain ⟨t, ht, he⟩ := s.toMultiple_eq (wField 32 32 (s.calWord p)) false
    obtain ⟨hregs, -, hnow, hword⟩ := State.calLoad_word (s := { s with now := t }) (p := p)
    subst hg
    refine ⟨_, (exec_calendarPeriodStart_inForce hcal).trans (by rw [he]), hword, ht.trans_eq hnow.symm, State.calLoad_count,
      fun j hj hj255 => ?_, hregs⟩
    exact (State.calLoad_slot hj255).trans (if_pos hj)
  · have hview : tableView (R.SHP_CFG i) = none := tableView_above (by unfold R.SHP_CFG; omega)
    refine ⟨_, exec_shpCfgWrite_reaches hw, (State.rg_congr rfl rfl _).trans ((s.rg_setRg _ _ _ hview hview).trans (if_pos rfl)), ?_⟩
    rw [State.shpWrite_sch]
    exact ⟨by simp only [SMap.get_set_self], rfl, rfl⟩
  · exact ⟨exec_polCfgWrite_reaches hw, exec_polCfgWrite_reaches (State.reaches_polBurst i.isLt hw)⟩
  · obtain ⟨hnow, htmem, hpkts, hregs⟩ := s.tick_frame
    exact ⟨_, exec_refillTick, hnow, htmem, hpkts, hregs, fun i c => State.tick_shaper_refill, fun i c => State.tick_shaper_rise,
      fun i c b => State.tick_policer_refill⟩

end Sys2Proof.Machine
end

section
/-! PROOFS. What events, training and operations on the lanes of an octet leave unchanged: what O52 and O53 need (R127, R274, R379, R380, R465). -/

namespace Sys2Proof.Machine

/-! ### Beside the registers -/

/-- Packets, the ledger, cores, native links and lanes stay as they are, and no time passes. -/
structure State.Still (s t : State) : Prop where
  pkts : t.pkts = s.pkts
  ldg : t.ldg = s.ldg
  cores : t.cores = s.cores
  links : t.links = s.links
  phys : t.phys = s.phys
  now : t.now = s.now

namespace State.Still

variable {s t u : State}

theorem refl : s.Still s := ⟨rfl, rfl, rfl, rfl, rfl, rfl⟩

theorem trans (h : s.Still t) (h' : t.Still u) : s.Still u :=
  ⟨h'.pkts.trans h.pkts, h'.ldg.trans h.ldg, h'.cores.trans h.cores, h'.links.trans h.links, h'.phys.trans h.phys, h'.now.trans h.now⟩

theorem ite {p : Prop} [Decidable p] (h : s.Still t) (h' : s.Still u) : s.Still (if p then t else u) := by
  split
  · exact h
  · exact h'

theorem setFd (h : s.Still t) (x : Field) (v : Nat) : s.Still (t.setFd x v) :=
  h.trans ⟨t.setFd_pkts x v, t.setFd_ldg x v, t.setFd_cores x v, t.setFd_links x v, t.setFd_phys x v, t.setFd_now x v⟩

theorem setFb (h : s.Still t) (x : Field) (b : Bool) : s.Still (t.setFb x b) := h.setFd x _

theorem almAppend (h : s.Still t) (src flags code : Nat) (p0 p1 : Word) : s.Still (t.almAppend src flags code p0 p1) := by
  unfold State.almAppend
  refine setFd (h.trans ?_) _ _
  exact ⟨rfl, rfl, rfl, rfl, rfl, rfl⟩

theorem almSuppress (h : s.Still t) (w : Trigger) : s.Still (t.almSuppress w) :=
  (h.almAppend Src.alm.code 0 0x0003 (BitVec.ofNat 64 w.code) 0).setFd R.ALM_STS_SUPPR _

/-- A pending trigger is shown in ALM_STS. -/
theorem almPending (h : s.Still t) (w : Trigger) :
    s.Still (({ t with alm := { t.alm with waiting := [w] } }).setFb R.ALM_STS_PEND true) := by
  refine setFb (h.trans ?_) _ _
  exact ⟨rfl, rfl, rfl, rfl, rfl, rfl⟩

theorem almTrigger (h : s.Still t) (code recSeq : Nat) : s.Still (t.almTrigger code recSeq) := by
  have happ := h.almAppend Src.alm.code 0 (0x0010 + code) (BitVec.ofNat 64 recSeq) 0
  unfold State.almTrigger
  dsimp only
  refine ite h (ite (happ.almSuppress _) ?_)
  split
  · exact ite (happ.almSuppress _) (happ.almPending _)
  · exact ite ((happ.almSuppress _).almPending _) (happ.almSuppress _)

theorem queueEvent (h : s.Still t) (src q : Nat) (e : Event) : s.Still (t.queueEvent src q e) := by
  have hheld : s.Still (t.holdEvent src q e) := h.trans ⟨rfl, rfl, rfl, rfl, rfl, rfl⟩
  have hqueued : s.Still (t.setEvq q (t.evq q ++ [e])) := h.trans ⟨rfl, rfl, rfl, rfl, rfl, rfl⟩
  exact ite (ite hqueued hheld) (ite (h.setFd _ _) hheld)

theorem postEvent (h : s.Still t) (src : Src) (unit : Nat) (q : Option Nat) (typ arg : Nat) (detail : Word) :
    s.Still (t.postEvent src unit q typ arg detail) := by
  have happ := h.almAppend src.code 1 (typ * 256) (BitVec.ofNat 64 arg) detail
  have hrec : s.Still (t.almRecord src.code 1 (typ * 256) (BitVec.ofNat 64 arg) detail) := ite (happ.almTrigger _ _) happ
  cases q with
  | none => exact hrec
  | some n => exact hrec.queueEvent _ n _

theorem setPort (h : s.Still t) (q : Nat) (x : PciPort) : s.Still (t.setPort q x) := h.trans ⟨rfl, rfl, rfl, rfl, rfl, rfl⟩

theorem bufReport (h : s.Still t) (port : Nat) (detail : Word) : s.Still (t.bufReport port 1 detail) := h.postEvent _ _ _ _ _ _

/-- Reservations are placed, or do not fit. -/
theorem place (h : s.Still t) (p : Nat) : s.Still (t.place p) := by
  unfold State.place
  extract_lets role x y s2 s1 a b x1 held
  have h2 : s.Still s2 := ((h.setPort _ _).setFb _ _).setFd _ _
  have h1 : s.Still s1 := ite h (ite (h.setPort _ _) (h2.bufReport _ _))
  exact ite h (ite h1 (ite h1 (ite (h1.setPort _ _) (((h1.setPort _ _).setFb _ _).setFd _ _))))

theorem train (h : s.Still t) (p : Nat) : s.Still (t.train p) := by
  unfold State.train
  extract_lets x s1
  have h1 : s.Still s1 := h.setPort _ _
  exact ite h (ite (h.place p) (ite (h1.setPort _ _) (h1.place p)))

end State.Still

/-! ### Operations on lanes -/

/-- An operation on lanes: of the registers it writes those of `P`; packets, the ledger, cores and links stay as they are, and time does not
go back. -/
structure State.LaneStep (P : Nat → Prop) (s t : State) : Prop where
  reports : s.Reports P t
  pkts : t.pkts = s.pkts
  ldg : t.ldg = s.ldg
  cores : t.cores = s.cores
  links : t.links = s.links
  now : s.now ≤ t.now

namespace State.LaneStep

variable {P Q : Nat → Prop} {s t u : State}

theorem refl : s.LaneStep P s := ⟨.refl, rfl, rfl, rfl, rfl, le_rfl⟩

theorem trans (h : s.LaneStep P t) (h' : t.LaneStep P u) : s.LaneStep P u :=
  ⟨h.reports.trans h'.reports, h'.pkts.trans h.pkts, h'.ldg.trans h.ldg, h'.cores.trans h.cores, h'.links.trans h.links, h.now.trans h'.now⟩

theorem mono (h : s.LaneStep P t) (hq : ∀ a, P a → Q a) : s.LaneStep Q t := ⟨h.reports.mono hq, h.pkts, h.ldg, h.cores, h.links, h.now⟩

theorem ite {p : Prop} [Decidable p] (h : s.LaneStep P t) (h' : s.LaneStep P u) : s.LaneStep P (if p then t else u) := by
  split
  · exact h
  · exact h'

theorem of_still (h : s.Reports P t) (h' : s.Still t) : s.LaneStep P t := ⟨h, h'.pkts, h'.ldg, h'.cores, h'.links, h'.now.ge⟩

theorem rg (h : s.LaneStep P t) {a : Nat} (ha : ¬P a) : t.rg a = s.rg a := h.reports.rg a ha

theorem tmem (h : s.LaneStep P t) : t.tmem = s.tmem := h.reports.tmem

theorem fd (h : s.LaneStep P t) {x : Field} (hx : ¬P x.reg) : t.fd x = s.fd x := State.fd_congr (h.rg hx)

theorem fb (h : s.LaneStep P t) {x : Field} (hx : ¬P x.reg) : t.fb x = s.fb x := State.fb_congr (h.rg hx)

theorem setFd (h : s.LaneStep P t) {x : Field} (v : Nat) (hx : P x.reg) (hv : tableView x.reg = none) : s.LaneStep P (t.setFd x v) :=
  h.trans (.of_still (State.Reports.refl.setFd v hx hv) (State.Still.refl.setFd x v))

theorem setFb (h : s.LaneStep P t) {x : Field} (b : Bool) (hx : P x.reg) (hv : tableView x.reg = none) : s.LaneStep P (t.setFb x b) :=
  h.setFd _ hx hv

theorem setRg (h : s.LaneStep P t) {a : Nat} (w : Word) (ha : P a) (hv : tableView a = none) : s.LaneStep P (t.setRg a w) :=
  h.trans ⟨⟨fun b hb => t.rg_setRg_ne a b w hv fun e => hb (e ▸ ha), t.setRg_tmem a w hv, t.setRg_vdps a w,
    (congrArg AlmState.seqNext (t.setRg_alm a w)).ge, fun _ ho => (t.setRg_out a w).symm ▸ ho⟩,
    t.setRg_pkts a w, t.setRg_ldg a w, t.setRg_cores a w, t.setRg_links a w, (t.setRg_now a w).ge⟩

theorem setPhy (h : s.LaneStep P t) (n : Nat) (x : Phy) : s.LaneStep P (t.setPhy n x) :=
  h.trans ⟨.of_eq rfl rfl rfl le_rfl fun _ => id, rfl, rfl, rfl, rfl, le_rfl⟩

theorem emit (h : s.LaneStep P t) (o : Output) : s.LaneStep P (t.emit o) :=
  h.trans ⟨State.Reports.refl.emit o, rfl, rfl, rfl, rfl, le_rfl⟩

theorem bumpFv (h : s.LaneStep P t) : s.LaneStep P t.bumpFv := h.trans ⟨State.Reports.refl.bumpFv, rfl, rfl, rfl, rfl, le_rfl⟩

theorem waitUntil (h : s.LaneStep P t) (n : Nat) : s.LaneStep P (t.waitUntil n) :=
  h.trans ⟨.of_eq rfl rfl rfl le_rfl fun _ => id, rfl, rfl, rfl, rfl, (t.waitUntil_now n).1⟩

theorem wearRearm (h : s.LaneStep P t) (kind idx : Nat) : s.LaneStep P (t.wearRearm kind idx) :=
  h.trans ⟨.of_eq rfl rfl rfl le_rfl fun _ => id, rfl, rfl, rfl, rfl, le_rfl⟩

theorem withPcn (h : s.LaneStep P t) (x : PcnState) : s.LaneStep P { t with pcn := x } :=
  h.trans ⟨.of_eq rfl rfl rfl le_rfl fun _ => id, rfl, rfl, rfl, rfl, le_rfl⟩

theorem cntDev (h : s.LaneStep P t) (i n : Nat) : s.LaneStep P (t.cntDev i n) := by
  obtain ⟨x, hx⟩ := t.cntDev_eq i n
  exact hx ▸ h.withPcn x

theorem cntPort (h : s.LaneStep P t) (p k n : Nat) : s.LaneStep P (t.cntPort p k n) := by
  obtain ⟨x, hx⟩ := t.cntPort_eq p k n
  exact hx ▸ h.withPcn x

theorem linkEvent (h : s.LaneStep P t) (hp : ∀ a, noticeReg a → P a) (src : Src) (p st : Nat) : s.LaneStep P (t.linkEvent src p st) :=
  h.trans (.of_still ((State.Reports.refl.postEvent (Src.freeQueue_lt _ _)).mono hp) (State.Still.refl.postEvent _ _ _ _ _ _))

theorem place (s : State) (p : Nat) : s.LaneStep trainReg (s.place p) := .of_still (State.Trained.refl.place p).reports (State.Still.refl.place p)

theorem foldl {α : Type} {f : State → α → State} {l : List α} (h : s.LaneStep P t) (hf : ∀ (u : State), ∀ x ∈ l, u.LaneStep P (f u x)) :
    s.LaneStep P (l.foldl f t) :=
  List.foldlRecOn l f h fun u hu x hx => hu.trans (hf u x hx)

end State.LaneStep

end Sys2Proof.Machine
end

section
/-! PROOFS. Entry to a training state of a native octet: what O52 needs (R363, R379, R390, R425; log entry 110). -/

namespace Sys2Proof.Machine

/-! ### Registers of an octet -/

theorem tableView_phySts {m : Nat} (hm : m ≤ 32) : tableView (R.PHY_STS m) = none := tableView_of_lt (by unfold R.PHY_STS; omega)

theorem tableView_phySub {m : Nat} (hm : m < 32) : tableView (R.PHY_SUB m) = none := tableView_of_lt (by unfold R.PHY_SUB; omega)

theorem tableView_phyCtl {m : Nat} (hm : m < 32) : tableView (R.PHY_CTL m) = none := tableView_of_lt (by unfold R.PHY_CTL; omega)

theorem tableView_lnkSts {m : Nat} (hm : m < 32) : tableView (R.LNK_STS m) = none := tableView_of_lt (by unfold R.LNK_STS; omega)

theorem tableView_lnEq {m i : Nat} (hm : m < 32) (hi : i < 9) : tableView (R.LN_EQ m i) = none :=
  tableView_of_lt (by unfold R.LN_EQ; omega)

theorem linkPort_lt {m : Nat} (hm : m < 32) : linkPort m < 128 := by unfold linkPort; omega

/-- The registers that training and events write lie apart from those of the octets. -/
theorem not_trainReg_of_octet {a : Nat} (h : 0x100000 ≤ a ∧ a ≤ 0x300008) : ¬trainReg a := by
  rintro ((rfl | rfl | ⟨q, -, rfl⟩) | rfl | rfl)
  · revert h; decide
  · revert h; decide
  · unfold R.EVT_Q_STS at h; omega
  · revert h; decide
  · revert h; decide

theorem not_noticeReg_of_octet {a : Nat} (h : 0x100000 ≤ a ∧ a ≤ 0x300008) : ¬noticeReg a := fun hn => not_trainReg_of_octet h (.inl hn)

theorem phySts_range {m : Nat} (hm : m ≤ 32) : 0x100000 ≤ R.PHY_STS m ∧ R.PHY_STS m ≤ 0x300008 := by unfold R.PHY_STS; omega

theorem phyCtl_range {m : Nat} (hm : m < 32) : 0x100000 ≤ R.PHY_CTL m ∧ R.PHY_CTL m ≤ 0x300008 := by unfold R.PHY_CTL; omega

theorem lnkSts_range {m : Nat} (hm : m < 32) : 0x100000 ≤ R.LNK_STS m ∧ R.LNK_STS m ≤ 0x300008 := by unfold R.LNK_STS; omega

/-- Two fields set one after the other in a number, as fields of its word. -/
theorem ofNat_setNatField_setNatField (lo width lo' width' : Nat) (w : Word) (v v' : Nat) (h : lo + width ≤ 64) :
    BitVec.ofNat 64 (setNatField lo' width' (setNatField lo width w.toNat v) v') = setWField lo' width' (setWField lo width w v) v' := by
  have hw : (setWField lo width w v).toNat = setNatField lo width w.toNat v := by
    rw [setWField, BitVec.toNat_ofNat, Nat.mod_eq_of_lt (setNatField_lt lo width _ v h w.isLt)]
  rw [← hw]
  rfl

/-! ### Operations of which entering a training state is made -/

/-- A substitution that ends writes OCT[m]_PHY_SUB alone. -/
theorem State.subAbandon_step {s : State} {m : Nat} (hm : m < 32) : s.LaneStep (· = R.PHY_SUB m) (s.subAbandon m) := by
  have hv := tableView_phySub hm
  unfold State.subAbandon
  extract_lets s1
  have h0 : s.LaneStep (· = R.PHY_SUB m) (s.setFd (R.PHY_SUB_STATE m) 4) := .setFd .refl _ rfl hv
  have h1 : s.LaneStep (· = R.PHY_SUB m) s1 := (h0.setFb (x := R.PHY_SUB_BUSY m) false rfl hv).cntDev _ _
  exact .ite .refl (h1.setPhy _ _)

/-- The registers that entry to a training state of octet `m` writes. -/
def enterReg (m a : Nat) : Prop :=
  noticeReg a ∨ a = R.PHY_STS m ∨ a = R.PHY_STS (m + 1) ∨ a = R.PHY_SUB m ∨ a = R.SCH_PRT_LEN (linkPort m)

theorem not_enterReg {m a : Nat} (h : 0x100000 ≤ a ∧ a ≤ 0x300008) (h8 : a % 0x10000 ≠ 8) (h16 : a % 0x10000 ≠ 16) :
    ¬enterReg m a := by
  rintro (hn | rfl | rfl | rfl | rfl)
  · exact not_noticeReg_of_octet h hn
  · unfold R.PHY_STS at h8; omega
  · unfold R.PHY_STS at h8; omega
  · unfold R.PHY_SUB at h16; omega
  · unfold R.SCH_PRT_LEN at h; omega

/-- The fields of PHY_STS registers that stay once the new state of octet `m` and its lock are written: these two, and of every octet the fields
beside state, width, lock, precoding and compatibility. -/
def keptField (m : Nat) (x : Field) : Prop :=
  ∃ k, k ≤ 32 ∧ x.reg = R.PHY_STS k ∧
    (k = m ∧ (x.lo + x.width ≤ 3 ∨ x.lo = 7 ∧ x.width = 1) ∨ 8 ≤ x.lo ∧ (x.lo + x.width ≤ 24 ∨ 25 ≤ x.lo))

/-- On the way into a training state of octet `m`. -/
structure State.Entering (m : Nat) (s t : State) : Prop where
  step : s.LaneStep (enterReg m) t
  kept : ∀ x, keptField m x → t.fd x = s.fd x

namespace State.Entering

variable {m : Nat} {s t u : State}

theorem refl : s.Entering m s := ⟨.refl, fun _ _ => rfl⟩

theorem ite {p : Prop} [Decidable p] (h : s.Entering m t) (h' : s.Entering m u) : s.Entering m (if p then t else u) := by
  split
  · exact h
  · exact h'

/-- An operation that writes no PHY_STS register. -/
theorem off {Q : Nat → Prop} (h : s.Entering m t) (hs : t.LaneStep Q u) (hq : ∀ a, Q a → enterReg m a)
    (hn : ∀ k, k ≤ 32 → ¬Q (R.PHY_STS k)) : s.Entering m u := by
  refine ⟨h.step.trans (hs.mono hq), fun x hx => ?_⟩
  rw [← h.kept x hx]
  obtain ⟨k, hk, hr, -⟩ := hx
  exact hs.fd (hr ▸ hn k hk)

/-- An operation that writes no register. -/
theorem quiet (h : s.Entering m t) (hs : t.LaneStep (fun _ => False) u) : s.Entering m u := h.off hs (fun _ => False.elim) fun _ _ => id

theorem setPhy (h : s.Entering m t) (n : Nat) (x : Phy) : s.Entering m (t.setPhy n x) := h.quiet (.setPhy .refl n x)

theorem bumpFv (h : s.Entering m t) : s.Entering m t.bumpFv := h.quiet (.bumpFv .refl)

theorem sendTraining (h : s.Entering m t) (st : Nat) : s.Entering m (t.sendTraining m st) := h.quiet (.emit .refl _)

/-- Width, precoding or compatibility of the octet set. -/
theorem setFd (h : s.Entering m t) (hm : m < 32) {x : Field} (v : Nat) (hr : x.reg = R.PHY_STS m)
    (hx : 4 ≤ x.lo ∧ x.lo + x.width ≤ 7 ∨ x.lo = 24 ∧ x.width = 1) : s.Entering m (t.setFd x v) := by
  have hv : tableView x.reg = none := hr ▸ tableView_phySts hm.le
  refine ⟨h.step.setFd v (.inr (.inl hr)) hv, fun y hy => ?_⟩
  rw [← h.kept y hy]
  obtain ⟨k, -, -, hy⟩ := hy
  exact t.fd_setFd_apart x y v hv (by omega) (.inr (by omega))

theorem setFb (h : s.Entering m t) (hm : m < 32) {x : Field} (b : Bool) (hr : x.reg = R.PHY_STS m)
    (hx : 4 ≤ x.lo ∧ x.lo + x.width ≤ 7 ∨ x.lo = 24 ∧ x.width = 1) : s.Entering m (t.setFb x b) := h.setFd hm _ hr hx

theorem subAbandon (h : s.Entering m t) (hm : m < 32) : s.Entering m (t.subAbandon m) :=
  h.off (State.subAbandon_step hm) (fun _ e => .inr (.inr (.inr (.inl e)))) fun k _ e => by unfold R.PHY_STS R.PHY_SUB at e; omega

theorem setCompat (h : s.Entering m t) (hm : m < 32) (on : Bool) : s.Entering m (t.setCompat m on) := by
  have hlen := tableView_schPrtLen (linkPort_lt hm)
  refine ite h ((h.setFb hm on rfl (.inr ⟨rfl, rfl⟩)).off (.setRg (P := (· = R.SCH_PRT_LEN (linkPort m))) .refl _ rfl hlen)
    (fun _ e => .inr (.inr (.inr (.inr e)))) fun k hk e => ?_)
  unfold R.PHY_STS R.SCH_PRT_LEN at e
  omega

/-- The odd octet of the pair takes the low fields of its PHY_STS. -/
theorem pairState (h : s.Entering m t) (hm : m < 32) (st : Nat) : s.Entering m (t.pairState m st) := by
  unfold State.pairState
  split
  · exact h
  · extract_lets own w
    have hv : tableView (R.PHY_STS (m + 1)) = none := tableView_phySts hm
    refine ⟨h.step.setRg _ (.inr (.inr (.inl rfl))) hv, fun x hx => ?_⟩
    rw [← h.kept x hx]
    obtain ⟨k, -, hr, hx⟩ := hx
    by_cases hk : k = m + 1
    · have hreg : x.reg = R.PHY_STS (m + 1) := hk ▸ hr
      rw [State.fd, State.fd, hreg, t.rg_setRg _ _ _ hv hv, if_pos rfl, ofNat_setNatField_setNatField _ _ _ _ _ _ _ (by decide),
        wField_setWField_apart _ _ _ _ _ _ (by decide) (by omega), wField_setWField_apart _ _ _ _ _ _ (by decide) (by omega)]
    · refine State.fd_congr (t.rg_setRg_ne _ _ _ hv fun e => hk ?_)
      rw [hr] at e
      unfold R.PHY_STS at e
      omega

theorem linkEvent (h : s.Entering m t) (src : Src) (p st : Nat) : s.Entering m (t.linkEvent src p st) :=
  h.off (.linkEvent (P := noticeReg) .refl (fun _ => id) src p st) (fun _ => .inl) fun _ hk => not_noticeReg_of_octet (phySts_range hk)

end State.Entering

/-! ### Entry to a training state (R379) -/

section
variable {s : State} {m st : Nat} (hm : m < 32)
include hm

/-- Once the state and the lock are written, the rest of the entry follows. -/
theorem State.enterState_entering :
    ((s.setFd (R.PHY_STS_STATE m) st).setFb (R.PHY_STS_LOCK m) (st = 6)).Entering m (s.enterState m st) := by
  unfold State.enterState
  extract_lets _ s1 _ s2 _ s3 _ s3' s4
  have hwidth {t : State} (v : Nat) (h : s1.Entering m t) : s1.Entering m (t.setFd (R.PHY_STS_WIDTH m) v) :=
    h.setFd hm v rfl (.inl ⟨le_rfl, show 4 + 2 ≤ 7 by decide⟩)
  have h2 : s1.Entering m s2 := .setPhy .refl _ _
  have h3 : s1.Entering m s3 := .ite (hwidth _ h2) (hwidth _ ((h2.subAbandon hm).setPhy _ _))
  have h3' : s1.Entering m s3' := .ite (h3.setPhy _ _).bumpFv (.ite (h3.sendTraining _) h3)
  have h4 : s1.Entering m s4 :=
    .pairState (.ite ((h3'.setFb hm false rfl (.inl ⟨show 4 ≤ 6 by decide, le_rfl⟩)).setCompat hm _) h3') hm _
  exact .ite (h4.linkEvent _ _ _) h4

theorem State.enterState_step : s.LaneStep (enterReg m) (s.enterState m st) :=
  have hsts : enterReg m (R.PHY_STS m) := .inr (.inl rfl)
  ((State.LaneStep.refl.setFd _ hsts (tableView_phySts hm.le)).setFb _ hsts (tableView_phySts hm.le)).trans (State.enterState_entering hm).step

theorem State.enterState_phyState (hst : st < 8) : (s.enterState m st).phyState m = st := by
  have hv : tableView (R.PHY_STS m) = none := tableView_phySts hm.le
  have hkept := (State.enterState_entering (s := s) (st := st) hm).kept (R.PHY_STS_STATE m) ⟨m, hm.le, rfl, .inl ⟨rfl, .inl le_rfl⟩⟩
  have hlock := (s.setFd (R.PHY_STS_STATE m) st).fd_setFd_apart (R.PHY_STS_LOCK m) (R.PHY_STS_STATE m) (if decide (st = 6) then 1 else 0) hv
    (show 7 + 1 ≤ 64 by decide) (.inr (.inl (show 0 + 3 ≤ 7 by decide)))
  exact (hkept.trans (hlock.trans (s.fd_setFd _ _ hv (show 0 + 3 ≤ 64 by decide)))).trans (Nat.mod_eq_of_lt hst)

theorem State.enterState_lock : (s.enterState m st).fb (R.PHY_STS_LOCK m) = decide (st = 6) := by
  have hkept := (State.enterState_entering (s := s) (st := st) hm).kept (R.PHY_STS_LOCK m) ⟨m, hm.le, rfl, .inl ⟨rfl, .inr ⟨rfl, rfl⟩⟩⟩
  rw [State.fb, hkept]
  exact State.fb_setFb _ (R.PHY_STS_LOCK m) _ (tableView_phySts hm.le) (show 7 < 64 by decide) rfl

/-- A field of a PHY_STS register above the low fields and beside COMPAT. -/
theorem State.enterState_fd {k : Nat} {x : Field} (hr : x.reg = R.PHY_STS k) (hk : k ≤ 32) (hlo : 8 ≤ x.lo)
    (hx : x.lo + x.width ≤ 24 ∨ 25 ≤ x.lo) : (s.enterState m st).fd x = s.fd x := by
  have hset (t : State) (lo width v : Nat) (hf : lo + width ≤ 8) : (t.setFd ⟨R.PHY_STS m, lo, width⟩ v).fd x = t.fd x :=
    t.fd_setFd_apart ⟨R.PHY_STS m, lo, width⟩ x v (tableView_phySts hm.le) (hf.trans (by decide)) (.inr (.inr (hf.trans hlo)))
  exact ((State.enterState_entering hm).kept x ⟨k, hk, hr, .inr ⟨hlo, hx⟩⟩).trans
    ((hset (s.setFd (R.PHY_STS_STATE m) st) 7 1 _ (by decide)).trans (hset s 0 3 st (by decide)))

end

end Sys2Proof.Machine
end

section
/-! PROOFS. Training of a native octet: O52 (R274, R379, R380, R384, R391, R395, R409, R423, R424; log entry 110). -/

namespace Sys2Proof.Machine

/-! ### Octets and their heads (log entry 110) -/

theorem State.headOctet_lt (s : State) (n : Octet) : s.headOctet n < 32 := by
  unfold State.headOctet
  split <;> omega

theorem State.headOctet_congr {s t : State} (hmode : ∀ k, t.fd (R.PHY_CTL_MODE k) = s.fd (R.PHY_CTL_MODE k))
    (hrole : ∀ p, t.fd (R.PRT_CTX_ROLE p) = s.fd (R.PRT_CTX_ROLE p)) (n : Nat) : t.headOctet n = s.headOctet n := by
  have hoffers (k : Nat) : t.offersX16 k = s.offersX16 k := by simp only [State.offersX16, State.nativeRole, hmode, hrole]
  rw [State.headOctet, State.headOctet, hoffers]

/-! ### A link declared down (R423, R425) -/

theorem State.creditRestart_frame (s : State) (n : Nat) : (s.creditRestart n).regs = s.regs ∧ (s.creditRestart n).tmem = s.tmem ∧
    (s.creditRestart n).now = s.now ∧ (s.creditRestart n).links = s.links := by
  unfold State.creditRestart
  split <;> exact ⟨rfl, rfl, rfl, rfl⟩

section
variable {s : State} {m : Nat} (hm : m < 32)
include hm

/-- A link declared down, as its registers and records show it. -/
def State.downNoted (s : State) (m cause : Nat) : State :=
  (((s.setFb (R.LNK_STS_UP m) false).setFd (R.LNK_STS_DCAUSE m) cause).cntPort (linkPort m) 60 1).linkEvent .oct (linkPort m) 9

theorem State.downNoted_step (cause : Nat) : s.LaneStep (fun a => noticeReg a ∨ a = R.LNK_STS m) (s.downNoted m cause) := by
  have hv := tableView_lnkSts hm
  have h0 : s.LaneStep (fun a => noticeReg a ∨ a = R.LNK_STS m) (s.setFb (R.LNK_STS_UP m) false) := .setFb .refl _ (.inr rfl) hv
  exact ((h0.setFd (x := R.LNK_STS_DCAUSE m) cause (.inr rfl) hv).cntPort _ _ _).linkEvent (fun _ => .inl) _ _ _

theorem State.downNoted_cause {cause : Nat} (hc : cause < 8) : (s.downNoted m cause).fb (R.LNK_STS_UP m) = false ∧
    (s.downNoted m cause).fd (R.LNK_STS_DCAUSE m) = cause := by
  have hv := tableView_lnkSts hm
  have hlater : ((s.setFb (R.LNK_STS_UP m) false).setFd (R.LNK_STS_DCAUSE m) cause).LaneStep noticeReg (s.downNoted m cause) :=
    (State.LaneStep.refl.cntPort _ _ _).linkEvent (fun _ => id) _ _ _
  have hn : ¬noticeReg (R.LNK_STS m) := not_noticeReg_of_octet (lnkSts_range hm)
  constructor
  · rw [hlater.fb hn, State.fb, State.fd_setFd_apart _ (R.LNK_STS_DCAUSE m) (R.LNK_STS_UP m) cause hv (show 1 + 3 ≤ 64 by decide)
      (.inr (.inl (show 0 + 1 ≤ 1 by decide)))]
    exact s.fb_setFb (R.LNK_STS_UP m) false hv (show 0 < 64 by decide) rfl
  · rw [hlater.fd hn, State.fd_setFd _ (R.LNK_STS_DCAUSE m) cause hv (show 1 + 3 ≤ 64 by decide)]
    exact Nat.mod_eq_of_lt hc

/-- With no packets held, a declaration of link-down starts the link layer afresh and touches no packet. -/
theorem State.nativeDown_of_no_packets (hp : s.pkts = []) (cause : Nat) : (s.nativeDown m cause).regs = (s.downNoted m cause).regs ∧
    (s.nativeDown m cause).tmem = (s.downNoted m cause).tmem ∧ (s.nativeDown m cause).now = (s.downNoted m cause).now ∧
    (s.nativeDown m cause).link m = Link.reset := by
  have hnone : (s.downNoted m cause).pkts = [] := (State.downNoted_step hm cause).pkts.trans hp
  have hdown : s.nativeDown m cause = (((s.downNoted m cause).dropRx m true).setLink m Link.reset).creditRestart m := by
    unfold State.nativeDown
    extract_lets p s1 ids s2
    have hids : ids = [] := by
      have h1 : s1.pkts = [] := hnone
      simp [ids, h1]
    rw [hids]
    rfl
  rw [hdown]
  generalize s.downNoted m cause = u at hnone ⊢
  have hrx : u.dropRx m true = u.setLink m { u.link m with rxPkt := none } := by
    unfold State.dropRx
    extract_lets l u1
    split
    · rfl
    · next id _ =>
      have hpkt : u1.pkt? id = none := List.find?_eq_none.mpr fun k hk => absurd hk (by simp [u1, hnone])
      rw [hpkt]
  obtain ⟨hregs, htmem, hnow, hlinks⟩ := ((u.dropRx m true).setLink m Link.reset).creditRestart_frame m
  rw [hregs, htmem, hnow, State.link, hlinks, hrx]
  exact ⟨rfl, rfl, rfl, State.link_setLink_self _ _ _⟩

omit hm in
/-- The choice of a time reference writes GLB_TSYNC alone. -/
theorem State.reselectTime_step (s : State) : s.LaneStep (· = R.GLB_TSYNC) s.reselectTime := by
  have hv : tableView R.GLB_TSYNC = none := by decide
  have hset {t : State} (x : Field) (v : Nat) (hx : x.reg = R.GLB_TSYNC) (h : s.LaneStep (· = R.GLB_TSYNC) t) :
      s.LaneStep (· = R.GLB_TSYNC) (t.setFd x v) := h.setFd v hx (hx ▸ hv)
  have hall {t : State} (a b c d e : Nat) (h : s.LaneStep (· = R.GLB_TSYNC) t) : s.LaneStep (· = R.GLB_TSYNC)
      (((((t.setFd R.GLB_TSYNC_ROOT a).setFd R.GLB_TSYNC_DIST b).setFd R.GLB_TSYNC_PORT c).setFd R.GLB_TSYNC_SYNC d).setFd R.GLB_TSYNC_ISROOT e) :=
    hset _ _ rfl (hset _ _ rfl (hset _ _ rfl (hset _ _ rfl (hset _ _ rfl h))))
  unfold State.reselectTime
  split
  · refine hall _ _ _ _ _ (.ite .refl ?_)
    exact ⟨.of_eq rfl rfl rfl le_rfl fun _ => id, rfl, rfl, rfl, rfl, le_rfl⟩
  · exact hall _ _ _ _ _ .refl

theorem State.declareDown_phyState {cause st : Nat} (hst : st < 8) : (s.declareDown m cause st).phyState m = st := by
  have hne : R.PHY_STS m ≠ R.GLB_TSYNC := by unfold R.PHY_STS R.GLB_TSYNC; omega
  exact ((State.reselectTime_step _).fd hne).trans (State.enterState_phyState hm hst)

/-- With no packets held, a declared link-down shows its cause, starts the link afresh and leaves the other registers. -/
theorem State.declareDown_of_no_packets (hp : s.pkts = []) {cause : Nat} (hc : cause < 8) (st : Nat) :
    (s.declareDown m cause st).fb (R.LNK_STS_UP m) = false ∧ (s.declareDown m cause st).fd (R.LNK_STS_DCAUSE m) = cause ∧
    (s.declareDown m cause st).link m = Link.reset ∧ s.now ≤ (s.declareDown m cause st).now ∧
    (s.declareDown m cause st).rg (R.PHY_CTL m) = s.rg (R.PHY_CTL m) := by
  obtain ⟨hregs, htmem, hnow, hlink⟩ := State.nativeDown_of_no_packets hm hp cause
  have hnoted := State.downNoted_step (s := s) hm cause
  obtain ⟨hup, hcause⟩ := State.downNoted_cause (s := s) hm hc
  have hafter : (s.nativeDown m cause).LaneStep (fun a => enterReg m a ∨ a = R.GLB_TSYNC) (s.declareDown m cause st) :=
    ((State.enterState_step hm).mono fun _ => .inl).trans ((State.reselectTime_step _).mono fun _ => .inr)
  have hrg {a : Nat} (ha : 0x100000 ≤ a ∧ a ≤ 0x300008) (h8 : a % 0x10000 ≠ 8) (h16 : a % 0x10000 ≠ 16) :
      (s.declareDown m cause st).rg a = (s.downNoted m cause).rg a := by
    refine (hafter.rg ?_).trans (State.rg_congr htmem hregs a)
    rintro (he | rfl)
    · exact not_enterReg ha h8 h16 he
    · exact absurd ha (by decide)
  have hsts : (s.declareDown m cause st).rg (R.LNK_STS m) = (s.downNoted m cause).rg (R.LNK_STS m) :=
    hrg (lnkSts_range hm) (by unfold R.LNK_STS; omega) (by unfold R.LNK_STS; omega)
  refine ⟨(State.fb_congr hsts).trans hup, (State.fd_congr hsts).trans hcause, ?_, ?_, ?_⟩
  · rw [State.link, hafter.links]
    exact hlink
  · exact (hnoted.now.trans_eq hnow.symm).trans hafter.now
  · rw [hrg (phyCtl_range hm) (by unfold R.PHY_CTL; omega) (by unfold R.PHY_CTL; omega)]
    refine hnoted.rg ?_
    rintro (hn | e)
    · exact not_noticeReg_of_octet (phyCtl_range hm) hn
    · unfold R.PHY_CTL R.LNK_STS at e; omega

/-! ### Training starts and stops (R274, R379, R423) -/

/-- The registers that the start of training writes. -/
def startReg (m a : Nat) : Prop := trainReg a ∨ enterReg m a

theorem State.setCompat_step (on : Bool) : s.LaneStep (enterReg m) (s.setCompat m on) := ((State.Entering.refl (m := m)).setCompat hm on).step

theorem State.startTraining_step : s.LaneStep (startReg m) (s.startTraining m) := by
  have hplace : s.LaneStep (startReg m) (s.place (linkPort m)) := (State.LaneStep.place s _).mono fun _ => .inl
  refine .ite .refl (.ite hplace (hplace.trans (.mono ?_ fun _ => .inr)))
  exact (State.setCompat_step hm _).trans (State.enterState_step hm)

/-- An octet that may train enters DETECT. -/
theorem State.startTraining_phyState (h0 : s.phyState m = 0) (hmode : 2 ≤ s.fd (R.PHY_CTL_MODE m)) (htrain : s.fb (R.PHY_CTL_TRAIN m) = true)
    (hpair : m % 2 = 1 → s.offersX16 (m - 1) = false) (hplaced : (s.place (linkPort m)).isPlaced (linkPort m) = true) :
    (s.startTraining m).phyState m = 1 := by
  have hmay : ¬(s.phyState m ≠ 0 ∨ s.fd (R.PHY_CTL_MODE m) < 2 ∨ !s.fb (R.PHY_CTL_TRAIN m) ∨ (m % 2 = 1 ∧ s.offersX16 (m - 1))) := by
    rintro (h | h | h | ⟨h1, h2⟩)
    · exact h h0
    · omega
    · simp [htrain] at h
    · simp [hpair h1] at h2
  rw [State.startTraining, if_neg hmay]
  extract_lets s1
  rw [if_neg (by simp [s1, hplaced])]
  exact State.enterState_phyState hm (by decide)

omit hm in
theorem State.startTraining_of_trained (h : s.phyState m ≠ 0) : s.startTraining m = s := if_pos (.inl h)

/-- Training that stops leaves the octet that heads its link in DISABLED. -/
theorem State.stopTraining_phyState (hhead : s.headOctet m = m) : (s.stopTraining m).phyState m = 0 := by
  unfold State.stopTraining
  split
  · next h => exact h.resolve_right (not_not.mpr hhead)
  · split
    · exact State.declareDown_phyState hm (by decide)
    · exact State.enterState_phyState hm (by decide)

theorem State.stopTraining_ctl (hp : s.pkts = []) : (s.stopTraining m).rg (R.PHY_CTL m) = s.rg (R.PHY_CTL m) := by
  unfold State.stopTraining
  split
  · rfl
  · split
    · exact (State.declareDown_of_no_packets hm hp (by decide) 0).2.2.2.2
    · refine (State.enterState_step hm).rg (not_enterReg (phyCtl_range hm) ?_ ?_) <;> unfold R.PHY_CTL <;> omega

end

/-! ### Writes of OCT[m]_PHY_CTL (R379, R396, R397, R402, R423) -/

section
variable {s : State} {w : Writer} {m : Nat} {v : Word}

/-- PHY_CTL as written: MODE stays while a port of the octet trains or is up. -/
def State.ctlStored (s : State) (m : Nat) (v : Word) : State :=
  let s1 := if s.octetBusy m then s else s.setFd (R.PHY_CTL_MODE m) (wField 0 2 v)
  ((s1.setFd (R.PHY_CTL_PRECODE m) (wField 2 1 v)).setFd (R.PHY_CTL_TRAIN m) (wField 3 1 v)).setFd (R.PHY_CTL_HALF m) (wField 4 1 v)

/-- The PCIe/CXL ports of the octet train where they may. -/
def State.trainPorts (s : State) (m : Nat) : State := (List.range 4).foldl (fun t i => t.train (4 * m + i)) s

theorem State.trainPorts_step : s.LaneStep trainReg (s.trainPorts m) :=
  .foldl .refl fun _ i _ => .of_still (State.Trained.refl.train (4 * m + i)).reports (State.Still.refl.train (4 * m + i))

theorem State.trainPorts_phys : (s.trainPorts m).phys = s.phys :=
  List.foldlRecOn (motive := fun u : State => u.phys = s.phys) _ _ rfl fun _ hu i _ => (State.Still.refl.train (4 * m + i)).phys.trans hu

theorem State.ctlStored_still : s.Still (s.ctlStored m v) :=
  (((State.Still.ite .refl (.setFd .refl _ _)).setFd _ _).setFd _ _).setFd _ _

theorem State.ctlStored_fv : (s.ctlStored m v).fv = s.fv := by
  simp only [State.ctlStored, State.setFd_fv]
  split
  · rfl
  · exact s.setFd_fv _ _

theorem State.ctlStored_fields (hm : m < 32) : s.LaneStep (· = R.PHY_CTL m) (s.ctlStored m v) ∧
    (s.ctlStored m v).fd (R.PHY_CTL_TRAIN m) = wField 3 1 v ∧ (s.ctlStored m v).fd (R.PHY_CTL_HALF m) = wField 4 1 v ∧
    (wField 0 2 v = s.fd (R.PHY_CTL_MODE m) → (s.ctlStored m v).fd (R.PHY_CTL_MODE m) = s.fd (R.PHY_CTL_MODE m)) := by
  have hv := tableView_phyCtl hm
  have hset {t : State} (lo width x : Nat) (h : s.LaneStep (· = R.PHY_CTL m) t) :
      s.LaneStep (· = R.PHY_CTL m) (t.setFd ⟨R.PHY_CTL m, lo, width⟩ x) :=
    h.setFd (x := ⟨R.PHY_CTL m, lo, width⟩) x rfl hv
  have hrg (t : State) (lo width x : Nat) : (t.setFd ⟨R.PHY_CTL m, lo, width⟩ x).rg (R.PHY_CTL m) = setWField lo width (t.rg (R.PHY_CTL m)) x :=
    t.rg_setFd_self ⟨R.PHY_CTL m, lo, width⟩ x hv
  have hbit (k : Nat) : wField k 1 v % 2 ^ 1 = wField k 1 v := Nat.mod_mod _ _
  have hmode : wField 0 2 v % 2 ^ 2 = wField 0 2 v := Nat.mod_mod _ _
  refine ⟨hset _ _ _ (hset _ _ _ (hset _ _ _ (.ite .refl (hset _ _ _ .refl)))), ?_, ?_, fun h => ?_⟩
  · simp (disch := omega) only [State.fd, State.ctlStored, R.PHY_CTL_TRAIN, R.PHY_CTL_HALF, hrg, wField_setWField_apart, wField_setWField, hbit]
  · simp (disch := omega) only [State.fd, State.ctlStored, R.PHY_CTL_HALF, hrg, wField_setWField, hbit]
  · rw [← h]
    simp (disch := omega) only [State.fd, State.ctlStored, R.PHY_CTL_TRAIN, R.PHY_CTL_HALF, R.PHY_CTL_PRECODE, R.PHY_CTL_MODE, hrg,
      wField_setWField_apart]
    split
    · exact h.symm
    · rw [hrg, wField_setWField _ _ _ _ (by decide), hmode]

/-- A write that leaves HALF as it is. -/
theorem State.phyCtlWrite_of_half (h : wField 4 1 v = s.fd (R.PHY_CTL_HALF m)) : s.phyCtlWrite m v =
    (if wField 3 1 v = 0 then (if s.fb (R.PHY_CTL_TRAIN m) then (s.ctlStored m v).stopTraining m else s.ctlStored m v)
     else (s.ctlStored m v).startTraining m).trainPorts m := by
  have hset : ¬(wField 4 1 v = 1 ∧ (!s.fb (R.PHY_CTL_HALF m)) = true) := by
    rintro ⟨h1, h2⟩
    simp [State.fb, ← h, h1] at h2
  have hcleared : ¬(wField 4 1 v = 0 ∧ s.fb (R.PHY_CTL_HALF m) = true) := by
    rintro ⟨h1, h2⟩
    simp [State.fb, ← h, h1] at h2
  unfold State.phyCtlWrite
  extract_lets train half s1 s2 s3 s4
  have h4 : s4 = s3 := (if_neg hset).trans (if_neg hcleared)
  rw [h4]
  rfl

/-- The command that sets or clears one bit of PHY_CTL. -/
theorem State.phyCtlBit_reaches (hw : s.reaches w (R.PHY_CTL m) = true) (bit : Nat) (b : Bool) : s.phyCtlBit w m bit b =
    (s.phyCtlWrite m (setWField bit 1 (s.rg (R.PHY_CTL m)) (if b then 1 else 0))).settle :=
  congrArg State.settle (s.regCommand_of_reaches w _ _ _ hw)

end

/-! ### Frames sent (R404, R409) -/

/-- Something has been sent on a link: registers, table memory, packets, the ledger and cores stay as they are. -/
structure State.Sent (s t : State) : Prop where
  regs : t.regs = s.regs
  tmem : t.tmem = s.tmem
  pkts : t.pkts = s.pkts
  ldg : t.ldg = s.ldg
  cores : t.cores = s.cores

namespace State.Sent

variable {s t u : State}

theorem refl : s.Sent s := ⟨rfl, rfl, rfl, rfl, rfl⟩

theorem trans (h : s.Sent t) (h' : t.Sent u) : s.Sent u :=
  ⟨h'.regs.trans h.regs, h'.tmem.trans h.tmem, h'.pkts.trans h.pkts, h'.ldg.trans h.ldg, h'.cores.trans h.cores⟩

theorem ite {p : Prop} [Decidable p] (h : s.Sent t) (h' : s.Sent u) : s.Sent (if p then t else u) := by
  split
  · exact h
  · exact h'

theorem setLink (h : s.Sent t) (n : Nat) (l : Link) : s.Sent (t.setLink n l) := h.trans ⟨rfl, rfl, rfl, rfl, rfl⟩

theorem setPhy (h : s.Sent t) (n : Nat) (x : Phy) : s.Sent (t.setPhy n x) := h.trans ⟨rfl, rfl, rfl, rfl, rfl⟩

theorem emit (h : s.Sent t) (o : Output) : s.Sent (t.emit o) := h.trans ⟨rfl, rfl, rfl, rfl, rfl⟩

theorem codeFrame (h : s.Sent t) (n : Nat) (bs : List Byte) : s.Sent (t.codeFrame n bs) := ite (h.setPhy _ _) ((h.setPhy _ _).emit _)

theorem txOut (h : s.Sent t) (n typ seq dvc len : Nat) (pay : List Byte) : s.Sent (t.txOut n typ seq dvc len pay) :=
  ((h.setLink _ _).emit _).codeFrame _ _

theorem sendSeq (h : s.Sent t) (n typ dvc len : Nat) (pay : List Byte) (pkt : Option Nat) : s.Sent (t.sendSeq n typ dvc len pay pkt) :=
  (h.setLink _ _).txOut _ _ _ _ _ _

theorem trySendParam (h : s.Sent t) (n : Nat) : s.Sent (t.trySendParam n) := ite h ((h.setLink _ _).sendSeq _ _ _ _ _ _)

theorem fd (h : s.Sent t) (x : Field) : t.fd x = s.fd x := State.fd_congr (State.rg_congr h.tmem h.regs _)

theorem fb (h : s.Sent t) (x : Field) : t.fb x = s.fb x := State.fb_congr (State.rg_congr h.tmem h.regs _)

end State.Sent

/-! ### Exit conditions and time limits (R379, R384, R391, R395) -/

/-- An operation on lanes that may write any register. -/
abbrev State.LaneStepAny (s t : State) : Prop := s.LaneStep (fun _ => True) t

theorem State.LaneStep.any {P : Nat → Prop} {s t : State} (h : s.LaneStep P t) : s.LaneStepAny t := h.mono fun _ _ => trivial

section
variable {s : State} {m : Nat} {o : TrainObs} (hm : m < 32)
include hm

theorem State.adaptLanes_step : s.LaneStepAny (s.adaptLanes m) :=
  .foldl .refl fun _ _ hi => (State.LaneStep.refl.setRg _ trivial (tableView_lnEq hm (List.mem_range.mp hi))).bumpFv

omit hm in
theorem State.tapRequests_step (l : List (Fin 8 × Byte)) : s.LaneStepAny (s.tapRequests m l) :=
  .foldl (.setPhy .refl _ _) fun _ _ _ => (State.LaneStep.refl.setPhy _ _).emit _

theorem State.trainAdvance_of_detect (h : s.phyState m = 1) : ∃ u, s.LaneStepAny u ∧ s.trainAdvance m o = u.enterState m 2 := by
  unfold State.trainAdvance
  rw [h]
  refine ⟨_, ?_, rfl⟩
  have h1 : s.LaneStepAny (s.waitUntil ((s.phy m).sincePs + 10 * usPs)) := .waitUntil .refl _
  have hclock : s.LaneStepAny ((s.waitUntil ((s.phy m).sincePs + 10 * usPs)).setFd (R.PHY_STS_SROLE m) 8) :=
    h1.setFd _ trivial (tableView_phySts hm.le)
  exact .ite (.ite (hclock.setPhy _ _) hclock) h1

theorem State.trainAdvance_of_align (h : s.phyState m = 2) :
    ∃ u, s.LaneStepAny u ∧ s.trainAdvance m o = u.enterState m (if s.compat m then 3 else 4) := by
  unfold State.trainAdvance
  rw [h]
  exact ⟨_, State.adaptLanes_step hm, rfl⟩

omit hm in
theorem State.trainAdvance_of_speed (h : s.phyState m = 3) : ∃ u, s.LaneStepAny u ∧ s.trainAdvance m o = u.enterState m 4 := by
  unfold State.trainAdvance
  rw [h]
  exact ⟨_, State.tapRequests_step _, rfl⟩

/-- CONFIG as both sides settled it: the lane-S role, precoding and the width offered. -/
def State.configured (s : State) (m : Nat) (o : TrainObs) : State :=
  let x16 := o.wcap16 && s.offersX16 m
  let s1 := (s.setFd (R.PHY_STS_SROLE m) (s.offeredRole m)).setFb (R.PHY_STS_PRECODE m) (o.pre && s.fb (R.PHY_CTL_PRECODE m))
  let s2 := if x16 then s1.setFd (R.PHY_STS_SROLE (m + 1)) (s1.offeredRole (m + 1)) else s1
  s2.setPhy m { s2.phy m with x16 := x16 }

/-- Both sides offer one lane-S role: it is in force. -/
theorem State.configured_fields (ho : o.srole.val = s.offeredRole m) : s.LaneStepAny (s.configured m o) ∧
    (s.configured m o).fd (R.PHY_STS_SROLE m) = o.srole := by
  have hv := tableView_phySts hm.le
  have hnext : tableView (R.PHY_STS (m + 1)) = none := tableView_phySts hm
  unfold State.configured
  extract_lets x16 s1 s2
  have h1 : s.LaneStepAny s1 :=
    (State.LaneStep.refl.setFd (x := R.PHY_STS_SROLE m) _ trivial hv).setFb (x := R.PHY_STS_PRECODE m) _ trivial hv
  have hrole1 : s1.fd (R.PHY_STS_SROLE m) = o.srole := by
    refine (State.fd_setFd_apart _ (R.PHY_STS_PRECODE m) (R.PHY_STS_SROLE m) _ hv (show 6 + 1 ≤ 64 by decide)
      (.inr (.inr (show 6 + 1 ≤ 8 by decide)))).trans ?_
    rw [State.fd_setFd _ (R.PHY_STS_SROLE m) _ hv (show 8 + 4 ≤ 64 by decide), ← ho]
    exact Nat.mod_eq_of_lt o.srole.isLt
  have hrole2 : s2.fd (R.PHY_STS_SROLE m) = s1.fd (R.PHY_STS_SROLE m) := by
    unfold s2
    split
    · exact s1.fd_setFd_apart (R.PHY_STS_SROLE (m + 1)) (R.PHY_STS_SROLE m) _ hnext (show 8 + 4 ≤ 64 by decide)
        (.inl (show R.PHY_STS m ≠ R.PHY_STS (m + 1) by unfold R.PHY_STS; omega))
    · rfl
  exact ⟨.setPhy (.ite (h1.setFd (x := R.PHY_STS_SROLE (m + 1)) _ trivial hnext) h1) _ _,
    (State.fd_congr (State.rg_congr rfl rfl _)).trans (hrole2.trans hrole1)⟩

omit hm in
theorem State.trainAdvance_of_agreed (h : s.phyState m = 4) (ho : o.srole.val = s.offeredRole m) :
    s.trainAdvance m o = (s.configured m o).enterState m 5 := by
  unfold State.trainAdvance
  rw [h]
  exact if_neg (not_not.mpr ho)

omit hm in
/-- The lane-S roles differ: CONFIG lasts its limit. -/
theorem State.trainAdvance_of_differing (h : s.phyState m = 4) (ho : o.srole.val ≠ s.offeredRole m) :
    s.trainAdvance m o = (s.configTimeout m).setFb (R.PHY_STS_SRMIS m) true := by
  unfold State.trainAdvance
  rw [h]
  exact if_pos ho

omit hm in
/-- READY passes to ACTIVE, where the link layer may send its PARAM. -/
theorem State.trainAdvance_of_ready (h : s.phyState m = 5) : ∃ u, s.LaneStepAny u ∧ (u.enterState m 6).Sent (s.trainAdvance m o) := by
  unfold State.trainAdvance
  rw [h]
  exact ⟨_, .ite (.setPhy .refl _ _) .refl, .ite ((State.Sent.refl.setLink _ _).trySendParam _) .refl⟩

/-- Advancing from DISABLED starts training where it may; an octet that is ACTIVE or in RECOVER has nothing to advance. -/
theorem State.trainAdvance_of_others (h : s.phyState m = 0 ∨ s.phyState m = 6 ∨ s.phyState m = 7) : s.LaneStepAny (s.trainAdvance m o) := by
  unfold State.trainAdvance
  rcases h with h | h | h <;> rw [h]
  · exact (State.startTraining_step hm).any
  · exact .refl
  · exact .refl

/-- What an advance leaves, whatever the training state. -/
theorem State.trainAdvance_frame : (s.trainAdvance m o).tmem = s.tmem ∧ (s.trainAdvance m o).pkts = s.pkts ∧ (s.trainAdvance m o).ldg = s.ldg ∧
    (s.trainAdvance m o).cores = s.cores := by
  have hentered {u : State} {st : Nat} (hu : s.LaneStepAny u) : s.LaneStepAny (u.enterState m st) := hu.trans (State.enterState_step hm).any
  have hframe {t : State} (ht : s.LaneStepAny t) : t.tmem = s.tmem ∧ t.pkts = s.pkts ∧ t.ldg = s.ldg ∧ t.cores = s.cores :=
    ⟨ht.tmem, ht.pkts, ht.ldg, ht.cores⟩
  have hlt : s.phyState m < 8 := s.fd_lt (R.PHY_STS_STATE m)
  obtain h | h | h | h | h | h :
      s.phyState m = 1 ∨ s.phyState m = 2 ∨ s.phyState m = 3 ∨ s.phyState m = 4 ∨ s.phyState m = 5 ∨
        (s.phyState m = 0 ∨ s.phyState m = 6 ∨ s.phyState m = 7) := by omega
  · obtain ⟨u, hu, ht⟩ := State.trainAdvance_of_detect (o := o) hm h
    exact hframe (ht ▸ hentered hu)
  · obtain ⟨u, hu, ht⟩ := State.trainAdvance_of_align (o := o) hm h
    exact hframe (ht ▸ hentered hu)
  · obtain ⟨u, hu, ht⟩ := State.trainAdvance_of_speed (o := o) h
    exact hframe (ht ▸ hentered hu)
  · by_cases ho : o.srole.val = s.offeredRole m
    · exact hframe (State.trainAdvance_of_agreed h ho ▸ hentered (State.configured_fields hm ho).1)
    · have hsrmis : s.LaneStepAny ((s.configTimeout m).setFb (R.PHY_STS_SRMIS m) true) :=
        (hentered (.waitUntil .refl _)).setFb _ trivial (tableView_phySts hm.le)
      exact hframe (State.trainAdvance_of_differing h ho ▸ hsrmis)
  · obtain ⟨u, hu, ht⟩ := State.trainAdvance_of_ready (o := o) h
    have hin := hentered (st := 6) hu
    exact ⟨ht.tmem.trans hin.tmem, ht.pkts.trans hin.pkts, ht.ldg.trans hin.ldg, ht.cores.trans hin.cores⟩
  · exact hframe (State.trainAdvance_of_others hm h)

/-- The octet that passed CONFIG with differing lane-S roles is in DETECT with SRMIS. -/
theorem State.configFailed_fields : ((s.configTimeout m).setFb (R.PHY_STS_SRMIS m) true).phyState m = 1 ∧
    ((s.configTimeout m).setFb (R.PHY_STS_SRMIS m) true).fb (R.PHY_STS_SRMIS m) = true := by
  have hv := tableView_phySts hm.le
  refine ⟨?_, State.fb_setFb _ (R.PHY_STS_SRMIS m) true hv (show 25 < 64 by decide) rfl⟩
  refine (State.fd_setFd_apart _ (R.PHY_STS_SRMIS m) (R.PHY_STS_STATE m) _ hv (show 25 + 1 ≤ 64 by decide)
    (.inr (.inl (show 0 + 3 ≤ 25 by decide)))).trans ?_
  exact State.enterState_phyState hm (by decide)

/-! ### Time limits (R379) -/

omit hm in
theorem State.trainTimeout_to_detect (h : s.phyState m = 2 ∨ s.phyState m = 3 ∨ s.phyState m = 4) :
    ∃ t, (s.phyState m = 4 → t = (s.phy m).sincePs + 500000000) ∧ s.trainTimeout m = (s.waitUntil t).enterState m 1 := by
  unfold State.trainTimeout
  rcases h with h | h | h <;> rw [h]
  · exact ⟨_, fun h => absurd h (by decide), rfl⟩
  · exact ⟨_, fun h => absurd h (by decide), rfl⟩
  · exact ⟨_, fun _ => rfl, rfl⟩

omit hm in
theorem State.trainTimeout_to_align (h : s.phyState m = 5) : ∃ t, s.trainTimeout m = (s.waitUntil t).enterState m 2 := by
  unfold State.trainTimeout
  rw [h]
  exact ⟨_, rfl⟩

theorem State.trainTimeout_step : s.LaneStepAny (s.trainTimeout m) := by
  have hentered (t st : Nat) : s.LaneStepAny ((s.waitUntil t).enterState m st) :=
    (State.LaneStep.waitUntil .refl t).trans (State.enterState_step hm).any
  unfold State.trainTimeout
  extract_lets since
  split
  · exact hentered _ _
  · exact hentered _ _
  · exact hentered _ _
  · exact hentered _ _
  · exact .refl

/-! ### Symbol lock lost and found again (R380, R423, R424) -/

omit hm in
theorem State.lockLoss_of_active {n : Nat} (h : s.phyState n = 6) :
    s.lockLoss n = ((s.addFd (R.PHY_STS_LOCKLOSS n) 1).cntDev (32 * n + 27) 1).enterState (s.headOctet n) 7 := if_neg (not_not.mpr h)

omit hm in
theorem State.lockLoss_of_others {n : Nat} (h : s.phyState n ≠ 6) : s.lockLoss n = s := if_pos h

/-- A loss of lock is counted in the octet that lost it. -/
theorem State.lockLoss_counted {n : Nat} (hn : n < 32) :
    (((s.addFd (R.PHY_STS_LOCKLOSS n) 1).cntDev (32 * n + 27) 1).enterState m 7).fd (R.PHY_STS_LOCKLOSS n) =
      (s.fd (R.PHY_STS_LOCKLOSS n) + 1) % 65536 := by
  have hcnt : (s.addFd (R.PHY_STS_LOCKLOSS n) 1).LaneStep (fun _ => False) ((s.addFd (R.PHY_STS_LOCKLOSS n) 1).cntDev (32 * n + 27) 1) :=
    .cntDev .refl _ _
  rw [State.enterState_fd (k := n) (x := R.PHY_STS_LOCKLOSS n) hm rfl hn.le (show 8 ≤ 32 by decide) (.inr (show 25 ≤ 32 by decide)),
    hcnt.fd id]
  exact s.fd_addFd _ _ (tableView_phySts hn.le) (show 32 + 16 ≤ 64 by decide)

theorem State.relock_step : s.LaneStepAny (s.relock m) := .ite (State.enterState_step hm).any .refl

/-- RECOVER that lasts LDTIME passes to ALIGN, and the link is declared down. -/
theorem State.ldtimeDown_phyState (h : s.phyState m = 7) : (s.ldtimeDown m).phyState m = 2 := by
  unfold State.ldtimeDown
  extract_lets s1
  rw [if_neg (not_not.mpr h)]
  split
  · exact State.declareDown_phyState hm (by decide)
  · exact State.enterState_phyState hm (by decide)

omit hm in
theorem State.ldtimeDown_of_link (h : s.phyState m = 7) (hl : s.linkOctet m = true) :
    s.ldtimeDown m = (s.waitUntil ((s.phy m).sincePs + s.ldtimePs m)).declareDown m 1 2 := by
  unfold State.ldtimeDown
  extract_lets s1
  exact (if_neg (not_not.mpr h)).trans (if_pos hl)

end

/-! ### The commands -/

section
variable {s : State} {w : Writer} {n : Octet}

theorem exec_phyTrainSet : exec (.phyTrainSet w n) s = .next (s.phyCtlBit w n 3 true) := by rfl
theorem exec_phyTrainClear : exec (.phyTrainClear w n) s = .next (s.phyCtlBit w n 3 false) := by rfl

theorem exec_phyTrainSet_reaches (hw : s.reaches w (R.PHY_CTL n) = true) :
    exec (.phyTrainSet w n) s = .next (s.phyCtlWrite n (setWField 3 1 (s.rg (R.PHY_CTL n)) 1)).settle := by
  rw [exec_phyTrainSet, State.phyCtlBit_reaches hw, if_pos rfl]

theorem exec_phyTrainClear_reaches (hw : s.reaches w (R.PHY_CTL n) = true) :
    exec (.phyTrainClear w n) s = .next (s.phyCtlWrite n (setWField 3 1 (s.rg (R.PHY_CTL n)) 0)).settle := by
  rw [exec_phyTrainClear, State.phyCtlBit_reaches hw, if_neg Bool.false_ne_true]

theorem exec_phyTrainAdvance {o : TrainObs} : exec (.phyTrainAdvance n o) s = .next (s.trainAdvance (s.headOctet n) o) := by rfl
theorem exec_phyTrainTimeout : exec (.phyTrainTimeout n) s = .next (s.trainTimeout (s.headOctet n)) := by rfl
theorem exec_symbolLockLoss : exec (.symbolLockLoss n) s = .next (s.lockLoss n) := by rfl
theorem exec_phyRecoverRelock : exec (.phyRecoverRelock n) s = .next (s.relock (s.headOctet n)) := by rfl
theorem exec_linkDownLdtime : exec (.linkDownLdtime n) s = .next (s.ldtimeDown (s.headOctet n)).settle := by rfl

/-- TRAIN written with its other bits as they are: TRAIN and training alone may change. -/
theorem State.phyCtlWrite_train (b : Nat) : s.phyCtlWrite n (setWField 3 1 (s.rg (R.PHY_CTL n)) b) =
    (if b % 2 = 0 then (if s.fb (R.PHY_CTL_TRAIN n) then (s.ctlStored n (setWField 3 1 (s.rg (R.PHY_CTL n)) b)).stopTraining n
      else s.ctlStored n (setWField 3 1 (s.rg (R.PHY_CTL n)) b))
     else (s.ctlStored n (setWField 3 1 (s.rg (R.PHY_CTL n)) b)).startTraining n).trainPorts n := by
  have hhalf : wField 4 1 (setWField 3 1 (s.rg (R.PHY_CTL n)) b) = s.fd (R.PHY_CTL_HALF n) :=
    wField_setWField_apart _ _ _ _ _ _ (by decide) (.inr (by decide))
  rw [State.phyCtlWrite_of_half hhalf, wField_setWField _ _ _ _ (by decide)]
  rfl

/-- PHY_CTL stored with its MODE moves no octet to another head. -/
theorem State.ctlStored_headOctet {m : Nat} (hm : m < 32) {v : Word} (hv : wField 0 2 v = s.fd (R.PHY_CTL_MODE m)) (k : Nat) :
    (s.ctlStored m v).headOctet k = s.headOctet k := by
  obtain ⟨hstep, -, -, hmode⟩ := State.ctlStored_fields (s := s) (v := v) hm
  refine State.headOctet_congr (fun j => ?_) (fun p => ?_) k
  · by_cases hj : j = m
    · rw [hj, hmode hv]
    · exact hstep.fd fun e => hj (by unfold R.PHY_CTL_MODE R.PHY_CTL at e; simpa using e)
  · exact hstep.fd fun e => by
      have h : R.PRT_CTX p = R.PHY_CTL m := e
      unfold R.PRT_CTX R.PHY_CTL at h
      omega

theorem phyCtl_ne_phySts {m k : Nat} : R.PHY_CTL m ≠ R.PHY_STS k := by unfold R.PHY_CTL R.PHY_STS; omega

theorem State.ctlStored_phyState {m : Nat} (hm : m < 32) (v : Word) (k : Nat) : (s.ctlStored m v).phyState k = s.phyState k :=
  (State.ctlStored_fields hm).1.fd phyCtl_ne_phySts.symm

end

/-- TRAIN set is written, and starts training where it may (R379). -/
theorem State.trainSet_fields (s : State) (n : Octet) : (s.phyCtlWrite n (setWField 3 1 (s.rg (R.PHY_CTL n)) 1)).fb (R.PHY_CTL_TRAIN n) = true ∧
    (s.phyCtlWrite n (setWField 3 1 (s.rg (R.PHY_CTL n)) 1)).tmem = s.tmem ∧
    (s.phyCtlWrite n (setWField 3 1 (s.rg (R.PHY_CTL n)) 1)).pkts = s.pkts := by
  rw [State.phyCtlWrite_train, if_neg (by decide)]
  obtain ⟨hstored, htrain, -, -⟩ := State.ctlStored_fields (s := s) (v := setWField 3 1 (s.rg (R.PHY_CTL n)) 1) n.isLt
  rw [wField_setWField _ _ _ _ (by decide)] at htrain
  generalize s.ctlStored n (setWField 3 1 (s.rg (R.PHY_CTL n)) 1) = t at hstored htrain ⊢
  have hstart := State.startTraining_step (s := t) n.isLt
  have hports := State.trainPorts_step (s := t.startTraining n) (m := n)
  have hctl : ¬trainReg (R.PHY_CTL n) := not_trainReg_of_octet (phyCtl_range n.isLt)
  have hstartCtl : ¬startReg n (R.PHY_CTL n) := by
    rintro (h | h)
    · exact hctl h
    · exact not_enterReg (phyCtl_range n.isLt) (by unfold R.PHY_CTL; omega) (by unfold R.PHY_CTL; omega) h
  refine ⟨?_, hports.tmem.trans (hstart.tmem.trans hstored.tmem), hports.pkts.trans (hstart.pkts.trans hstored.pkts)⟩
  rw [hports.fb hctl, hstart.fb hstartCtl, State.fb, htrain]
  rfl

/-- TRAIN cleared stops training: the octet that heads its link is left in DISABLED (R423). -/
theorem State.trainClear_fields (s : State) (n : Octet) :
    ((s.fb (R.PHY_CTL_TRAIN n) = true ∧ s.headOctet n = n.val ∨ s.phyState n = 0) →
      (s.phyCtlWrite n (setWField 3 1 (s.rg (R.PHY_CTL n)) 0)).phyState n = 0) ∧
    (s.pkts = [] → (s.phyCtlWrite n (setWField 3 1 (s.rg (R.PHY_CTL n)) 0)).fb (R.PHY_CTL_TRAIN n) = false) := by
  rw [State.phyCtlWrite_train, if_pos (by decide)]
  obtain ⟨hstored, htrain, -, -⟩ := State.ctlStored_fields (s := s) (v := setWField 3 1 (s.rg (R.PHY_CTL n)) 0) n.isLt
  have hhead := State.ctlStored_headOctet (s := s) n.isLt (v := setWField 3 1 (s.rg (R.PHY_CTL n)) 0)
    (wField_setWField_apart _ _ _ _ _ _ (by decide) (.inl (by decide))) n
  have hstate := State.ctlStored_phyState (s := s) n.isLt (setWField 3 1 (s.rg (R.PHY_CTL n)) 0) n
  rw [wField_setWField _ _ _ _ (by decide)] at htrain
  generalize s.ctlStored n (setWField 3 1 (s.rg (R.PHY_CTL n)) 0) = t at hstored htrain hhead hstate ⊢
  constructor
  · intro h
    refine (State.trainPorts_step.fd (not_trainReg_of_octet (phySts_range n.isLt.le))).trans ?_
    split
    · by_cases h0 : s.phyState n = 0
      · rw [State.stopTraining, if_pos (.inl (hstate.trans h0))]
        exact hstate.trans h0
      · exact State.stopTraining_phyState n.isLt (hhead.trans (h.resolve_right h0).2)
    · next hoff => exact hstate.trans (h.resolve_left fun h => hoff h.1)
  · intro hp
    rw [State.trainPorts_step.fb (not_trainReg_of_octet (phyCtl_range n.isLt))]
    refine State.fb_of_fd_eq_zero ?_
    split
    · exact (State.fd_congr (State.stopTraining_ctl n.isLt (hstored.pkts.trans hp))).trans htrain
    · exact htrain

/-- Settles O52, command by command and training state by training state. -/
theorem trainingRows : Obligations.TrainingRows := by
  refine ⟨fun s w n hw => ⟨?_, ?_⟩, fun s n h0 hmode htrain hpair hplaced => ?_, fun s n m o hm => ?_, fun s n m hm => ?_, fun s n m hm => ?_,
    fun s n m hm => ?_, fun s n m hm h7 => ?_⟩
  · exact ⟨_, exec_phyTrainSet_reaches hw, s.trainSet_fields n⟩
  · exact ⟨_, exec_phyTrainClear_reaches hw, s.trainClear_fields n⟩
  · exact State.startTraining_phyState n.isLt h0 hmode htrain hpair hplaced
  · have hlt : m < 32 := hm ▸ s.headOctet_lt n
    refine ⟨_, hm ▸ exec_phyTrainAdvance, fun h => ?_, fun h => ?_, fun h => ?_, fun h ho => ?_, fun h ho => ?_, fun h => ?_,
      State.trainAdvance_frame hlt⟩
    · obtain ⟨u, -, hu⟩ := State.trainAdvance_of_detect (o := o) hlt h
      exact hu ▸ State.enterState_phyState hlt (by decide)
    · obtain ⟨u, -, hu⟩ := State.trainAdvance_of_align (o := o) hlt h
      exact hu ▸ State.enterState_phyState hlt (by split <;> decide)
    · obtain ⟨u, -, hu⟩ := State.trainAdvance_of_speed (o := o) h
      exact hu ▸ State.enterState_phyState hlt (by decide)
    · rw [State.trainAdvance_of_agreed h ho]
      refine ⟨State.enterState_phyState hlt (by decide), ?_⟩
      rw [State.enterState_fd (k := m) (x := R.PHY_STS_SROLE m) hlt rfl hlt.le (show 8 ≤ 8 by decide) (.inl (show 8 + 4 ≤ 24 by decide))]
      exact (State.configured_fields hlt ho).2
    · exact State.trainAdvance_of_differing h ho ▸ State.configFailed_fields hlt
    · obtain ⟨u, -, hu⟩ := State.trainAdvance_of_ready (o := o) h
      exact ⟨(hu.fd _).trans (State.enterState_phyState hlt (by decide)), (hu.fb _).trans (State.enterState_lock hlt)⟩
  · have hlt : m < 32 := hm ▸ s.headOctet_lt n
    have hstep := State.trainTimeout_step (s := s) hlt
    refine ⟨_, hm ▸ exec_phyTrainTimeout, fun h => ?_, fun h => ?_, fun h => ?_, hstep.tmem, hstep.pkts, hstep.ldg, hstep.cores, hstep.links⟩
    · obtain ⟨t, -, ht⟩ := State.trainTimeout_to_detect h
      exact ht ▸ State.enterState_phyState hlt (by decide)
    · obtain ⟨t, ht⟩ := State.trainTimeout_to_align h
      exact ht ▸ State.enterState_phyState hlt (by decide)
    · obtain ⟨t, hlimit, ht⟩ := State.trainTimeout_to_detect (.inr (.inr h))
      rw [ht, ← hlimit h]
      exact (s.waitUntil_now t).2.trans (State.enterState_step hlt).now
  · have hlt : m < 32 := hm ▸ s.headOctet_lt n
    refine ⟨_, exec_symbolLockLoss, ?_⟩
    by_cases h6 : s.phyState n = 6
    · rw [State.lockLoss_of_active h6, ← hm]
      have hcount : s.LaneStepAny ((s.addFd (R.PHY_STS_LOCKLOSS n) 1).cntDev (32 * n + 27) 1) :=
        (State.LaneStep.refl.setFd (x := R.PHY_STS_LOCKLOSS n) _ trivial (tableView_phySts n.isLt.le)).cntDev _ _
      have hstep := hcount.trans (State.enterState_step (st := 7) hlt).any
      exact ⟨fun _ => ⟨State.enterState_phyState hlt (by decide), State.enterState_lock hlt, State.lockLoss_counted hlt n.isLt⟩,
        fun h => absurd h6 h, hstep.tmem, hstep.pkts, hstep.ldg, hstep.cores, hstep.links⟩
    · rw [State.lockLoss_of_others h6]
      exact ⟨fun h => absurd h h6, fun _ => rfl, rfl, rfl, rfl, rfl, rfl⟩
  · have hlt : m < 32 := hm ▸ s.headOctet_lt n
    have hstep := State.relock_step (s := s) hlt
    refine ⟨_, hm ▸ exec_phyRecoverRelock, fun h7 hnow => ?_, hstep.tmem, hstep.pkts, hstep.ldg, hstep.cores, hstep.links⟩
    rw [State.relock, if_pos ⟨h7, hnow⟩]
    exact ⟨State.enterState_phyState hlt (by decide), State.enterState_lock hlt⟩
  · have hlt : m < 32 := hm ▸ s.headOctet_lt n
    refine ⟨_, hm ▸ exec_linkDownLdtime, State.ldtimeDown_phyState hlt h7, fun hl hp => ?_⟩
    obtain ⟨hup, hcause, hlink, hnow, -⟩ :=
      State.declareDown_of_no_packets (s := s.waitUntil ((s.phy m).sincePs + s.ldtimePs m)) hlt hp (show 1 < 8 by decide) 2
    rw [State.ldtimeDown_of_link h7 hl]
    exact ⟨hup, hcause, hlink, (s.waitUntil_now _).2.trans hnow⟩

end Sys2Proof.Machine
end

section
/-! PROOFS. Half width, lane S and lane tests of a native octet: O53 (R388 to R390, R394, R396, R397, R399, R401; log entries 110 and 112). -/

namespace Sys2Proof.Machine

/-! ### Counts -/

theorem State.cntDev_out (s : State) (i n : Nat) : (s.cntDev i n).out = s.out := by
  obtain ⟨x, hx⟩ := s.cntDev_eq i n
  rw [hx]

theorem State.cntPort_out (s : State) (p k n : Nat) : (s.cntPort p k n).out = s.out := by
  obtain ⟨x, hx⟩ := s.cntPort_eq p k n
  rw [hx]

/-! ### Half width announced (R396, R397) -/

section
variable {s t : State} {n : Nat}

theorem State.phy_congr (h : t.phys = s.phys) (n : Nat) : t.phy n = s.phy n := congrArg (fun m => SMap.get Phy.reset m n) h

theorem State.groupAhead_congr (h : t.phys = s.phys) (hfv : t.fv = s.fv) (n : Nat) : t.groupAhead n = s.groupAhead n := by
  rw [State.groupAhead, State.groupAhead, State.phy_congr h, hfv]

/-- Half width is announced in an ACTIVE octet of full width: a substitution that runs ends (R390). -/
theorem State.announceHalf_announces (hn : n < 32) (h6 : s.phyState n = 6) (hhead : s.headOctet n = n) (hc : s.compat n = false)
    (hfull : (s.phy n).txHalf = false) (hnone : (s.phy n).txNext = none) : s.LaneStep (· = R.PHY_SUB n) (s.announceHalf n) ∧
    ((s.announceHalf n).phy n).txNext = some true ∧ .order n "HALF" (s.groupAhead n) ∈ (s.announceHalf n).out := by
  have hmay : ¬(s.phyState n ≠ 6 ∨ s.headOctet n ≠ n ∨ s.compat n ∨ ((s.phy n).txHalf ∧ (s.phy n).txNext ≠ some false) ∨
      (s.phy n).txNext = some true) := by
    simp [h6, hhead, hc, hfull, hnone]
  have hann : s.announceHalf n = (((s.subAbandon n).setPhy n { (s.subAbandon n).phy n with txNext := some true, txAt := s.groupAhead n }).emit
      (.order n "HALF" (s.groupAhead n))).bumpFv := if_neg hmay
  rw [hann]
  refine ⟨(((State.subAbandon_step hn).setPhy _ _).emit _).bumpFv, ?_, List.mem_append_right _ (List.mem_singleton_self _)⟩
  rw [State.phy_congr (State.bumpFv_phys _), State.phy_congr (State.emit_phys _ _), State.phy_setPhy_self]

/-- Return to full width begins with re-adaptation. -/
theorem State.beginFull_readapts (h6 : s.phyState n = 6) (hhead : s.headOctet n = n) (hc : s.compat n = false)
    (hcleared : s.fb (R.PHY_CTL_HALF n) = false) (hsag : s.sagStage < 4) (hhalf : (s.phy n).txHalf = true) :
    s.beginFull n = s.setPhy n { s.phy n with readapting := true } := by
  refine if_neg ?_
  simp [h6, hhead, hc, hcleared, hhalf, Nat.not_le.mpr hsag]

/-- A write of PHY_CTL in ACTIVE that leaves TRAIN at 1. -/
theorem State.phyCtlWrite_of_active {v : Word} (hn : n < 32) (h6 : s.phyState n = 6) (h3 : wField 3 1 v = 1) : s.phyCtlWrite n v =
    (if wField 4 1 v = 1 ∧ !s.fb (R.PHY_CTL_HALF n) then (s.ctlStored n v).announceHalf n
     else if wField 4 1 v = 0 ∧ s.fb (R.PHY_CTL_HALF n) then (s.ctlStored n v).beginFull n else s.ctlStored n v).trainPorts n := by
  have hstay : (s.ctlStored n v).startTraining n = s.ctlStored n v :=
    State.startTraining_of_trained (by rw [State.ctlStored_phyState hn, h6]; decide)
  unfold State.phyCtlWrite
  extract_lets train half s1 s2 s3 s4
  have hs3 : s3 = s2 := (if_neg (by rw [h3]; decide)).trans hstay
  unfold s4
  rw [hs3]
  rfl

/-- HALF written with its other bits as they are, in ACTIVE. -/
theorem State.halfStored_fields (hn : n < 32) (h6 : s.phyState n = 6) (hhead : s.headOctet n = n) (hc : s.compat n = false) (b : Nat) :
    (s.ctlStored n (setWField 4 1 (s.rg (R.PHY_CTL n)) b)).phyState n = 6 ∧
    (s.ctlStored n (setWField 4 1 (s.rg (R.PHY_CTL n)) b)).headOctet n = n ∧
    (s.ctlStored n (setWField 4 1 (s.rg (R.PHY_CTL n)) b)).compat n = false ∧
    (s.ctlStored n (setWField 4 1 (s.rg (R.PHY_CTL n)) b)).fd (R.PHY_CTL_HALF n) = b % 2 := by
  have hmode : wField 0 2 (setWField 4 1 (s.rg (R.PHY_CTL n)) b) = s.fd (R.PHY_CTL_MODE n) :=
    wField_setWField_apart _ _ _ _ _ _ (by decide) (.inl (by decide))
  obtain ⟨-, -, hhalf, hkept⟩ := State.ctlStored_fields (s := s) (v := setWField 4 1 (s.rg (R.PHY_CTL n)) b) hn
  refine ⟨(State.ctlStored_phyState hn _ n).trans h6, (State.ctlStored_headOctet hn hmode n).trans hhead, ?_,
    hhalf.trans (wField_setWField _ _ _ _ (by decide))⟩
  rw [State.compat, hkept hmode]
  exact hc

theorem State.halfWord_train (htrain : s.fb (R.PHY_CTL_TRAIN n) = true) (b : Nat) : wField 3 1 (setWField 4 1 (s.rg (R.PHY_CTL n)) b) = 1 := by
  have hne : s.fd (R.PHY_CTL_TRAIN n) ≠ 0 := of_decide_eq_true htrain
  have hlt : s.fd (R.PHY_CTL_TRAIN n) < 2 := s.fd_lt _
  rw [wField_setWField_apart _ _ _ _ _ _ (by decide) (.inl (by decide))]
  exact Nat.le_antisymm (Nat.lt_succ_iff.mp hlt) (Nat.one_le_iff_ne_zero.mpr hne)

/-- HALF raised. -/
theorem State.halfSet_fields (hn : n < 32) (h6 : s.phyState n = 6) (hhead : s.headOctet n = n) (hc : s.compat n = false)
    (htrain : s.fb (R.PHY_CTL_TRAIN n) = true) (hoff : s.fb (R.PHY_CTL_HALF n) = false) (hfull : (s.phy n).txHalf = false)
    (hnone : (s.phy n).txNext = none) (ht : t = s.phyCtlWrite n (setWField 4 1 (s.rg (R.PHY_CTL n)) 1)) :
    t.fb (R.PHY_CTL_HALF n) = true ∧ (t.phy n).txNext = some true ∧ .order n "HALF" (s.groupAhead n) ∈ t.out ∧ s.LaneStepAny t := by
  obtain ⟨hstate, hsame, hcompat, hset⟩ := State.halfStored_fields hn h6 hhead hc 1
  have hstored := State.ctlStored_still (s := s) (m := n) (v := setWField 4 1 (s.rg (R.PHY_CTL n)) 1)
  have hstep := (State.ctlStored_fields (s := s) (v := setWField 4 1 (s.rg (R.PHY_CTL n)) 1) hn).1
  have hgroup := State.groupAhead_congr hstored.phys State.ctlStored_fv n
  have hphy := State.phy_congr hstored.phys n
  rw [State.phyCtlWrite_of_active hn h6 (State.halfWord_train htrain 1), wField_setWField _ _ _ _ (by decide), hoff, if_pos ⟨rfl, rfl⟩] at ht
  generalize s.ctlStored n (setWField 4 1 (s.rg (R.PHY_CTL n)) 1) = u at *
  obtain ⟨hann, hnext, hout⟩ := State.announceHalf_announces hn hstate hsame hcompat (hphy ▸ hfull) (hphy ▸ hnone)
  have hports := State.trainPorts_step (s := u.announceHalf n) (m := n)
  rw [← ht] at hports
  refine ⟨?_, ?_, hports.reports.out _ (hgroup ▸ hout), hstep.any.trans (hann.any.trans hports.any)⟩
  · rw [hports.fb (not_trainReg_of_octet (phyCtl_range hn)), hann.fb (show R.PHY_CTL n ≠ R.PHY_SUB n by unfold R.PHY_CTL R.PHY_SUB; omega),
      State.fb, hset]
    rfl
  · rw [ht, State.phy_congr State.trainPorts_phys]
    exact hnext

/-- HALF cleared. -/
theorem State.halfClear_fields (hn : n < 32) (h6 : s.phyState n = 6) (hhead : s.headOctet n = n) (hc : s.compat n = false)
    (htrain : s.fb (R.PHY_CTL_TRAIN n) = true) (hon : s.fb (R.PHY_CTL_HALF n) = true) (hhalf : (s.phy n).txHalf = true)
    (hsag : s.sagStage < 4) (ht : t = s.phyCtlWrite n (setWField 4 1 (s.rg (R.PHY_CTL n)) 0)) :
    t.fb (R.PHY_CTL_HALF n) = false ∧ (t.phy n).readapting = true ∧ s.LaneStepAny t := by
  obtain ⟨hstate, hsame, hcompat, hset⟩ := State.halfStored_fields hn h6 hhead hc 0
  have hphy := State.phy_congr (State.ctlStored_still (s := s) (m := n) (v := setWField 4 1 (s.rg (R.PHY_CTL n)) 0)).phys n
  have hstep := (State.ctlStored_fields (s := s) (v := setWField 4 1 (s.rg (R.PHY_CTL n)) 0) hn).1
  have hstage : (s.ctlStored n (setWField 4 1 (s.rg (R.PHY_CTL n)) 0)).sagStage = s.sagStage :=
    hstep.fd (show R.SAG_STS ≠ R.PHY_CTL n by unfold R.SAG_STS R.PHY_CTL; omega)
  rw [State.phyCtlWrite_of_active hn h6 (State.halfWord_train htrain 0), wField_setWField _ _ _ _ (by decide), hon,
    if_neg (fun h => absurd h.1 (by decide)), if_pos ⟨rfl, rfl⟩] at ht
  generalize s.ctlStored n (setWField 4 1 (s.rg (R.PHY_CTL n)) 0) = u at *
  have hcleared : u.fb (R.PHY_CTL_HALF n) = false := State.fb_of_fd_eq_zero hset
  rw [State.beginFull_readapts hstate hsame hcompat hcleared (hstage ▸ hsag) (hphy ▸ hhalf)] at ht
  have hports := State.trainPorts_step (s := u.setPhy n { u.phy n with readapting := true }) (m := n)
  rw [← ht] at hports
  refine ⟨?_, ?_, hstep.any.trans ((State.LaneStep.setPhy .refl _ _).trans hports.any)⟩
  · rw [hports.fb (not_trainReg_of_octet (phyCtl_range hn))]
    exact hcleared
  · rw [ht, State.phy_congr State.trainPorts_phys, State.phy_setPhy_self]

/-! ### Width changed (R397; log entry 112) -/

/-- Every lane has re-adapted. -/
theorem State.announceFull_of_readapted (hr : (s.phy n).readapting = true) (hh : (s.phy n).txHalf = true) : s.announceFull n =
    ((s.setPhy n { s.phy n with readapting := false, txNext := some false, txAt := s.groupAhead n }).emit
      (.order n "FULL" (s.groupAhead n))).bumpFv := by
  refine if_neg ?_
  simp [hr, hh]

theorem State.announceFull_frame : (s.announceFull n).regs = s.regs ∧ (s.announceFull n).tmem = s.tmem ∧ (s.announceFull n).pkts = s.pkts ∧
    (s.announceFull n).ldg = s.ldg ∧ (s.announceFull n).cores = s.cores ∧ (s.announceFull n).links = s.links := by
  unfold State.announceFull
  extract_lets x g
  split
  · exact ⟨rfl, rfl, rfl, rfl, rfl, rfl⟩
  · simp

theorem State.pairState_eq (s : State) (n st : Nat) : s.pairState n st = s ∨ ∃ w, s.pairState n st = s.setRg (R.PHY_STS (n + 1)) w := by
  unfold State.pairState
  split
  · exact .inl rfl
  · exact .inr ⟨_, rfl⟩

theorem State.pairState_step (hn : n < 32) (st : Nat) : s.LaneStep (· = R.PHY_STS (n + 1)) (s.pairState n st) := by
  obtain h | ⟨w, h⟩ := s.pairState_eq n st
  · rw [h]
    exact .refl
  · rw [h]
    exact .setRg .refl w rfl (tableView_phySts hn)

theorem State.pairState_phys (st : Nat) : (s.pairState n st).phys = s.phys := by
  obtain h | ⟨w, h⟩ := s.pairState_eq n st
  · rw [h]
  · rw [h, State.setRg_phys]

/-- The announced group arrives in the transmit direction: WIDTH shows it. -/
theorem State.changeWidth_tx (hn : n < 32) (h6 : s.phyState n = 6) {b : Bool} (hb : (s.phy n).txNext = some b) :
    s.LaneStep (fun a => a = R.PHY_STS n ∨ a = R.PHY_STS (n + 1)) (s.changeWidth n true) ∧
    (s.changeWidth n true).phy n = { s.phy n with txHalf := b, txNext := none } ∧
    (s.changeWidth n true).fd (R.PHY_STS_WIDTH n) = (if (s.phy n).x16 then 3 else 2) - (if b then 1 else 0) := by
  have hv := tableView_phySts hn.le
  have hto : s.changeWidth n true = ((s.setPhy n { s.phy n with txHalf := b, txNext := none }).setFd (R.PHY_STS_WIDTH n)
      ((if (s.phy n).x16 then 3 else 2) - (if b then 1 else 0))).pairState n 6 := by
    unfold State.changeWidth
    rw [if_neg (not_not.mpr h6), if_pos rfl, hb]
    simp only [State.widthCode, State.phy_setPhy_self]
  have hle : (if (s.phy n).x16 then 3 else 2) - (if b then 1 else 0) < 2 ^ 2 := by split <;> split <;> decide
  rw [hto]
  generalize (if (s.phy n).x16 then 3 else 2) - (if b then 1 else 0) = k at hle ⊢
  refine ⟨((State.LaneStep.refl.setPhy _ _).setFd (x := R.PHY_STS_WIDTH n) k (.inl rfl) hv).trans
    ((State.pairState_step hn 6).mono fun _ => .inr), ?_, ?_⟩
  · rw [State.phy_congr (State.pairState_phys 6), State.phy_congr (State.setFd_phys _ _ _), State.phy_setPhy_self]
  · rw [(State.pairState_step hn 6).fd (show R.PHY_STS n ≠ R.PHY_STS (n + 1) by unfold R.PHY_STS; omega),
      State.fd_setFd _ (R.PHY_STS_WIDTH n) k hv (show 4 + 2 ≤ 64 by decide)]
    exact Nat.mod_eq_of_lt hle

theorem State.changeWidth_rx (h6 : s.phyState n = 6) {b : Bool} (hb : (s.phy n).rxNext = some b) :
    s.changeWidth n false = s.setPhy n { s.phy n with rxHalf := b, rxNext := none } := by
  unfold State.changeWidth
  rw [if_neg (not_not.mpr h6), if_neg Bool.false_ne_true, hb]

/-- An order at an octet that is no head changes nothing (log entry 110). -/
theorem State.widthOrder_of_not_head (h : s.headOctet n ≠ n) (half : Bool) : s.widthOrder n half = s := if_pos (.inr (.inl h))

theorem State.widthOrder_of_active (h6 : s.phyState n = 6) (hhead : s.headOctet n = n) (hc : s.compat n = false) (half : Bool) :
    s.widthOrder n half = (if half then s.subAbandon n else s).setPhy n { (if half then s.subAbandon n else s).phy n with rxNext := some half } := by
  refine if_neg ?_
  simp [h6, hhead, hc]

/-! ### Lane S (R388 to R390, R394) -/

/-- OCT[n]_PHY_SUB shows where a substitution stands. -/
def State.subShown (s : State) (n st : Nat) (b : Bool) : State := (s.setFd (R.PHY_SUB_STATE n) st).setFb (R.PHY_SUB_BUSY n) b

theorem State.subShown_fields (hn : n < 32) {st : Nat} (hst : st < 8) (b : Bool) : s.LaneStep (· = R.PHY_SUB n) (s.subShown n st b) ∧
    (s.subShown n st b).fd (R.PHY_SUB_STATE n) = st ∧ (s.subShown n st b).fb (R.PHY_SUB_BUSY n) = b ∧
    (s.subShown n st b).fd (R.PHY_SUB_TARGET n) = s.fd (R.PHY_SUB_TARGET n) ∧ (s.subShown n st b).out = s.out ∧
    (s.subShown n st b).phys = s.phys := by
  have hv := tableView_phySub hn
  have hstate (t : State) (y : Field) (hy : y.reg = R.PHY_SUB n) (hlo : y.lo + y.width ≤ 8) :
      (t.setFb (R.PHY_SUB_BUSY n) b).fd y = t.fd y :=
    t.fd_setFd_apart (R.PHY_SUB_BUSY n) y _ hv (show 8 + 1 ≤ 64 by decide) (.inr (.inl hlo))
  have hset : s.LaneStep (· = R.PHY_SUB n) (s.setFd (R.PHY_SUB_STATE n) st) := .setFd .refl _ rfl hv
  refine ⟨hset.setFb (x := R.PHY_SUB_BUSY n) b rfl hv, ?_, ?_, ?_, ?_, ?_⟩
  · rw [State.subShown, hstate _ _ rfl (show 5 + 3 ≤ 8 by decide), s.fd_setFd (R.PHY_SUB_STATE n) st hv (show 5 + 3 ≤ 64 by decide)]
    exact Nat.mod_eq_of_lt hst
  · exact State.fb_setFb _ (R.PHY_SUB_BUSY n) b hv (show 8 < 64 by decide) rfl
  · rw [State.subShown, hstate _ _ rfl (show 0 + 4 ≤ 8 by decide)]
    exact s.fd_setFd_apart (R.PHY_SUB_STATE n) (R.PHY_SUB_TARGET n) st hv (show 5 + 3 ≤ 64 by decide) (.inr (.inl (show 0 + 4 ≤ 5 by decide)))
  · rw [State.subShown, State.setFb_out, State.setFd_out]
  · rw [State.subShown, State.setFb_phys, State.setFd_phys]

/-- A substitution that runs ends without its switch. -/
theorem State.subAbandon_fields (hn : n < 32) (hb : s.fb (R.PHY_SUB_BUSY n) = true) : (s.subAbandon n).fd (R.PHY_SUB_STATE n) = 4 ∧
    (s.subAbandon n).fb (R.PHY_SUB_BUSY n) = false ∧ (s.subAbandon n).out = s.out := by
  obtain ⟨-, hstate, hbusy, -, hout, -⟩ := State.subShown_fields (s := s) hn (show 4 < 8 by decide) false
  let u := (s.subShown n 4 false).cntDev (32 * n + 29) 1
  have hcnt : (s.subShown n 4 false).LaneStep (fun _ => False) u := .cntDev .refl _ _
  have hend : s.subAbandon n = u.setPhy n { u.phy n with subOwn := false, subOwnDone := false, subPeerDone := false, subLane := 15 } := by
    unfold State.subAbandon
    exact if_neg (by simp [hb])
  have hset : (s.subShown n 4 false).LaneStep (fun _ => False) (s.subAbandon n) := hend ▸ hcnt.setPhy _ _
  refine ⟨(hset.fd id).trans hstate, (hset.fb id).trans hbusy, ?_⟩
  rw [hend]
  exact (State.cntDev_out _ _ _).trans hout

/-- Whether GO may start a substitution (R388). -/
def State.subMay (s : State) (n k : Nat) : Prop :=
  s.phyState n = 6 ∧ s.compat n = false ∧ (s.phy (s.headOctet n)).txHalf = false ∧ (s.phy (s.headOctet n)).rxHalf = false ∧
    s.fd (R.PHY_STS_SROLE n) = 15 ∧ k ≤ 8

theorem State.subTarget_fields (hn : n < 32) {k : Nat} (hk : k < 16) :
    s.LaneStep (· = R.PHY_SUB n) (s.setFd (R.PHY_SUB_TARGET n) k) ∧ (s.setFd (R.PHY_SUB_TARGET n) k).fd (R.PHY_SUB_TARGET n) = k := by
  have hv := tableView_phySub hn
  exact ⟨.setFd .refl _ rfl hv, (s.fd_setFd (R.PHY_SUB_TARGET n) k hv (show 0 + 4 ≤ 64 by decide)).trans (Nat.mod_eq_of_lt hk)⟩

/-- GO starts a substitution. -/
theorem State.subGo_starts (hn : n < 32) {k : Nat} (hk : k < 16) (hb : s.fb (R.PHY_SUB_BUSY n) = false) (hmay : s.subMay n k) :
    s.LaneStep (· = R.PHY_SUB n) (s.subGo n k) ∧ (s.subGo n k).fd (R.PHY_SUB_TARGET n) = k ∧ (s.subGo n k).fd (R.PHY_SUB_STATE n) = 1 ∧
    (s.subGo n k).fb (R.PHY_SUB_BUSY n) = true ∧ (s.subGo n k).out = s.out ++ [.order n "DUP" k] := by
  obtain ⟨htarget, hk⟩ := State.subTarget_fields (s := s) hn hk
  obtain ⟨hshown, hstate, hbusy, hkept, hout, -⟩ := State.subShown_fields (s := s.setFd (R.PHY_SUB_TARGET n) k) hn (show 1 < 8 by decide) true
  obtain ⟨h6, hc, htx, hrx, hrole, hk8⟩ := hmay
  have hgo : ∃ x, s.subGo n k = (((s.setFd (R.PHY_SUB_TARGET n) k).subShown n 1 true).setPhy n x).emit (.order n "DUP" k) := by
    unfold State.subGo
    extract_lets s1 x w s2
    rw [if_neg (by simp [hb]), if_pos (by simp [w, h6, hc, htx, hrx, hrole, hk8])]
    exact ⟨_, rfl⟩
  obtain ⟨x, hgo⟩ := hgo
  have hlater : ((s.setFd (R.PHY_SUB_TARGET n) k).subShown n 1 true).LaneStep (fun _ => False) (s.subGo n k) :=
    hgo ▸ (State.LaneStep.refl.setPhy _ _).emit _
  refine ⟨htarget.trans (hshown.trans (hlater.mono fun _ => False.elim)), (hlater.fd id).trans (hkept.trans hk), (hlater.fd id).trans hstate,
    (hlater.fb id).trans hbusy, ?_⟩
  rw [hgo]
  exact congrArg (· ++ _) (hout.trans (s.setFd_out _ _))

/-- GO is refused with STATE 4. -/
theorem State.subGo_refused (hn : n < 32) {k : Nat} (hk : k < 16) (hb : s.fb (R.PHY_SUB_BUSY n) = false) (hmay : ¬s.subMay n k) :
    s.LaneStep (· = R.PHY_SUB n) (s.subGo n k) ∧ (s.subGo n k).fd (R.PHY_SUB_TARGET n) = k ∧ (s.subGo n k).fd (R.PHY_SUB_STATE n) = 4 ∧
    (s.subGo n k).fb (R.PHY_SUB_BUSY n) = false ∧ (s.subGo n k).out = s.out := by
  have hv := tableView_phySub hn
  obtain ⟨htarget, hk⟩ := State.subTarget_fields (s := s) hn hk
  have hgo : s.subGo n k = (s.setFd (R.PHY_SUB_TARGET n) k).setFd (R.PHY_SUB_STATE n) 4 := by
    unfold State.subGo
    extract_lets s1 x w s2
    rw [if_neg (by simp [hb]), if_neg]
    rintro ⟨h6, hc, htx, hrx, hrole, hk8⟩
    exact hmay ⟨h6, by simpa using hc, by simpa using htx, by simpa using hrx, hrole, hk8⟩
  have hkept (t : State) (y : Field) (hy : y.lo + y.width ≤ 5 ∨ 8 ≤ y.lo) : (t.setFd (R.PHY_SUB_STATE n) 4).fd y = t.fd y :=
    t.fd_setFd_apart (R.PHY_SUB_STATE n) y _ hv (show 5 + 3 ≤ 64 by decide) (.inr hy)
  rw [hgo]
  refine ⟨htarget.setFd (x := R.PHY_SUB_STATE n) 4 rfl hv, (hkept _ _ (.inl (show 0 + 4 ≤ 5 by decide))).trans hk, ?_, ?_, ?_⟩
  · exact State.fd_setFd _ (R.PHY_SUB_STATE n) 4 hv (show 5 + 3 ≤ 64 by decide)
  · refine State.fb_of_fd_eq_zero ((hkept _ _ (.inr (show 8 ≤ 8 by decide))).trans ?_)
    exact (s.fd_setFd_apart (R.PHY_SUB_TARGET n) (R.PHY_SUB_BUSY n) k hv (show 0 + 4 ≤ 64 by decide)
      (.inr (.inr (show 0 + 4 ≤ 8 by decide)))).trans (State.fd_eq_zero_of_fb hb)
  · rw [State.setFd_out, State.setFd_out]

/-- A partner's DUP in an octet where a substitution may start is followed and answered (R389). -/
theorem State.dupOrder_follows (hn : n < 32) {k : Nat} (hb : s.fb (R.PHY_SUB_BUSY n) = false) (hmay : s.subMay n k) :
    s.LaneStep (· = R.PHY_SUB n) (s.dupOrder n k) ∧ (s.dupOrder n k).fd (R.PHY_SUB_STATE n) = 2 ∧
    (s.dupOrder n k).fb (R.PHY_SUB_BUSY n) = true ∧ (s.dupOrder n k).out = s.out ++ [.order n "DUP" k] ∧
    ((s.dupOrder n k).phy n).subLane = k := by
  obtain ⟨h6, hc, htx, hrx, hrole, hk8⟩ := hmay
  obtain ⟨hshown, hstate, hbusy, -, hout, -⟩ := State.subShown_fields (s := s) hn (show 2 < 8 by decide) true
  have hfollow : ∃ x : Phy, x.subLane = k ∧ s.dupOrder n k = ((s.subShown n 2 true).setPhy n x).emit (.order n "DUP" k) := by
    unfold State.dupOrder
    extract_lets x
    rw [if_neg (by simp [h6, hc, hk8]), if_neg (by simp [hb]), if_neg (by simp [hrole, htx, hrx])]
    exact ⟨_, rfl, rfl⟩
  obtain ⟨x, hx, hfollow⟩ := hfollow
  have hlater : (s.subShown n 2 true).LaneStep (fun _ => False) (s.dupOrder n k) := hfollow ▸ (State.LaneStep.refl.setPhy _ _).emit _
  refine ⟨hshown.trans (hlater.mono fun _ => False.elim), (hlater.fd id).trans hstate, (hlater.fb id).trans hbusy, ?_, ?_⟩
  · rw [hfollow]
    exact congrArg (· ++ _) hout
  · rw [hfollow]
    exact (congrArg Phy.subLane (State.phy_setPhy_self _ _ _)).trans hx

/-- With one direction switched the substitution goes on. -/
theorem State.subDone_of_one (h : ¬((s.phy n).subOwnDone = true ∧ (s.phy n).subPeerDone = true)) : s.subDone n = s := if_neg h

/-- With both directions switched the substitution is complete. -/
theorem State.subDone_of_both (hn : n < 32) (h : (s.phy n).subOwnDone = true ∧ (s.phy n).subPeerDone = true) :
    s.LaneStepAny (s.subDone n) ∧ (s.subDone n).fd (R.PHY_STS_SROLE n) = (s.phy n).subLane % 16 ∧ (s.subDone n).fd (R.PHY_SUB_STATE n) = 3 ∧
    (s.subDone n).fb (R.PHY_SUB_BUSY n) = false ∧ (s.subDone n).out = s.out := by
  have hv := tableView_phySts hn.le
  unfold State.subDone
  extract_lets x s0 s1
  rw [if_pos h]
  have h0 : s.LaneStepAny s0 := .ite (.wearRearm .refl _ _) (.wearRearm .refl _ _)
  have hout0 : s0.out = s.out := by
    unfold s0
    split <;> rfl
  have hrole := s0.fd_setFd (R.PHY_STS_SROLE n) x.subLane hv (show 8 + 4 ≤ 64 by decide)
  obtain ⟨hshown, hstate, hbusy, -, hout, -⟩ :=
    State.subShown_fields (s := s0.setFd (R.PHY_STS_SROLE n) x.subLane) hn (show 3 < 8 by decide) false
  have hlater (y : Phy) : s1.LaneStep (fun _ => False) (((s1.setPhy n y).cntPort (linkPort n) 71 1).cntDev (32 * n + 28) 1) :=
    ((State.LaneStep.refl.setPhy _ _).cntPort _ _ _).cntDev _ _
  refine ⟨((h0.setFd (x := R.PHY_STS_SROLE n) _ trivial hv).trans hshown.any).trans (hlater _).any, ?_, ((hlater _).fd id).trans hstate,
    ((hlater _).fb id).trans hbusy, ?_⟩
  · exact ((hlater _).fd id).trans ((hshown.fd (show R.PHY_STS n ≠ R.PHY_SUB n by unfold R.PHY_STS R.PHY_SUB; omega)).trans hrole)
  · rw [State.cntDev_out, State.cntPort_out]
    exact (hout.trans (s0.setFd_out _ _)).trans hout0

/-- An operation that has switched the direction of one side may complete the substitution. -/
theorem State.subDone_after (hn : n < 32) {u : State} {x : Phy} (hstep : s.LaneStepAny u) (hphy : u.phy n = x) :
    (¬(x.subOwnDone = true ∧ x.subPeerDone = true) → u.subDone n = u) ∧
    (x.subOwnDone = true ∧ x.subPeerDone = true → (u.subDone n).fd (R.PHY_STS_SROLE n) = x.subLane % 16 ∧
      (u.subDone n).fd (R.PHY_SUB_STATE n) = 3 ∧ (u.subDone n).fb (R.PHY_SUB_BUSY n) = false) ∧
    s.LaneStepAny (u.subDone n) ∧ (u.subDone n).out = u.out := by
  subst hphy
  refine ⟨State.subDone_of_one, ?_⟩
  by_cases h : (u.phy n).subOwnDone = true ∧ (u.phy n).subPeerDone = true
  · obtain ⟨hdone, hrole, hstate, hbusy, hout⟩ := State.subDone_of_both hn h
    exact ⟨fun _ => ⟨hrole, hstate, hbusy⟩, hstep.trans hdone, hout⟩
  · rw [State.subDone_of_one h]
    exact ⟨fun h' => absurd h' h, hstep, rfl⟩

theorem State.subAdapting_of (h6 : s.phyState n = 6) (hb : s.fb (R.PHY_SUB_BUSY n) = true) (hst : s.fd (R.PHY_SUB_STATE n) ≠ 1)
    (hown : (s.phy n).subOwnDone = false) : s.subAdapting n = true := by
  simp [State.subAdapting, h6, hb, hst, hown]

/-- The own receiver has converged and switched to lane S: SWITCHED is sent. -/
theorem State.subConverged_fields (hn : n < 32) (h : s.subAdapting n = true) :
    (s.subConverged n).out = s.out ++ [.order n "SWITCHED" (s.phy n).subLane] ∧
    ((s.phy n).subPeerDone = false → ((s.subConverged n).phy n).subOwnDone = true ∧ (s.subConverged n).regs = s.regs) ∧
    ((s.phy n).subPeerDone = true → (s.subConverged n).fd (R.PHY_STS_SROLE n) = (s.phy n).subLane % 16 ∧
      (s.subConverged n).fd (R.PHY_SUB_STATE n) = 3 ∧ (s.subConverged n).fb (R.PHY_SUB_BUSY n) = false) ∧ s.LaneStepAny (s.subConverged n) := by
  have hconv : s.subConverged n =
      ((s.setPhy n { s.phy n with subOwnDone := true }).emit (.order n "SWITCHED" (s.phy n).subLane)).subDone n := by
    refine if_neg ?_
    simp [h]
  rw [hconv]
  have hphy : ((s.setPhy n { s.phy n with subOwnDone := true }).emit (.order n "SWITCHED" (s.phy n).subLane)).phy n =
      { s.phy n with subOwnDone := true } := State.phy_setPhy_self _ _ _
  obtain ⟨hone, hboth, hstep, hout⟩ := State.subDone_after (s := s) hn (.emit (.setPhy .refl _ _) _) hphy
  refine ⟨hout, fun hpeer => ?_, fun hpeer => hboth ⟨rfl, hpeer⟩, hstep⟩
  rw [hone fun h => Bool.false_ne_true (hpeer.symm.trans h.2), hphy]
  exact ⟨rfl, rfl⟩

/-- The partner has switched. -/
theorem State.switchedOrder_fields (hn : n < 32) {k : Nat} (h6 : s.phyState n = 6) (hb : s.fb (R.PHY_SUB_BUSY n) = true)
    (hk : (s.phy n).subLane = k) : (s.switchedOrder n k).out = s.out ∧
    ((s.phy n).subOwnDone = false → ((s.switchedOrder n k).phy n).subPeerDone = true ∧ (s.switchedOrder n k).regs = s.regs) ∧
    ((s.phy n).subOwnDone = true → (s.switchedOrder n k).fd (R.PHY_STS_SROLE n) = k % 16 ∧ (s.switchedOrder n k).fd (R.PHY_SUB_STATE n) = 3 ∧
      (s.switchedOrder n k).fb (R.PHY_SUB_BUSY n) = false) ∧ s.LaneStepAny (s.switchedOrder n k) := by
  have hswitched : s.switchedOrder n k = (s.setPhy n { s.phy n with subPeerDone := true }).subDone n := by
    refine if_neg ?_
    simp [h6, hb, hk]
  rw [hswitched]
  have hphy : (s.setPhy n { s.phy n with subPeerDone := true }).phy n = { s.phy n with subPeerDone := true } := State.phy_setPhy_self _ _ _
  obtain ⟨hone, hboth, hstep, hout⟩ := State.subDone_after (s := s) hn (.setPhy .refl _ _) hphy
  refine ⟨hout, fun hown => ?_, fun hown => hk ▸ hboth ⟨hown, rfl⟩, hstep⟩
  rw [hone fun h => Bool.false_ne_true (hown.symm.trans h.1), hphy]
  exact ⟨rfl, rfl⟩

/-- No convergence within 1.5 ms: ABANDON is sent. -/
theorem State.subTimeout_fields (hn : n < 32) (h : s.subAdapting n = true) (hb : s.fb (R.PHY_SUB_BUSY n) = true) :
    (s.subTimeout n).out = s.out ++ [.order n "ABANDON" (s.phy n).subLane] ∧ (s.subTimeout n).fd (R.PHY_SUB_STATE n) = 4 ∧
    (s.subTimeout n).fb (R.PHY_SUB_BUSY n) = false ∧ (s.phy n).subStartPs + 1500000000 ≤ (s.subTimeout n).now ∧
    s.LaneStep (· = R.PHY_SUB n) (s.subTimeout n) := by
  let u := (s.waitUntil ((s.phy n).subStartPs + 1500000000)).emit (.order n "ABANDON" (s.phy n).subLane)
  have htimeout : s.subTimeout n = u.subAbandon n := by
    refine if_neg ?_
    simp [h]
  have hsent : s.LaneStep (· = R.PHY_SUB n) u := .emit (.waitUntil .refl _) _
  have hend := State.subAbandon_step (s := u) hn
  obtain ⟨hstate, hbusy, hout⟩ := State.subAbandon_fields (s := u) hn hb
  rw [htimeout]
  exact ⟨hout, hstate, hbusy, (s.waitUntil_now _).2.trans hend.now, hsent.trans hend⟩

/-! ### Lane tests (R399, R401) -/

/-- OCT[n]_LN[i]_TST as a write stores it. -/
def State.tstStored (s : State) (n i : Nat) (v : Word) : State :=
  let s1 := (((((s.setFd (R.LN_TST_GEN n i) (wField 0 3 v)).setFd (R.LN_TST_CHK n i) (wField 4 3 v)).setFd (R.LN_TST_ERRS n i) 0).setFb
    (R.LN_TST_LOCKED n i) false).setFd (R.LN_TST_INJ n i) (wField 8 2 v)).setFd (R.LN_TST_BLEN n i) (wField 12 4 v)
  if s.phyState n = 6 then s1 else s1.setFd (R.LN_TST_LOOP n i) (wField 16 2 v)

theorem tableView_lnTst {i : Nat} (hn : n < 32) (hi : i < 9) : tableView (R.LN_TST n i) = none :=
  tableView_of_lt (by unfold R.LN_TST; omega)

/-- A write of a lane's test register clears its error count and starts its checker again. -/
theorem State.tstStored_fields {i : Nat} (hn : n < 32) (hi : i < 9) (v : Word) : s.LaneStep (· = R.LN_TST n i) (s.tstStored n i v) ∧
    (s.tstStored n i v).fd (R.LN_TST_ERRS n i) = 0 ∧ (s.tstStored n i v).fd (R.LN_TST_LOCKED n i) = 0 ∧ (s.tstStored n i v).out = s.out := by
  have hv := tableView_lnTst hn hi
  have hset {t : State} (lo width x : Nat) (h : s.LaneStep (· = R.LN_TST n i) t) :
      s.LaneStep (· = R.LN_TST n i) (t.setFd ⟨R.LN_TST n i, lo, width⟩ x) := h.setFd (x := ⟨R.LN_TST n i, lo, width⟩) x rfl hv
  have hrg (t : State) (lo width x : Nat) :
      (t.setFd ⟨R.LN_TST n i, lo, width⟩ x).rg (R.LN_TST n i) = setWField lo width (t.rg (R.LN_TST n i)) x :=
    t.rg_setFd_self ⟨R.LN_TST n i, lo, width⟩ x hv
  unfold State.tstStored
  extract_lets s1
  have h1 : s.LaneStep (· = R.LN_TST n i) s1 :=
    hset _ _ _ (hset _ _ _ (hset _ _ _ (hset _ _ _ (hset _ _ _ (hset _ _ _ .refl)))))
  have hout : s1.out = s.out := by simp only [s1, State.setFd_out, State.setFb_out]
  have herrs : wField 32 32 (s1.rg (R.LN_TST n i)) = 0 := by
    simp (disch := omega) only [s1, State.setFb, R.LN_TST_BLEN, R.LN_TST_INJ, R.LN_TST_LOCKED, R.LN_TST_ERRS, hrg, wField_setWField_apart,
      wField_setWField, Nat.zero_mod]
  have hlocked : wField 7 1 (s1.rg (R.LN_TST n i)) = 0 := by
    simp (disch := omega) only [s1, State.setFb, R.LN_TST_BLEN, R.LN_TST_INJ, R.LN_TST_LOCKED, hrg, wField_setWField_apart, wField_setWField]
    rfl
  split
  · exact ⟨h1, herrs, hlocked, hout⟩
  · have hloop (y : Field) (hy : y.reg = R.LN_TST n i) (hlo : y.lo + y.width ≤ 16 ∨ 18 ≤ y.lo) :
        (s1.setFd (R.LN_TST_LOOP n i) (wField 16 2 v)).fd y = wField y.lo y.width (s1.rg (R.LN_TST n i)) :=
      (s1.fd_setFd_apart (R.LN_TST_LOOP n i) y _ hv (show 16 + 2 ≤ 64 by decide) (.inr hlo)).trans (by rw [State.fd, hy])
    exact ⟨hset _ _ _ h1, (hloop _ rfl (.inr (show 18 ≤ 32 by decide))).trans herrs,
      (hloop _ rfl (.inl (show 7 + 1 ≤ 16 by decide))).trans hlocked, (s1.setFd_out _ _).trans hout⟩

theorem State.lnTstWrite_injects {i : Nat} {v : Word} (hgo : wField 10 1 v = 1) (hinj : wField 8 2 v ≠ 0) :
    s.lnTstWrite n i v = (s.tstStored n i v).emit (.mgmt "inject" (16 * n + i) (wField 8 2 v)) := if_pos ⟨hgo, hinj⟩

end

/-! ### The commands -/

section
variable {s : State} {w : Writer} {n : Octet}

theorem exec_phyHalfSet : exec (.phyHalfSet w n) s = .next (s.phyCtlBit w n 4 true) := by rfl
theorem exec_phyHalfClear : exec (.phyHalfClear w n) s = .next (s.phyCtlBit w n 4 false) := by rfl

theorem exec_phyHalfSet_reaches (hw : s.reaches w (R.PHY_CTL n) = true) :
    exec (.phyHalfSet w n) s = .next (s.phyCtlWrite n (setWField 4 1 (s.rg (R.PHY_CTL n)) 1)).settle := by
  rw [exec_phyHalfSet, State.phyCtlBit_reaches hw, if_pos rfl]

theorem exec_phyHalfClear_reaches (hw : s.reaches w (R.PHY_CTL n) = true) :
    exec (.phyHalfClear w n) s = .next (s.phyCtlWrite n (setWField 4 1 (s.rg (R.PHY_CTL n)) 0)).settle := by
  rw [exec_phyHalfClear, State.phyCtlBit_reaches hw, if_neg Bool.false_ne_true]

theorem exec_phyFullReadapted : exec (.phyFullReadapted n) s = .next (s.announceFull n) := by rfl
theorem exec_widthChange {tx : Bool} : exec (.widthChange n tx) s = .next (s.changeWidth (s.headOctet n) tx) := by rfl
theorem exec_orderHalf {g : Nat} : exec (.orderHalf n g) s = .next (s.widthOrder n true) := by rfl
theorem exec_orderFull {g : Nat} : exec (.orderFull n g) s = .next (s.widthOrder n false) := by rfl
theorem exec_orderDup {k : Fin 16} : exec (.orderDup n k) s = .next (s.dupOrder n k) := by rfl
theorem exec_laneSConverged : exec (.laneSConverged n) s = .next (s.subConverged n) := by rfl
theorem exec_subConvergeTimeout : exec (.subConvergeTimeout n) s = .next (s.subTimeout n) := by rfl
theorem exec_orderSwitched {k : Fin 16} : exec (.orderSwitched n k) s = .next (s.switchedOrder n k) := by rfl
theorem exec_orderAbandon {k : Fin 16} : exec (.orderAbandon n k) s = .next (s.abandonOrder n k) := by rfl

theorem exec_phySubGo {k : Fin 16} : exec (.phySubGo w n k) s =
    .next (s.regCommand w (R.PHY_SUB n) (BitVec.ofNat 64 (k + 16)) fun s => s.phySubWrite n (BitVec.ofNat 64 (k + 16))) := by rfl

theorem exec_phySubGo_reaches {k : Fin 16} (hw : s.reaches w (R.PHY_SUB n) = true) : exec (.phySubGo w n k) s = .next (s.subGo n k) := by
  have hgo : wField 4 1 (BitVec.ofNat 64 (k.val + 16)) = 1 := by
    revert k
    decide
  have htarget : wField 0 4 (BitVec.ofNat 64 (k.val + 16)) = k.val := by
    revert k
    decide
  rw [exec_phySubGo, State.regCommand_of_reaches _ _ _ _ _ hw, State.phySubWrite, if_pos hgo, htarget]

theorem exec_phyInjgo {l : Fin 9} : exec (.phyInjgo w n l) s = .next (s.regCommand w (R.LN_TST n l) (setWField 10 1 (s.rg (R.LN_TST n l)) 1)
    fun t => t.lnTstWrite n l (setWField 10 1 (s.rg (R.LN_TST n l)) 1)) := by rfl

theorem exec_phyInjgo_reaches {l : Fin 9} (hw : s.reaches w (R.LN_TST n l) = true) (hinj : s.fd (R.LN_TST_INJ n l) ≠ 0) :
    exec (.phyInjgo w n l) s = .next ((s.tstStored n l (setWField 10 1 (s.rg (R.LN_TST n l)) 1)).emit
      (.mgmt "inject" (16 * n + l) (s.fd (R.LN_TST_INJ n l)))) := by
  have hkind : wField 8 2 (setWField 10 1 (s.rg (R.LN_TST n l)) 1) = s.fd (R.LN_TST_INJ n l) :=
    wField_setWField_apart _ _ _ _ _ _ (by decide) (.inl (by decide))
  rw [exec_phyInjgo, State.regCommand_of_reaches _ _ _ _ _ hw,
    State.lnTstWrite_injects (wField_setWField _ _ _ _ (by decide)) (by rwa [hkind]), hkind]

theorem exec_checkerSynchronised {l : Fin 9} : exec (.checkerSynchronised n l) s =
    .next (if s.fd (R.LN_TST_CHK n l) = 0 then s else s.setFb (R.LN_TST_LOCKED n l) true) := by rfl

end

/-- Settles O53, command by command. -/
theorem laneRows : Obligations.LaneRows := by
  refine ⟨fun s w n hw h6 hhead hc htrain => ⟨fun hoff hfull hnone => ?_, fun hon hhalf hsag => ?_⟩, fun s n => ?_,
    fun s n m b hm h6 => ⟨fun hb => ?_, fun hb => ?_⟩, fun s n g hhead => ?_, fun s n g h6 hhead hc => ⟨?_, ?_⟩, fun s w n k hw hb => ?_,
    fun s n k h6 hc hk hb hrole htx hrx => ?_, fun s n h6 hb hst hown => ⟨?_, ?_⟩, fun s n k h6 hb hk => ⟨?_, ?_⟩, fun s w n l hw hinj => ?_,
    fun s n l => ?_⟩
  · obtain ⟨hset, hnext, hout, hstep⟩ := State.halfSet_fields n.isLt h6 hhead hc htrain hoff hfull hnone rfl
    exact ⟨_, exec_phyHalfSet_reaches hw, hset, hnext, hout, hstep.tmem, hstep.pkts, hstep.ldg, hstep.cores⟩
  · obtain ⟨hcleared, hread, hstep⟩ := State.halfClear_fields n.isLt h6 hhead hc htrain hon hhalf hsag rfl
    exact ⟨_, exec_phyHalfClear_reaches hw, hcleared, hread, hstep.tmem, hstep.pkts, hstep.ldg, hstep.cores⟩
  · refine ⟨_, exec_phyFullReadapted, fun hr hh => ?_, State.announceFull_frame⟩
    rw [State.announceFull_of_readapted hr hh]
    exact ⟨congrArg Phy.txNext (State.phy_setPhy_self _ _ _), congrArg Phy.readapting (State.phy_setPhy_self _ _ _), rfl⟩
  · obtain ⟨hstep, hphy, hwidth⟩ := State.changeWidth_tx (hm ▸ s.headOctet_lt n) h6 hb
    refine ⟨_, hm ▸ exec_widthChange, by rw [hphy], by rw [hphy], hwidth, fun a h1 h2 => hstep.rg (not_or.mpr ⟨h1, h2⟩), hstep.tmem,
      hstep.pkts, hstep.ldg, hstep.cores, hstep.links⟩
  · refine ⟨_, hm ▸ exec_widthChange, ?_⟩
    rw [State.changeWidth_rx h6 hb, State.phy_setPhy_self]
    exact ⟨rfl, rfl, rfl, rfl, rfl, rfl, rfl, rfl⟩
  · exact ⟨exec_orderHalf.trans (by rw [State.widthOrder_of_not_head hhead]), exec_orderFull.trans (by rw [State.widthOrder_of_not_head hhead])⟩
  · refine ⟨_, exec_orderHalf, ?_⟩
    rw [State.widthOrder_of_active h6 hhead hc, if_pos rfl]
    have hstep := State.subAbandon_step (s := s) n.isLt
    have hset (x : Phy) : (s.subAbandon n).LaneStep (fun _ => False) ((s.subAbandon n).setPhy n x) := .setPhy .refl _ _
    refine ⟨congrArg Phy.rxNext (State.phy_setPhy_self _ _ _), fun hb => ?_, hstep.tmem, hstep.pkts, hstep.ldg, hstep.cores, hstep.links⟩
    obtain ⟨hstate, hbusy, -⟩ := State.subAbandon_fields n.isLt hb
    exact ⟨((hset _).fd id).trans hstate, ((hset _).fb id).trans hbusy⟩
  · refine ⟨_, exec_orderFull, ?_⟩
    rw [State.widthOrder_of_active h6 hhead hc, if_neg Bool.false_ne_true]
    exact ⟨congrArg Phy.rxNext (State.phy_setPhy_self _ _ _), rfl, rfl, rfl, rfl, rfl, rfl⟩
  · refine ⟨_, exec_phySubGo_reaches hw, ?_⟩
    split
    · next hmay =>
      obtain ⟨hstep, htarget, hstarted⟩ := State.subGo_starts n.isLt k.isLt hb hmay
      exact ⟨htarget, hstarted, fun a ha => hstep.rg ha, hstep.tmem, hstep.pkts, hstep.ldg, hstep.cores, hstep.links⟩
    · next hmay =>
      obtain ⟨hstep, htarget, hrefused⟩ := State.subGo_refused n.isLt k.isLt hb hmay
      exact ⟨htarget, hrefused, fun a ha => hstep.rg ha, hstep.tmem, hstep.pkts, hstep.ldg, hstep.cores, hstep.links⟩
  · obtain ⟨hstep, hstate, hbusy, hout, hlane⟩ := State.dupOrder_follows n.isLt hb ⟨h6, hc, htx, hrx, hrole, hk⟩
    exact ⟨_, exec_orderDup, hstate, hbusy, hout, hlane, fun a ha => hstep.rg ha, hstep.tmem, hstep.pkts, hstep.ldg, hstep.cores, hstep.links⟩
  · obtain ⟨hout, hone, hboth, hstep⟩ := State.subConverged_fields n.isLt (State.subAdapting_of h6 hb hst hown)
    exact ⟨_, exec_laneSConverged, hout, hone, hboth, hstep.tmem, hstep.pkts, hstep.ldg, hstep.cores, hstep.links⟩
  · obtain ⟨hout, hstate, hbusy, hnow, hstep⟩ := State.subTimeout_fields n.isLt (State.subAdapting_of h6 hb hst hown) hb
    exact ⟨_, exec_subConvergeTimeout, hout, hstate, hbusy, hnow, fun a ha => hstep.rg ha, hstep.tmem, hstep.pkts, hstep.ldg, hstep.cores,
      hstep.links⟩
  · obtain ⟨hout, hone, hboth, hstep⟩ := State.switchedOrder_fields n.isLt h6 hb hk
    rw [Nat.mod_eq_of_lt k.isLt] at hboth
    exact ⟨_, exec_orderSwitched, hone, hboth, hout, hstep.tmem, hstep.pkts, hstep.ldg, hstep.cores, hstep.links⟩
  · have hstep := State.subAbandon_step (s := s) n.isLt
    obtain ⟨hstate, hbusy, hout⟩ := State.subAbandon_fields n.isLt hb
    refine ⟨_, exec_orderAbandon.trans (by rw [State.abandonOrder, if_pos ⟨h6, hk⟩]), hstate, hbusy, hout, fun a ha => hstep.rg ha, hstep.tmem,
      hstep.pkts, hstep.ldg, hstep.cores, hstep.links⟩
  · obtain ⟨hstep, herrs, hlocked, hout⟩ := State.tstStored_fields (s := s) n.isLt l.isLt (setWField 10 1 (s.rg (R.LN_TST n l)) 1)
    have hsent := hstep.emit (.mgmt "inject" (16 * n + l) (s.fd (R.LN_TST_INJ n l)))
    have hlater : (s.tstStored n l (setWField 10 1 (s.rg (R.LN_TST n l)) 1)).LaneStep (fun _ => False) _ :=
      .emit .refl (.mgmt "inject" (16 * n + l) (s.fd (R.LN_TST_INJ n l)))
    exact ⟨_, exec_phyInjgo_reaches hw hinj, (hlater.fd id).trans herrs, (hlater.fb id).trans (State.fb_of_fd_eq_zero hlocked),
      congrArg (· ++ _) hout, fun a ha => hsent.rg ha, hsent.tmem, hsent.pkts, hsent.ldg, hsent.cores, hsent.links⟩
  · have hv := tableView_lnTst n.isLt l.isLt
    refine ⟨_, exec_checkerSynchronised, fun h => ?_, fun h => if_pos h, ?_⟩
    · rw [if_neg h]
      exact State.fb_setFb s (R.LN_TST_LOCKED n l) true hv (show 7 < 64 by decide) rfl
    · have hstep : s.LaneStep (· = R.LN_TST n l) (if s.fd (R.LN_TST_CHK n l) = 0 then s else s.setFb (R.LN_TST_LOCKED n l) true) :=
        .ite .refl (.setFb .refl _ rfl hv)
      exact ⟨fun a ha => hstep.rg ha, hstep.tmem, hstep.pkts, hstep.ldg, hstep.cores, hstep.links⟩

end Sys2Proof.Machine
end
